-- ==== Sys2Proof/Word.lean ====
section
/-! DEFINITION. The plain data every other file speaks of: bytes, little-endian reading and writing (R7),
LTIME, rounding, and the host's command frame. -/

namespace Sys2Proof

/-- One byte. -/
abbrev Byte := BitVec 8

/-- A span of bytes: a buffer, a frame, a table as the host sends it. -/
abbrev Bytes := List Byte

/-- LTIME (Table SC.5): 1/65,536 s since 2000-01-01T00:00:00 TAI. -/
abbrev LTime := Nat

/-- The number that bytes spell, first byte least significant (R7). -/
def leNat : Bytes → Nat
  | [] => 0
  | b :: bs => b.toNat + 256 * leNat bs

/-- The little-endian field of `n` bytes at offset `off` (R7); bytes beyond the end read as nothing. -/
def le (bs : Bytes) (off n : Nat) : Nat := leNat ((bs.drop off).take n)

/-- A little-endian field read as signed two's complement. -/
def leInt (bs : Bytes) (off n : Nat) : Int :=
  let v := le bs off n
  if v < 2 ^ (8 * n - 1) then (v : Int) else (v : Int) - (2 ^ (8 * n) : Nat)

/-- `n` bytes that spell `v`, least significant first (R7). -/
def putLe : Nat → Nat → Bytes
  | 0, _ => []
  | n + 1, v => BitVec.ofNat 8 v :: putLe n (v / 256)

/-- `n` bytes of the two's complement of `v`. -/
def putInt (n : Nat) (v : Int) : Bytes := putLe n (v % (2 ^ (8 * n) : Nat)).toNat

/-- `n` zero bytes. -/
def zeros (n : Nat) : Bytes := List.replicate n 0

/-- Bytes cut or zero-padded to exactly `n`. -/
def fitTo (n : Nat) (bs : Bytes) : Bytes := bs.take n ++ zeros (n - bs.length)

/-- Whether every byte is zero. -/
def allZero (bs : Bytes) : Bool := bs.all (· == 0)

/-- Whether the field of `n` bytes at `off` is zero: a reserved field as R8 requires. -/
def zeroAt (bs : Bytes) (off n : Nat) : Bool := allZero ((bs.drop off).take n)

/-- Bit `i` of a number. -/
def bitOf (v i : Nat) : Bool := v.testBit i

/-- Bits [hi:lo] of a number. -/
def bitsOf (v hi lo : Nat) : Nat := (v / 2 ^ lo) % 2 ^ (hi - lo + 1)

/-- 1 for true, 0 for false: a flag placed in a word. -/
def bit (b : Bool) : Nat := if b then 1 else 0

/-- round(x) = floor(x + 1/2) of the quotient a / b (R132, R143, R174, R282); b positive. -/
def roundDiv (a : Int) (b : Nat) : Int := (2 * a + b) / (2 * (b : Int))

/-- The quotient rounded up to a whole number (R179). -/
def ceilDiv (a b : Nat) : Nat := (a + b - 1) / b

/-- A value held to a closed range. -/
def clampInt (lo hi v : Int) : Int := if v < lo then lo else if hi < v then hi else v

/-- The largest signed value of `n` bits. -/
def maxSigned (n : Nat) : Int := (2 ^ (n - 1) : Nat) - 1

/-- The smallest signed value of `n` bits. -/
def minSigned (n : Nat) : Int := -((2 ^ (n - 1) : Nat) : Int)

/-- A sum that saturates at the signed 64-bit range (R149, R165). -/
def satAdd64 (a b : Int) : Int := clampInt (minSigned 64) (maxSigned 64) (a + b)

/-- Whether a value fits the signed 64-bit range (R165). -/
def fits64 (v : Int) : Bool := decide (minSigned 64 ≤ v) && decide (v ≤ maxSigned 64)

/-- A count that saturates at `m`. -/
def satInc (m v : Nat) : Nat := if v < m then v + 1 else m

/-- The first element of a list that passes a test, changed; the rest unchanged. -/
def modifyFirst {α : Type} (p : α → Bool) (f : α → α) : List α → List α
  | [] => []
  | x :: xs => if p x then f x :: xs else x :: modifyFirst p f xs

/-- Every element that passes a test, changed. -/
def modifyAll {α : Type} (p : α → Bool) (f : α → α) (l : List α) : List α :=
  l.map fun x => if p x then f x else x

/-- The value held under a key in a list of pairs. -/
def lookupNat {α : Type} (k : Nat) : List (Nat × α) → Option α
  | [] => none
  | (j, v) :: r => if j = k then some v else lookupNat k r

/-- A list of pairs with the value under one key set; keys rise strictly, so equal maps are equal lists. -/
def insertNat {α : Type} (k : Nat) (v : α) : List (Nat × α) → List (Nat × α)
  | [] => [(k, v)]
  | (j, w) :: r =>
    if k < j then (k, v) :: (j, w) :: r
    else if k = j then (k, v) :: r
    else (j, w) :: insertNat k v r

/-- A list of pairs with one key removed. -/
def eraseNat {α : Type} (k : Nat) (l : List (Nat × α)) : List (Nat × α) := l.filter fun p => p.1 != k

/-- The last `n` elements of a list. -/
def lastN {α : Type} (n : Nat) (l : List α) : List α := l.drop (l.length - n)

/-- The LTIME units of a whole number of seconds (Table SC.5). -/
def ltSec (n : Nat) : Nat := n * 65536

/-- A command frame of Table CI.8 as it stands in a ring entry or a remote message, with the input buffer that
BUF_ADDR named (BUF_OUT clear); `param` is the 32 bytes 0x20 to 0x3F. -/
structure Cmd where
  ring    : Nat
  opcode  : Nat
  fence   : Bool
  waitCommit : Bool
  bufOut  : Bool
  deadline : Nat
  tag     : Nat
  bufAddr : Nat
  bufLen  : Nat
  param   : Bytes
  buf     : Bytes
  deriving DecidableEq, Repr

/-- A PARAM field: offsets are those of the frame, 0x20 to 0x3F (R45). -/
def Cmd.p (c : Cmd) (off n : Nat) : Nat := le c.param (off - 0x20) n

/-- A signed PARAM field. -/
def Cmd.pInt (c : Cmd) (off n : Nat) : Int := leInt c.param (off - 0x20) n

/-- A PARAM field as bytes. -/
def Cmd.pBytes (c : Cmd) (off n : Nat) : Bytes := (c.param.drop (off - 0x20)).take n

/-- The two field networks (Table LG.10: 1 PLC, 2 RF). -/
inductive Net where
  | plc
  | rf
  deriving DecidableEq, Repr

/-- The code of a network in records and messages (Table LG.10, Table MS.4). -/
def Net.code : Net → Nat
  | .plc => 1
  | .rf => 2

end Sys2Proof
end

