-- ==== Sys2Proof/Machine/TypesTables.lean ====
section
/-! DEFINITION. The tables the host loads, as typed data: schedule table (Tables MS.1 to MS.3), rule table
(VA.1 to VA.4), tariff table (TB.1 to TB.6), calendar (TB.7, TB.8), friendly-window and credit-policy table
(TB.14, TB.18), group table (LT.1 to LT.5), and the history a chip keeps of each (R125, R146). -/

namespace Sys2Proof.Machine

/-- Class descriptor (Table MS.2). -/
structure ClassDesc where
  cls : Nat
  suite : Nat
  intervalMin : Nat
  channels : Nat
  plc : Bool
  rf : Bool
  sleepy : Bool
  stateless : Bool
  snapCap : Bool
  relay : Bool
  prepay : Bool
  profileObis : Bytes
  silentLimitS : Nat
  timeoutBaseMs : Nat
  timeoutHopMs : Nat
  deriving DecidableEq, Repr

/-- Schedule entry (Table MS.3). `what` is the bit set WHAT. -/
structure SchedEntry where
  cls : Nat
  what : Nat
  priority : Nat
  periodS : Nat
  anchor : LTime
  spreadS : Nat
  retries : Nat
  retryGapS : Nat
  deadlineS : Nat
  deriving DecidableEq, Repr

/-- Schedule table (R74). -/
structure SchedTable where
  classes : List ClassDesc
  entries : List SchedEntry
  deriving DecidableEq, Repr

/-- Rule entry (Table VA.2). -/
structure Rule where
  cls : Nat
  kind : Nat
  channels : Nat
  action : Nat
  scaler : Int
  n : Nat
  a : Int
  b : Int
  factor : Nat
  deriving DecidableEq, Repr

/-- Estimation descriptor (Table VA.3). -/
structure EstDesc where
  cls : Nat
  method1 : Nat
  method2 : Nat
  maxGap : Nat
  historyWeeks : Nat
  minHistory : Nat
  scaleToRegister : Bool
  deriving DecidableEq, Repr

/-- Rule table (R123). -/
structure RuleTable where
  effective : LTime
  rules : List Rule
  ests : List EstDesc
  deriving DecidableEq, Repr

/-- Season entry (Table TB.3). -/
structure Season where
  month : Nat
  day : Nat
  weekdayDp : Nat
  saturdayDp : Nat
  sundayDp : Nat
  specialDp : List Nat
  deriving DecidableEq, Repr

/-- Determinant descriptor (Table TB.4). -/
structure DetDesc where
  kind : Nat
  channel : Nat
  rate : Nat
  charged : Bool
  price : Nat
  deriving DecidableEq, Repr

/-- Schedule descriptor (Table TB.2). -/
structure TariffSched where
  schedule : Nat
  computeCharges : Bool
  demandMethod : Nat
  demandSubs : Nat
  demandMin : Nat
  standing : Nat
  seasons : List Season
  dets : List DetDesc
  deriving DecidableEq, Repr

/-- Day profile (Table TB.5): switches as (local minute, rate). -/
structure DayProfile where
  switches : List (Nat × Nat)
  deriving DecidableEq, Repr

/-- Tariff table (R144). -/
structure TariffTable where
  effective : LTime
  scheds : List TariffSched
  profiles : List DayProfile
  classMap : List (Nat × Nat)
  deriving DecidableEq, Repr

/-- Special day (Table TB.8). -/
structure SpecialDay where
  year : Nat
  month : Nat
  day : Nat
  typ : Nat
  deriving DecidableEq, Repr

/-- Calendar table (Table TB.7). -/
structure Calendar where
  effective : LTime
  billDay : Nat
  billMinute : Nat
  clockLimitS : Nat
  settleS : Nat
  specials : List SpecialDay
  ends : List LTime
  deriving DecidableEq, Repr

/-- Credit policy (Table TB.14). -/
structure Policy where
  cls : Nat
  reconnectMode : Nat
  graceS : Nat
  low : Int
  emergency : Int
  reconnectLevel : Int
  deriving DecidableEq, Repr

/-- Friendly window (Table TB.18). -/
structure FriendlyWindow where
  days : Nat
  types : Nat
  startMin : Nat
  endMin : Nat
  deriving DecidableEq, Repr

/-- Friendly-window and credit-policy table (R166). -/
structure FriendlyTable where
  policies : List Policy
  windows : List FriendlyWindow
  deriving DecidableEq, Repr

/-- Group descriptor (Table LT.2), first part: identity and reference. -/
structure GroupRef where
  group : Nat
  evaluator : Nat
  refKind : Nat
  balMin : Nat
  evalLoss : Bool
  periodicSnap : Bool
  branchLocal : Bool
  useTamper : Bool
  refEui : Bytes
  importCh : Nat
  exportCh : Nat
  voltageCh : Nat
  minCoverage : Nat
  deriving DecidableEq, Repr

/-- Group descriptor (Table LT.2), second part: the loss model and its limits. -/
structure GroupLimits where
  noloadW : Nat
  ratedW : Nat
  copperPpm : Nat
  techTolPct : Nat
  persist : Nat
  phaseShiftCdeg : Int
  refAccPpm : Nat
  memberAccPpm : Nat
  alignTolMs : Nat
  snapPeriodMin : Nat
  alertMwh : Int
  finalAfterS : Nat
  iTolMa : Nat
  bypassMa : Nat
  neutralMv : Nat
  vAccMv : Nat
  theftConfMin : Nat
  deriving DecidableEq, Repr

/-- Group descriptor (Table LT.2). -/
structure GroupDesc where
  ref : GroupRef
  lim : GroupLimits
  deriving DecidableEq, Repr

/-- Branch descriptor (Table LT.3). -/
structure BranchDesc where
  branch : Nat
  group : Nat
  phases : Nat
  zMohm : Nat
  seeds : List Bytes
  deriving DecidableEq, Repr

/-- Tamper-map entry (Table LT.4). -/
structure TamperEntry where
  cls : Nat
  event : Nat
  logObis : Bytes
  weight : Nat
  deriving DecidableEq, Repr

/-- Group table (R171); `members` pairs an EUI-64 with a group (Table LT.5). -/
structure GroupTable where
  effective : LTime
  amendment : Bool
  groups : List GroupDesc
  branches : List BranchDesc
  tampers : List TamperEntry
  members : List (Bytes × Nat)
  deriving DecidableEq, Repr

/-- One table as the ledger keeps it: the version R42 gives it, the bytes last loaded (for the digests of R114),
the tables in force with the instant each took effect (newest first), and the one pending, if any. -/
structure Loaded (α : Type) where
  version : Nat
  raw : Bytes
  inForce : List (LTime × Nat × α)
  pending : Option (LTime × Nat × α)
  deriving DecidableEq, Repr

/-- A table never loaded: version 0 (R42). -/
def Loaded.blank {α : Type} : Loaded α := ⟨0, [], [], none⟩

/-- The table in force now, if one has been loaded. -/
def Loaded.now {α : Type} (t : Loaded α) : Option α := t.inForce.head?.map (·.2.2)

/-- The version of the table in force now. -/
def Loaded.nowVersion {α : Type} (t : Loaded α) : Nat := ((t.inForce.head?.map (·.2.1))).getD 0

/-- The table in force at an instant (R146): the newest whose instant of effect is not later. -/
def Loaded.at {α : Type} (t : Loaded α) (x : LTime) : Option (Nat × α) :=
  (t.inForce.find? fun e => decide (e.1 ≤ x)).map (·.2)

end Sys2Proof.Machine
end

