-- ==== Sys2Proof/Machine/TypesLedger.lean ====
section
/-! DEFINITION. What the Damask ledger holds, as typed data: the meter record (Tables LG.10, LG.11 with VA.6 to
VA.8, TB.9, TB.13, TB.15, LT.9), series entries (LG.8), billing snapshots (LG.9), the journals (CI.11, LG.16,
LG.17), balance contributions and results (LT.7, LT.8), and the items of an append group (Table LG.6). -/

namespace Sys2Proof.Machine

/-- Network state of a record (Table MS.5; byte 0x018 of the record codes them 1, 2, 3). -/
inductive NetState where
  | admitted
  | joining
  | joined
  deriving DecidableEq, Repr

/-- Code of a network state in record byte 0x018. -/
def NetState.code : NetState → Nat
  | .admitted => 1
  | .joining => 2
  | .joined => 3

/-- State of a meter's disconnector (Table TB.16). -/
inductive RelayState where
  | none
  | unknown
  | connected
  | disconnectPending
  | disconnecting
  | disconnected
  | reconnecting
  | armed
  | fault
  deriving DecidableEq, Repr

/-- RELAY_STATE code (Table TB.16). -/
def RelayState.code : RelayState → Nat
  | .none => 0
  | .unknown => 1
  | .connected => 2
  | .disconnectPending => 3
  | .disconnecting => 4
  | .disconnected => 5
  | .reconnecting => 6
  | .armed => 7
  | .fault => 8

/-- State of a stored interval value (Table LG.14). -/
inductive ValueState where
  | empty
  | notValidated
  | valid
  | estimated
  | edited
  | rejected
  deriving DecidableEq, Repr

/-- Value state code (Table LG.14). -/
def ValueState.code : ValueState → Nat
  | .empty => 0
  | .notValidated => 1
  | .valid => 2
  | .estimated => 3
  | .edited => 4
  | .rejected => 5

/-- Event record (Table CI.11); `data` is the 16 DATA bytes. -/
structure EvRec where
  ltime : LTime
  code : Nat
  severity : Nat
  source : Nat
  mh : Option Nat
  data : Bytes
  deriving DecidableEq, Repr

/-- Series entry (Table LG.8). KIND: 0 primary, 1 fold, 2 split second part, 3 original. -/
structure SEntry where
  start : LTime
  value : Int
  channel : Nat
  fold : Nat
  kind : Nat
  state : ValueState
  durationS : Nat
  scaler : Int
  unit : Nat
  short : Bool
  powerFail : Bool
  clockAdj : Bool
  deriving DecidableEq, Repr

/-- Validator channel block (Table VA.8). -/
structure ChanBlock where
  lastValidStart : LTime
  lastValid : Int
  zeroRun : Nat
  flatRun : Nat
  flatValue : Int
  ringPos : Nat
  ringFill : Nat
  ring : List Int
  deriving DecidableEq, Repr

/-- Validator state of a record (Table VA.7). -/
structure ValArea where
  rulesVersion : Nat
  estimated : Nat
  rejected : Nat
  chans : List ChanBlock
  deriving DecidableEq, Repr

/-- Register entry (Table VA.6). -/
structure RegEntry where
  obis : Bytes
  scaler : Int
  unit : Nat
  value : Int
  at_ : LTime
  prevValue : Int
  prevAt : LTime
  lastDiff : Int
  rule : Nat
  failed : Bool
  skipped : Bool
  deriving DecidableEq, Repr

/-- State of a period block (Table TB.9). -/
inductive BlockState where
  | free
  | opened
  | settling
  deriving DecidableEq, Repr

/-- Code of a block state. -/
def BlockState.code : BlockState → Nat
  | .free => 0
  | .opened => 1
  | .settling => 2

/-- Period block (Table TB.9). `det` pairs VALUE and AT of the sixteen entries; `flags` is FLAGS [15:0]. -/
structure PeriodBlock where
  state : BlockState
  reason : Nat
  flags : Nat
  schedule : Nat
  periodStart : LTime
  periodEnd : LTime
  scheduleVersion : Nat
  provisional : Nat
  lateSlots : Nat
  outageS : Nat
  charges : Int
  standing : Int
  lastLabel : LTime
  det : List (Int × LTime)
  lateDet : List Int
  excluded : Nat
  deriving DecidableEq, Repr

/-- Account state (Table TB.13, R166). -/
inductive AccountState where
  | normal
  | low
  | emergency
  | exhausted
  deriving DecidableEq, Repr

/-- Code of an account state. -/
def AccountState.code : AccountState → Nat
  | .normal => 0
  | .low => 1
  | .emergency => 2
  | .exhausted => 3

/-- Credit account (Table TB.13). -/
structure Credit where
  balance : Int
  state : AccountState
  disconnectDue : Bool
  disconnectedForCredit : Bool
  operatorHold : Bool
  residue : Nat
  creditedTotal : Int
  chargedTotal : Int
  standingTotal : Int
  exhaustedAt : LTime
  lastCreditAt : LTime
  references : List Nat
  refPos : Nat
  lastStanding : LTime
  deriving DecidableEq, Repr

/-- Orders area (Table TB.15). -/
structure Orders where
  reason : Nat
  pending : Nat
  attempts : Nat
  controlState : Nat
  outputState : Nat
  dueAt : LTime
  sentAt : LTime
  readAt : LTime
  orderTag : Nat
  pushState : Nat
  pushAttempts : Nat
  pushVersion : Nat
  pushEffective : LTime
  deriving DecidableEq, Repr

/-- One phase of a snapshot (Table LT.9, SNAP). -/
structure SnapPhase where
  vMv : Nat
  vAngle : Int
  iAngle : Int
  iMa : Nat
  deriving DecidableEq, Repr

/-- Balance area of a record (Table LT.9). -/
structure BalArea where
  groupSince : LTime
  peakDay : List Nat
  peakPos : Nat
  votePos : Nat
  votesUsed : Nat
  everAccepted : Bool
  incompatible : Bool
  byCorrelation : Bool
  votes : List (Nat × Nat)
  snapId : Nat
  snapAt : LTime
  snap : List SnapPhase
  corr : List Int
  pairs : Nat
  secondBranch : Nat
  sBest : Nat
  sSecond : Nat
  tamperAt : LTime
  tamperWeight : Nat
  deriving DecidableEq, Repr

/-- Network part of a record: NET_STATE to JOIN_ID and the counters of R18 and R87. -/
structure RecNet where
  state : NetState
  network : Option Net
  short : Nat
  joinId : Nat
  invTx : Nat
  invRx : Nat
  frameCtr : Nat
  deriving DecidableEq, Repr

/-- Times and clock of a record (bytes 0x040 to 0x06A, with ADMITTED_AT). -/
structure RecClock where
  admittedAt : LTime
  lastContact : LTime
  lastSuccess : LTime
  lastIntervalEnd : LTime
  offset : Int
  driftPpb : Int
  offsetAt : LTime
  adjSeq : Nat
  fold : Nat
  deriving DecidableEq, Repr

/-- Placement and state bytes of a record (0x06C to 0x094). -/
structure RecPlace where
  group : Nat
  phase : Nat
  phaseConf : Nat
  branch : Nat
  branchConf : Nat
  tariffSchedule : Nat
  tariffVersionMeter : Nat
  tariffPushedAt : LTime
  relay : RelayState
  campaignState : Nat
  campaign : Nat
  fwVersion : Nat
  deriving DecidableEq, Repr

/-- Counts of a record (0x0A0 to 0x0B8). -/
structure RecCounts where
  exchangesOk : Nat
  exchangesFailed : Nat
  securityFails : Nat
  findings : Nat
  orderNumber : Nat
  lastChangeEpoch : Nat
  deriving DecidableEq, Repr

/-- Meter record (R108, Tables LG.10 and LG.11). The record index is the key it is held under; MH is formed from
index and `gen` (Table SC.5). -/
structure Rec where
  cls : Nat
  gen : Nat
  identity : Bytes
  segment : Nat
  subMh : Nat
  keySrc : Nat
  sleepy : Bool
  snapCap : Bool
  prepay : Bool
  hasRelay : Bool
  released : Bool
  seriesIndex : Nat
  wrappedKey : Bytes
  net : RecNet
  clock : RecClock
  place : RecPlace
  counts : RecCounts
  blockA : PeriodBlock
  blockB : PeriodBlock
  credit : Credit
  orders : Orders
  val : ValArea
  regs : List RegEntry
  bal : BalArea
  recent : List EvRec
  deriving DecidableEq, Repr

/-- Billing snapshot (Table LG.9) with the meter it belongs to. -/
structure BSnap where
  mh : Nat
  segment : Nat
  identity : Bytes
  periodStart : LTime
  periodEnd : LTime
  reason : Nat
  scheduleVersion : Nat
  blockA : PeriodBlock
  blockB : PeriodBlock
  credit : Credit
  deriving DecidableEq, Repr

/-- Clock-adjustment record (Table LG.16). -/
structure ClockAdj where
  at_ : LTime
  mh : Option Nat
  seq : Nat
  kind : Nat
  beyond : Bool
  foldBegun : Bool
  backward : Bool
  old : LTime
  new : LTime
  step : Int
  limitS : Nat
  fold : Nat
  deriving DecidableEq, Repr

/-- Audit record (Table LG.17). ORIGIN: 0 host, 1 remote session, 2 head distribution. `sub` marks one that a head holds from a
subordinate's epoch, which is of no ring of its own. -/
structure Audit where
  opcode : Nat
  ring : Nat
  origin : Nat
  item : Nat
  tag : Nat
  keyId : Bytes
  segment : Nat
  isTable : Bool
  digestValues : Bool
  result : Nat
  mh : Option Nat
  oldVersion : Nat
  newVersion : Nat
  frameDigest : Bytes
  old : Bytes
  new : Bytes
  sub : Bool
  deriving DecidableEq, Repr

/-- Balance contribution (Table LT.7) with its meter. -/
structure Contrib where
  idx : Nat
  group : Nat
  estimated : Bool
  unaligned : Bool
  short : Bool
  clockAdj : Bool
  afterFinal : Bool
  phase : Nat
  offset : Int
  label : LTime
  fold : Nat
  balStart : LTime
  amount : Int
  gross : Int
  deriving DecidableEq, Repr

/-- Flags of a balance result (Table LT.8, FLAGS). -/
structure ResultFlags where
  alerting : Bool
  lossAlert : Bool
  surplus : Bool
  reversed : Bool
  bypassed : Bool
  missingNeutral : Bool
  theft : Bool
  deriving DecidableEq, Repr

/-- Result record of a balance interval (Table LT.8). `phases` pairs E_REF_P and E_MEMBERS_P of L1, L2, L3. The last four are
the engine's own, in no byte of the record: whether LOSS_ALERT, and for which branches and meters THEFT_SUSPECT, was raised
here in the present run (R182, R191, R194), and whether the last evaluation was made (R181). -/
structure BalResult where
  group : Nat
  status : Nat
  flags : ResultFlags
  start : LTime
  durationS : Nat
  coverage : Nat
  run : Nat
  members : Nat
  missing : Nat
  unaligned : Nat
  eRef : Int
  eMembers : Int
  lTech : Int
  loss : Int
  band : Int
  estimated : Int
  unassigned : Nat
  late : Nat
  suspectBranch : Nat
  suspectConf : Nat
  phases : List (Int × Int)
  raised : Bool
  suspects : List Nat
  tampers : List Nat
  done : Bool
  deriving DecidableEq, Repr

/-- A membership of a group that has ended (R180): the record that held it, from when to when, whether the record was
released, and what the balance then still asks of it. -/
structure PastMember where
  idx : Nat
  gen : Nat
  cls : Nat
  group : Nat
  since : LTime
  until_ : LTime
  released : Bool
  peak : Nat
  phase : Nat
  deriving DecidableEq, Repr

end Sys2Proof.Machine
end

