-- ==== Sys2Proof/Machine/TypesCommand.lean ====
section
/-! DEFINITION. The command interface's own state: completions and events on their way out, the 16 rings with
their tag caches and cursors, the event ring, MSI-X, remote sessions (02_command_interface), and the 128 queues of
the fabric (03_queue_fabric). -/

namespace Sys2Proof.Machine

/-- Completion entry (Table CI.9); `data` is DATA 0x20 to 0x3F, `out` the bytes written to the buffer. -/
structure Completion where
  tag : Nat
  result : Nat
  opcode : Nat
  replayed : Bool
  committed : Bool
  uncommittedData : Bool
  ring : Nat
  crHead : Nat
  bufUsed : Nat
  epoch : Nat
  data : Bytes
  out : Bytes
  deriving DecidableEq, Repr

/-- Where a completion is owed: an entry of a host ring that is still enabled since the fetch, a remote session,
the upload channel of a head's forward, or nowhere any more (R35, R50, R52). -/
inductive Dest where
  | host
  | remote
  | upload
  | dropped
  deriving DecidableEq, Repr

/-- A command taken by the device and not yet completed (R38, R41). `frame` is the 64-byte frame for the identity
check; `copies` counts the completions owed (one for each joined copy). `started` is set once R41 let it start;
`waitCommit` holds the completion of a WAIT_COMMIT command until its epoch commits (R37); `takenAt` is the tick it was
taken, from which its DEADLINE counts. -/
structure InFlight where
  seq : Nat
  cmd : Cmd
  frame : Bytes
  dests : List Dest
  session : Option Nat
  started : Bool
  waitCommit : Option Completion
  forwardedTo : Option Nat
  takenAt : Nat
  deriving DecidableEq, Repr

/-- A cached completion (R38); `frame` is empty for one rebuilt from an audit record, whose digest then decides
identity (R39). -/
structure Cached where
  tag : Nat
  frame : Bytes
  digest : Bytes
  comp : Completion
  deriving DecidableEq, Repr

/-- A read cursor (R106). -/
structure Cursor where
  opcode : Nat
  param : Bytes
  epoch : Nat
  pos : Nat
  due : Nat
  deriving DecidableEq, Repr

/-- Command ring block (Table CI.7) with its completion ring. `reserved` counts completion entries reserved and not
yet posted, `cpProd` is the next completion index, `unread` the posted and unconsumed entries. -/
structure Ring where
  crBase : Nat
  cpBase : Nat
  enable : Bool
  remote : Bool
  coalCount : Nat
  vector : Nat
  head : Nat
  outstanding : Nat
  tail : Nat
  cpHead : Nat
  cpProd : Nat
  unread : Nat
  reserved : Nat
  phase : Bool
  coalPending : Nat
  coalDue : Option Nat
  cache : List Cached
  cursors : List Cursor
  deriving DecidableEq, Repr

/-- A ring as the reset values of Table CI.7 leave it. -/
def Ring.reset : Ring := ⟨0, 0, false, false, 0, 0, 0, 0, 0, 0, 0, 0, 0, true, 0, none, [], []⟩

/-- Event ring block (Table CI.10); `lostSep` is the separate lost count of R47. -/
structure EvRing where
  base : Nat
  enable : Bool
  vector : Nat
  minSeverity : Nat
  log2 : Nat
  prod : Nat
  cons : Nat
  shadow : Nat
  lost : Nat
  lostSep : Nat
  deriving DecidableEq, Repr

/-- The event ring as the reset values of Table CI.10 leave it. -/
def EvRing.reset : EvRing := ⟨0, false, 0, 3, 0, 0, 0, 0, 0, 0⟩

/-- BAR0 registers that are not in a ring block (Tables CI.2 to CI.6, MSI-X structures). `err` is MBX_ERR,
`msix` the table's 128 words, `pba` the pending bits. -/
structure Bar0 where
  dcsMinor : Nat
  attached : Bool
  err : BitVec 32
  coalTime : Nat
  rings : List Ring
  ev : EvRing
  msix : List Nat
  pba : Nat
  linkUp : Bool
  deriving DecidableEq, Repr

/-- A remote session (R48 to R50). -/
structure Remote where
  id : Nat
  ring : Nat
  keyId : Bytes
  lastSent : Nat
  lastTraffic : Nat
  deriving DecidableEq, Repr

/-- The subordinate's side of the upload channel (R90 to R94). `sent` and `acked` are the last epochs sent and acknowledged,
`refused` the epoch the head has no records for; `lastTraffic` is the tick of the last message either way, `lastHeard` of the last
one received. -/
structure UploadSub where
  connected : Bool
  headKeyId : Bytes
  headRing : Option Nat
  acked : Nat
  sent : Nat
  refused : Option Nat
  resendDue : Nat
  lastTraffic : Nat
  lastHeard : Nat
  announceDue : Nat
  deriving DecidableEq, Repr

/-- The head's side of one upload channel (R91 to R94). `gapTo` is the TO of the last EPOCH_GAP (R93). -/
structure UploadHead where
  segment : Nat
  keyId : Bytes
  opened : Bool
  joined : Bool
  lastTraffic : Nat
  lastHeard : Nat
  gapTo : Nat
  deriving DecidableEq, Repr

/-- One 256-bit word of a packet in the fabric: its bytes, its valid count and whether its cell is damaged. -/
structure CellWord where
  bytes : Bytes
  valid : Nat
  deriving DecidableEq, Repr

/-- One queue of the fabric (Tables QF.2, QF.3). `items` are the visible packets, the head one as it still
stands after partial pops; `popped` is the number of words already popped from it. `building` holds the bytes
pushed to the packet under production, `grown` the words it has; `abandoned` is set while the pushes of a packet lost to a
reset are discarded (R65). The pointers are kept in two copies. -/
structure Queue where
  baseCell : Nat
  enable : Bool
  itemLimit : Nat
  sizeCells : Nat
  producer : Nat
  consumer : Nat
  maxPktCells : Nat
  items : List (List CellWord)
  popped : Nat
  building : Option Bytes
  abandoned : Bool
  creditCells : Nat
  creditItems : Nat
  wr : Nat
  wrCopy : Nat
  rd : Nat
  rdCopy : Nat
  mismatches : Nat
  poisoned : Nat
  oversize : Nat
  lastMismatch : Bool
  popTag : BitVec 32
  stalled : Bool
  deriving DecidableEq, Repr

/-- A queue at the reset values of Table QF.3. -/
def Queue.reset : Queue :=
  ⟨0, false, 0, 0, 0, 0, 0, [], 0, none, false, 0, 0, 0, 0, 0, 0, 0, 0, 0, false, 0, false⟩

end Sys2Proof.Machine
end

