-- ==== Sys2Proof/Machine/TypesMeters.lean ====
section
/-! DEFINITION. Run-time state of the meter population (04_meters_and_sessions): sessions, waiting slots, retries,
quarantine, joins in progress; of the balance engine (08_loss_and_theft); and of the feeder metrology, pulse inputs
and own relays (09_feeder_metrology_and_relays). -/

namespace Sys2Proof.Machine

/-- Session state (Table MS.6). -/
inductive SessionState where
  | pending
  | associating
  | requesting
  | decrypting
  | processing
  | appended
  | failed
  deriving DecidableEq, Repr

/-- A relay order a session carries (Tables TB.15, TB.17): PENDING 1 disconnect, 2 reconnect arm, 3 reconnect close. -/
inductive OrderKind where
  | disconnect
  | reconnectArm
  | reconnectClose
  deriving DecidableEq, Repr

/-- What a session is for. `collect` carries WHAT and FROM (0: from the last stored interval). -/
inductive Purpose where
  | collect (what : Nat) (from_ : LTime)
  | dlms (service : Nat) (obis : Bytes) (attr classId : Nat) (data : Bytes)
  | push
  | relay (order : OrderKind)
  | campaign (op : Nat)
  deriving DecidableEq, Repr

/-- Series value received in a response: the interval's label as the meter's local clock wrote it (counted like LTIME
from 2000-01-01T00:00:00 local), its DLMS deviation where specified (minutes to add to local time to get UTC) and
whether its clock status marks daylight saving active (R269), channel, value and marks, with the meter's status byte
(Table VA.4, rule STATUS). -/
structure RxValue where
  label : LTime
  deviation : Option Int
  dst : Bool
  channel : Nat
  value : Int
  durationS : Nat
  scaler : Int
  unit : Nat
  status : Option Nat
  short : Bool
  powerFail : Bool
  clockAdj : Bool
  split : Bool
  deriving DecidableEq, Repr

/-- Register reading received: OBIS, scaler, unit, value and the meter time of the reading. -/
structure RxReg where
  obis : Bytes
  scaler : Int
  unit : Nat
  value : Int
  at_ : LTime
  deriving DecidableEq, Repr

/-- A meter event read from a log or pushed: log object, code, meter time. -/
structure RxEvent where
  logObis : Bytes
  code : Nat
  at_ : LTime
  deriving DecidableEq, Repr

/-- A clock step the meter reports, or the chip's own clock order (R157): before, after, who set it. -/
structure RxStep where
  old : LTime
  new : LTime
  byChip : Bool
  deriving DecidableEq, Repr

/-- Relay feedback of a meter: control_state and output_state (Table TB.16). -/
structure RxFeedback where
  control : Nat
  output : Bool
  deriving DecidableEq, Repr

/-- Meter firmware report (R418 to R420): image_block_size, which blocks are missing, image transfer status, the version the
meter runs and whether it is the image's, which no field of Table FW.6 names. -/
structure RxImage where
  blockSize : Nat
  missing : List Nat
  status : Nat
  fwVersion : Nat
  isImage : Bool
  deriving DecidableEq, Repr

/-- Plaintext of one response, as the world supplies it (the cipher result is uninterpreted). `clock` is the
meter's clock field, `hundredths` whether it specified hundredths, `clockValid` whether its status is valid;
`hopDelay` is the one-way delay d of R281. -/
structure Response where
  invCtr : Nat
  rxTime : LTime
  values : List RxValue
  regs : List RxReg
  events : List RxEvent
  steps : List RxStep
  outages : List (LTime × LTime)
  clock : Option LTime
  hundredths : Bool
  clockValid : Bool
  hopDelay : Nat
  feedback : Option RxFeedback
  dlmsResult : Nat
  dlmsData : Bytes
  pushName : Option (Nat × Nat)
  image : Option RxImage
  more : Bool
  deriving DecidableEq, Repr

/-- One session with a meter (R83 to R87). `idx` is the record index; times are in ticks of the model's clock
(`clk`), LTIME where the field says so; `firstAt` is that of the exchange's first frame. `associated` is set once the AARE is in; `attempts` counts the sends of the
present request, `readTries` those of a read-back (R89); `answered` is set once the present order was accepted. `cmd` names the command (ring, tag) it serves;
`seq` is the INPUT_SEQ of the frame that made the response whole (R350). -/
structure Session where
  idx : Nat
  state : SessionState
  associated : Bool
  purpose : Purpose
  scheduled : Bool
  priority : Nat
  entries : List Nat
  retriesLeft : Nat
  retryGapS : Nat
  nextSlot : LTime
  cmd : Option (Nat × Nat)
  deadline : Nat
  reqDeadline : Nat
  attempts : Nat
  readTries : Nat
  awaitingReadBack : Bool
  answered : Bool
  disagreed : Bool
  startedAt : Nat
  firstAt : LTime
  appendedValues : Nat
  rxTime : LTime
  seq : Nat
  response : Option Response
  result : Nat
  deriving DecidableEq, Repr

/-- A scheduled slot waiting for a session place or for the meter's running session (R83, R84). -/
structure PendingSlot where
  idx : Nat
  entries : List Nat
  what : Nat
  priority : Nat
  retriesLeft : Nat
  retryGapS : Nat
  deadlineS : Nat
  nextSlot : LTime
  deriving DecidableEq, Repr

/-- A failed scheduled exchange waiting for its retry (R76). -/
structure Retry where
  slot : PendingSlot
  due : Nat
  deriving DecidableEq, Repr

/-- A join in progress (R80): sends so far, tick of the latest send, whether it follows a move, and whether the
record was found JOINING at a start. -/
structure Join where
  idx : Nat
  sends : Nat
  lastSend : Nat
  moved : Bool
  fromStart : Bool
  deriving DecidableEq, Repr

/-- A short address in quarantine (R81): network, address, tick at which it leaves. -/
structure Quarantined where
  net : Net
  short : Nat
  until_ : Nat
  deriving DecidableEq, Repr

/-- Segments of one APDU under reassembly (R224). -/
structure Reassembly where
  idx : Nat
  apduId : Nat
  count : Nat
  held : List (Nat × Bytes)
  due : Nat
  deriving DecidableEq, Repr

/-- Run-time state of meters and sessions. `slots` holds the last slot instant taken by (meter, entry);
`silent` the meters whose METER_SILENT stands since the success (or admission) named; `lastFailEvent` the tick of
the last METER_SECURITY_FAIL by integrity failure (R18); `rejoinAt` the tick of the last REJOIN_ORDER (R82); `invTx` the own
invocation counters as they stand (R87); `contact` the LTIME of each meter's last authenticated frame; `coarse` the meters whose
last clock sample had unspecified hundredths (R282). `unansweredJoins` counts JOIN_REQUESTs of R477 and R486. -/
structure Meters where
  sessions : List Session
  waiting : List PendingSlot
  retries : List Retry
  slots : List ((Nat × Nat) × LTime)
  joins : List Join
  quarantine : List Quarantined
  unknownJoins : List (Bytes × LTime)
  unknownJoinCount : Nat
  unansweredJoins : Nat
  reassembly : List Reassembly
  silent : List (Nat × LTime)
  lastFailEvent : List (Nat × Nat)
  rejoinAt : List (Nat × Nat)
  droppedSlots : Nat
  badConfirms : Nat
  pushRepeats : Nat
  seenPushes : List (Nat × LTime × Nat)
  invTx : List (Nat × Nat)
  contact : List (Nat × LTime)
  coarse : List Nat
  deriving DecidableEq, Repr

/-- No run-time state of meters. -/
def Meters.blank : Meters := ⟨[], [], [], [], [], [], [], 0, 0, [], [], [], [], 0, 0, 0, [], [], [], []⟩

/-- A snapshot ordered and not yet done (R184): identity, AT, group, meters still to fetch by network, fetches
outstanding (meter, network, sends, tick due), meters latched, and the command that ordered it. -/
structure Snapshot where
  id : Nat
  at_ : LTime
  group : Nat
  selected : List (Nat × Net)
  toFetch : List (Nat × Net)
  outstanding : List (Nat × Net × Nat × Nat)
  latched : List Nat
  ordersSent : Nat
  cmd : Option (Nat × Nat)
  deriving DecidableEq, Repr

/-- Phasor of one metrology input (R203). -/
structure Phasor where
  mag : Nat
  angle : Int
  deriving DecidableEq, Repr

/-- The chip's own phasors at a snapshot (R203): twelve inputs, absent where a sample was missing. -/
structure OwnPhasors where
  snapshotId : Nat
  at_ : LTime
  inputs : List (Option Phasor)
  deriving DecidableEq, Repr

/-- Confidence values of the last tested snapshots of a branch, newest last, with I_u and V_s of its latest positive
snapshot (R190, R191). -/
structure BranchTrack where
  branch : Nat
  tested : List Nat
  positive : Option (Int × Int)
  deriving DecidableEq, Repr

/-- Run-time state of the balance engine. `snapVolts` keeps, per meter, the snapshots accepted with the voltage magnitude
(R189); `tried` the intervals whose first evaluation the ledger refused (R181); `days` the UTC days on which the daily rows
last ran: PEAK_DAY_CLEAR, DAILY_RECLAIM, PHASE_CORRELATION, BRANCH_INFERENCE. -/
structure BalanceRun where
  snapshots : List Snapshot
  branches : List BranchTrack
  snapVolts : List (Nat × List (Nat × Nat))
  tried : List (Nat × LTime)
  days : List Nat
  deriving DecidableEq, Repr

/-- One phase of a point over a minute (Table MT.3). -/
structure PhaseMinute where
  eImp : Nat
  eExp : Nat
  qNet : Int
  iRmsMa : Nat
  deriving DecidableEq, Repr

/-- Point block of a minute record (Table MT.3). -/
structure PointMinute where
  phases : List PhaseMinute
  iNRmsMa : Nat
  iResMs : Nat
  deriving DecidableEq, Repr

/-- Feeder minute record (Table MT.2); `flags` is FLAGS. -/
structure FeederMinute where
  flags : Nat
  missing : Nat
  start : LTime
  calVersion : Nat
  freqMhz : Nat
  vRms : List Nat
  vNe : Nat
  vThd : List Nat
  point0 : PointMinute
  point1 : PointMinute
  pulses : List Nat
  pulseLost : Nat
  deriving DecidableEq, Repr

/-- Boundary record (R202): point, instant, and the cumulative net energy in µWh at the sample offsets given, by
sample number from T − 10 s. -/
structure BoundaryRec where
  point : Nat
  at_ : LTime
  energies : List Int
  deriving DecidableEq, Repr

/-- Input entry of the calibration table (Table MT.8). -/
structure CalInput where
  kind : Nat
  pga : Nat
  invert : Bool
  ratio : Nat
  gainPpm : Int
  phaseUrad : Int
  offset : Int
  deriving DecidableEq, Repr

/-- Pulse entry of the calibration table (R211). -/
structure CalPulse where
  enabled : Bool
  falling : Bool
  filterUs : Nat
  scaler : Int
  unit : Nat
  weight : Nat
  deriving DecidableEq, Repr

/-- Relay entry of the calibration table (R211). -/
structure CalRelay where
  fitted : Bool
  pulseMs : Nat
  deriving DecidableEq, Repr

/-- Calibration table (R211). -/
structure CalTable where
  inputs : List CalInput
  pulses : List CalPulse
  relays : List CalRelay
  deriving DecidableEq, Repr

/-- Relay item 0x0601 or 0x0602 (R210). -/
structure RelayItem where
  state : Nat
  feedback : Nat
  fault : Nat
  coilMa : Nat
  at_ : LTime
  version : Nat
  deriving DecidableEq, Repr

/-- Where an own-relay sequence stands (Table MT.6). -/
inductive CoilPhase where
  | waiting
  | pulsing
  | settling
  | gap
  deriving DecidableEq, Repr

/-- An own-relay sequence (R207): the command's ring and tag, the relay, the target state, the phase, which pulse
it is, the tick its phase began, and the peak current. -/
structure CoilSeq where
  cmd : Nat × Nat
  relay : Nat
  target : Bool
  phase : CoilPhase
  pulse : Nat
  since : Nat
  peakMa : Nat
  deriving DecidableEq, Repr

/-- Auxiliary contact of a relay as the field die reads it. -/
structure Aux where
  closed : Bool
  stableSince : Nat
  known : Bool
  deriving DecidableEq, Repr

/-- Metrology, pulse and relay run-time state. `taken` counts the samples of the minute not marked missing, by input. `fieldCounts` are the field die's 32-bit counters, `lastCounts` the
last accepted ones, `totals` their 64-bit extensions, `minuteBase` the totals at the start of the minute;
`recent` the net energies in µWh of both points in the last 20 s, by sample number (R202); `lastPulseEnd` the tick of the
last pulse's end, on each relay. -/
structure Metrology where
  fieldCounts : List (BitVec 32)
  lastCounts : List (BitVec 32)
  totals : List (BitVec 64)
  minuteBase : List (BitVec 64)
  pulseLost : List Bool
  frozen : Bool
  frozenInMinute : Bool
  overload : List Nat
  taken : List Nat
  stepped : Bool
  clipping : Bool
  outage : Bool
  minuteStart : LTime
  acc0 : PointMinute
  acc1 : PointMinute
  recent : List (Nat × Int × Int)
  relays : List CoilSeq
  aux : List Aux
  lastPulseEnd : List Nat
  relayKnown : List Bool
  deriving DecidableEq, Repr

/-- A point with no energy. -/
def PointMinute.zero : PointMinute := ⟨List.replicate 3 ⟨0, 0, 0, 0⟩, 0, 0⟩

/-- Metrology as a reset leaves it. -/
def Metrology.blank : Metrology :=
  { fieldCounts := List.replicate 8 0, lastCounts := List.replicate 8 0, totals := List.replicate 8 0,
    minuteBase := List.replicate 8 0, pulseLost := List.replicate 8 false, frozen := false,
    frozenInMinute := false, overload := List.replicate 12 0, taken := List.replicate 12 0, stepped := false, clipping := false,
    outage := false, minuteStart := 0, acc0 := PointMinute.zero, acc1 := PointMinute.zero, recent := [],
    relays := [], aux := List.replicate 2 ⟨false, 0, false⟩, lastPulseEnd := [0, 0],
    relayKnown := [false, false] }

/-- Balance engine with nothing running. -/
def BalanceRun.blank : BalanceRun := ⟨[], [], [], [], [0, 0, 0, 0]⟩

end Sys2Proof.Machine
end

