-- ==== Sys2Proof/Machine/TypesField.lean ====
section
/-! DEFINITION. The two field networks (10_zither_plc, 11_lyre_rf) and the time subsystem (12_time): network frames,
neighbours, links, routes, frame counters, seen cache, duty budget, rendezvous, timebase, servo, zone rules. -/

namespace Sys2Proof.Machine

/-- Typed body of a network message (Tables PL.7, RF.4, MS.4, PL.10 to PL.13, TM.8). -/
inductive Msg where
  | dlmsSegment (apduId index count : Nat) (bytes : Bytes)
  | joinConfirm (joinId : Nat)
  | leave (cause : Nat)
  | imageBlock (campaign block : Nat) (bytes : Bytes)
  | joinRequest (identity : Bytes) (caps prevShort : Nat)
  | joinAccept (short : Nat) (net : Net) (bkeyIndex : Nat) (wrapped : Bytes) (joinId : Nat)
  | joinRefuse (cause : Nat)
  | rejoinOrder (net : Net)
  | lastGasp (meterTime : LTime) (cause : Nat)
  | alarm (meterTime : LTime) (register : Nat)
  | checkIn (meterTime : LTime) (battery : Nat)
  | installBeacon (caps : Nat) (rssi : Int)
  | dlmsPush (apdu : Bytes)
  | pushAck (storedTo : LTime) (pushCtr : Nat)
  | routeSet (maxHops windowMs : Nat) (up : List Nat)
  | routeReport (links : List (Nat × Nat × Nat × Nat))
  | routeError (failedNext orig ctr : Nat)
  | routeQuery (target : Nat)
  | timeBeacon (sec ns flags uncert : Nat) (taiUtc : Int) (seq : Nat)
  | linkProbe
  | wake (remainMs : Nat)
  | wakeAck (meterTime : LTime)
  | rendezvousOrder (target : Nat) (start : LTime) (halfMs listenMs : Nat)
  | snapshotOrder (id : Nat) (at_ : LTime)
  | snapshotFetch (id : Nat)
  | snapshotReply (id status uncertUs : Nat) (phasors : List (Option SnapPhase))
  deriving DecidableEq, Repr

/-- CLASS of a message (Tables PL.7, RF.4): 0 joined data, 1 stateless, 2 route control, 3 snapshot. -/
def Msg.cls : Msg → Nat
  | .dlmsSegment .. => 0
  | .joinConfirm .. => 0
  | .leave .. => 0
  | .imageBlock .. => 0
  | .joinRequest .. => 1
  | .joinAccept .. => 1
  | .joinRefuse .. => 1
  | .rejoinOrder .. => 1
  | .lastGasp .. => 1
  | .alarm .. => 1
  | .checkIn .. => 1
  | .installBeacon .. => 1
  | .dlmsPush .. => 1
  | .pushAck .. => 1
  | .routeSet .. => 2
  | .routeReport .. => 2
  | .routeError .. => 2
  | .routeQuery .. => 2
  | .timeBeacon .. => 2
  | .linkProbe => 2
  | .wake .. => 2
  | .wakeAck .. => 2
  | .rendezvousOrder .. => 2
  | .snapshotOrder .. => 3
  | .snapshotFetch .. => 3
  | .snapshotReply .. => 3

/-- TYPE of a message (Tables PL.7, RF.4). -/
def Msg.typ : Msg → Nat
  | .dlmsSegment .. => 0x01
  | .joinConfirm .. => 0x02
  | .leave .. => 0x03
  | .imageBlock .. => 0x04
  | .joinRequest .. => 0x10
  | .joinAccept .. => 0x11
  | .joinRefuse .. => 0x12
  | .rejoinOrder .. => 0x13
  | .lastGasp .. => 0x14
  | .alarm .. => 0x15
  | .checkIn .. => 0x16
  | .installBeacon .. => 0x17
  | .dlmsPush .. => 0x18
  | .pushAck .. => 0x19
  | .routeSet .. => 0x20
  | .routeReport .. => 0x21
  | .routeError .. => 0x22
  | .routeQuery .. => 0x23
  | .timeBeacon .. => 0x24
  | .linkProbe => 0x25
  | .wake .. => 0x26
  | .wakeAck .. => 0x27
  | .rendezvousOrder .. => 0x28
  | .snapshotOrder .. => 0x30
  | .snapshotFetch .. => 0x31
  | .snapshotReply .. => 0x32

/-- An address of the network header: short, or EUI-64 (LONG_ORIG, LONG_DEST). -/
inductive Addr where
  | short (a : Nat)
  | eui (e : Bytes)
  deriving DecidableEq, Repr

/-- A frame the chip received, as its receiver and cipher present it: MAC facts, the network header (Table PL.6),
whether its form is valid (R220) and its MIC checks (R18), and the body it decrypts to. `prevGen` marks a frame that authenticated under the
keys of PREV_GEN (R299), `newKey` one that authenticated under a slot's pending key (R303). -/
structure RxFrame where
  net : Net
  fcsOk : Bool
  unicast : Bool
  fromShort : Nat
  formOk : Bool
  broadcast : Bool
  keyIndex : Nat
  orig : Addr
  dest : Addr
  ctr : Nat
  route : List Nat
  proxy : Option Nat
  micOk : Bool
  prevGen : Bool
  newKey : Bool
  msg : Msg
  lqi : Nat
  attenDb : Nat
  rxTime : LTime
  hopDelay : Nat
  deriving DecidableEq, Repr

/-- A frame the chip has queued for a field network. `hopsLeft` is HOPS_LEFT where a rule states it (R236, R251, R283),
none where the spec states no value. -/
structure TxFrame where
  net : Net
  priority : Nat
  dest : Addr
  broadcast : Bool
  keyIndex : Nat
  hopsLeft : Option Nat
  route : List Nat
  proxy : Option Nat
  msg : Msg
  deriving DecidableEq, Repr

/-- A frame on air awaiting its acknowledgement (R218, R244): the frame with its counter, first hop and sends. -/
structure OnAir where
  frame : TxFrame
  ctr : Nat
  firstHop : Nat
  sends : Nat
  deriving DecidableEq, Repr

/-- Tone map state (Table PL.9). -/
inductive ToneState where
  | none
  | requested
  | valid
  deriving DecidableEq, Repr

/-- Neighbour entry (Table PL.8) with the request count and tick of R228 and the tick it was last heard. -/
structure Neighbour where
  short : Nat
  state : ToneState
  mod : Nat
  toneMap : Nat
  attenDb : Nat
  lqi : Nat
  lqiRef : Nat
  cap : Nat
  txFail : Nat
  limited : Nat
  tmAt : LTime
  requests : Nat
  requestAt : Nat
  probeDue : Option Nat
  holdoffUntil : Nat
  moreRobust : Bool
  lastHeard : Nat
  deriving DecidableEq, Repr

/-- A directed link (R232): from, to, and what the report said of it; `failedUntil` is the tick to which it is
marked failed (R235). A link that no report names stands, not `reported`, only to hold that mark. -/
structure Link where
  src : Nat
  dst : Nat
  attenDb : Nat
  lqi : Nat
  cap : Nat
  failedUntil : Nat
  reported : Bool
  deriving DecidableEq, Repr

/-- State of a route (R235). -/
inductive RouteState where
  | valid
  | repairing
  | unreachable
  deriving DecidableEq, Repr

/-- Route to a meter (R233 to R235): hops from the chip, the last being the meter. `setDue` and `setAt` keep the
60 s rule of ROUTE_SET (R234). -/
structure Route where
  short : Nat
  hops : List Nat
  state : RouteState
  repairDue : Nat
  setPending : Bool
  setAt : Option Nat
  urgent : Bool
  provisional : Bool
  deriving DecidableEq, Repr

/-- Seen-cache entry (R249): originator, counter, tick at which it leaves. -/
structure Seen where
  orig : Addr
  ctr : Nat
  until_ : Nat
  deriving DecidableEq, Repr

/-- MAC counters of one network (Table ST.4), with the counts of R284 (meters' beacons) and of the sources that
name no record (R18). -/
structure MacCounters where
  rxFrames : Nat
  rxFcs : Nat
  rxForm : Nat
  rxSecurity : Nat
  rxDuplicate : Nat
  rxFloodCopy : Nat
  rxOverflow : Nat
  txFrames : Nat
  txRetries : Nat
  txFailed : Nat
  txLimited : Nat
  txHeld : Nat
  neighbourRefused : Nat
  routeFailures : Nat
  rendezvousFailed : Nat
  beaconsDropped : Nat
  unknownSource : Nat
  deriving DecidableEq, Repr

/-- No counts. -/
def MacCounters.zero : MacCounters := ⟨0, 0, 0, 0, 0, 0, 0, 0, 0, 0, 0, 0, 0, 0, 0, 0, 0⟩

/-- A frame held by the duty budget (R245), and one airtime already spent: (tick, airtime in ticks). -/
structure Duty where
  spent : List (Nat × Nat)
  held : List (TxFrame × Nat)
  deriving DecidableEq, Repr

/-- Recent INSTALL_BEACON sender (R247, Table ST.3). -/
structure InstallSender where
  eui : Bytes
  caps : Nat
  rssiReported : Int
  rssiMeasured : Int
  ltime : LTime
  count : Nat
  deriving DecidableEq, Repr

/-- State of one network's modem and MAC. `queues` are transmit priorities 0 to 3; `nextCtr` the next counter,
`reservedEnd` the end in MRAM, `usableEnd` the end acknowledged by the partner (R223); `fetched` per-meter accepted counters:
highest and 64-bit window (R222, R248). `attenExtra` is the lowering of R230; `rx` holds the frames that passed R18 and wait
in their receive queues (R224, R481), each with its INPUT_SEQ, 0 before it has one. -/
structure Modem where
  enabled : Bool
  stopped : Bool
  rx : List (Nat × RxFrame)
  queues : List (List TxFrame)
  onAir : List OnAir
  neighbours : List Neighbour
  links : List Link
  routes : List Route
  proxyRoutes : List (Bytes × List Nat)
  highest : List (Bytes × Nat)
  window : List (Bytes × BitVec 64)
  nextCtr : Nat
  reservedEnd : Nat
  usableEnd : Nat
  heardChipCtr : Nat
  attenExtra : Nat
  lastLimited : Nat
  counters : MacCounters
  deriving DecidableEq, Repr

/-- Rendezvous of a sleepy meter (R256 to R258): the least ladder step of its next train, its failed trains at full coverage,
LOST, Q in ms and whether it was measured since the start; START of a train ordered from a meter parent; the tick its train began
and ends, its half-width; the LTIME from which the next START is sought; the tick until which the meter listens (R255). -/
structure Rendezvous where
  idx : Nat
  step : Nat
  fullFails : Nat
  lost : Bool
  qMs : Nat
  qKnown : Bool
  orderDue : Option Nat
  trainStart : Option Nat
  trainEnd : Nat
  halfMs : Nat
  window : Nat
  awakeUntil : Nat
  deriving DecidableEq, Repr

/-- A meter with nothing known of its rendezvous. -/
def Rendezvous.blank (idx : Nat) : Rendezvous := ⟨idx, 0, 0, false, 0, false, none, none, 0, 0, 0, 0⟩

/-- Sleep profile (Table RF.5). -/
structure SleepProfile where
  cls : Nat
  wakePeriodS : Nat
  listenMs : Nat
  guardMs : Nat
  awakeMs : Nat
  checkinS : Nat
  deriving DecidableEq, Repr

/-- Lyre's own state beside the shared network state. -/
structure Lyre where
  seen : List Seen
  duty : Duty
  install : List InstallSender
  rendezvous : List Rendezvous
  beaconDue : Nat
  deriving DecidableEq, Repr

/-- Servo state (Table TM.3). -/
inductive ServoState where
  | freeRun
  | acquiring
  | locked
  | holdover
  deriving DecidableEq, Repr

/-- Servo source (Table TM.3). -/
inductive TimeSource where
  | none
  | ptp
  | pps
  deriving DecidableEq, Repr

/-- PTP settings (Table TM.5). -/
structure PtpCfg where
  profile : Nat
  transport : Nat
  domain : Nat
  ports : Nat
  tcEnable : Bool
  announceTimeout : Nat
  lockNs : Nat
  stepNs : Nat
  adjNs : List Int
  ppsMode : Nat
  ppsCableNs : Nat
  holdoverS : Nat
  deriving DecidableEq, Repr

/-- The defaults of Table TM.5. TRANSPORT, DOMAIN, PORTS and the rest, for which the table gives no default, are
zero or their least value. DESIGN CHOICE: the log names them. -/
def PtpCfg.default : PtpCfg := ⟨0, 1, 0, 0, false, 3, 1000, 1000000, [0, 0, 0, 0], 0, 0, 86400⟩

/-- Entry of the local-time rules (R269). -/
structure ZoneEntry where
  from_ : LTime
  offsetMin : Int
  dst : Bool
  deriving DecidableEq, Repr

/-- The timebase registers of Table TM.1 and the anchor of R263. `c` is the counter, `t0` in 2^-16 ns. -/
structure Timebase where
  c : Nat
  c0 : Nat
  t0 : Int
  rate : Int
  countHi : Nat
  secLatch : Nat
  stepNs : BitVec 32
  stepSec : Nat
  outEn : Bool
  inEn : Bool
  inFalling : Bool
  widthMs : Nat
  ppsValid : Bool
  ppsNs : Nat
  ppsSec : Nat
  ppsOutHigh : Bool
  deriving DecidableEq, Repr

/-- The timebase at the reset values of Table TM.1. -/
def Timebase.reset : Timebase :=
  ⟨0, 0, 0, 0, 0, 0, 0, 0, false, false, false, 100, false, 0, 0, false⟩

/-- Servo, beacons and the UTC count's bookkeeping (R267 to R284). -/
structure TimeRun where
  servo : ServoState
  source : TimeSource
  unset : Bool
  goodRun : Nat
  badRun : Nat
  ptpGood : Nat
  grandmaster : Option Bytes
  gmPort : Nat
  announceAt : Nat
  announceIntervalTicks : Nat
  holdoverSince : Nat
  utcOffsetValid : Bool
  lastPps : Nat
  ppsDiscarded : Nat
  beaconSeq : Nat
  beacons : List (Net × LTime × Bool)
  lastStep : Option Nat
  leapAtDayEnd : Bool
  lastUtcCount : Int
  beaconLast : List (Net × LTime)
  beaconSeqAt : LTime
  deriving DecidableEq, Repr

/-- Time run-time state at a start. -/
def TimeRun.blank : TimeRun :=
  { servo := .freeRun, source := .none, unset := false, goodRun := 0, badRun := 0, ptpGood := 0, grandmaster := none, gmPort := 0,
    announceAt := 0, announceIntervalTicks := 0, holdoverSince := 0, utcOffsetValid := false, lastPps := 0,
    ppsDiscarded := 0, beaconSeq := 0, beacons := [], lastStep := none,
    leapAtDayEnd := false, lastUtcCount := 0, beaconLast := [],
    beaconSeqAt := 0 }

end Sys2Proof.Machine
end

