-- ==== Sys2Proof/Machine/TypesSystem.lean ====
section
/-! DEFINITION. Keys and cipher (13), flash store (14), twin (15), keeper and supply (16), start-up (17), firmware
(18), front panel (19) and self-test (20), as typed data. -/

namespace Sys2Proof.Machine

/-- Slot state (Table KC.5). -/
inductive SlotState where
  | empty
  | active
  | replacing
  | pending
  | verified
  | unavailable
  deriving DecidableEq, Repr

/-- Slot state code (Table KC.5). -/
def SlotState.code : SlotState → Nat
  | .empty => 0
  | .active => 1
  | .replacing => 2
  | .pending => 3
  | .verified => 4
  | .unavailable => 5

/-- One key half: its attribute word (Table KC.2), its value and its key check value. The value stands for what the
private key bus carries; no command returns it (R308). -/
structure KeyVal where
  attr : BitVec 32
  value : Bytes
  kcv : Nat
  deriving DecidableEq, Repr

/-- A key slot that is not EMPTY (R302, R303). -/
structure Slot where
  num : Nat
  state : SlotState
  key : KeyVal
  pendingKey : Option KeyVal
  deriving DecidableEq, Repr

/-- Life-cycle state (Table KC.8). -/
inductive LifeCycle where
  | blank
  | provisioned
  | deployed
  | returned
  | decommissioned
  deriving DecidableEq, Repr

/-- Life-cycle code (Table KC.8). -/
def LifeCycle.code : LifeCycle → Nat
  | .blank => 0
  | .provisioned => 1
  | .deployed => 2
  | .returned => 3
  | .decommissioned => 4

/-- An image-transfer or cipher job result as R309 to R311 return it. -/
structure JobResult where
  jobId : Nat
  result : Nat
  authFail : Bool
  keyPending : Bool
  poison : Bool
  engine : Nat
  bytes : Nat
  deriving DecidableEq, Repr

/-- Key store, cipher engines and life cycle. `persistent` are the slots kept in core-die MRAM (R304), `zkey` and
the PUF facts lie in keeper MRAM. `bkeySince` is the tick of the last broadcast-key change (R299). -/
structure Keys where
  slots : List Slot
  persistent : List Slot
  zkey : Option Bytes
  pufPresent : Bool
  lifecycle : LifeCycle
  lcCounter : Nat
  minRollback : Nat
  operatorAuthority : Bytes
  jobResults : List JobResult
  genSeen : List (Nat × Nat)
  bkeyChangedAt : Option Nat
  rejoined : List Nat
  deriving DecidableEq, Repr

/-- Key store of a BLANK device (R307, R407). -/
def Keys.blank : Keys := ⟨[], [], none, false, .blank, 0, 0, [], [], [], none, []⟩

/-- Store stage (Table FS.5). -/
inductive Stage where
  | normal
  | reclaiming
  | full
  | salvage
  | exhausted
  deriving DecidableEq, Repr

/-- Stage code (Table FS.5). -/
def Stage.code : Stage → Nat
  | .normal => 0
  | .reclaiming => 1
  | .full => 2
  | .salvage => 3
  | .exhausted => 4

/-- A NAND target in the store (R313, R333): its running failures to answer, and when blocks of it retired. -/
structure Target where
  channel : Nat
  enable : Nat
  active : Bool
  noAnswer : Nat
  retiredAt : List Nat
  deriving DecidableEq, Repr

/-- A block the store tracks: place, erase count, state of use, reads since and tick of its last erase; `failed` marks a block that
retires once its valid units have moved (R332). -/
structure Block where
  channel : Nat
  enable : Nat
  block : Nat
  erases : Nat
  pslc : Bool
  failed : Bool
  retired : Bool
  reads : Nat
  erasedAt : Nat
  deriving DecidableEq, Repr

/-- Where a unit lives: volume, LBA, physical address, block. -/
structure UnitAt where
  volume : Nat
  lba : Nat
  ppa : Nat
  channel : Nat
  enable : Nat
  block : Nat
  deriving DecidableEq, Repr

/-- What the store finds at S3 (R313, R314, R318, R338): the accepted targets by channel and chip enable, whether a label stands
and verifies and under which UID, whether the store log verifies, and the geometry: D in units, the units of a block after
parity, the blocks of the spare reserve, the superblocks, the LUNs, the rated erase cycles. -/
structure StoreFound where
  dramGib : Nat
  dramOk : Bool
  targets : List (Nat × Nat)
  labelled : Bool
  verified : Bool
  logOk : Bool
  uid : Bytes
  dataUnits : Nat
  blockUnits : Nat
  spareBlocks : Nat
  totalSuper : Nat
  luns : Nat
  peRated : Nat
  deriving DecidableEq, Repr

/-- A collection or refresh in progress (R330): its victim superblock and the units still to copy. -/
structure Collection where
  victim : Nat
  left : List UnitAt
  refresh : Bool
  deriving DecidableEq, Repr

/-- Figures of the health record (Table FS.7) and of R318, R334, R335, R479, in units. -/
structure StoreFigures where
  exported : Nat
  dataUnits : Nat
  valid : Nat
  retained : Nat
  emergency : Nat
  emergencyFull : Nat
  owed : Nat
  ledgerExported : Nat
  ledgerUsed : Nat
  journalUsed : Nat
  spare : Nat
  spareAtFormat : Nat
  freeSuper : Nat
  totalSuper : Nat
  relocEntries : Nat
  deriving DecidableEq, Repr

/-- Counts of the health record (Table FS.7). -/
structure StoreCounts where
  peRated : Nat
  blocksRetired : Nat
  programFails : Nat
  eraseFails : Nat
  uncorrectable : Nat
  softDecodes : Nat
  parityRebuilds : Nat
  rewrites : Nat
  hostUnits : Nat
  nandUnits : Nat
  deriving DecidableEq, Repr

/-- Flash store. `map` are the places of the units programmed, `reloc` the relocation table (old and new PPA, R322; 0xFFFFFFFF
lost), `seqNext` the next SEQ of the reserved block (R316), `blockUnits` and `luns` the geometry S3 found. `vol3` holds the mapped units of volume 3 by LBA, `lost3` its lost units (R327); `fullSince` the
tick FULL was entered; `stepsSpent` whether every step of R119 is spent; `salvageEntryEpochs` the epochs R336 admits at the entry. -/
structure Store where
  formed : Bool
  uid : Bytes
  stage : Stage
  fullSince : Nat
  stepsSpent : Bool
  reduced : Bool
  rebuilding : Bool
  parity : Bool
  targetsFound : Nat
  targets : List Target
  blocks : List Block
  fig : StoreFigures
  cnt : StoreCounts
  vol3 : List (Nat × Bytes)
  lost3 : List Nat
  vol3Blocks : Nat
  seqNext : Nat
  seqReserved : Nat
  collection : Option Collection
  refreshQueue : List (Nat × Nat × Nat)
  salvageAdmit : List Nat
  map : List UnitAt
  reloc : List (Nat × Nat)
  blockUnits : Nat
  luns : Nat
  deriving DecidableEq, Repr

/-- A store not yet formed. -/
def Store.blank : Store :=
  { formed := false, uid := [], stage := .normal, fullSince := 0, stepsSpent := false, reduced := false,
    rebuilding := false, parity := false, targetsFound := 0, targets := [], blocks := [],
    fig := ⟨0, 0, 0, 0, 0, 0, 0, 0, 0, 0, 0, 0, 0, 0, 0⟩, cnt := ⟨0, 0, 0, 0, 0, 0, 0, 0, 0, 0⟩,
    vol3 := [], lost3 := [], vol3Blocks := 0, seqNext := 0, seqReserved := 0, collection := none, refreshQueue := [],
    salvageAdmit := [], map := [], reloc := [], blockUnits := 0, luns := 0 }

/-- Role of a chip (Table TW.6, MBX_STATUS.SELF_ROLE). -/
inductive Role where
  | starting
  | active
  | standby
  deriving DecidableEq, Repr

/-- SELF_ROLE code (Table CI.4). -/
def Role.code : Role → Nat
  | .starting => 0
  | .active => 1
  | .standby => 2

/-- Partner state (Table CI.4, PARTNER). -/
inductive Partner where
  | absent
  | present
  | starting
  | active
  | standby
  | failed
  deriving DecidableEq, Repr

/-- PARTNER code (Table CI.4). -/
def Partner.code : Partner → Nat
  | .absent => 0
  | .present => 1
  | .starting => 2
  | .active => 3
  | .standby => 4
  | .failed => 5

/-- The partner's HELLO (Table TW.4). -/
structure Hello where
  uid : Bytes
  ordering : Nat
  headRole : Bool
  segment : Nat
  lifecycle : Nat
  self : Nat
  moruinVersion : Nat
  dcsVersion : Nat
  lastCommitted : Nat
  epochHigh : Nat
  preferred : Bool
  kcvDigest : Bytes
  deriving DecidableEq, Repr

/-- Twill link (R343, R344): trained, the frames sent again and not yet acknowledged (LINK_SEQ, resends), the tick of the last
valid frame received, counts of discarded, resent and missing frames. -/
structure TwillLink where
  trained : Bool
  unacked : List (Nat × Nat)
  lastValid : Nat
  discarded : Nat
  retransmitted : Nat
  missing : Nat
  deriving DecidableEq, Repr

/-- The four discrete lines (R342): what this chip pulls low, and the partner's TWL_ROLE and TWL_INHIBIT_N as last sensed. -/
structure Lines where
  roleLatch : Bool
  aliveLow : Bool
  aliveClaimUntil : Nat
  inhibitLow : Bool
  partnerRoleLow : Bool
  partnerInhibitLow : Bool
  deriving DecidableEq, Repr

/-- Where an arbitration stands (R357): since when, the kind, the epoch, own and partner verdicts. -/
structure Arbitration where
  since : Nat
  kind : Nat
  epoch : Nat
  own : Option Bool
  partner : Option Bool
  deriving DecidableEq, Repr

/-- Resynchronisation (R364 to R367): whether this chip runs it as standby or as active; the plan. -/
structure Resync where
  asStandby : Bool
  full : Bool
  fromEpoch : Nat
  pin : Option Nat
  joined : Bool
  buffered : Nat
  done : Bool
  deriving DecidableEq, Repr

/-- A generated frame (R354): the epoch open then, network, type, destination, number, digest, and the tick since which
it waits for its match, 0 once matched. -/
structure FrameMark where
  epoch : Nat
  net : Net
  typ : Nat
  dest : Bytes
  n : Nat
  digest : Bytes
  since : Nat
  deriving DecidableEq, Repr

/-- Twin operation. `inputSeq` is the highest INPUT_SEQ, `curSeq` and `groupIndex` the input being processed and the groups it has
completed (R350). `switchover` holds the epoch of a switchover in progress; `bothPass` the ticks of both-pass
outcomes (Table TW.9); `coilWait` the claim that still withholds the coils (R360): 0 for TWL_INHIBIT_N, else the tick of the claim;
`activeHold` whether the active has a power-fail warning, as the stream says (R349); `sentEnds` are the ends of the counter blocks
that the last heartbeat sent named (R223); `heldRoots` the standby's roots whose full plan waits for stage NORMAL (R366); `mirror` whether the active sends its inputs to its
standby (R349, R367, R369); `resyncCmd` the TWN_RESYNC (ring, tag) that waits for its plan (R370). -/
structure Twin where
  role : Role
  partner : Partner
  cause : Nat
  inSync : Bool
  inert : Bool
  hello : Option Hello
  link : TwillLink
  lines : Lines
  inputSeq : Nat
  curSeq : Nat
  groupIndex : Nat
  watermark : Nat
  lastCompared : Nat
  partnerEpochHigh : Nat
  partnerZitherEnd : Nat
  partnerLyreEnd : Nat
  sentEnds : Nat × Nat
  marks : List (Nat × Nat)
  ownFrames : List FrameMark
  heardFrames : List FrameMark
  partnerDigests : List (Nat × Bytes)
  arbitration : Option Arbitration
  bothPass : List Nat
  switchover : Option Nat
  resync : Option Resync
  heldRoots : Option (List (Nat × Bytes))
  coilWait : Option Nat
  activeHold : Bool
  mirror : Bool
  resyncCmd : Option (Nat × Nat)
  minuteEnergy : List (Nat × Nat)
  deriving DecidableEq, Repr

/-- Twin state before negotiation: STARTING, no partner heard, TWL_INHIBIT_N low (Table TW.2). -/
def Twin.blank : Twin :=
  { role := .starting, partner := .absent, cause := 0, inSync := false, inert := false, hello := none,
    link := ⟨false, [], 0, 0, 0, 0⟩, lines := ⟨false, false, 0, true, false, false⟩, inputSeq := 0, curSeq := 0,
    groupIndex := 0, watermark := 0, lastCompared := 0, partnerEpochHigh := 0, partnerZitherEnd := 0,
    partnerLyreEnd := 0, sentEnds := (0, 0), marks := [], ownFrames := [], heardFrames := [], partnerDigests := [], arbitration := none, bothPass := [], switchover := none, resync := none,
    heldRoots := none, coilWait := none, activeHold := false, mirror := false, resyncCmd := none, minuteEnergy := [] }

/-- Boot journal record (Table CK.7). -/
structure BootRec where
  ltime : LTime
  start : Nat
  kind : Nat
  stage : Nat
  code : Nat
  flags : Nat
  data : Bytes
  deriving DecidableEq, Repr

/-- Boot journal (Tables CK.6, CK.7) in keeper MRAM. -/
structure Journal where
  seq : Nat
  starts : Nat
  head : Nat
  recs : List BootRec
  stageReached : Nat
  failedStage : Nat
  lastCode : Nat
  alt : Nat
  failRun : List Nat
  recovery : Nat
  powerFailEpoch : Nat
  deriving DecidableEq, Repr

/-- An empty boot journal: FAILED_STAGE 0xF, everything else 0. -/
def Journal.blank : Journal := ⟨0, 0, 0, [], 0, 0xF, 0, 0, List.replicate 9 0, 0, 0⟩

/-- Supply supervisor (R379 to R383): present conditions of the rails, the hold, the dips. -/
structure Supply where
  kprOn : Bool
  retain : Bool
  mainWarn : Bool
  fieldWarn : Bool
  fieldReset : Bool
  hold : Bool
  holdSince : Nat
  dipped : List Nat
  warnLtime : LTime
  dipMin : List Nat
  dips : List Nat
  mainMin : Nat
  fieldMin : Nat
  relayHold : Bool
  deriving DecidableEq, Repr

/-- Keeper state beside the supply: watchdogs, tamper, fault code, degraded causes, delayed reset, RTC, bridge. -/
structure Keeper where
  supply : Supply
  appPeriodMs : Nat
  appKicks : List Nat
  appArmed : Bool
  twinKick : Nat
  tamperActive : Nat
  tamperLatched : Nat
  tamperCfg : Nat
  faultCode : Nat
  codeRaised : Bool
  degraded : List Nat
  lastDip : Nat
  watchdogTimes : List Nat
  delayedReset : Option (Nat × Nat)
  resetWanted : Option (Nat × Nat × Nat)
  rtcValid : Bool
  rtc : LTime
  bridgeTimeouts : Nat
  clockLost : Nat
  clockRunning : Nat
  unlockUntil : Option Nat
  appWdtMs : Nat
  appWdtVersion : Nat
  tamperVersion : Nat
  deriving DecidableEq, Repr

/-- Where the device stands between resets and service (Table CK.4, R404). -/
inductive BootPhase where
  | off
  | held
  | running
  | recovery
  deriving DecidableEq, Repr

/-- Start of the main domains (R396 to R404). `stage` is the stage entered; `passed8` whether S8 passed;
`openedFirst` whether S8 was reached and the first epoch of the start is open; `owed` are the events owed to the first epoch of the next start (R382, R397, KP.3); `firstEpoch` is the first epoch opened in this
start, at whose commit S8 passes; `startItems` holds the configuration items as this start took them, for those that take effect at
a start. -/
structure Boot where
  phase : BootPhase
  stage : Nat
  stageAt : Nat
  passed8 : Bool
  altApplied : Nat
  debug : Bool
  debugDecided : Bool
  releaseAt : Nat
  openedFirst : Bool
  owed : List EvRec
  journal : Journal
  unreported : List (Nat × Nat)
  headRole : Bool
  firstEpoch : Nat
  startItems : List (Nat × Nat × Bytes)
  deriving DecidableEq, Repr

/-- Area states of the slot directory (Table FW.4). -/
inductive AreaState where
  | empty
  | receiving
  | staged
  | verified
  | pendingCopy
  | trial
  | good
  | bad
  deriving DecidableEq, Repr

/-- Area state code (Table FW.4). -/
def AreaState.code : AreaState → Nat
  | .empty => 0
  | .receiving => 1
  | .staged => 2
  | .verified => 3
  | .pendingCopy => 4
  | .trial => 5
  | .good => 6
  | .bad => 7

/-- An area of volume 2 (Table FW.3): slot A, slot B or staging, with the bytes held. -/
structure Area where
  state : AreaState
  tries : Nat
  version : Nat
  rollback : Nat
  received : Nat
  total : Nat
  bytes : Bytes
  deriving DecidableEq, Repr

/-- An empty area. -/
def Area.blank : Area := ⟨.empty, 0, 0, 0, 0, 0, []⟩

/-- Where a campaign's round stands (R419): before its start, sending blocks, in the gap after them, reading what is missing;
stopped by FWU_CAMPAIGN_ABORT (R421). -/
inductive RoundPhase where
  | starting
  | sending
  | gap
  | reading
  | stopped
  deriving DecidableEq, Repr

/-- A meter firmware campaign (Table FW.6, R417 to R421). `targets` pairs record index and generation; `since` is the tick at
which the phase began; `read` are the meters read in this reading, `missing` the blocks each meter still misses. -/
structure Campaign where
  num : Nat
  cls : Nat
  blockSize : Nat
  networks : Nat
  rounds : Nat
  imageLba : Nat
  imageLen : Nat
  roundGapS : Nat
  paceMs : Nat
  activateAt : LTime
  unicastMax : Nat
  imageId : Bytes
  imageDigest : Bytes
  targets : List (Nat × Nat)
  round : Nat
  phase : RoundPhase
  since : Nat
  toSend : List Nat
  nextBlockAt : Nat
  read : List Nat
  missing : List (Nat × List Nat)
  activating : Bool
  done : Bool
  deriving DecidableEq, Repr

/-- Firmware: slot directory and loader (R408 to R416), campaigns. -/
structure Firmware where
  dirSeq : Nat
  current : Option Nat
  next : Option Nat
  slotA : Area
  slotB : Area
  staging : Area
  running : Option Nat
  runningVersion : Nat
  keeperVersion : Nat
  keeperImageOk : Bool
  loaderCannotStore : Bool
  loaderOffer : Option (Bool × Nat)
  loaderLast : Nat
  loaderResetAt : Option Nat
  loaderAnnounceDue : Nat
  loaderPort : Nat
  loaderMode : Nat
  loaderTryAt : Nat
  loaderLink : Bool
  campaigns : List Campaign
  deriving DecidableEq, Repr

/-- Firmware of a device as shipped: no image held. -/
def Firmware.blank : Firmware :=
  { dirSeq := 0, current := none, next := none, slotA := Area.blank, slotB := Area.blank, staging := Area.blank,
    running := none, runningVersion := 0, keeperVersion := 0, keeperImageOk := true,
    loaderCannotStore := false, loaderOffer := none, loaderLast := 0, loaderResetAt := none,
    loaderAnnounceDue := 0, loaderPort := 0, loaderMode := 0, loaderTryAt := 0, loaderLink := false, campaigns := [] }

/-- One annunciator channel (R425, R426). -/
structure Annunciator where
  state : Nat
  phaseOn : Bool
  readback : Nat
  lastBad : Nat
  lastGood : Nat
  fault : Bool
  waiting : List (Nat × Nat × Nat)
  deriving DecidableEq, Repr

/-- A pending OLED write (R424): place, size, pixels, and the command to complete with the epoch of its audit record. -/
structure OledWrite where
  x : Nat
  y : Nat
  w : Nat
  h : Nat
  grey : Bytes
  cmd : Nat × Nat
  epoch : Nat
  deriving DecidableEq, Repr

/-- Segment account (Table FP.5). -/
structure SegAccount where
  balance : Int
  invertLeft : Nat
  deriving DecidableEq, Repr

/-- State of a placard update (Table FP.5, UPDATE). -/
inductive UpdateState where
  | idle
  | running
  | cut
  deriving DecidableEq, Repr

/-- Placard (R427 to R435). Images are 120-bit words, bit n black. `comp` lists the segments compensated in this update with their
drive time; `phaseSince` is the tick the phase began. -/
structure Placard where
  accounts : List SegAccount
  seq : Nat
  state : UpdateState
  phase : Nat
  full : Bool
  target : BitVec 120
  shown : BitVec 120
  next : Option (BitVec 120)
  fitted : Bool
  driveMs : Nat
  limitVms : Nat
  phaseSince : Nat
  comp : List (Nat × Nat × Bool)
  deriving DecidableEq, Repr

/-- Front panel. `hostImage` is the host's placard image as Moruin holds it (R437); `buffers` are the shown and the back frame buffer, 4-bit pixels row by row. -/
structure Panel where
  shown : Bytes
  back : Bytes
  columns : Nat
  rows : Nat
  peak : Nat
  writes : List OledWrite
  anns : List Annunciator
  placard : Placard
  crackOpen : List Bool
  crackRun : List (Bool × Nat)
  hostImage : BitVec 120
  deriving DecidableEq, Repr

/-- Panel of a blank device: DRIVE_MS 240 and LIMIT 7,200 (Table FP.9), nothing fitted. -/
def Panel.blank : Panel :=
  { shown := [], back := [], columns := 0, rows := 48, peak := 128, writes := [],
    anns := List.replicate 8 ⟨0, false, 0, 0, 0, false, []⟩,
    placard := { accounts := List.replicate 120 ⟨0, 0⟩, seq := 0, state := .idle, phase := 0, full := false,
                 target := 0, shown := 0, next := none, fitted := false, driveMs := 240, limitVms := 7200,
                 phaseSince := 0, comp := [] },
    crackOpen := [false, false], crackRun := [(false, 0), (false, 0)], hostImage := 0 }

/-- Outcome of a partition (R441). -/
inductive PartOutcome where
  | pass
  | fail
  | skipped
  | abandoned
  deriving DecidableEq, Repr

/-- Outcome code (Table ST.2). -/
def PartOutcome.code : PartOutcome → Nat
  | .pass => 0
  | .fail => 1
  | .skipped => 2
  | .abandoned => 3

/-- Result of one partition (Table ST.2). -/
structure PartResult where
  bitNo : Nat
  outcome : PartOutcome
  durationUs : Nat
  unit : Nat
  measure : Int
  signature : Bytes
  deriving DecidableEq, Repr

/-- A self-test run, queued, running or ended (R443, R444). -/
structure TestRun where
  id : Nat
  arbitration : Bool
  requested : Nat
  results : List PartResult
  started : LTime
  ended : Option LTime
  deriving DecidableEq, Repr

/-- Self-test state. -/
structure SelfTest where
  nextId : Nat
  queue : List TestRun
  current : Option TestRun
  finished : List TestRun
  deriving DecidableEq, Repr

/-- Self-test after a MAIN reset: RUN_ID starts at 1 (R443). -/
def SelfTest.blank : SelfTest := ⟨1, [], none, []⟩

/-- Counters of the counters record not held elsewhere (Table ST.3). -/
structure Counters where
  since : LTime
  dramCorrected : Nat
  dramUncorrectable : Nat
  d2dLosses : Nat
  subordinateDiscards : Nat
  announceIgnored : Nat
  feederMissing : Nat
  bridgeTotal : Nat
  queueErr : List (Nat × Nat × Nat × Nat)
  refusedGroups : Nat
  deriving DecidableEq, Repr

/-- No counts. -/
def Counters.zero : Counters := ⟨0, 0, 0, 0, 0, 0, 0, 0, [], 0⟩

/-- Die-to-die link (R15, R399). -/
structure D2D where
  up : Bool
  lostAt : Nat
  retraining : Bool
  deriving DecidableEq, Repr

end Sys2Proof.Machine
end

