-- ==== Sys2Proof/Machine/TypesEpoch.lean ====
section
/-! DEFINITION. The ledger's content and epochs (05_damask_ledger): items and append groups (Tables LG.5, LG.6),
the whole content as it stands after a group (LState), epochs (Tables LG.1, LG.4), roots (Table LG.3). -/

namespace Sys2Proof.Machine

/-- A table as an item carries it: which, its new version, the bytes and what they decode to. -/
inductive TableLoad where
  | sched (v : Nat) (raw : Bytes) (t : SchedTable)
  | rules (v : Nat) (raw : Bytes) (t : RuleTable)
  | tariff (v : Nat) (raw : Bytes) (t : TariffTable)
  | calendar (v : Nat) (raw : Bytes) (t : Calendar)
  | friendly (v : Nat) (raw : Bytes) (t : FriendlyTable)
  | groups (v : Nat) (raw : Bytes) (t : GroupTable)
  | zone (v : Nat) (raw : Bytes) (t : List ZoneEntry)
  | ptp (v : Nat) (raw : Bytes) (t : PtpCfg)
  | cal (v : Nat) (raw : Bytes) (t : CalTable)
  deriving DecidableEq, Repr

/-- A table whose pending load takes effect at an instant (R125, R146, R172, R211). -/
inductive TableKind where
  | rules
  | tariff
  | calendar
  | groups
  | cal
  deriving DecidableEq, Repr

/-- An item of an append group (Table LG.6), typed. `patch` carries the record after the change and `was` the record
before it: the RECORD_PATCH items are the byte ranges in which the two differ. `effective` and `boundary` carry what
the ledger's own bookkeeping needs (a pending table put in force, the latest boundary evaluated, R155); `foreign` holds, as uploaded, an item about a subordinate itself (R116). -/
inductive Item where
  | patch (idx : Nat) (was new : Rec)
  | create (idx : Nat) (r : Rec)
  | release (idx gen epoch : Nat)
  | series (idx : Nat) (entries : List SEntry)
  | billing (b : BSnap)
  | clockAdj (a : ClockAdj)
  | audit (a : Audit)
  | event (e : EvRec)
  | contrib (group : Nat) (cs : List Contrib)
  | result (r : BalResult)
  | minute (m : FeederMinute)
  | boundaryRec (b : BoundaryRec)
  | phasors (p : OwnPhasors)
  | headCut (segment epoch : Nat) (digest : Bytes)
  | config (item version : Nat) (value : Bytes)
  | table (t : TableLoad)
  | effective (k : TableKind) (at_ : LTime)
  | relay (n : Nat) (r : RelayItem)
  | pin (epoch : Nat)
  | unpin (epoch : Nat)
  | name (n : Bytes) (epoch : Nat)
  | dropName (n : Bytes)
  | period (s version : Nat)
  | creation (segment : Nat) (formatted : LTime) (uid : Bytes)
  | boundary (at_ : LTime)
  | snapshotId (n : Nat)
  | campaign (c : Campaign)
  | campaignEnd (num : Nat)
  | foreign (segment : Nat) (parts : List (Nat × Nat × Bytes))
  deriving DecidableEq, Repr

/-- Append group (Table LG.5). -/
structure Group where
  mh : Option Nat
  completed : LTime
  key : Nat
  fromCmd : Bool
  fromSub : Bool
  items : List Item
  deriving DecidableEq, Repr

/-- The tables in the ledger. -/
structure Tables where
  sched : Loaded SchedTable
  rules : Loaded RuleTable
  tariff : Loaded TariffTable
  calendar : Loaded Calendar
  friendly : Loaded FriendlyTable
  groups : Loaded GroupTable
  zone : Loaded (List ZoneEntry)
  ptp : Loaded PtpCfg
  cal : Loaded CalTable
  deriving DecidableEq, Repr

/-- No table loaded. -/
def Tables.blank : Tables :=
  ⟨Loaded.blank, Loaded.blank, Loaded.blank, Loaded.blank, Loaded.blank, Loaded.blank, Loaded.blank, Loaded.blank,
   Loaded.blank⟩

/-- Everything the ledger holds at one instant. Lists keyed by a record index keep the index ascending. `gens` holds
the generation of each index whose generation is not 0; `releasing` the indexes released, with the epoch of the release
(R72); journals pair the record with its epoch; `past` keeps
ended memberships and `late` the contributions after FINAL not yet counted, by group (R180, R181); `config` holds each item ever changed as (item, version, value);
`eventBase` counts the events discarded under R319; `cuts` the highest HEAD_CUT of each segment (R117). -/
structure LState where
  recs : List (Nat × Rec)
  gens : List (Nat × Nat)
  releasing : List (Nat × Nat)
  series : List (Nat × List SEntry)
  billing : List BSnap
  events : List (Nat × EvRec)
  audits : List (Nat × Audit)
  clockAdjs : List (Nat × ClockAdj)
  eventBase : Nat
  config : List (Nat × Nat × Bytes)
  tables : Tables
  pins : List Nat
  names : List (Bytes × Nat)
  period : Nat
  periodVersion : Nat
  contribs : List Contrib
  results : List BalResult
  past : List PastMember
  late : List (Nat × Nat)
  minutes : List FeederMinute
  bounds : List BoundaryRec
  phasors : List OwnPhasors
  relays : List RelayItem
  cuts : List (Nat × Nat)
  lastBoundary : LTime
  snapshotId : Nat
  campaigns : List Campaign
  created : Option (Nat × LTime × Bytes)
  deriving DecidableEq, Repr

/-- The content of a freshly formatted ledger before its creation record: every item and table at its default, at
version 0, PERIOD_S 60 (R96), both relays not fitted (R485). -/
def LState.fresh : LState :=
  { recs := [], gens := [], releasing := [], series := [], billing := [], events := [], audits := [],
    clockAdjs := [], eventBase := 0, config := [], tables := Tables.blank, pins := [], names := [], period := 60,
    periodVersion := 0, contribs := [], results := [], past := [], late := [], minutes := [], bounds := [], phasors := [],
    relays := [⟨2, 3, 0, 0, 0, 0⟩, ⟨2, 3, 0, 0, 0, 0⟩], cuts := [], lastBoundary := 0, snapshotId := 0,
    campaigns := [], created := none }

/-- State of an epoch (Table LG.1). -/
inductive EpochState where
  | opened
  | closed
  | comparing
  | arbitrating
  | rooting
  | committed
  | held
  | lost
  deriving DecidableEq, Repr

/-- An epoch not yet committed. `after` is the content with this epoch's groups, fixed at the close; `size` its own
content in bytes; `closedTick` the tick of the close; `flushed` whether its pages are down. -/
structure Epoch where
  num : Nat
  opened : LTime
  closed : LTime
  state : EpochState
  groups : List Group
  size : Nat
  after : LState
  byWarning : Bool
  uncompared : Bool
  formatting : Bool
  digest : Bytes
  flushed : Bool
  closedTick : Nat
  deriving DecidableEq, Repr

/-- Root record (Table LG.3). `voided` marks a root-log entry void (R476). -/
structure Root where
  epoch : Nat
  slot : Nat
  uncompared : Bool
  byWarning : Bool
  formatting : Bool
  closed : LTime
  committed : LTime
  epochHigh : Nat
  digest : Bytes
  prev : Nat
  voided : Bool
  deriving DecidableEq, Repr

/-- Content of a committed epoch still held for upload or resynchronisation (R93, R365). -/
structure Held where
  num : Nat
  opened : LTime
  closed : LTime
  groups : List Group
  digest : Bytes
  deriving DecidableEq, Repr

/-- The ledger: working content, epochs not committed (oldest first, the last one open), contents readable by epoch,
contents held for upload, and the keeper MRAM's part: root slots, EPOCH_HIGH copies, HELD-result entries. -/
structure Ledger where
  mounted : Bool
  work : LState
  epochs : List Epoch
  readable : List (Nat × LState)
  contents : List Held
  lastCommitted : Nat
  lastDigest : Bytes
  slot0 : Option Root
  slot1 : Option Root
  rootLog : List Root
  highA : Option Nat
  highB : Option Nat
  heldResults : List (Nat × Nat)
  deriving DecidableEq, Repr

/-- A ledger never formatted: both copies of EPOCH_HIGH hold 0. -/
def Ledger.blank : Ledger :=
  { mounted := false, work := LState.fresh, epochs := [], readable := [], contents := [], lastCommitted := 0,
    lastDigest := [], slot0 := none, slot1 := none, rootLog := [], highA := some 0, highB := some 0,
    heldResults := [] }

end Sys2Proof.Machine
end

