-- ==== Sys2Proof/Machine/Payload.lean ====
section
/-! DEFINITION. What the world supplies with a happening: register spaces, fetch facts, PTP messages, metrology
frames and minutes, NAND read outcomes, stage reports, and the inputs of the twin stream (Table TW.4, R349). -/

namespace Sys2Proof.Machine

/-- The four register spaces a register access can name: BAR0, a queue's block (Table QF.2), the timebase
(Table TM.1) and the keeper block (Table KP.7). -/
inductive RegSpace where
  | bar0
  | qfb (n : Nat)
  | ts
  | kpr
  deriving DecidableEq, Repr

/-- A fetched command entry: its 64 bytes, the input buffer the device reads for it, and whether the two transfers
succeeded. -/
structure Fetched where
  frame : Bytes
  buf : Bytes
  frameOk : Bool
  bufOk : Bool
  deriving DecidableEq, Repr

/-- An announcement as a head receives it (Table MS.9). -/
structure Announcement where
  formOk : Bool
  segment : Nat
  keyId : Bytes
  lastCommitted : Nat
  uploadPort : Nat
  deriving DecidableEq, Repr

/-- A decoded epoch content received on the upload channel or in a resynchronisation (R103). -/
structure Content where
  epoch : Nat
  opened : LTime
  closed : LTime
  digest : Bytes
  digestOk : Bool
  groups : List Group
  deriving DecidableEq, Repr

/-- One 125 µs metrology frame (R197 to R199): per point and phase the net energy of the sample in µWh and in µvarh,
overload per input, which inputs the sender's calibration uses, clipping, the eight Gray-decoded counts. -/
structure MetFrame where
  sampleTime : LTime
  energy0 : List Int
  energy1 : List Int
  quad0 : List Int
  quad1 : List Int
  overload : List Bool
  used : List Bool
  clipping : Bool
  counts : List (BitVec 32)
  deriving DecidableEq, Repr

/-- The mean quantities of a finished minute (Table MT.2) that the back end forms from its samples, with the version of
the calibration table they rest on. -/
structure MinuteMeans where
  calVersion : Nat
  freqMhz : Nat
  vRms : List Nat
  vNe : Nat
  vThd : List Nat
  iRms0 : List Nat
  iRms1 : List Nat
  iN0 : Nat
  iN1 : Nat
  iRes0 : Nat
  iRes1 : Nat
  deriving DecidableEq, Repr

/-- A PTP message as the servo sees it: Announce of a master, or a completed offset measurement (R271, R275). -/
inductive PtpMsg where
  | announce (port domain : Nat) (transport : Nat) (grandmaster : Bytes) (better : Bool) (intervalMs : Nat)
      (utcValid : Bool) (utcOffset : Int) (leap61 leap59 : Bool)
  | offset (port domain : Nat) (transport : Nat) (ns : Int)
  deriving DecidableEq, Repr

/-- A PTP message that a transparent clock may pass on (R277). -/
structure TcMsg where
  port : Nat
  domain : Nat
  transport : Nat
  typ : Nat
  twoStep : Bool
  correction : Int
  residenceNs : Int
  linkDelayNs : Int
  deriving DecidableEq, Repr

/-- How a unit read went (Table FS.4): the ladder step at which a codeword verified (5: none), and the bits step 1 corrected. -/
structure ReadOutcome where
  step : Nat
  bits : Nat
  deriving DecidableEq, Repr

/-- What a finishing stage reports (Table CK.4): the facts the stage's work met, and its duration. -/
structure StageReport where
  ms : Nat
  pufOk : Bool
  deriveOk : Bool
  store : StoreFound
  copyOk : Bool
  slotOk : Bool
  slot0Verifies : Bool
  slot1Verifies : Bool
  logVerifies : List Nat
  zitherOk : Bool
  lyreOk : Bool
  d2dOk : Bool
  aux : List Bool
  twillTrained : Bool
  roleLow : Bool
  uidWins : Bool
  deriving DecidableEq, Repr

/-- A timer the active's stream carries at its instant (R349, kind 6). `boundary` names the order of Table TB.10. -/
inductive TwinTimer where
  | epochBoundary
  | boundary (order : Nat)
  | disconnectDue (idx : Nat)
  | rulesEffective
  | groupsEffective
  | dailyReclaim
  | spaceRequest
  | scheduledSlot (idx entry : Nat)
  | pendingSlot (idx : Nat)
  | retryGap (idx : Nat)
  | responseTimeout (idx : Nat)
  | sessionDeadline (idx : Nat)
  | commandDeadline (ring tag : Nat)
  | relayRecheck (idx : Nat) (fb : RxFeedback)
  | meterSilent (idx : Nat)
  | joinResend (idx : Nat)
  | joinWindow (idx : Nat)
  | joiningWait (idx : Nat)
  | quarantine (net : Net) (short : Nat)
  | balanceFirst (group : Nat) (start : LTime)
  | balanceFinal (group : Nat) (start : LTime)
  | periodicSnapshot (group : Nat)
  | snapshotOrder (id : Nat)
  | snapshotLatch (id : Nat) (inputs : List (Option Phasor))
  | snapshotFetch (id : Nat)
  | snapshotTimeout (idx : Nat)
  | snapshotDone (id : Nat)
  | phaseCorrelation
  | branchInference
  | peakDayClear
  | feederMinute (m : MinuteMeans)
  | routeRepair (net : Net) (short : Nat)
  | campaignRound (campaign : Nat)
  | campaignBlock (campaign : Nat)
  | campaignGap (campaign : Nat)
  | campaignActivate (campaign : Nat)
  | rendezvousOrder (idx : Nat)
  | prevBkey
  | leapSecond
  | timeStep (units : Int) (kind : Nat)
  | utcTaken (offset : Int) (leap : Nat)
  | neighbourExpiry (net : Net) (short : Nat)
  | routeSet (net : Net) (short : Nat)
  | linkFail (net : Net) (src dst : Nat)
  | linkExpiry (net : Net) (src dst : Nat)
  | linkProbe (short : Nat)
  | trainStart (idx : Nat)
  | trainFailed (idx : Nat)
  deriving DecidableEq, Repr

/-- An input of the active's stream (R349): kinds 1 to 8. A chip-local command (Table TW.8) carries the active's audit record. -/
inductive TwinInput where
  | frame (f : RxFrame)
  | metrology (m : MetFrame)
  | relayResult (relay : Nat) (r : RelayItem) (already : Bool)
  | command (c : Cmd) (frame : Bytes) (audit : Option Audit)
  | delivery (segment : Nat) (c : Content)
  | forwarded (segment : Nat) (c : Completion)
  | timer (t : TwinTimer)
  | warning (rail mv : Nat)
  | recovery
  | event (e : EvRec)
  | securityFail (idx : Nat) (raises : Bool) (net : Net)
  deriving DecidableEq, Repr

/-- Code of an input's kind (R349). -/
def TwinInput.kind : TwinInput → Nat
  | .frame _ => 1
  | .metrology _ => 2
  | .relayResult _ _ _ => 3
  | .command _ _ _ => 4
  | .delivery _ _ => 5
  | .forwarded _ _ => 5
  | .timer _ => 6
  | .warning _ _ => 7
  | .recovery => 7
  | .event _ => 8
  | .securityFail _ _ _ => 8

/-- What a resynchronising standby buffers of the active's stream (R367): an input or a close. -/
inductive TwinItem where
  | input (seq : Nat) (arrival : LTime) (i : TwinInput)
  | close (epoch : Nat) (closed : LTime) (cause : Nat)
  deriving DecidableEq, Repr

/-- What a job on the cipher engines or the push of a stateless meter delivered: the session's meter and the
plaintext, used only when the authentication flag is clear (R20). -/
structure CipherDone where
  job : JobResult
  idx : Nat
  response : Response
  deriving DecidableEq, Repr

/-- Everything the block emits, in order. A field frame goes with its counter, its modulation and tone map (the MODE and 0
on Lyre) and its level: the attenuation in dB on Zither, the power in dBm on Lyre. -/
inductive Output where
  | read (v : Nat)
  | completion (ring index : Nat) (phase : Bool) (c : Completion)
  | buffer (addr : Nat) (bytes : Bytes)
  | hostEvent (index : Nat) (e : EvRec)
  | shadow (addr prod : Nat)
  | msix (vector : Nat)
  | remote (session typ : Nat) (body : Bytes)
  | remoteCompletion (session : Nat) (c : Completion)
  | remoteEvent (session : Nat) (e : EvRec)
  | tlsClose (session reason : Nat)
  | uploadSub (typ : Nat) (body : Bytes)
  | uploadHead (segment typ : Nat) (body : Bytes)
  | epochData (h : Held)
  | forward (segment : Nat) (c : Cmd)
  | announcement (segment lastCommitted port : Nat)
  | field (f : TxFrame) (ctr mod map : Nat) (level : Int)
  | macAck (net : Net) (short : Nat)
  | wakeTrain (idx halfMs listenMs : Nat)
  | rfBeacon (floodTtl : Nat) (txDbm : Int) (floodWindowMs bkeyIndex : Nat)
  | toneMapRequest (short : Nat)
  | toneMapResponse (short mod map : Nat)
  | twill (typ : Nat) (body : Bytes)
  | twillContent (h : Held)
  | twillLedger (epoch : Nat)
  | ptp (port typ : Nat) (correction : Int)
  | arp (address : Bytes)
  | uart (line : Bytes)
  | loader (typ : Nat) (body : Bytes)
  | popWord (queue : Nat) (bytes : Bytes) (tag : BitVec 32)
  | coil (relay : Nat) (drive : Option Bool)
  | oledFrame (pixels : Bytes)
  | annunciator (channel : Nat) (on : Bool)
  | placard (phase : Nat) (image : BitVec 120)
  | pin (line : String) (high : Bool)
  | reset (source scope : Nat)
  deriving DecidableEq, Repr

end Sys2Proof.Machine
end

