-- ==== Sys2Proof/Config.lean ====
section
/-! DEFINITION. What an implementation fixes and what the spec leaves open: the values the model leaves free (each an
opaque constant applied to a counter of State), and the standard primitives the spec names and does not define
(hashes, ciphers, signatures, correlation), which stay uninterpreted. -/

namespace Sys2Proof

/-- A free number: nothing constrains it. Applied to State's counter `fresh` (log entry 3). -/
opaque Config.freeNat : Nat → Nat

/-- Free bytes: nothing constrains them. Applied to State's counter `fresh` (log entry 3). -/
opaque Config.freeBytes : Nat → Bytes

/-- A free truth value, applied to State's counter `fresh` (log entry 3). -/
opaque Config.freeBool : Nat → Bool

/-- SHA-256 (R54, R103, R114, R295), uninterpreted (log entry 4). -/
opaque Config.sha256 : Bytes → Bytes

/-- The key derivation of R295 and R297: parent key value, label, length in bytes (log entry 4). -/
opaque Config.derive : Bytes → Bytes → Nat → Bytes

/-- The key check value of a key value (R302), uninterpreted (log entry 4). -/
opaque Config.kcv : Bytes → Nat

/-- AES key wrap of R300: wrapping key, plaintext (log entry 4). -/
opaque Config.wrap : Bytes → Bytes → Bytes

/-- AES key unwrap of R300: wrapping key, wrapped bytes; none where the integrity check fails (log entry 4). -/
opaque Config.unwrap : Bytes → Bytes → Option Bytes

/-- ECDSA verification (R307, R405, R346): which key, message, signature (log entry 4). -/
opaque Config.verify : Bytes → Bytes → Bytes → Bool

/-- AES-GCM decryption of a firmware body (R406, R410): key value, package bytes (log entry 4). -/
opaque Config.gcmOpen : Bytes → Bytes → Option Bytes

/-- Net energy in µWh of a point from the start of the minute to a sample boundary at which no sample energies are kept
(R174): point, sample number (log entry 38). -/
opaque Config.edgeEnergy : Nat → Nat → Int

/-- COVERAGE of a group without members, by group: the spec divides by their number (R180, log entry 39). -/
opaque Config.emptyCoverage : Nat → Nat

/-- Voltage correlation of a meter with a phase (R188) in binary64, in 1/10,000; the order of its sums is open (log entry 5). -/
opaque Config.correlate : List (Int × Int) → Int

/-- Cosine and sine in 1/1,000,000 of an angle in 1/100 degree; the spec names the functions (R190, R203) and no rounding
of their inner values (log entry 5). -/
opaque Config.cosMicro : Int → Int

/-- See `Config.cosMicro`. -/
opaque Config.sinMicro : Int → Int

/-- Angle in 1/100 degree of a vector (R190, R203) (log entry 5). -/
opaque Config.atan2Cdeg : Int → Int → Int

/-- The expected signature of a self-test partition (R441, Table ST.1), fixed by the silicon. -/
opaque Config.goldenSignature : Nat → Bytes

/-- Number of channels of the IEEE 802.15.4g plan for a band and mode (R240): the standard's, not the spec's (log entry 5). -/
opaque Config.channelCount : Nat → Nat → Nat

/-- Transmit priority, 0 to 3, of a frame of a TYPE for which the spec names no priority (log entry 26). -/
opaque Config.framePriority : Nat → Nat

/-- The output bytes of MTR_LIST_SEGMENTS for the segments cut off (log entry 32). -/
opaque Config.segmentList : List (Nat × Nat) → Bytes

/-- The Foresh life-cycle key in keeper ROM (R307, R398) (log entry 4). -/
opaque Config.lifecycleKey : Bytes

/-- The Foresh image key in keeper ROM (R405) (log entry 4). -/
opaque Config.imageKey : Bytes

/-- DEVKEY and the device secrets the PUF gives (R288): fixed at manufacture. -/
opaque Config.pufSecret : Bytes

end Sys2Proof
end

