-- ==== Sys2Proof/Syntax.lean ====
section
/-! DEFINITION. The commands of the block: one constructor for each row of spec/opcode_table.json, in the table's
order. The first 78 are the DCS opcodes (Table CI.13), which carry the command frame. The others are the accesses
and happenings the device meets, and carry what the world supplies with them. -/

namespace Sys2Proof

open Sys2Proof.Machine

/-- A command of the block: one constructor for each row of spec/opcode_table.json. -/
inductive Instr where
  /-- SYS_IDENTIFY (R472): Returns the identity record: ordering code, role, segment ID, revision, command-set and Moruin versions, and UID. -/
  | sysIdentify (c : Cmd)
  /-- SYS_GET_STATUS (R45): Returns the last committed and open epochs, the joined meter and session counts, the subordinate count and MBX_STATUS. -/
  | sysGetStatus (c : Cmd)
  /-- SYS_GET_CONFIG (R51): Returns the value and version of one configuration item. -/
  | sysGetConfig (c : Cmd)
  /-- SYS_SET_CONFIG (R42): Sets one configuration item under EXPECT_VERSION, range and role checks, and appends its audit record. -/
  | sysSetConfig (c : Cmd)
  /-- SYS_SET_ROLE (R42): Records head or segment role under EXPECT_VERSION; the role takes effect at the next start. -/
  | sysSetRole (c : Cmd)
  /-- SYS_RESET (R395): Completes and audits the command, then has the keeper reset the chosen scope DELAY_MS after the epoch holding the audit record commits. -/
  | sysReset (c : Cmd)
  /-- MTR_ADMIT (R71): Creates a meter record at the lowest free index and returns its handle, or refuses the admission. -/
  | mtrAdmit (c : Cmd)
  /-- MTR_RELEASE (R72): In one append group closes the billing period, sends LEAVE, quarantines the address, clears the record and increments the generation. -/
  | mtrRelease (c : Cmd)
  /-- MTR_LOOKUP (R470): Returns the handle, short address, network and segment of the record holding an identity. -/
  | mtrLookup (c : Cmd)
  /-- MTR_GET_RECORD (R108): Returns the 4,096-byte meter record as it stood at the epoch read. -/
  | mtrGetRecord (c : Cmd)
  /-- MTR_LIST (R470): Lists the handles of records in use from a start index at the last committed epoch. -/
  | mtrList (c : Cmd)
  /-- MTR_READ_NOW (R471): Starts one exchange with a meter at once, outside the schedule. -/
  | mtrReadNow (c : Cmd)
  /-- MTR_DLMS (R86): Runs one DLMS GET, SET or ACTION on a meter within a session. -/
  | mtrDlms (c : Cmd)
  /-- MTR_SET_SCHEDULE (R74): Loads the schedule table of class descriptors and schedule entries. -/
  | mtrSetSchedule (c : Cmd)
  /-- MTR_LIST_SEGMENTS (R117): On a head, lists the subordinate segments with each segment's cut at the epoch read. -/
  | mtrListSegments (c : Cmd)
  /-- LDG_PIN (R107): Pins an epoch so that it stays readable. -/
  | ldgPin (c : Cmd)
  /-- LDG_UNPIN (R107): Releases the pin of an epoch. -/
  | ldgUnpin (c : Cmd)
  /-- LDG_NAME (R107): Gives an epoch a name that keeps it readable. -/
  | ldgName (c : Cmd)
  /-- LDG_DROP_NAME (R107): Releases an epoch name. -/
  | ldgDropName (c : Cmd)
  /-- LDG_READ_SERIES (R107): Returns a meter's series entries in a time range at an epoch. -/
  | ldgReadSeries (c : Cmd)
  /-- LDG_READ_JOURNAL (R115): Returns event, audit or clock-adjustment records of a range of epochs, each with its journal header. -/
  | ldgReadJournal (c : Cmd)
  /-- LDG_READ_OPEN (R107): Returns a meter's append groups in the open epoch, marked uncommitted. -/
  | ldgReadOpen (c : Cmd)
  /-- LDG_CLOSE_EPOCH (R475): Appends its audit group last and closes the open epoch at once. -/
  | ldgCloseEpoch (c : Cmd)
  /-- LDG_SET_PERIOD (R107): Sets PERIOD_S for the boundaries after the current epoch closes. -/
  | ldgSetPeriod (c : Cmd)
  /-- LDG_EXPORT_BILLING (R107): Returns every billing snapshot whose PERIOD_END equals the one given, at an epoch. -/
  | ldgExportBilling (c : Cmd)
  /-- VAL_LOAD_RULES (R123): Loads the validation rule table, at once or pending until its EFFECTIVE instant. -/
  | valLoadRules (c : Cmd)
  /-- VAL_READ_RULES (R123): Returns the rule table in force with its version. -/
  | valReadRules (c : Cmd)
  /-- VAL_EDIT (R136): Sets one stored interval value to EDITED, keeping the original value. -/
  | valEdit (c : Cmd)
  /-- VAL_REVALIDATE (R137): Applies the rule table in force again to a meter's stored values in a time range. -/
  | valRevalidate (c : Cmd)
  /-- TRF_LOAD_SCHEDULE (R144): Loads the tariff table. -/
  | trfLoadSchedule (c : Cmd)
  /-- TRF_LOAD_CALENDAR (R147): Loads the billing calendar table. -/
  | trfLoadCalendar (c : Cmd)
  /-- TRF_READ_DETERMINANTS (R154): Returns the open or settling period block of a meter. -/
  | trfReadDeterminants (c : Cmd)
  /-- TRF_PUSH (R162): Pushes the meter-resident tariff schedule to one meter, or to all meters, at once. -/
  | trfPush (c : Cmd)
  /-- PPY_CREDIT (R165): Adds a signed amount to a meter's prepayment balance, with reference de-duplication. -/
  | ppyCredit (c : Cmd)
  /-- PPY_READ_ACCOUNT (R164): Returns a meter's credit account. -/
  | ppyReadAccount (c : Cmd)
  /-- PPY_SET_FRIENDLY (R166): Loads the friendly-window and credit-policy table. -/
  | ppySetFriendly (c : Cmd)
  /-- PPY_DISCONNECT (R170): Orders a meter's disconnector open regardless of grace and friendly windows. -/
  | ppyDisconnect (c : Cmd)
  /-- PPY_RECONNECT (R170): Orders a meter's disconnector armed or closed, setting the operator hold when the account is exhausted. -/
  | ppyReconnect (c : Cmd)
  /-- PPY_OWN_RELAY (R207): Starts the pulse sequence that drives one of the chip's own latching relays open or closed. -/
  | ppyOwnRelay (c : Cmd)
  /-- BAL_LOAD_GROUPS (R171): Loads the group table, as a full table or as a membership amendment. -/
  | balLoadGroups (c : Cmd)
  /-- BAL_READ_RESULT (R196): Returns the latest committed result record of a group for one balance interval. -/
  | balReadResult (c : Cmd)
  /-- BAL_SNAPSHOT (R184): Orders a coordinated snapshot of phasors at instant AT, and completes at AT + 60 s. -/
  | balSnapshot (c : Cmd)
  /-- BAL_READ_TOPOLOGY (R196): Returns a meter's phase, its phase confidence and its branch. -/
  | balReadTopology (c : Cmd)
  /-- BAL_READ_FEEDER (R196): Returns the feeder minute records in a time range. -/
  | balReadFeeder (c : Cmd)
  /-- TIM_GET (R270): Returns chip time, TAI-UTC and PTP_STATE. -/
  | timGet (c : Cmd)
  /-- TIM_SET (R273): Steps chip time to a given LTIME unless the servo is locked to PTP. -/
  | timSet (c : Cmd)
  /-- TIM_LOAD_ZONE (R269): Loads the local-time rules. -/
  | timLoadZone (c : Cmd)
  /-- TIM_PTP_CONFIG (R276): Loads the PTP settings. -/
  | timPtpConfig (c : Cmd)
  /-- KEY_DERIVE (R295): Derives a key from a parent slot into a target slot with given attributes. -/
  | keyDerive (c : Cmd)
  /-- KEY_IMPORT_WRAPPED (R301): Unwraps a wrapped key blob into a target slot. -/
  | keyImportWrapped (c : Cmd)
  /-- KEY_REPLACE (R302): Begins, commits or abandons the replacement of a slot's key. -/
  | keyReplace (c : Cmd)
  /-- KEY_ERASE (R305): Empties a slot together with its persistent blobs. -/
  | keyErase (c : Cmd)
  /-- KEY_GET_ATTR (R291): Returns a slot's attributes and state. -/
  | keyGetAttr (c : Cmd)
  /-- KEY_SET_LIFECYCLE (R307): Moves the life-cycle state under a signed authorisation. -/
  | keySetLifecycle (c : Cmd)
  /-- FWU_STAGE (R409): Writes part of a firmware package into the staging area. -/
  | fwuStage (c : Cmd)
  /-- FWU_VERIFY (R410): Verifies the staged package and marks it VERIFIED. -/
  | fwuVerify (c : Cmd)
  /-- FWU_ACTIVATE (R411): Marks the verified package PENDING_COPY for the next start. -/
  | fwuActivate (c : Cmd)
  /-- FWU_CAMPAIGN_START (R417): Starts a meter firmware campaign. -/
  | fwuCampaignStart (c : Cmd)
  /-- FWU_CAMPAIGN_STATUS (R417): Returns a campaign's target, complete and failed counts. -/
  | fwuCampaignStatus (c : Cmd)
  /-- FWU_CAMPAIGN_ABORT (R421): Stops a campaign's block frames and aborts targets below ACTIVATING. -/
  | fwuCampaignAbort (c : Cmd)
  /-- TWN_STATUS (R370): Returns the twin roles and the last epoch compared equal. -/
  | twnStatus (c : Cmd)
  /-- TWN_SWITCHOVER (R363): Hands the active role over to an in-sync standby. -/
  | twnSwitchover (c : Cmd)
  /-- TWN_RESYNC (R370): Clears a partner's FAILED state and starts its resynchronisation. -/
  | twnResync (c : Cmd)
  /-- TWN_SET_SOLO (R369): Sets or clears solo operation. -/
  | twnSetSolo (c : Cmd)
  /-- STO_HEALTH (R339): Returns the flash store health record. -/
  | stoHealth (c : Cmd)
  /-- STO_VOLUME_INFO (R339): Returns a volume's exported and used units. -/
  | stoVolumeInfo (c : Cmd)
  /-- STO_READ (R339): Reads units of volume 3. -/
  | stoRead (c : Cmd)
  /-- STO_WRITE (R324): Writes units of volume 3 directly, durable before completion. -/
  | stoWrite (c : Cmd)
  /-- STO_DISCARD (R325): Unmaps a range of volume 3. -/
  | stoDiscard (c : Cmd)
  /-- STO_SET_THRESHOLD (R339): Sets REWRITE_PERCENT. -/
  | stoSetThreshold (c : Cmd)
  /-- PNL_OLED_WRITE (R424): Writes grey levels into the back frame buffer, shown from the next frame start. -/
  | pnlOledWrite (c : Cmd)
  /-- PNL_ANNUNCIATOR (R425): Sets an annunciator channel off, on or blinking, and completes with its read-back. -/
  | pnlAnnunciator (c : Cmd)
  /-- PNL_PLACARD_WRITE (R429): Hands a host placard image to the keeper for the next update. -/
  | pnlPlacardWrite (c : Cmd)
  /-- PNL_STATUS (R438): Returns the panel busy and crack status. -/
  | pnlStatus (c : Cmd)
  /-- TST_RUN (R443): Queues a self-test run of the given partitions and returns RUN_ID. -/
  | tstRun (c : Cmd)
  /-- TST_RESULT (R444): Returns the result of a held run. -/
  | tstResult (c : Cmd)
  /-- TST_COUNTERS (R446): Returns the counters record. -/
  | tstCounters (c : Cmd)
  /-- TST_CALIBRATE (R211): Loads the calibration table, which takes effect at the next whole minute. -/
  | tstCalibrate (c : Cmd)
  /-- REGISTER_WRITE (R11): A write to a register that has no row of its own takes effect as its access code states. -/
  | registerWrite (space : RegSpace) (off size : Nat) (write : Option Nat)
  /-- HOST_ATTACH (R32): The host sets MBX_CONTROL.ATTACHED after programming its rings, and HOST_ATTACH is raised. -/
  | hostAttach
  /-- ORDERLY_DETACH (R52): Writing MBX_CONTROL.DETACH stops fetching from host rings, disables them and records HOST_DETACH. -/
  | orderlyDetach
  /-- SURPRISE_REMOVAL (R52): The PCIe link goes down, and the host rings are stopped and disabled as at a detach. -/
  | surpriseRemoval
  /-- MBX_CR_TAIL_WRITE (R32): The command doorbell adds commands to a ring, or is ignored and sets DOORBELL_RANGE. -/
  | mbxCrTailWrite (ring value : Nat)
  /-- COMMAND_FETCH (R33): A command is fetched once a completion entry has been reserved for it. -/
  | commandFetch (ring : Nat) (f : Fetched)
  /-- MBX_CP_HEAD_WRITE (R32): The completion doorbell frees consumed completion entries. -/
  | mbxCpHeadWrite (ring value : Nat)
  /-- MBX_EV_CONS_WRITE (R32): The event doorbell frees consumed event entries. -/
  | mbxEvConsWrite (value : Nat)
  /-- RING_ENABLE (R482): Setting a command ring's ENABLE starts serving it, or leaves it disabled and sets RING_CONFIG. -/
  | ringEnable (ring value : Nat)
  /-- RING_DISABLE (R35): Clearing a command ring's ENABLE stops fetching and resets its indexes and phase. -/
  | ringDisable (ring value : Nat)
  /-- EVENT_RING_ENABLE (R482): Setting the event ring's ENABLE starts posting, or leaves it disabled and sets RING_CONFIG. -/
  | eventRingEnable (value : Nat)
  /-- EVENT_RING_DISABLE (R35): Clearing the event ring's ENABLE stops posting and returns PROD and CONS to 0. -/
  | eventRingDisable (value : Nat)
  /-- MBX_EV_LOST_READ (R47): Reading MBX_EV_LOST returns the ring-full loss count and clears it. -/
  | mbxEvLostRead
  /-- KPR_HOST_UNLOCK_WRITE (R53): Writing 0xC0DE opens a 10 ms window for one keeper action. -/
  | kprHostUnlockWrite (value : Nat)
  /-- HOST_ACTION_RESET (R53): KPR_HOST_ACTION 1 within the window resets the main domains. -/
  | hostActionReset
  /-- HOST_ACTION_RECOVERY (R404): KPR_HOST_ACTION 2 within the window enters recovery mode. -/
  | hostActionRecovery
  /-- HOST_ACTION_DUMP_JOURNAL (R400): KPR_HOST_ACTION 3 within the window writes the boot journal to the UART. -/
  | hostActionDumpJournal
  /-- REMOTE_CONNECT (R48): A TLS connection is accepted and bound to its ring, or closed with access_denied. -/
  | remoteConnect (session : Nat) (keyId : Bytes)
  /-- REMOTE_MESSAGE (R49): A message arrives on a remote session, and a COMMAND is taken as a command frame. -/
  | remoteMessage (session : Nat) (header body : Bytes)
  /-- REMOTE_KEEPALIVE_TIMER (R49): After 30 s without traffic a KEEPALIVE is sent. -/
  | remoteKeepaliveTimer (session : Nat)
  /-- REMOTE_IDLE_TIMEOUT (R49): A session that has sent nothing for 90 s is closed. -/
  | remoteIdleTimeout (session : Nat)
  /-- REMOTE_CLOSE (R50): A remote session closes; accepted commands still run to completion. -/
  | remoteClose (session reason : Nat)
  /-- QFB_PUSH (R60): A producer pushes the next word of a packet, debiting credits at the packet start. -/
  | qfbPush (queue port : Nat) (word : BitVec 32)
  /-- QFB_END (R61): The END write closes a packet, returns unused cells and makes the packet visible. -/
  | qfbEnd (queue port lastValid : Nat)
  /-- QFB_POP (R62): A consumer pops one 256-bit word and its tag, and the freed credits are returned. -/
  | qfbPop (queue port : Nat) (whole damaged : Bool)
  /-- POP_STALL_RELEASE (R63): A stalled pop returns when a packet becomes visible or the queue is reset or disabled. -/
  | popStallRelease (queue : Nat)
  /-- QFB_DROP (R64): DROP discards the current packet and returns its credits. -/
  | qfbDrop (queue port : Nat)
  /-- QFB_RESET (R65): Writing RESET empties the queue and restores its credits. -/
  | qfbReset (queue : Nat)
  /-- QUEUE_POINTER_MISMATCH (R65): The two pointer copies disagree, and the queue is reset, counted and reported. -/
  | queuePointerMismatch (queue : Nat) (readPointer : Bool)
  /-- QUEUE_ENABLE (R69): Writing CFG with ENABLE 1 takes the configuration and grants credits, or leaves the queue disabled. -/
  | queueEnable (queue value : Nat)
  /-- QUEUE_DISABLE (R69): Writing CFG with ENABLE 0 discards the queue contents and releases a stalled pop. -/
  | queueDisable (queue value : Nat)
  /-- QFB_ERR_READ (R65): Reading QFB_Qn_ERR returns the error counts and clears them. -/
  | qfbErrRead (queue : Nat)
  /-- SCHEDULED_SLOT (R75): A meter's collection slot arrives and starts, merges or defers an exchange. -/
  | scheduledSlot (idx entry : Nat)
  /-- PENDING_SLOT_START (R83): A slot waiting for a session place or for the meter's running session starts its exchange. -/
  | pendingSlotStart (idx : Nat)
  /-- RESPONSE_TIMEOUT (R85): A request's response timeout runs out; the request is resent or the session fails. -/
  | responseTimeout (idx : Nat)
  /-- SESSION_DEADLINE (R85): A session's deadline runs out and the session ends FAILED. -/
  | sessionDeadline (idx : Nat)
  /-- RETRY_GAP_EXPIRY (R76): RETRY_GAP_S after a failed exchange the exchange is retried, or abandoned. -/
  | retryGapExpiry (idx : Nat)
  /-- CIPHER_JOB_COMPLETE (R20): A cipher job result arrives, and a session payload goes on to processing or ends in a security finding. -/
  | cipherJobComplete (d : CipherDone)
  /-- APPEND_GROUP_COMPLETE (R22): An append group completes into the open epoch. -/
  | appendGroupComplete (idx : Nat)
  /-- METER_SILENT (R77): A meter with no successful exchange for SILENT_LIMIT_S raises METER_SILENT once. -/
  | meterSilent (idx : Nat)
  /-- JOIN_REQUEST_RECEIVED (R80): A JOIN_REQUEST moves the record's network state and sends JOIN_ACCEPT or JOIN_REFUSE. -/
  | joinRequestReceived (f : RxFrame)
  /-- JOIN_CONFIRM_RECEIVED (R80): A matching JOIN_CONFIRM makes the record JOINED and raises METER_JOINED or METER_MOVED. -/
  | joinConfirmReceived (f : RxFrame)
  /-- METER_LEAVE_RECEIVED (R80): A LEAVE from a meter returns the record to ADMITTED and quarantines its address. -/
  | meterLeaveReceived (f : RxFrame)
  /-- JOIN_ACCEPT_RESEND (R80): 10 s after a JOIN_ACCEPT with no confirm, it is sent again, up to three sends. -/
  | joinAcceptResend (idx : Nat)
  /-- JOIN_CONFIRM_WINDOW_EXPIRY (R80): No confirm 10 s after the third JOIN_ACCEPT returns the record to ADMITTED. -/
  | joinConfirmWindowExpiry (idx : Nat)
  /-- JOINING_WAIT_AFTER_START (R80): A record committed in JOINING that gets no confirm 10 s into a start returns to ADMITTED. -/
  | joiningWaitAfterStart (idx : Nat)
  /-- QUARANTINE_EXPIRY (R81): A short address leaves quarantine 600 s after it entered. -/
  | quarantineExpiry (net : Net) (short : Nat)
  /-- LAST_GASP_RECEIVED (R250): A meter's last gasp is taken and raises METER_LAST_GASP. -/
  | lastGaspReceived (f : RxFrame)
  /-- ALARM_RECEIVED (R250): A meter alarm is taken and raises METER_ALARM. -/
  | alarmReceived (f : RxFrame)
  /-- DLMS_SEGMENT_RECEIVED (R224): An APDU segment is added to its APDU's reassembly. -/
  | dlmsSegmentReceived (f : RxFrame)
  /-- ANNOUNCEMENT_TIMER (R90): A segment-role chip multicasts its announcement every 10 s, or every 60 s while a head is connected. -/
  | announcementTimer
  /-- ANNOUNCEMENT_RECEIVED (R91): A head opens the upload channel to an announced subordinate listed in its table, or counts the announcement. -/
  | announcementReceived (a : Announcement)
  /-- ADMIT_RECEIVED (R93): A subordinate takes its segment ID, reserves HEAD_RING, answers ADMIT_ACK and starts uploading epochs. -/
  | admitReceived (segment headRing lastAccepted : Nat)
  /-- ADMIT_ACK_RECEIVED (R93): A head raises SUBORDINATE_JOINED on a successful ADMIT_ACK. -/
  | admitAckReceived (segment result oldestHeld : Nat)
  /-- EPOCH_DATA_RECEIVED (R94): A head accepts, discards or refuses an uploaded subordinate epoch. -/
  | epochDataReceived (segment : Nat) (c : Content)
  /-- EPOCH_ACK_RECEIVED (R94): A subordinate advances its upload window, or stops and holds the refused epoch. -/
  | epochAckReceived (epoch result headEpoch : Nat)
  /-- EPOCH_GAP_RECEIVED (R93): A head records SUBORDINATE_EPOCH_GAP and takes TO as the segment's last accepted epoch. -/
  | epochGapReceived (segment fromEpoch toEpoch : Nat)
  /-- UPLOAD_EPOCH_RESEND (R94): Every 60 s a subordinate resends an epoch the head refused for want of records. -/
  | uploadEpochResend
  /-- UPLOAD_CHANNEL_SILENT (R93): An upload channel closed or silent for 90 s raises SUBORDINATE_LOST. -/
  | uploadChannelSilent (segment : Option Nat) (closed : Bool)
  /-- FORWARDED_COMPLETION_RECEIVED (R95): A head completes a forwarded command with the subordinate's completion. -/
  | forwardedCompletionReceived (segment : Nat) (c : Completion)
  /-- EPOCH_BOUNDARY (R97): At a period boundary the open epoch closes and the next opens. -/
  | epochBoundary
  /-- EPOCH_FLUSH_WRITE (R100): The ledger writes the pages of an epoch to the flash store, copy-on-write. -/
  | epochFlushWrite (epoch pages : Nat) (failed : Bool)
  /-- EPOCH_FLUSHED (R98): A closed epoch's pages are flushed and its digest formed; it goes on to comparison or rooting. -/
  | epochFlushed (epoch : Nat)
  /-- EPOCH_COMMIT (R101): The root slot is written and read back equal, and the epoch becomes COMMITTED and readable. -/
  | epochCommit (epoch : Nat) (readBackEqual : Bool)
  /-- HELD_RETRY_TIMER (R99): Every 1 s, and on each stage change, a HELD epoch is retried. -/
  | heldRetryTimer
  /-- COMPARE_WAIT_EXPIRY (R100): 4 ms after a power-fail warning with no partner digest, the epoch roots UNCOMPARED. -/
  | compareWaitExpiry
  /-- CURSOR_EXPIRY (R106): A read cursor with no continuation for 600 s is discarded. -/
  | cursorExpiry (ring opcode : Nat)
  /-- DAILY_RECLAIM (R118): At 00:00 UTC the ledger reclaims segments whose spans ended before the retention ceiling. -/
  | dailyReclaim
  /-- RULE_TABLE_EFFECTIVE (R125): A pending rule table takes effect at its EFFECTIVE instant. -/
  | ruleTableEffective
  /-- TARIFF_TABLE_EFFECTIVE (R146): A pending tariff table takes effect at its EFFECTIVE instant. -/
  | tariffTableEffective
  /-- CALENDAR_EFFECTIVE (R147): A pending calendar takes effect at its EFFECTIVE instant. -/
  | calendarEffective
  /-- BILLING_PERIOD_END (R154): At PERIOD_END the open block becomes SETTLING and the free block opens. -/
  | billingPeriodEnd
  /-- SETTLING_CLOSE (R154): At PERIOD_END + SETTLE_S the settling block closes into a billing snapshot. -/
  | settlingClose
  /-- RATE_SWITCH (R145): A day-profile rate switch takes effect and raises TARIFF_SWITCHED. -/
  | rateSwitch (schedule : Nat)
  /-- DEMAND_WINDOW_CLOSE (R150): A demand window ends and its demand enters the maximum. -/
  | demandWindowClose (schedule : Nat)
  /-- STANDING_CHARGE (R165): The standing charge of a local day is charged and debited. -/
  | standingCharge
  /-- CREDIT_POLICY_EVALUATION (R167): Friendly-window edges and grace ends are evaluated, making a disconnect due. -/
  | creditPolicyEvaluation
  /-- DISCONNECT_DUE (R167): At DUE_AT an exchange starts to send the credit disconnect order. -/
  | disconnectDue (idx : Nat)
  /-- RELAY_FEEDBACK_RECHECK (R169): Feedback read again 5 s later; a second disagreement puts the relay in FAULT. -/
  | relayFeedbackRecheck (idx : Nat) (fb : RxFeedback)
  /-- BALANCE_FIRST_EVALUATION (R181): A balance interval is first evaluated at S + t + 1 s. -/
  | balanceFirstEvaluation (group : Nat) (start : LTime)
  /-- BALANCE_FINAL_EVALUATION (R181): A balance interval is evaluated a last time at S + t + FINAL_AFTER_S and marked FINAL. -/
  | balanceFinalEvaluation (group : Nat) (start : LTime)
  /-- GROUP_TABLE_EFFECTIVE (R172): A pending group table takes effect at the first balance boundary at or after EFFECTIVE. -/
  | groupTableEffective
  /-- PERIODIC_SNAPSHOT (R184): A snapshot is taken without command at each periodic snapshot instant. -/
  | periodicSnapshot (group : Nat)
  /-- SNAPSHOT_ORDER_SEND (R238): SNAPSHOT_ORDER is broadcast at AT - 20 s and at AT - 10 s. -/
  | snapshotOrderSend (id : Nat)
  /-- SNAPSHOT_LATCH (R203): At AT the chip computes and appends the phasors of its own inputs. -/
  | snapshotLatch (id : Nat) (inputs : List (Option Phasor))
  /-- SNAPSHOT_FETCH_START (R239): From AT + 1 s the chip fetches replies from the selected meters, at most 8 outstanding. -/
  | snapshotFetchStart (id : Nat)
  /-- SNAPSHOT_REPLY_RECEIVED (R239): A snapshot reply is accepted into the meter's snapshot state and votes on phase. -/
  | snapshotReplyReceived (f : RxFrame)
  /-- SNAPSHOT_DONE (R184): At AT + 60 s the snapshot ends, SNAPSHOT_DONE is raised and the voltage-drop tests run. -/
  | snapshotDone (id : Nat)
  /-- PHASE_CORRELATION (R188): At 01:00 UTC meters without votes are assigned a phase by voltage correlation. -/
  | phaseCorrelation
  /-- BRANCH_INFERENCE (R189): At 01:00 UTC, after phase correlation, each meter's branch is inferred. -/
  | branchInference
  /-- PEAK_DAY_CLEAR (R195): At each UTC day start the current PEAK_DAY entry is cleared. -/
  | peakDayClear
  /-- METROLOGY_FRAME_RECEIVED (R197): A 125 µs metrology frame with samples and pulse counts crosses the die-to-die link. -/
  | metrologyFrameReceived (m : MetFrame)
  /-- FEEDER_MINUTE_RECORD (R201): At each whole minute the feeder minute record is appended. -/
  | feederMinuteRecord (m : MinuteMeans)
  /-- CALIBRATION_EFFECTIVE (R211): A loaded calibration table takes effect at the next whole minute. -/
  | calibrationEffective
  /-- S0_PULSE (R205): The field die accepts a filtered S0 edge and counts it. -/
  | s0Pulse (input : Nat)
  /-- OWN_RELAY_CURRENT_CHECK (R207): 5 ms into a coil pulse the current is checked for an open coil. -/
  | ownRelayCurrentCheck (relay ma : Nat)
  /-- COIL_OVERCURRENT (R207): A coil current above 400 mA is cut within 10 µs and the sequence faults SHORT_COIL. -/
  | coilOvercurrent (relay ma : Nat)
  /-- OWN_RELAY_PULSE_END (R207): The coil pulse ends after PULSE_MS. -/
  | ownRelayPulseEnd (relay peakMa : Nat)
  /-- OWN_RELAY_AUX_CHECK (R207): 20 ms after the pulse the auxiliary contact is judged and the sequence completes, repeats or faults. -/
  | ownRelayAuxCheck (relay : Nat) (closed : Bool)
  /-- OWN_RELAY_REPULSE (R207): 500 ms after a first pulse that did not move the relay the pulse is repeated. -/
  | ownRelayRepulse (relay : Nat)
  /-- AUX_UNSTABLE_TIMEOUT (R207): An auxiliary contact not stable within 100 ms of the pulse end faults AUX_UNSTABLE. -/
  | auxUnstableTimeout (relay : Nat)
  /-- AUX_CONTACT_CHANGE (R209): A contact changing with no command running is taken as the relay state and raises RELAY_FAULT. -/
  | auxContactChange (relay : Nat) (closed : Bool)
  /-- ZITHER_FRAME_RECEIVED (R219): A PLC frame is acknowledged, checked under R18 and queued by class. -/
  | zitherFrameReceived (f : RxFrame)
  /-- ZITHER_TRANSMIT (R217): A queued PLC frame is sent under CSMA-CA in strict priority. -/
  | zitherTransmit (limited : Bool)
  /-- ZITHER_ACK_TIMEOUT (R218): An unacknowledged unicast PLC frame is resent more robustly, and after the fifth send its route fails. -/
  | zitherAckTimeout (hop : Nat)
  /-- TONE_MAP_REQUEST_RECEIVED (R227): The chip builds and returns a tone map to a neighbour that asks. -/
  | toneMapRequestReceived (short : Nat) (snrDb : List Int)
  /-- TONE_MAP_RESPONSE_RECEIVED (R228): A tone map response makes the neighbour's tone map VALID. -/
  | toneMapResponseReceived (short mod map cap lqi attenDb : Nat)
  /-- TONE_MAP_REQUEST_TIMEOUT (R228): 5 s without a response the request is repeated, and after three the map returns to NONE. -/
  | toneMapRequestTimeout (short : Nat)
  /-- TONE_MAP_HOLDOFF_EXPIRY (R228): 60 s after a third unanswered request a new request is sent. -/
  | toneMapHoldoffExpiry (short : Nat)
  /-- TONE_MAP_REFRESH (R228): At TM_AT + REFRESH_S the tone map is requested again. -/
  | toneMapRefresh (short : Nat)
  /-- LINK_PROBE (R228): 100 ms with no frame queued for the neighbour sends the tone map request in a LINK_PROBE. -/
  | linkProbe (short : Nat)
  /-- NEIGHBOUR_EXPIRY (R225): A neighbour entry unheard for 3,600 s is removed. -/
  | neighbourExpiry (net : Net) (short : Nat)
  /-- ROUTE_REPORT_RECEIVED (R232): A meter's report replaces its links, and routes are recomputed. -/
  | routeReportReceived (f : RxFrame)
  /-- ROUTE_SET (R234): A changed route is sent to its meter, at most once in 60 s unless the old route failed. -/
  | routeSet (net : Net) (short : Nat)
  /-- ROUTE_ERROR_RECEIVED (R235): A ROUTE_ERROR fails the named link and moves the route to another path or to REPAIRING. -/
  | routeErrorReceived (f : RxFrame)
  /-- ROUTE_REPAIR_TIMEOUT (R235): 30 s of REPAIRING without a usable route makes the route UNREACHABLE. -/
  | routeRepairTimeout (net : Net) (short : Nat)
  /-- LINK_FAIL_EXPIRY (R235): A failed link becomes usable again after 600 s. -/
  | linkFailExpiry (net : Net) (src dst : Nat)
  /-- CURRENT_LIMIT_RESTORE (R230): Each 60 s with no limited frame restores 1 dB of transmit level. -/
  | currentLimitRestore
  /-- LYRE_FRAME_RECEIVED (R249): A radio frame is acknowledged, checked against the seen cache and R18, and queued by class. -/
  | lyreFrameReceived (f : RxFrame)
  /-- LYRE_TRANSMIT (R244): A queued radio frame is sent under unslotted CSMA-CA. -/
  | lyreTransmit (airtime : Nat)
  /-- LYRE_ACK_TIMEOUT (R244): An unacknowledged unicast radio frame is resent, and its fourth failure fails the route. -/
  | lyreAckTimeout (hop airtime : Nat)
  /-- DUTY_BUDGET_RELEASE (R245): A frame held by the duty budget is sent once the budget admits it. -/
  | dutyBudgetRelease
  /-- LYRE_BEACON_TIMER (R246): Every BEACON_S the chip sends its enhanced beacon. -/
  | lyreBeaconTimer
  /-- SEEN_CACHE_EXPIRY (R249): A seen-cache entry leaves after 60 s. -/
  | seenCacheExpiry (orig : Addr) (ctr : Nat)
  /-- CHECK_IN_RECEIVED (R255): A sleepy meter's CHECK_IN opens a reply window and gives a clock offset. -/
  | checkInReceived (f : RxFrame)
  /-- INSTALL_BEACON_RECEIVED (R247): An INSTALL_BEACON is recorded among the 64 recent senders and gets no answer. -/
  | installBeaconReceived (f : RxFrame) (measured : Int)
  /-- DLMS_PUSH_RECEIVED (R252): A stateless-only meter's push is handled as one exchange in one append group. -/
  | dlmsPushReceived (f : RxFrame) (authFail : Bool) (r : Response)
  /-- RENDEZVOUS_ORDER_SEND (R257): At least 2 s before a train the chip orders a meter parent to send it. -/
  | rendezvousOrderSend (idx : Nat)
  /-- RENDEZVOUS_TRAIN_START (R257): A wake train of WAKE frames starts at t_pred - H. -/
  | rendezvousTrainStart (idx : Nat)
  /-- WAKE_ACK_RECEIVED (R257): A WAKE_ACK gives a new offset and opens the meter's session. -/
  | wakeAckReceived (f : RxFrame)
  /-- RENDEZVOUS_TRAIN_FAILED (R258): No WAKE_ACK by the train's end raises the ladder step, or makes the rendezvous LOST. -/
  | rendezvousTrainFailed (idx : Nat)
  /-- PTP_MESSAGE_RECEIVED (R271): A PTP message gives an offset measurement that the servo slews, steps or locks on. -/
  | ptpMessageReceived (m : PtpMsg)
  /-- TRANSPARENT_CLOCK_FORWARD (R277): A PTP message is forwarded between the ports with its residence time added. -/
  | transparentClockForward (m : TcMsg)
  /-- PTP_ANNOUNCE_TIMEOUT (R275): Announce receipt timeout is loss of the source and the servo enters HOLDOVER. -/
  | ptpAnnounceTimeout
  /-- HOLDOVER_TIMEOUT (R271): HOLDOVER lasting HOLDOVER_S ends in FREE_RUN. -/
  | holdoverTimeout
  /-- PPS_EDGE (R279): A TS_PPS_IN edge is captured and taken as the nearest whole second, or discarded. -/
  | ppsEdge
  /-- PPS_LOSS (R279): No accepted 1PPS edge for 1.5 s is loss of the 1PPS source. -/
  | ppsLoss
  /-- PPS_OUT_PULSE (R279): TS_PPS_OUT rises at each whole second of chip time for WIDTH_MS. -/
  | ppsOutPulse
  /-- TS_RATE_WRITE (R264): A write of RATE re-anchors chip time and changes its rate without a step. -/
  | tsRateWrite (value : Nat)
  /-- TS_STEP (R264): Writing TS_CTRL.STEP adds the signed step to chip time at the next counter edge. -/
  | tsStep
  /-- TS_COUNT_LO_READ (R265): Reading TS_COUNT_LO latches TS_COUNT_HI. -/
  | tsCountLoRead
  /-- TS_NOW_NS_READ (R265): Reading TS_NOW_NS latches both seconds registers. -/
  | tsNowNsRead
  /-- TS_PPS_IN_READ (R265): Reading TS_PPS_IN_NS returns the capture and clears VALID. -/
  | tsPpsInRead
  /-- LEAP_SECOND (R267): A leap second is inserted or deleted, and the boundaries it affects are taken. -/
  | leapSecond
  /-- RTC_TRIM (R274): Once a second the keeper RTC is trimmed to chip time. -/
  | rtcTrim
  /-- TIME_BEACON_SEND (R283): A TIME_BEACON is scheduled and started on each enabled network. -/
  | timeBeaconSend (net : Net) (channelBusy : Bool) (airtime : Nat)
  /-- BEACON_DROP_TIMEOUT (R284): A beacon not on air within 20 ms, or 200 ms in a burst, is dropped. -/
  | beaconDropTimeout (net : Net)
  /-- PREV_BKEY_EXPIRY (R299): Seven days after a broadcast key change, or when all meters have rejoined, the previous key stops being used. -/
  | prevBkeyExpiry
  /-- PUBLIC_KEY_JOB_COMPLETE (R311): A public-key job result arrives on queue 41. -/
  | publicKeyJobComplete (j : JobResult)
  /-- NAND_PROGRAM_COMPLETE (R324): A word line reports program success and its units become durable. -/
  | nandProgramComplete (us : List UnitAt)
  /-- NAND_PROGRAM_FAIL (R332): A program failure places the units anew and retires the block. -/
  | nandProgramFail (stream : Nat) (u : UnitAt)
  /-- NAND_ERASE_FAIL (R332): An erase failure retires the block at once. -/
  | nandEraseFail (channel enable block : Nat)
  /-- NAND_READ (R327): A unit read climbs the read ladder until its tag verifies, or is lost. -/
  | nandRead (u : UnitAt) (o : ReadOutcome)
  /-- PATROL_READ (R328): Patrol reads each programmed word line once every PATROL_DAYS. -/
  | patrolRead (u : UnitAt) (o : ReadOutcome)
  /-- COLLECTION_START (R330): Free superblocks below 4 % start collection of the victim superblock. -/
  | collectionStart (victim : Nat) (us : List UnitAt)
  /-- COLLECTION_COPY_VERIFIED (R330): A verified copy updates its map or relocation entry, and the source is erased when all are done. -/
  | collectionCopyVerified (source dest : UnitAt) (onlyRetained : Bool)
  /-- COLLECTION_TARGET_FAIL (R331): A block failing as a collection target is retired and the copy restarts elsewhere. -/
  | collectionTargetFail (channel enable block : Nat)
  /-- WEAR_LEVEL_MOVE (R329): An erase-count spread above 150 moves the least-worn superblock. -/
  | wearLevelMove (victim : Nat) (us : List UnitAt)
  /-- TARGET_NO_ANSWER (R333): A target failing to answer three times running, or losing 16 blocks in 24 h, is retired and rebuilt. -/
  | targetNoAnswer (channel enable : Nat)
  /-- STORE_STAGE_CHANGE (R334): The store's space figures move it to a new exhaustion stage and STORE_STAGE is raised. -/
  | storeStageChange (f : StoreFigures) (stepsSpent : Bool)
  /-- SALVAGE_TIMER (R334): FULL held for SALVAGE_AFTER_S enters SALVAGE. -/
  | salvageTimer
  /-- HELLO_RECEIVED (R345): A partner's HELLO is taken for negotiation. -/
  | helloReceived (h : Hello)
  /-- HELLO_AUTH_RECEIVED (R345): The partner's signature is checked, the checks of Table TW.5 run and the role is decided. -/
  | helloAuthReceived (signatureOk : Bool)
  /-- HEARTBEAT_RECEIVED (R343): A HEARTBEAT carries roles, watermark and counter reservations. -/
  | heartbeatReceived (self partner epochHigh watermark zitherCtr lyreCtr : Nat)
  /-- HEARTBEAT_SEND (R343): Each chip sends HEARTBEAT at least every 100 µs. -/
  | heartbeatSend
  /-- TWILL_TIME_RECEIVED (R280): A TIME exchange keeps the standby's chip time within 50 ns of the active. -/
  | twillTimeReceived (offsetNs : Int)
  /-- INPUT_RECEIVED (R349): The standby takes the next input of the active's stream and processes it in order. -/
  | inputReceived (seq : Nat) (arrival : LTime) (input : TwinInput)
  /-- APPEND_MARK_RECEIVED (R351): The standby places an append group in the epoch that the mark names. -/
  | appendMarkReceived (key epoch : Nat)
  /-- CLOSE_RECEIVED (R351): The standby closes its epoch as the active did. -/
  | closeReceived (epoch : Nat) (closed : LTime) (cause : Nat)
  /-- LEAVE_SYNC_RECEIVED (R353): The partner reports that it left sync. -/
  | leaveSyncReceived (reason epoch : Nat)
  /-- PARTNER_EVENT_RECEIVED (R349): The active appends a standby hardware event with SOURCE + 0x80. -/
  | partnerEventReceived (e : EvRec)
  /-- FRAME_DIGEST_RECEIVED (R354): The standby matches a transmit frame digest with its own frame. -/
  | frameDigestReceived (net : Net) (typ : Nat) (dest : Bytes) (n : Nat) (digest : Bytes)
  /-- FRAME_DIGEST_UNMATCHED (R354): A digest left unmatched for 1 s is a FRAME divergence. -/
  | frameDigestUnmatched (net : Net) (typ : Nat) (dest : Bytes) (n : Nat)
  /-- EPOCH_DIGEST_RECEIVED (R355): A partner's epoch digest is compared; equal roots the epoch, different starts arbitration. -/
  | epochDigestReceived (epoch : Nat) (digest : Bytes)
  /-- DIGEST_WAIT_EXPIRY (R353): No digest or LEAVE_SYNC within 15 ms of CLOSE treats the standby as out of sync. -/
  | digestWaitExpiry
  /-- DIVERGED_RECEIVED (R357): A partner's divergence report starts the arbitration run. -/
  | divergedReceived (kind ref : Nat)
  /-- SIGNATURE_RECEIVED (R357): The partner's self-test signature is judged and the arbitration outcome applied. -/
  | signatureReceived (run passed failed : Nat) (signature : Bytes)
  /-- ARBITRATION_TIMEOUT (R357): A signature missing 100 ms after a divergence counts as failed. -/
  | arbitrationTimeout
  /-- SWITCHOVER_RECEIVED (R363): The standby takes part in a switchover for the named epoch. -/
  | switchoverReceived (epoch : Nat)
  /-- TAKEOVER_RECEIVED (R358): An active receiving TAKEOVER steps down. -/
  | takeoverReceived (firstEpoch inputSeq epochHigh : Nat)
  /-- RESYNC_ROOTS_RECEIVED (R364): The active picks FROM_EPOCH from the standby's roots and sends its plan. -/
  | resyncRootsReceived (roots : List (Nat × Bytes))
  /-- RESYNC_PLAN_RECEIVED (R364): The standby discards epochs above FROM_EPOCH and mounts that root. -/
  | resyncPlanReceived (full : Bool) (fromEpoch : Nat)
  /-- RESYNC_UNITS_RECEIVED (R366): The standby stores units of a full resynchronisation. -/
  | resyncUnitsReceived (volume lba : Nat) (units : List Bytes) (copied : Option (Root × LState))
  /-- RESYNC_EPOCH_RECEIVED (R365): The standby commits a sent epoch under the active's number and digest. -/
  | resyncEpochReceived (c : Content)
  /-- RESYNC_DONE_RECEIVED (R367): The standby joins the input stream at the next boundary. -/
  | resyncDoneReceived (lastSent : Nat)
  /-- TWILL_RETRANSMIT (R344): A frame not acknowledged within 20 µs is resent, and after 8 resends it is missing. -/
  | twillRetransmit (linkSeq : Nat)
  /-- TWILL_LINK_SILENT (R343): No valid Twill frame for 2 ms makes the link silent. -/
  | twillLinkSilent
  /-- ALIVE_PULSE (R342): The active pulls TWL_ALIVE low for 250 µs in every 500 µs. -/
  | alivePulse
  /-- TWL_INHIBIT_SENSED (R359): A standby sensing the partner's TWL_INHIBIT_N low takes over. -/
  | twlInhibitSensed (roleLow : Bool)
  /-- TWL_ALIVE_SILENT (R359): TWL_ALIVE silent for 2 ms takes over if the link is silent too, otherwise raises TWIN_STATE. -/
  | twlAliveSilent (roleLow : Bool)
  /-- POWER_FAIL_WARNING (R380): A rail falls below its warning threshold; the epoch closes, relays are held and transmitters stop. -/
  | powerFailWarning (rail mv : Nat)
  /-- DIP_HOLD_END (R380): Rails stable for 2 ms end the hold; relays are released, transmitters resume and SUPPLY_DIP is appended. -/
  | dipHoldEnd (minMv : List Nat)
  /-- DEGRADED_CAUSE_END (R381): 600 s without a dip ends degraded cause 0x0001. -/
  | degradedCauseEnd
  /-- MAIN_SUPPLY_RESET (R382): VDDIO_33 at its reset threshold resets the main domains and field die and records POWER_FAIL. -/
  | mainSupplyReset (mainMv fieldMv : Nat)
  /-- FIELD_SUPPLY_RESET (R383): VDD_FIELD at its reset threshold resets the field die. -/
  | fieldSupplyReset (mv : Nat)
  /-- FIELD_DIE_RELEASE (R383): VDD_FIELD above 10.7 V for 2 ms releases the field die and retrains the link. -/
  | fieldDieRelease
  /-- KEEPER_POWER_ON (R393): VDD_KPR rising through its power-on level resets every scope. -/
  | keeperPowerOn (rtcKept : Bool)
  /-- SYS_RESET_N_LOW (R393): SYS_RESET_N low for at least 1 µs resets the main domains and field die. -/
  | sysResetNLow
  /-- PCIE_HOT_RESET (R393): A hot reset or PCIE_PERST_N resets only the PCIe endpoint. -/
  | pcieHotReset
  /-- DELAYED_RESET (R395): DELAY_MS after the commit of a SYS_RESET the keeper carries out the reset. -/
  | delayedReset
  /-- TAMPER_ACCEPTED (R378): An enabled tamper input active for 32 samples is latched and may zeroise the keys. -/
  | tamperAccepted (input : Nat)
  /-- APP_WATCHDOG_EXPIRY (R376): The application watchdog expires; step-down if active, then reset of the main domains. -/
  | appWatchdogExpiry
  /-- TWIN_WATCHDOG_EXPIRY (R358): The twin watchdog unserviced for 20 ms makes the active step down. -/
  | twinWatchdogExpiry
  /-- KEEPER_WATCHDOG_EXPIRY (R376): The keeper core restarts from ROM and resumes its duties. -/
  | keeperWatchdogExpiry
  /-- BRIDGE_TIMEOUT (R375): A keeper bridge access times out after 1 ms and the duty's fall-back is taken. -/
  | bridgeTimeout (domain : Nat) (stepDown : Bool)
  /-- CLOCK_STOPPED (R387): No edge of a domain clock for 2 µs clears its RUNNING bit. -/
  | clockStopped (domain : Nat)
  /-- KPR_WDT_KICK_WRITE (R376): A write services the application core or twin watchdogs. -/
  | kprWdtKickWrite (value : Nat)
  /-- KPR_REQUEST_RESET (R385): KPR_REQUEST ACTION 1 resets the main domains. -/
  | kprRequestReset
  /-- KPR_REQUEST_RECOVERY (R404): KPR_REQUEST ACTION 2 enters recovery mode. -/
  | kprRequestRecovery
  /-- KPR_REQUEST_FAULT_CODE (R377): KPR_REQUEST ACTION 3 shows a fault code on the placard. -/
  | kprRequestFaultCode (code : Nat)
  /-- KPR_REQUEST_STEP_DOWN (R363): KPR_REQUEST ACTION 4 carries out step-down orders 1 to 4 without reset. -/
  | kprRequestStepDown
  /-- KPR_DIP_MIN_READ (R385): Reading KPR_DIP_MIN returns the lowest rail voltages and resets them. -/
  | kprDipMinRead
  /-- KPR_BRIDGE_READ (R375): Reading KPR_BRIDGE returns the bridge timeouts and clears them. -/
  | kprBridgeRead
  /-- KPR_CLOCK_STATUS_READ (R392): Reading KPR_CLOCK_STATUS returns the domains' clock state and clears LOST. -/
  | kprClockStatusRead
  /-- D2D_LINK_LOST (R15): No valid die-to-die frame for 500 µs stops PLC transmit, marks samples missing, freezes pulses and retrains. -/
  | d2dLinkLost
  /-- D2D_RETRAIN_DONE (R15): A retrain succeeding within 100 ms resumes service. -/
  | d2dRetrainDone
  /-- D2D_RETRAIN_FAIL (R15): A retrain failing after 100 ms leaves the field die without service. -/
  | d2dRetrainFail
  /-- START_MAIN_DOMAINS (R396): Once the release conditions hold, a start of the main domains begins at S0. -/
  | startMainDomains
  /-- STAGE_COMPLETE (R396): A start stage finishes its work and the next stage begins. -/
  | stageComplete (r : StageReport)
  /-- STAGE_LIMIT_EXPIRY (R396): A stage still running at its limit fails. -/
  | stageLimitExpiry
  /-- STAGE_FAILURE (R401): A failed stage ends the start, sets alternatives and counts, and resets the main domains. -/
  | stageFailure (code : Nat)
  /-- DEBUG_TOKEN_RECEIVED (R398): A debug token on the UART at S0 is checked and may enable debug. -/
  | debugTokenReceived (token : Bytes)
  /-- RECOVERY_ENTRY (R404): Recovery mode is entered and the ROM recovery loader runs. -/
  | recoveryEntry
  /-- LOADER_ANNOUNCE_TIMER (R416): The loader sends ANNOUNCE every 1 s until an OFFER arrives. -/
  | loaderAnnounceTimer
  /-- LOADER_OFFER (R416): An OFFER restarts the staging area. -/
  | loaderOffer (ethernet : Bool) (total : Nat)
  /-- LOADER_DATA (R416): A DATA message is written and acknowledged, acknowledged again, or refused. -/
  | loaderData (ethernet : Bool) (offset : Nat) (bytes : Bytes)
  /-- LOADER_FINISH (R416): FINISH verifies the package and answers DONE. -/
  | loaderFinish (ethernet : Bool)
  /-- LOADER_OFFER_ABANDON (R416): An OFFER without traffic for 60 s is abandoned. -/
  | loaderOfferAbandon
  /-- LOADER_RESET (R416): 100 ms after a successful DONE the loader ends recovery with a MAIN reset. -/
  | loaderReset
  /-- CAMPAIGN_ROUND_START (R419): A campaign round begins sending its blocks. -/
  | campaignRoundStart (campaign : Nat)
  /-- CAMPAIGN_BLOCK_PACE (R419): Each PACE_MS the next IMAGE_BLOCK frame is sent. -/
  | campaignBlockPace (campaign : Nat)
  /-- CAMPAIGN_ROUND_GAP (R419): ROUND_GAP_S after a round the missing blocks of each target are read. -/
  | campaignRoundGap (campaign : Nat)
  /-- CAMPAIGN_ACTIVATE_AT (R420): At ACTIVATE_AT activation orders start. -/
  | campaignActivateAt (campaign : Nat)
  /-- OLED_FRAME_START (R424): At each frame start pending writes are applied and the buffers swap. -/
  | oledFrameStart
  /-- BLINK_PHASE (R425): Blinking annunciators change phase on the chip-time grid. -/
  | blinkPhase
  /-- ANNUNCIATOR_MEASUREMENT (R426): A channel is measured, and two faulty readings raise ANNUNCIATOR_FAULT. -/
  | annunciatorMeasurement (channel currentPct pinMv : Nat)
  /-- PLACARD_UPDATE_START (R430): The keeper starts a placard update toward a target image. -/
  | placardUpdateStart (allBad : Bool) (bad : List Nat)
  /-- PLACARD_PHASE_END (R431): A placard phase ends, the accounts are written and the next phase starts. -/
  | placardPhaseEnd
  /-- CRACK_SAMPLE (R436): Every 100 ms a crack loop is sensed, and a change to open raises PANEL_CRACK. -/
  | crackSample (panel : Nat) (open_ : Bool)
  /-- SELF_TEST_PARTITION_END (R441): A self-test partition ends with its outcome, and the next starts. -/
  | selfTestPartitionEnd (r : PartResult)
  /-- COALESCED_INTERRUPT_TIMER (R31): COAL_TIME after the first uncounted completion, the ring's coalesced MSI-X interrupt is sent even though COAL_COUNT + 1 completions have not been reached. -/
  | coalescedInterruptTimer (ring : Nat)
  /-- UPLOAD_CHANNEL_CONNECT (R91): A subordinate receives the head's TLS connection on UPLOAD_PORT and completes the handshake only if the head's key identifier matches HEAD_BINDING. -/
  | uploadChannelConnect (keyId : Bytes)
  /-- SNAPSHOT_FETCH_TIMEOUT (R239): A SNAPSHOT_FETCH unanswered within the class response timeout is sent a second time, or the meter counts as not latched, and the next fetch may start. -/
  | snapshotFetchTimeout (idx : Nat)
  /-- TWL_ALIVE_LOW_SAMPLED (R358): An active chip that samples TWL_ALIVE low in a half-period it released steps down. -/
  | twlAliveLowSampled
  /-- CLAIM_COIL_WAIT (R360): 25 ms after a claim at which the partner's TWL_ROLE was found released, the new active is permitted to energise relay coils. -/
  | claimCoilWait
  /-- RELAY_PULSE_GAP (R207): Once the 50 ms gap across both relays, or the 500 ms gap on one relay, has passed, the next waiting own-relay sequence energises its coil. -/
  | relayPulseGap (relay : Nat)
  /-- CLOCK_RETURN (R392): A stopped domain clock runs again, its RUNNING bit is set, and accesses waiting on it complete. -/
  | clockReturn (domain : Nat)
  /-- PCIE_LINK_UP (R52): PCIE_PERST_N rises and the PCIe link trains, and READY and host attach then become possible. -/
  | pcieLinkUp
  /-- DELAY_REQ_TIMER (R275): At each logMinDelayReqInterval, or each 1 s under POWER_UTILITY, the slave sends its Delay_Req or Pdelay_Req. -/
  | delayReqTimer
  /-- COMMAND_DEADLINE_EXPIRY (R84): A field-work command still waiting for the meter's running session, or for a relay to leave DISCONNECTING or RECONNECTING, reaches its DEADLINE and completes with a FIELD_NETWORK result. -/
  | commandDeadlineExpiry (ring tag : Nat)
  /-- STANDBY_DIGEST_DEADLINE (R353): A standby that has not sent the digest of a closed epoch 15 ms after CLOSE leaves sync, sends LEAVE_SYNC and resynchronises. -/
  | standbyDigestDeadline
  /-- NAND_ERASE_COMPLETE (R330): A block erase reports success and the block returns to the free pool with its erase count raised. -/
  | nandEraseComplete (channel enable block : Nat)
  /-- LOADER_LINK_SEARCH (R415): After 2 s without a link in one mode, the recovery loader tries the next Ethernet mode or port. -/
  | loaderLinkSearch (found : Bool)
  /-- KEEPER_SUPPLY_LOSS (R458): VDD_KPR falls below 1.62 V, the keeper enters reset, and the device drives no output. -/
  | keeperSupplyLoss
  /-- ETHERNET_LINK_CHANGE (R90): An Ethernet port gains or loses its link, which changes where announcements go and whether the transparent clock forwards. -/
  | ethernetLinkChange (port : Nat) (up : Bool)
  deriving DecidableEq, Repr

end Sys2Proof
end

