-- ==== Sys2Proof/Machine/State.lean ====
section
/-! DEFINITION. The state of the block, its stops, and the state after reset. -/

namespace Sys2Proof.Machine

/-- What manufacture fixes (Tables CI.2, CI.3, CI.14, R215, R472): ORDERING, REVISION, UID, factory EUI-64, and the DRAM
fitted on the board in GiB. -/
structure Fuse where
  ordering : Nat
  revision : Nat
  uid : Bytes
  eui : Bytes
  dramGib : Nat
  deriving DecidableEq, Repr

/-- DESIGN CHOICE (log entry 6): a first-silicon CS8840-H with UID and EUI-64 zero and 4 GiB of DRAM. -/
def Fuse.reset : Fuse := ⟨0x48, 1, zeros 16, zeros 8, 4⟩

/-- Why a step stops. No rule of the spec stops the block, so no meaning answers with a fault; the one constructor keeps
the interface's type inhabited. Raised by nobody: safe. -/
inductive Fault where
  /-- Raised by no command. Safe. -/
  | unreachable
  deriving DecidableEq, Repr

/-- Why a command has no meaning. -/
inductive Refusal where
  /-- Raised by exec's arm of a command that the model does not give a meaning yet. Safe: the run stops. -/
  | notModelled (mnemonic : String)
  deriving DecidableEq, Repr

/-- The whole state of the block. -/
structure State where
  /-- Commands waiting, first in first out (the model's own queue). -/
  pending : List Instr
  /-- Counter of the free values drawn (the model's own). -/
  fresh : Nat
  /-- Physical time in units of 4 ns (the model's own). -/
  clk : Nat
  /-- Everything emitted, oldest first (the model's own record of the outputs). -/
  out : List Output
  fuse : Fuse
  bar0 : Bar0
  inflight : List InFlight
  nextSeq : Nat
  remotes : List Remote
  uploadSub : UploadSub
  uploadHeads : List UploadHead
  fabric : List Queue
  led : Ledger
  meters : Meters
  balance : BalanceRun
  met : Metrology
  zither : Modem
  rf : Modem
  lyre : Lyre
  tb : Timebase
  time : TimeRun
  keys : Keys
  store : Store
  twin : Twin
  /-- Input of the active that a resynchronising standby buffers (R367). -/
  twinBuffer : List TwinItem
  keeper : Keeper
  boot : Boot
  fw : Firmware
  panel : Panel
  selfTest : SelfTest
  counters : Counters
  d2d : D2D
  /-- Ethernet link of each port (R90). -/
  ethLinks : List Bool
  deriving DecidableEq, Repr

/-- BAR0 at the reset values of Tables CI.2 to CI.10; the link is down. Each MSI-X vector is masked. PRESUMED: the
reset value of the PCI Express Base Specification's vector control (log entry 6). -/
def Bar0.reset : Bar0 :=
  ⟨0, false, 0, 0, List.replicate 16 Ring.reset, EvRing.reset,
    (List.range 128).map fun i => if i % 4 = 3 then 1 else 0, 0, false⟩

/-- A subordinate's upload side with no head connected (R90). -/
def UploadSub.reset : UploadSub := ⟨false, [], none, 0, 0, none, 0, 0, 0, 0⟩

/-- A modem with nothing heard, nothing queued and its counters at zero (R222, R223). -/
def Modem.reset : Modem :=
  { enabled := true, stopped := false, rx := [], queues := [[], [], [], []], onAir := [], neighbours := [], links := [],
    routes := [], proxyRoutes := [], highest := [], window := [], nextCtr := 1, reservedEnd := 0, usableEnd := 0,
    heardChipCtr := 0, attenExtra := 0, lastLimited := 0, counters := MacCounters.zero }

/-- Lyre's own state with nothing heard. -/
def Lyre.reset : Lyre := ⟨[], ⟨[], []⟩, [], [], 0⟩

/-- The supervisor right after keeper power-on: KPR_DIP_MIN at 0xFFFF each (Table KP.7), no dip; the relays are held (Table KP.2). -/
def Supply.reset : Supply :=
  ⟨true, false, false, false, false, false, 0, [], 0, [0xFFFF, 0xFFFF], [], 0, 0, true⟩

/-- The keeper right after its power-on: APP_PERIOD_MS 10,000 and everything else 0 (Tables KP.7, KP.9). -/
def Keeper.reset : Keeper :=
  { supply := Supply.reset, appPeriodMs := 10000, appKicks := [], appArmed := false, twinKick := 0, tamperActive := 0,
    tamperLatched := 0, tamperCfg := 0, faultCode := 0, codeRaised := false, degraded := [],
    lastDip := 0, watchdogTimes := [], delayedReset := none, resetWanted := none, rtcValid := false, rtc := 0,
    bridgeTimeouts := 0, clockLost := 0, clockRunning := 0, unlockUntil := none, appWdtMs := 2000,
    appWdtVersion := 0, tamperVersion := 0 }

/-- The start-up state right after keeper power-on: main domains held, nothing started (R394, R396). -/
def Boot.reset : Boot :=
  { phase := .held, stage := 0, stageAt := 0, passed8 := false, altApplied := 0, debug := false, debugDecided := false,
    releaseAt := 0, openedFirst := false, owed := [], journal := Journal.blank, unreported := [],
    headRole := false, firstEpoch := 0, startItems := [] }

/-- The die-to-die link before its first training (R14). -/
def D2D.reset : D2D := ⟨false, 0, false⟩

/-- The block right after keeper power-on of a device as shipped: BLANK, main domains held, queue empty. -/
def State.reset : State :=
  { pending := [], fresh := 0, clk := 0, out := [], fuse := Fuse.reset, bar0 := Bar0.reset, inflight := [],
    nextSeq := 1, remotes := [], uploadSub := UploadSub.reset, uploadHeads := [],
    fabric := List.replicate 128 Queue.reset, led := Ledger.blank, meters := Meters.blank,
    balance := BalanceRun.blank, met := Metrology.blank, zither := Modem.reset, rf := Modem.reset,
    lyre := Lyre.reset, tb := Timebase.reset, time := TimeRun.blank, keys := Keys.blank, store := Store.blank,
    twin := Twin.blank, twinBuffer := [], keeper := Keeper.reset, boot := Boot.reset, fw := Firmware.blank, panel := Panel.blank,
    selfTest := SelfTest.blank, counters := Counters.zero, d2d := D2D.reset, ethLinks := [false, false] }

end Sys2Proof.Machine
end

