-- ==== Sys2Proof/Decode.lean ====
section
/-! DEFINITION. The decoder over the rows that give bits: spec/opcode_table.json gives none of its 333 rows bits, so no
word spells a command. -/

namespace Sys2Proof

/-- The command that a word spells by the table's bits: none, since no row of the table has bits (log entry 2). -/
def decodeTableWord (_nbits _w : Nat) : Option Instr := none

end Sys2Proof
end

