-- ==== Sys2Proof/Machine/Clock.lean ====
section
/-! DEFINITION. Chip time, LTIME, the UTC count and local time (12_time R263, R266, R267, R269, R478), and civil dates. -/

namespace Sys2Proof.Machine

/-- T(C) in 2^-16 ns (R263). -/
def chipT (tb : Timebase) : Int :=
  let d : Int := (tb.c : Int) - tb.c0
  tb.t0 + d * 4 * 65536 + (d * tb.rate) / 250000000

/-- Chip time in ns, floor(T / 65,536) (R263). -/
def chipNs (tb : Timebase) : Nat := (chipT tb / 65536).toNat

/-- Whole seconds of the timebase (R263). -/
def chipSec (tb : Timebase) : Nat := chipNs tb / 1000000000

/-- Nanoseconds of the second (R263). -/
def chipSubNs (tb : Timebase) : Nat := chipNs tb % 1000000000

/-- The LTIME of a count of ns since 1970 TAI (R266). -/
def ltimeOfNs (ns : Nat) : LTime :=
  (ns / 1000000000 - 946684800) * 65536 + (ns % 1000000000) * 65536 / 1000000000

/-- Chip time as LTIME (R266). -/
def now (s : State) : LTime := ltimeOfNs (chipNs s.tb)

/-- Ticks of the model's clock (4 ns) in a count of ms. -/
def msTicks (n : Nat) : Nat := n * 250000

/-- Ticks of the model's clock in a count of µs. -/
def usTicks (n : Nat) : Nat := n * 250

/-- Ticks of the model's clock in a count of s. -/
def secTicks (n : Nat) : Nat := n * 250000000

/-- Ticks of the model's clock in a span of LTIME units, rounded up. -/
def ltTicks (n : Nat) : Nat := ceilDiv (n * 250000000) 65536

/-- The value of a configuration item as it was set, if it ever was. -/
def LState.itemRaw (l : LState) (item : Nat) : Option Bytes := (lookupNat item l.config).map (·.2)

/-- The version of a configuration item (R42). -/
def LState.itemVersion (l : LState) (item : Nat) : Nat := ((lookupNat item l.config).map (·.1)).getD 0

/-- An unsigned item of `n` bytes, or its default. -/
def LState.itemNat (l : LState) (item n dflt : Nat) : Nat :=
  match l.itemRaw item with
  | some b => le b 0 n
  | none => dflt

/-- TAI_UTC in force now (item 0x0C02, default 37). -/
def LState.taiUtc (l : LState) : Int :=
  match l.itemRaw 0x0C02 with
  | some b => leInt b 0 2
  | none => 37

/-- LEAP_HISTORY (item 0x0C04): changes of the offset with their instants, oldest first (R267). -/
def LState.leapHistory (l : LState) : List (LTime × Int) :=
  let b := (l.itemRaw 0x0C04).getD []
  (List.range 16).filterMap fun k =>
    let a := le b (16 * k) 8
    if a = 0 then none else some (a, leInt b (16 * k + 8) 2)

/-- The TAI-UTC offset in force at an instant (R267): that of the latest change at or before it; before the earliest
change kept, the default 37. DEDUCED, log entry 12. -/
def LState.offsetAt (l : LState) (x : LTime) : Int :=
  ((l.leapHistory.filter fun e => decide (e.1 ≤ x)).getLast?.map (·.2)).getD 37

/-- Whether an instant lies in an inserted leap second: the second that begins at a change of +1 due at 00:00:00. -/
def LState.inLeap (l : LState) (x : LTime) : Bool :=
  l.leapHistory.any fun e =>
    decide (e.1 ≤ x) && decide (x < e.1 + 65536) && decide (e.1 ≥ 65536) &&
      decide (e.2 = l.offsetAt (e.1 - 1) + 1) &&
      decide ((((e.1 / 65536 : Nat) : Int) - l.offsetAt (e.1 - 1)) % 86400 = 0)

/-- The UTC count U, in whole seconds since 2000-01-01T00:00:00 UTC, of an instant (R267). -/
def LState.utc (l : LState) (x : LTime) : Int := ((x / 65536 : Nat) : Int) - l.offsetAt x

/-- The fraction of U in 1/65,536: it stands at 65,535 within an inserted leap second (R267). -/
def LState.utcFrac (l : LState) (x : LTime) : Nat := if l.inLeap x then 65535 else x % 65536

/-- The LTIME at which U reaches a count, under the offset in force at the instant given. -/
def LState.ltimeOfUtc (l : LState) (near : LTime) (u : Int) : LTime := ((u + l.offsetAt near) * 65536).toNat

/-- The zone table in force at an instant (R269, R478): the built-in one entry before the first load; the earliest held
where the one in force is no longer held. -/
def LState.zoneTable (l : LState) (x : LTime) : List ZoneEntry :=
  match l.tables.zone.at x with
  | some (_, z) => z
  | none => ((l.tables.zone.inForce.getLast?.map fun e => if e.1 = 0 then e.2.2 else [⟨0, 0, false⟩])).getD
      [⟨0, 0, false⟩]

/-- The zone entry that applies at an instant (R269). -/
def LState.zoneAt (l : LState) (x : LTime) : ZoneEntry :=
  (((l.zoneTable x).filter fun e => decide (e.from_ ≤ x)).getLast?).getD ⟨0, 0, false⟩

/-- Local time at an instant, in seconds since 2000-01-01T00:00:00 local. -/
def LState.localSec (l : LState) (x : LTime) : Int := l.utc x + (l.zoneAt x).offsetMin * 60

/-- The instant of a local label (R269): with a deviation, UTC is label + deviation; without one, the entry under
which the label reads back, the first occurrence in a repeated hour unless daylight saving is marked inactive, when
it is the second. A label in a skipped hour takes the entry before the skip. -/
def LState.ofLocal (l : LState) (label : LTime) (deviation : Option Int) (dst : Bool) : LTime :=
  let sec : Int := (label / 65536 : Nat)
  let frac := label % 65536
  let near := label
  let back (min : Int) : LTime :=
    let u := sec - min * 60
    let x := l.ltimeOfUtc near u
    l.ltimeOfUtc x u + frac
  match deviation with
  | some d => back (-d)
  | none =>
    let cands := ((l.zoneTable near).map fun e => back e.offsetMin).filter fun x =>
      decide (l.localSec x = sec)
    let sorted := cands.mergeSort (fun a b => decide (a ≤ b))
    match sorted with
    | [] => back (l.zoneAt near).offsetMin
    | x :: rest => if dst then x else (rest.getLast?).getD x

/-- Year, month and day of a day number counted from 2000-01-01 (proleptic Gregorian). -/
def civil (day : Nat) : Nat × Nat × Nat :=
  let z := day + 730425
  let era := z / 146097
  let doe := z - era * 146097
  let yoe := (doe - doe / 1460 + doe / 36524 - doe / 146096) / 365
  let doy := doe - (365 * yoe + yoe / 4 - yoe / 100)
  let mp := (5 * doy + 2) / 153
  let d := doy - (153 * mp + 2) / 5 + 1
  let m := if mp < 10 then mp + 3 else mp - 9
  let y := yoe + era * 400
  (if m ≤ 2 then y + 1 else y, m, d)

/-- Day number from 2000-01-01 of a date. -/
def dayNumber (y m d : Nat) : Nat :=
  let y' := if m ≤ 2 then y - 1 else y
  let era := y' / 400
  let yoe := y' - era * 400
  let mp := if m > 2 then m - 3 else m + 9
  let doy := (153 * mp + 2) / 5 + d - 1
  let doe := yoe * 365 + yoe / 4 - yoe / 100 + doy
  era * 146097 + doe - 730425

/-- Weekday of a day number: 0 Monday to 6 Sunday (2000-01-01 was a Saturday). -/
def weekday (day : Nat) : Nat := (day + 5) % 7

/-- The local day number of an instant. -/
def LState.localDay (l : LState) (x : LTime) : Nat := (l.localSec x / 86400).toNat

/-- The local minute of the day of an instant. -/
def LState.localMinute (l : LState) (x : LTime) : Nat := ((l.localSec x % 86400) / 60).toNat

/-- The instant of a local day and minute; the first occurrence where it repeats. -/
def LState.ofLocalDay (l : LState) (day minute : Nat) : LTime :=
  l.ofLocal ((day * 86400 + minute * 60) * 65536) none true

/-- The UTC day number of an instant. -/
def LState.utcDay (l : LState) (x : LTime) : Nat := (l.utc x / 86400).toNat

end Sys2Proof.Machine
end

