-- ==== Sys2Proof/Machine/Layout.lean ====
section
/-! DEFINITION. The byte layouts of what the ledger holds: the meter record and its areas (Tables LG.10, LG.11, VA.6
to VA.8, TB.9, TB.13, TB.15, LT.9), series entries, billing snapshots, journals, items, groups, epoch content (Tables
LG.3 to LG.9, LG.16 to LG.18), balance records (LT.7, LT.8) and minute records (MT.2, MT.3). -/

namespace Sys2Proof.Machine

/-- One bit step of CRC-32C, reflected, polynomial 0x82F63B78. PRESUMED: the Castagnoli code by its usual
parameters (log entry 4). -/
def crcBit (c : Nat) : Nat := if c % 2 = 1 then (c / 2) ^^^ 0x82F63B78 else c / 2

/-- One byte into CRC-32C. -/
def crcByte (c : Nat) (b : Byte) : Nat :=
  crcBit (crcBit (crcBit (crcBit (crcBit (crcBit (crcBit (crcBit (c ^^^ b.toNat))))))))

/-- CRC-32C of bytes (Tables LG.3, LG.11, FW.1). -/
def crc32c (bs : Bytes) : Nat := (bs.foldl crcByte 0xFFFFFFFF) ^^^ 0xFFFFFFFF

/-- MH of a record index and generation (Table SC.5). -/
def mhOf (idx gen : Nat) : Nat := idx * 4096 + gen % 4096

/-- Record index of an MH. -/
def mhIdx (mh : Nat) : Nat := mh / 4096

/-- Generation of an MH. -/
def mhGen (mh : Nat) : Nat := mh % 4096

/-- Event record, 32 bytes (Table CI.11). -/
def EvRec.bytes (e : EvRec) : Bytes :=
  putLe 8 e.ltime ++ putLe 2 e.code ++ putLe 1 (e.severity + 128 * bit e.mh.isSome) ++ putLe 1 e.source ++
    putLe 4 (e.mh.getD 0) ++ fitTo 16 e.data

/-- Series entry, 24 bytes (Table LG.8). -/
def SEntry.bytes (e : SEntry) : Bytes :=
  putLe 8 e.start ++ putInt 4 e.value ++ putLe 1 e.channel ++ putLe 1 e.fold ++ putLe 1 e.kind ++
    putLe 1 e.state.code ++ putLe 2 e.durationS ++ putInt 1 e.scaler ++ putLe 1 e.unit ++
    putLe 1 (bit e.short + 2 * bit e.powerFail + 4 * bit e.clockAdj) ++ zeros 3

/-- Channel block, 112 bytes (Table VA.8). -/
def ChanBlock.bytes (c : ChanBlock) : Bytes :=
  putLe 8 c.lastValidStart ++ putInt 4 c.lastValid ++ putLe 2 c.zeroRun ++ putLe 2 c.flatRun ++
    putInt 4 c.flatValue ++ putLe 1 c.ringPos ++ putLe 1 c.ringFill ++ zeros 2 ++
    fitTo 64 (c.ring.flatMap (putInt 4)) ++ zeros 24

/-- Validator state, 512 bytes (Table VA.7). -/
def ValArea.bytes (v : ValArea) : Bytes :=
  putLe 4 v.rulesVersion ++ putLe 4 v.estimated ++ putLe 4 v.rejected ++ zeros 4 ++
    fitTo 448 (v.chans.flatMap ChanBlock.bytes) ++ zeros 48

/-- Register entry, 64 bytes (Table VA.6). -/
def RegEntry.bytes (r : RegEntry) : Bytes :=
  fitTo 6 r.obis ++ putInt 1 r.scaler ++ putLe 1 r.unit ++ putInt 8 r.value ++ putLe 8 r.at_ ++
    putInt 8 r.prevValue ++ putLe 8 r.prevAt ++ putInt 8 r.lastDiff ++ putLe 2 r.rule ++
    putLe 1 (bit r.failed + 2 * bit r.skipped) ++ zeros 13

/-- Period block, 512 bytes (Table TB.9). -/
def PeriodBlock.bytes (b : PeriodBlock) : Bytes :=
  putLe 1 b.state.code ++ putLe 1 b.reason ++ putLe 2 b.flags ++ putLe 4 b.schedule ++ putLe 8 b.periodStart ++
    putLe 8 b.periodEnd ++ putLe 4 b.scheduleVersion ++ putLe 4 b.provisional ++ putLe 4 b.lateSlots ++
    putLe 4 b.outageS ++ putInt 8 b.charges ++ putInt 8 b.standing ++ putLe 8 b.lastLabel ++
    fitTo 256 (b.det.flatMap fun d => putInt 8 d.1 ++ putLe 8 d.2) ++ fitTo 128 (b.lateDet.flatMap (putInt 8)) ++
    putLe 4 b.excluded ++ zeros 60

/-- Credit account, 256 bytes (Table TB.13). -/
def Credit.bytes (c : Credit) : Bytes :=
  putInt 8 c.balance ++ putLe 1 c.state.code ++
    putLe 1 (bit c.disconnectDue + 2 * bit c.disconnectedForCredit + 4 * bit c.operatorHold) ++ zeros 6 ++
    putLe 8 c.residue ++ putInt 8 c.creditedTotal ++ putInt 8 c.chargedTotal ++ putInt 8 c.standingTotal ++
    putLe 8 c.exhaustedAt ++ putLe 8 c.lastCreditAt ++ fitTo 64 (c.references.flatMap (putLe 8)) ++
    putLe 1 c.refPos ++ zeros 7 ++ putLe 8 c.lastStanding ++ zeros 112

/-- Orders area, 256 bytes (Table TB.15). -/
def Orders.bytes (o : Orders) : Bytes :=
  putLe 1 o.reason ++ putLe 1 o.pending ++ putLe 1 o.attempts ++ putLe 1 o.controlState ++ putLe 1 o.outputState ++
    zeros 3 ++ putLe 8 o.dueAt ++ putLe 8 o.sentAt ++ putLe 8 o.readAt ++ putLe 8 o.orderTag ++
    putLe 1 o.pushState ++ putLe 1 o.pushAttempts ++ zeros 2 ++ putLe 4 o.pushVersion ++
    putLe 8 o.pushEffective ++ zeros 200

/-- One phase of SNAP, 16 bytes (Table LT.9). -/
def SnapPhase.bytes (p : SnapPhase) : Bytes :=
  putLe 4 p.vMv ++ putInt 2 p.vAngle ++ putInt 2 p.iAngle ++ putLe 4 p.iMa ++ zeros 4

/-- Balance area, 512 bytes (Table LT.9). -/
def BalArea.bytes (b : BalArea) : Bytes :=
  putLe 8 b.groupSince ++ fitTo 28 (b.peakDay.flatMap (putLe 4)) ++ putLe 1 b.peakPos ++ putLe 1 b.votePos ++
    putLe 1 b.votesUsed ++ putLe 1 (bit b.everAccepted + 2 * bit b.incompatible + 4 * bit b.byCorrelation) ++
    fitTo 16 (b.votes.flatMap fun v => putLe 1 v.1 ++ putLe 1 v.2) ++ putLe 4 b.snapId ++ zeros 4 ++
    putLe 8 b.snapAt ++ fitTo 48 (b.snap.flatMap SnapPhase.bytes) ++ fitTo 6 (b.corr.flatMap (putInt 2)) ++
    putLe 2 b.pairs ++ putLe 4 b.secondBranch ++ putLe 1 b.sBest ++ putLe 1 b.sSecond ++ zeros 2 ++
    putLe 8 b.tamperAt ++ putLe 1 b.tamperWeight ++ zeros 367

/-- FLAGS of a record (Table LG.10, 0x01E). -/
def Rec.flags (r : Rec) : Nat :=
  bit r.sleepy + 2 * bit r.snapCap + 4 * bit r.prepay + 8 * bit r.hasRelay + 16 * bit r.released

/-- Bytes 0x000 to 0x02F of a record (Table LG.10). -/
def Rec.ident (idx : Nat) (r : Rec) : Bytes :=
  putLe 2 1 ++ putLe 2 r.cls ++ putLe 4 (mhOf idx r.gen) ++ fitTo 16 r.identity ++ putLe 1 r.net.state.code ++
    putLe 1 ((r.net.network.map Net.code).getD 0) ++ putLe 2 r.net.short ++ putLe 1 r.segment ++ putLe 1 r.keySrc ++
    putLe 2 r.flags ++ putLe 4 r.subMh ++ putLe 4 r.net.joinId ++ putLe 8 r.clock.admittedAt

/-- Bytes 0x030 to 0x04F of a record: counters, contact and success times (R121). -/
def Rec.contact (r : Rec) : Bytes :=
  putLe 4 r.net.invTx ++ putLe 4 r.net.invRx ++ putLe 4 r.net.frameCtr ++ zeros 4 ++ putLe 8 r.clock.lastContact ++
    putLe 8 r.clock.lastSuccess

/-- Bytes 0x050 to 0x07F of a record. -/
def Rec.middle (r : Rec) : Bytes :=
  putLe 8 r.clock.lastIntervalEnd ++ putInt 4 r.clock.offset ++ putInt 4 r.clock.driftPpb ++ putLe 8 r.clock.offsetAt ++
    putLe 2 r.clock.adjSeq ++ putLe 1 r.clock.fold ++ zeros 1 ++ putLe 4 r.place.group ++ putLe 1 r.place.phase ++
    putLe 1 r.place.phaseConf ++ zeros 2 ++ putLe 4 r.place.branch ++ putLe 1 r.place.branchConf ++ zeros 7

/-- Bytes 0x080 to 0x090 of a record: tariff and push state, RELAY_STATE (R121). -/
def Rec.tariffPart (r : Rec) : Bytes :=
  putLe 4 r.place.tariffSchedule ++ putLe 4 r.place.tariffVersionMeter ++ putLe 8 r.place.tariffPushedAt ++
    putLe 1 r.place.relay.code

/-- Bytes 0x091 to 0x09F of a record: campaign, meter firmware, series index. -/
def Rec.campaignPart (r : Rec) : Bytes :=
  putLe 1 r.place.campaignState ++ putLe 2 r.place.campaign ++ putLe 4 r.place.fwVersion ++ putLe 8 r.seriesIndex

/-- Bytes 0x0A0 to 0x0BF of a record: counts, ORDER_NUMBER, LAST_CHANGE_EPOCH (R121). -/
def Rec.countPart (r : Rec) : Bytes :=
  putLe 4 r.counts.exchangesOk ++ putLe 4 r.counts.exchangesFailed ++ putLe 4 r.counts.securityFails ++
    putLe 4 r.counts.findings ++ putLe 8 r.counts.orderNumber ++ putLe 8 r.counts.lastChangeEpoch

/-- Register area, 512 bytes. -/
def Rec.regBytes (r : Rec) : Bytes := fitTo 512 (r.regs.flatMap RegEntry.bytes)

/-- Recent events, 256 bytes. -/
def Rec.recentBytes (r : Rec) : Bytes := fitTo 256 (r.recent.flatMap EvRec.bytes)

/-- The whole 4,096-byte record (R108). -/
def Rec.bytes (idx : Nat) (r : Rec) : Bytes :=
  let body := r.ident idx ++ r.contact ++ r.middle ++ r.tariffPart ++ r.campaignPart ++ r.countPart ++ zeros 64 ++
    fitTo 48 r.wrappedKey ++ zeros 208 ++ r.blockA.bytes ++ r.blockB.bytes ++ r.credit.bytes ++ r.orders.bytes ++
    r.val.bytes ++ r.regBytes ++ r.bal.bytes ++ r.recentBytes ++ zeros 252
  body ++ putLe 4 (crc32c body)

/-- The patches that carry a change of a record: offset and bytes of each section of Tables LG.10 and LG.11 that
changed. DESIGN CHOICE: one RECORD_PATCH per changed section (log entry 13). -/
def patches (idx : Nat) (was new : Rec) : List (Nat × Bytes) :=
  let sec (off : Nat) (changed : Bool) (b : Bytes) : List (Nat × Bytes) := if changed then [(off, b)] else []
  sec 0x000 (decide (was.ident idx ≠ new.ident idx)) (new.ident idx) ++
  sec 0x030 (decide (was.contact ≠ new.contact)) new.contact ++
  sec 0x050 (decide (was.middle ≠ new.middle)) new.middle ++
  sec 0x080 (decide (was.tariffPart ≠ new.tariffPart)) new.tariffPart ++
  sec 0x091 (decide (was.campaignPart ≠ new.campaignPart)) new.campaignPart ++
  sec 0x0A0 true new.countPart ++
  sec 0x100 (decide (was.wrappedKey ≠ new.wrappedKey)) (fitTo 48 new.wrappedKey) ++
  sec 0x200 (decide (was.blockA ≠ new.blockA)) new.blockA.bytes ++
  sec 0x400 (decide (was.blockB ≠ new.blockB)) new.blockB.bytes ++
  sec 0x600 (decide (was.credit ≠ new.credit)) new.credit.bytes ++
  sec 0x700 (decide (was.orders ≠ new.orders)) new.orders.bytes ++
  sec 0x800 (decide (was.val ≠ new.val)) new.val.bytes ++
  sec 0xA00 (decide (was.regs ≠ new.regs)) new.regBytes ++
  sec 0xC00 (decide (was.bal ≠ new.bal)) new.bal.bytes ++
  sec 0xE00 (decide (was.recent ≠ new.recent)) new.recentBytes

/-- Whether a patch touches only what salvage mode admits (R121): sections 0x030, 0x080, 0x0A0 and 0x200 to 0x7FF. -/
def patchAdmitted (was new : Rec) : Bool :=
  decide (was.ident 0 = new.ident 0) && decide (was.middle = new.middle) &&
    decide (was.campaignPart = new.campaignPart) && decide (was.wrappedKey = new.wrappedKey) &&
    decide (was.val = new.val) && decide (was.regs = new.regs) && decide (was.bal = new.bal) &&
    decide (was.recent = new.recent)

/-- Billing snapshot, 1,312 bytes (Table LG.9). -/
def BSnap.bytes (b : BSnap) : Bytes :=
  putLe 8 b.periodStart ++ putLe 8 b.periodEnd ++ putLe 1 b.reason ++ zeros 3 ++ putLe 4 b.scheduleVersion ++
    zeros 8 ++ b.blockA.bytes ++ b.blockB.bytes ++ b.credit.bytes

/-- Entry of LDG_EXPORT_BILLING, 1,344 bytes (Table LG.7). -/
def BSnap.exportBytes (b : BSnap) : Bytes :=
  putLe 4 b.mh ++ putLe 1 b.segment ++ zeros 3 ++ fitTo 16 b.identity ++ zeros 8 ++ b.bytes

/-- Clock-adjustment record, 48 bytes (Table LG.16). -/
def ClockAdj.bytes (a : ClockAdj) : Bytes :=
  putLe 8 a.at_ ++ putLe 4 (a.mh.getD 0) ++ putLe 2 a.seq ++ putLe 1 a.kind ++
    putLe 1 (bit a.mh.isSome + 2 * bit a.beyond + 4 * bit a.foldBegun + 8 * bit a.backward) ++ putLe 8 a.old ++
    putLe 8 a.new ++ putInt 8 a.step ++ putLe 4 a.limitS ++ putLe 2 a.fold ++ zeros 2

/-- Audit record, 160 bytes (Table LG.17). -/
def Audit.bytes (a : Audit) : Bytes :=
  putLe 2 a.opcode ++ putLe 1 a.ring ++ putLe 1 a.origin ++ putLe 4 a.item ++ putLe 8 a.tag ++ fitTo 20 a.keyId ++
    putLe 1 a.segment ++ putLe 1 (bit a.isTable + 2 * bit a.mh.isSome + 4 * bit a.digestValues) ++ putLe 2 a.result ++
    putLe 4 (a.mh.getD 0) ++ putLe 4 a.oldVersion ++ putLe 4 a.newVersion ++ zeros 4 ++ fitTo 32 a.frameDigest ++
    fitTo 32 a.old ++ fitTo 32 a.new ++ zeros 8

/-- Contribution entry, 40 bytes (Table LT.7). -/
def Contrib.bytes (c : Contrib) : Bytes :=
  putLe 1 1 ++ putLe 1 (bit c.estimated + 2 * bit c.unaligned + 4 * bit c.short + 8 * bit c.clockAdj +
    16 * bit c.afterFinal) ++ putLe 1 c.phase ++ zeros 1 ++ putInt 4 c.offset ++ putLe 8 c.label ++
    putLe 8 c.balStart ++ putInt 8 c.amount ++ putInt 8 c.gross

/-- Result record, 144 bytes (Table LT.8). -/
def BalResult.bytes (r : BalResult) : Bytes :=
  putLe 1 2 ++ putLe 1 r.status ++
    putLe 2 (bit r.flags.alerting + 2 * bit r.flags.lossAlert + 4 * bit r.flags.surplus + 8 * bit r.flags.reversed +
      16 * bit r.flags.bypassed + 32 * bit r.flags.missingNeutral + 64 * bit r.flags.theft) ++
    putLe 4 r.group ++ putLe 8 r.start ++ putLe 2 r.durationS ++ putLe 1 r.coverage ++ putLe 1 r.run ++
    putLe 4 r.members ++ putLe 4 r.missing ++ putLe 4 r.unaligned ++ putInt 8 r.eRef ++ putInt 8 r.eMembers ++
    putInt 8 r.lTech ++ putInt 8 r.loss ++ putInt 8 r.band ++ putInt 8 r.estimated ++ putLe 4 r.unassigned ++
    putLe 4 r.late ++ putLe 4 r.suspectBranch ++ putLe 1 r.suspectConf ++ zeros 3 ++
    fitTo 48 (r.phases.flatMap fun p => putInt 8 p.1 ++ putInt 8 p.2)

/-- Point block, 112 bytes (Table MT.3). -/
def PointMinute.bytes (p : PointMinute) : Bytes :=
  fitTo 96 (p.phases.flatMap fun q => putLe 8 q.eImp ++ putLe 8 q.eExp ++ putInt 8 q.qNet ++ putLe 4 q.iRmsMa ++
    zeros 4) ++ putLe 4 p.iNRmsMa ++ zeros 4 ++ putLe 8 p.iResMs

/-- Feeder minute record, 320 bytes (Table MT.2). -/
def FeederMinute.bytes (m : FeederMinute) : Bytes :=
  putLe 1 3 ++ zeros 1 ++ putLe 2 m.flags ++ putLe 4 m.missing ++ putLe 8 m.start ++ putLe 4 m.calVersion ++
    putLe 4 m.freqMhz ++ fitTo 12 (m.vRms.flatMap (putLe 4)) ++ putLe 4 m.vNe ++ fitTo 6 (m.vThd.flatMap (putLe 2)) ++
    zeros 2 ++ m.point0.bytes ++ m.point1.bytes ++ fitTo 32 (m.pulses.flatMap (putLe 4)) ++ putLe 1 m.pulseLost ++
    zeros 15

/-- The chunks of a boundary record (R202): the first sample's LTIME and up to 16,000 sample energies each. -/
def BoundaryRec.chunks (b : BoundaryRec) : List Bytes :=
  (List.range ((b.energies.length + 15999) / 16000)).map fun k =>
    let es := (b.energies.drop (16000 * k)).take 16000
    putLe 1 4 ++ putLe 1 b.point ++ putLe 2 k ++ putLe 4 es.length ++
      putLe 8 (b.at_ + 65536 * 16000 * k / 8000 - 655360) ++ es.flatMap (putInt 4)

/-- Phasor item body, 104 bytes (R203). -/
def OwnPhasors.bytes (p : OwnPhasors) : Bytes :=
  let valid := ((p.inputs.zipIdx).map fun x => bit x.1.isSome * 2 ^ x.2).sum
  putLe 1 5 ++ putLe 1 (valid % 256) ++ putLe 1 (valid / 256) ++ zeros 1 ++ putLe 4 p.snapshotId ++ putLe 8 p.at_ ++
    fitTo 72 (p.inputs.flatMap fun i => match i with
      | some q => putLe 4 q.mag ++ putInt 2 q.angle
      | none => zeros 6) ++ zeros 16

/-- Opcode under which a table's CONFIG item is known (Table LG.6). -/
def TableLoad.opcode : TableLoad → Nat
  | .sched .. => 0x0208
  | .rules .. => 0x0401
  | .tariff .. => 0x0501
  | .calendar .. => 0x0502
  | .friendly .. => 0x0603
  | .groups .. => 0x0701
  | .zone .. => 0x0803
  | .ptp .. => 0x0804
  | .cal .. => 0x0E04

/-- The bytes of a table as loaded. -/
def TableLoad.raw : TableLoad → Bytes
  | .sched _ r _ => r
  | .rules _ r _ => r
  | .tariff _ r _ => r
  | .calendar _ r _ => r
  | .friendly _ r _ => r
  | .groups _ r _ => r
  | .zone _ r _ => r
  | .ptp _ r _ => r
  | .cal _ r _ => r

/-- One item as encoded: KIND, SUBKEY and body (R103). Items that Table LG.6 does not name (the ledger's own
bookkeeping) have no encoding, nor has the calibration table, which is each chip's own (Table TW.8); the relay state is a
CONFIG item (log entry 13). -/
def Item.parts : Item → List (Nat × Nat × Bytes)
  | .patch idx w n => (patches idx w n).map fun p => (0x01, p.1, p.2)
  | .create idx r => [(0x02, 0, r.bytes idx)]
  | .release _ g _ => [(0x03, g, [])]
  | .series _ es =>
    let mask := (List.range 4).foldl (fun m c => m + bit (es.any fun e => e.channel == c) * 2 ^ c) 0
    [(0x04, mask, es.flatMap SEntry.bytes)]
  | .billing b => [(0x05, 0, b.bytes)]
  | .clockAdj a => [(0x06, 0, a.bytes)]
  | .audit a => [(0x07, 0, a.bytes)]
  | .event e => [(0x08, 0, e.bytes)]
  | .contrib g cs => [(0x09, g, cs.flatMap Contrib.bytes)]
  | .result r => [(0x09, r.group, r.bytes)]
  | .minute m => [(0x09, 0xFFFFFFFF, m.bytes)]
  | .boundaryRec b => b.chunks.map fun c => (0x09, 0xFFFFFFFF, c)
  | .phasors p => [(0x09, 0xFFFFFFFF, p.bytes)]
  | .headCut s e d => [(0x0A, s, putLe 8 e ++ fitTo 32 d)]
  | .config i _ v => [(0x0B, i, v)]
  | .table (.cal _ _ _) => []
  | .table t => [(0x0B, t.opcode, t.raw)]
  | .effective _ _ => []
  | .relay n r => [(0x0B, 0x0601 + n, putLe 1 r.state ++ putLe 1 r.feedback ++ putLe 1 r.fault ++ zeros 1 ++
      putLe 2 r.coilMa ++ zeros 2 ++ putLe 8 r.at_)]
  | .pin e => [(0x0B, 0x80000301, putLe 8 e)]
  | .unpin e => [(0x0B, 0x80000302, putLe 8 e)]
  | .name n e => [(0x0B, 0x80000303, putLe 8 e ++ fitTo 16 n)]
  | .dropName n => [(0x0B, 0x80000304, fitTo 16 n)]
  | .period s _ => [(0x0B, 0x80000309, putLe 4 s)]
  | .creation g f u => [(0x0B, 0, [0x44, 0x43, 0x52, 0x54] ++ putLe 2 1 ++ putLe 1 g ++ zeros 1 ++ putLe 8 f ++
      fitTo 16 u)]
  | .boundary _ => []
  | .snapshotId _ => []
  | .campaign _ => []
  | .campaignEnd _ => []
  | .foreign _ ps => ps

/-- Bytes padded with zeros to a multiple of 8 (R103). -/
def pad8 (b : Bytes) : Bytes := b ++ zeros ((8 - b.length % 8) % 8)

/-- One item encoded (R103). -/
def encodePart (p : Nat × Nat × Bytes) : Bytes :=
  putLe 1 p.1 ++ zeros 1 ++ putLe 2 p.2.2.length ++ putLe 4 p.2.1 ++ pad8 p.2.2

/-- A group encoded (Table LG.5). -/
def Group.bytes (g : Group) : Bytes :=
  let parts := g.items.flatMap Item.parts
  let body := parts.flatMap encodePart
  putLe 4 (32 + body.length) ++ putLe 4 (g.mh.getD 0) ++ putLe 8 g.completed ++ putLe 8 g.key ++ putLe 2 parts.length ++
    putLe 1 (bit g.mh.isSome + 2 * bit g.fromCmd + 4 * bit g.fromSub) ++ zeros 5 ++ body

/-- A body length padded to a multiple of 8, with its item header. -/
def itemRoom (n : Nat) : Nat := 8 + (n + 7) / 8 * 8

/-- Bytes an item takes in the content, counted from the layouts (R97); equal to the length of its encoding. -/
def Item.size : Item → Nat
  | .patch _ w n =>
    bit (decide (w.ident 0 ≠ n.ident 0)) * itemRoom 48 + bit (decide (w.contact ≠ n.contact)) * itemRoom 32 +
      bit (decide (w.middle ≠ n.middle)) * itemRoom 48 + bit (decide (w.tariffPart ≠ n.tariffPart)) * itemRoom 17 +
      bit (decide (w.campaignPart ≠ n.campaignPart)) * itemRoom 15 + itemRoom 32 +
      bit (decide (w.wrappedKey ≠ n.wrappedKey)) * itemRoom 48 + bit (decide (w.blockA ≠ n.blockA)) * itemRoom 512 +
      bit (decide (w.blockB ≠ n.blockB)) * itemRoom 512 + bit (decide (w.credit ≠ n.credit)) * itemRoom 256 +
      bit (decide (w.orders ≠ n.orders)) * itemRoom 256 + bit (decide (w.val ≠ n.val)) * itemRoom 512 +
      bit (decide (w.regs ≠ n.regs)) * itemRoom 512 + bit (decide (w.bal ≠ n.bal)) * itemRoom 512 +
      bit (decide (w.recent ≠ n.recent)) * itemRoom 256
  | .create _ _ => itemRoom 4096
  | .release _ _ _ => itemRoom 0
  | .series _ es => itemRoom (24 * es.length)
  | .billing _ => itemRoom 1312
  | .clockAdj _ => itemRoom 48
  | .audit _ => itemRoom 160
  | .event _ => itemRoom 32
  | .contrib _ cs => itemRoom (40 * cs.length)
  | .result _ => itemRoom 144
  | .minute _ => itemRoom 320
  | .boundaryRec b => ((b.chunks).map fun c => itemRoom c.length).sum
  | .phasors _ => itemRoom 104
  | .headCut _ _ _ => itemRoom 40
  | .config _ _ v => itemRoom v.length
  | .table (.cal _ _ _) => 0
  | .table t => itemRoom t.raw.length
  | .relay _ _ => itemRoom 16
  | .pin _ => itemRoom 8
  | .unpin _ => itemRoom 8
  | .name _ _ => itemRoom 24
  | .dropName _ => itemRoom 16
  | .period _ _ => itemRoom 4
  | .creation _ _ _ => itemRoom 32
  | .effective _ _ => 0
  | .boundary _ => 0
  | .snapshotId _ => 0
  | .campaign _ => 0
  | .campaignEnd _ => 0
  | .foreign _ ps => (ps.map fun p => itemRoom p.2.2.length).sum

/-- Bytes a group takes in the content. -/
def Group.size (g : Group) : Nat := 32 + (g.items.map Item.size).sum

/-- The groups of an epoch in content order: by KEY, then by MH (R103). -/
def contentOrder (gs : List Group) : List Group :=
  gs.mergeSort fun a b => decide (a.key < b.key) || (a.key == b.key && decide (a.mh.getD 0 ≤ b.mh.getD 0))

/-- FLAGS of an epoch content header or root (Table LG.3). -/
def rootFlags (uncompared byWarning formatting : Bool) : Nat :=
  bit uncompared + 2 * bit byWarning + 4 * bit formatting

/-- Epoch content up to the trailer (Table LG.4), FLAGS and COMPLETED as given. -/
def contentBytes (segment flags num opened closed : Nat) (prevDigest : Bytes) (gs : List Group) : Bytes :=
  let body := (contentOrder gs).flatMap Group.bytes
  [0x44, 0x4D, 0x53, 0x4B] ++ putLe 2 1 ++ putLe 1 segment ++ putLe 1 flags ++ putLe 8 num ++ putLe 8 opened ++
    putLe 8 closed ++ putLe 4 gs.length ++ zeros 4 ++ putLe 8 (80 + body.length + 32) ++ fitTo 32 prevDigest ++ body

/-- The epoch digest: SHA-256 over the content with FLAGS and every COMPLETED taken as zero (R103). -/
def epochDigest (segment num opened closed : Nat) (prevDigest : Bytes) (gs : List Group) : Bytes :=
  Config.sha256 (contentBytes segment 0 num opened closed prevDigest
    (gs.map fun g => { g with completed := 0 }))

/-- Root record, 96 bytes (Table LG.3); MAP_ROOT is a free value of the store (log entry 13). -/
def Root.bytes (r : Root) (slot : Nat) (mapRoot : Nat) : Bytes :=
  let body := [0x44, 0x4D, 0x52, 0x54] ++ putLe 2 1 ++ putLe 1 slot ++
    putLe 1 (rootFlags r.uncompared r.byWarning r.formatting) ++ putLe 8 r.epoch ++ putLe 8 r.closed ++
    putLe 8 r.committed ++ putLe 8 mapRoot ++ putLe 8 r.epochHigh ++ fitTo 32 r.digest ++ putLe 8 r.prev ++ zeros 4
  body ++ putLe 4 (crc32c body)

/-- Journal record header, 16 bytes (Table LG.18). -/
def journalHeader (epoch kind len seq : Nat) : Bytes :=
  putLe 8 epoch ++ putLe 1 kind ++ zeros 1 ++ putLe 2 len ++ putLe 4 seq

/-- Completion entry, 64 bytes, with the phase it was posted with (Table CI.9). -/
def Completion.bytes (c : Completion) (phase : Bool) : Bytes :=
  putLe 8 c.tag ++ putLe 2 c.result ++ putLe 2 c.opcode ++
    putLe 1 (bit phase + 2 * bit c.replayed + 4 * bit c.committed + 8 * bit c.uncommittedData) ++ putLe 1 c.ring ++
    putLe 2 c.crHead ++ putLe 4 c.bufUsed ++ zeros 4 ++ putLe 8 c.epoch ++ fitTo 32 c.data

/-- The 64-byte frame of a command (Table CI.8). -/
def Cmd.frame (c : Cmd) : Bytes :=
  putLe 2 c.opcode ++ putLe 1 (bit c.fence + 2 * bit c.waitCommit + 4 * bit c.bufOut) ++ zeros 1 ++ putLe 4 c.deadline ++
    putLe 8 c.tag ++ putLe 8 c.bufAddr ++ putLe 4 c.bufLen ++ zeros 4 ++ fitTo 32 c.param

end Sys2Proof.Machine
end

