-- ==== Sys2Proof/Machine/Ops.lean ====
section
/-! DEFINITION. The named operations every meaning uses: free values, outputs, records, the ledger's items, groups,
epochs and events (05_damask_ledger, 02_command_interface), completions and the completion rings. -/

namespace Sys2Proof.Machine

/-! ## Free values and outputs -/

/-- One more free value drawn. -/
def draw (s : State) : State := { s with fresh := s.fresh + 1 }

/-- Something emitted. -/
def emit (o : Output) (s : State) : State := { s with out := s.out ++ [o] }

/-- Several things emitted. -/
def emitAll (os : List Output) (s : State) : State := { s with out := s.out ++ os }

/-! ## Roles and settings every part asks about -/

/-- Code of the configuration entry that holds the role of SYS_SET_ROLE (0x8000_0000 plus its opcode). -/
def roleItem : Nat := 0x80000105

/-- Code of the configuration entry that holds the segment ID and HEAD_RING that ADMIT gave (R93). -/
def segmentItem : Nat := 0x8000FF01

/-- SOLO is set (item 0x0F03, R369). -/
def soloSet (s : State) : Bool := s.led.work.itemNat 0x0F03 1 0 == 1

/-- The chip is solo (R369): partner ABSENT or FAILED, or SOLO set. -/
def isSolo (s : State) : Bool :=
  s.twin.partner == .absent || s.twin.partner == .failed || soloSet s

/-- The chip holds the active role. -/
def isActive (s : State) : Bool := s.twin.role == .active

/-- The chip is a standby. -/
def isStandby (s : State) : Bool := s.twin.role == .standby

/-- Epoch digests are compared: the partner is ACTIVE or STANDBY and SOLO is not set (Table LG.2). -/
def comparing (s : State) : Bool :=
  (s.twin.partner == .active || s.twin.partner == .standby) && !soloSet s

/-- The active mirrors its inputs to its standby (R349, R369). -/
def mirroring (s : State) : Bool := isActive s && !isSolo s && s.twin.mirror

/-- Stage S8 reached in the present start, its first epoch open (R396). -/
def inService (s : State) : Bool := s.boot.openedFirst && s.boot.phase == .running

/-- The main domains run. -/
def mainRuns (s : State) : Bool := s.boot.phase == .running || s.boot.phase == .recovery

/-- Rings are served (R43, R52): service reached, on an active or solo chip. -/
def served (s : State) : Bool := inService s && isActive s

/-- Own segment ID (Table SC.5): 0 on a head or before a head admits the chip. -/
def segmentId (s : State) : Nat :=
  if s.boot.headRole then 0 else ((s.led.work.itemRaw segmentItem).map fun b => le b 0 1).getD 0

/-- A power-fail warning stands (R28). -/
def warned (s : State) : Bool := s.keeper.supply.hold

/-- The store is in SALVAGE (R121). -/
def inSalvage (s : State) : Bool := s.store.stage == .salvage

/-! ## Records -/

/-- The record at an index of the working content. -/
def getRec (s : State) (idx : Nat) : Option Rec := lookupNat idx s.led.work.recs

/-- Generation of an index. -/
def LState.gen (l : LState) (idx : Nat) : Nat := (lookupNat idx l.gens).getD 0

/-- The index and record an MH names at a content; none for a free index or a stale generation (R9, R73). -/
def LState.recOf (l : LState) (mh : Nat) : Option (Nat × Rec) :=
  match lookupNat (mhIdx mh) l.recs with
  | some r => if r.gen = mhGen mh then some (mhIdx mh, r) else none
  | none => none

/-- MH of a record held at an index. -/
def recMh (idx : Nat) (r : Rec) : Nat := mhOf idx r.gen

/-- The index whose record holds an identity (16 bytes). -/
def LState.byIdentity (l : LState) (identity : Bytes) : Option (Nat × Rec) :=
  l.recs.find? fun e => e.2.identity == identity

/-- The index whose record holds an EUI-64. -/
def LState.byEui (l : LState) (eui : Bytes) : Option (Nat × Rec) :=
  l.recs.find? fun e => e.2.identity.take 8 == eui && e.2.segment == 0

/-- The index of the own meter that holds a short address on a network. -/
def LState.byShort (l : LState) (net : Net) (short : Nat) : Option (Nat × Rec) :=
  l.recs.find? fun e => e.2.net.network == some net && e.2.net.short == short && e.2.segment == 0 &&
    e.2.net.state != .admitted

/-- The class descriptor of a class in the schedule table in force. -/
def LState.classOf (l : LState) (cls : Nat) : Option ClassDesc :=
  (l.tables.sched.now).bind fun t => t.classes.find? fun c => c.cls == cls

/-! ## Items -/

/-- Whether a series entry comes before another: START, FOLD, CHANNEL, KIND (Table LG.7). -/
def SEntry.before (a b : SEntry) : Bool :=
  decide (a.start < b.start) || (a.start == b.start && (decide (a.fold < b.fold) || (a.fold == b.fold &&
    (decide (a.channel < b.channel) || (a.channel == b.channel && decide (a.kind < b.kind))))))

/-- Whether two entries have one place in the series. -/
def SEntry.same (a b : SEntry) : Bool :=
  a.start == b.start && a.fold == b.fold && a.channel == b.channel && a.kind == b.kind

/-- A series with one entry put in its place; an entry of the same place is replaced. -/
def putEntry (e : SEntry) : List SEntry → List SEntry
  | [] => [e]
  | x :: xs => if e.same x then e :: xs else if e.before x then e :: x :: xs else x :: putEntry e xs

/-- A pending table put in force at an instant. -/
def Loaded.putInForce {α : Type} (t : Loaded α) (at_ : LTime) : Loaded α :=
  match t.pending with
  | some (_, v, x) => { t with inForce := (at_, v, x) :: t.inForce, pending := none }
  | none => t

/-- A table loaded with an instant of effect: it waits until the item `effective` puts it in force. -/
def Loaded.load {α : Type} (t : Loaded α) (v : Nat) (raw : Bytes) (eff : LTime) (x : α) : Loaded α :=
  { t with version := v, raw := raw, pending := some (eff, v, x) }

/-- A table loaded with effect at once. -/
def Loaded.loadNow {α : Type} (t : Loaded α) (v : Nat) (raw : Bytes) (at_ : LTime) (x : α) : Loaded α :=
  { t with version := v, raw := raw, inForce := (at_, v, x) :: t.inForce, pending := none }

/-- The tables after a load (R125, R146, R147, R172, R211: these wait; the others take effect at once). -/
def Tables.load (t : Tables) (at_ : LTime) : TableLoad → Tables
  | .sched v r x => { t with sched := t.sched.loadNow v r at_ x }
  | .rules v r x => { t with rules := t.rules.load v r x.effective x }
  | .tariff v r x => { t with tariff := t.tariff.load v r x.effective x }
  | .calendar v r x => { t with calendar := t.calendar.load v r x.effective x }
  | .friendly v r x => { t with friendly := t.friendly.loadNow v r at_ x }
  | .groups v r x => { t with groups := t.groups.load v r (max at_ x.effective) x }
  | .zone v r x => { t with zone := t.zone.loadNow v r at_ x }
  | .ptp v r x => { t with ptp := t.ptp.loadNow v r at_ x }
  | .cal v r x => { t with cal := t.cal.load v r at_ x }

/-- A group table as it takes effect over the one in force: an amendment replaces the membership of the meters it names and
nothing else (R171). -/
def GroupTable.over (x old : GroupTable) : GroupTable :=
  if x.amendment then
    { old with
      effective := x.effective
      members := (old.members.filter fun m => !(x.members.any fun n => n.1 == m.1)) ++ x.members }
  else x

/-- The tables after a pending one takes effect. -/
def Tables.effect (t : Tables) (at_ : LTime) : TableKind → Tables
  | .rules => { t with rules := t.rules.putInForce at_ }
  | .tariff => { t with tariff := t.tariff.putInForce at_ }
  | .calendar => { t with calendar := t.calendar.putInForce at_ }
  | .groups =>
    match t.groups.pending with
    | some (e, v, x) =>
      let x' := match t.groups.now with
        | some old => x.over old
        | none => x
      { t with groups := { t.groups with pending := some (e, v, x') }.putInForce at_ }
    | none => t
  | .cal => { t with cal := t.cal.putInForce at_ }

/-- Whether two contributions are of the same part: a later one of a replaced value takes its place (R177). -/
def Contrib.same (a b : Contrib) : Bool :=
  a.idx == b.idx && a.group == b.group && a.label == b.label && a.fold == b.fold && a.balStart == b.balStart

/-- PEAK of a member (R195): the greatest of the seven daily values. -/
def BalArea.peak (b : BalArea) : Nat := b.peakDay.foldl max 0

/-- The membership that ends with a record's change of group or its release. -/
def Rec.ended (idx : Nat) (r : Rec) (until_ : LTime) (released : Bool) : PastMember :=
  ⟨idx, r.gen, r.cls, r.place.group, r.bal.groupSince, until_, released, r.bal.peak, r.place.phase⟩

/-- The memberships ended so far, with one more where a record that belonged to a group leaves it (R172, R180). -/
def LState.withPast (l : LState) (idx : Nat) (was : Rec) (until_ : LTime) (leaves released : Bool) : List PastMember :=
  if leaves && was.place.group != 0xFFFFFFFF then l.past ++ [was.ended idx until_ released] else l.past

/-- The effect of one item on the ledger's content, in epoch `n` at instant `t` (Table LG.6, R473). -/
def Item.apply (n : Nat) (t : LTime) : Item → LState → LState
  | .patch idx was r, l =>
    { l with
      recs := insertNat idx { r with counts := { r.counts with lastChangeEpoch := n } } l.recs
      past := l.withPast idx was r.bal.groupSince (was.place.group != r.place.group) false }
  | .create idx r, l =>
    { l with recs := insertNat idx { r with counts := { r.counts with lastChangeEpoch := n } } l.recs }
  | .release idx g _, l =>
    { l with
      recs := eraseNat idx l.recs
      gens := insertNat idx g l.gens
      releasing := l.releasing ++ [(idx, n)]
      series := eraseNat idx l.series
      past := match lookupNat idx l.recs with
        | some r => l.withPast idx r t true true
        | none => l.past }
  | .series idx es, l =>
    { l with series := insertNat idx (es.foldl (fun a e => putEntry e a) ((lookupNat idx l.series).getD [])) l.series }
  | .billing b, l => { l with billing := l.billing ++ [b] }
  | .clockAdj a, l => { l with clockAdjs := l.clockAdjs ++ [(n, a)] }
  | .audit a, l => { l with audits := l.audits ++ [(n, a)] }
  | .event e, l => { l with events := l.events ++ [(n, e)] }
  | .contrib g cs, l =>
    let late := (cs.filter (·.afterFinal)).length
    { l with
      contribs := (l.contribs.filter fun c => !(cs.any fun d => d.same c)) ++ cs
      late := if late = 0 then l.late else insertNat g (late + (lookupNat g l.late).getD 0) l.late }
  | .result r, l =>
    { l with
      results := (l.results.filter fun x => !(x.group == r.group && x.start == r.start)) ++ [r]
      late := eraseNat r.group l.late }
  | .minute m, l => { l with minutes := l.minutes ++ [m] }
  | .boundaryRec b, l =>
    { l with bounds := (l.bounds.filter fun x => !(x.point == b.point && x.at_ == b.at_)) ++ [b] }
  | .phasors p, l => { l with phasors := l.phasors ++ [p] }
  | .headCut g e _, l => { l with cuts := insertNat g e l.cuts }
  | .config i v b, l => { l with config := insertNat i (v, b) l.config }
  | .table x, l => { l with tables := l.tables.load t x }
  | .effective k x, l => { l with tables := l.tables.effect x k }
  | .relay i r, l => { l with relays := l.relays.set i r }
  | .pin e, l => { l with pins := l.pins ++ [e] }
  | .unpin e, l => { l with pins := l.pins.filter (· != e) }
  | .name b e, l => { l with names := l.names ++ [(b, e)] }
  | .dropName b, l => { l with names := l.names.filter fun x => x.1 != b }
  | .period p v, l => { l with period := p, periodVersion := v }
  | .creation g f u, l => { l with created := some (g, f, u) }
  | .boundary x, l => { l with lastBoundary := x }
  | .snapshotId k, l => { l with snapshotId := k }
  | .campaign c, l => { l with campaigns := (l.campaigns.filter fun x => x.num != c.num) ++ [c] }
  | .campaignEnd k, l => { l with campaigns := modifyAll (fun x => x.num == k) (fun x => { x with done := true }) l.campaigns }
  | .foreign _ _, l => l

/-- Whether salvage mode admits an item (R121). -/
def Item.admitted : Item → Bool
  | .billing _ => true
  | .patch _ w n => patchAdmitted w n
  | .audit _ => true
  | .clockAdj _ => true
  | .event _ => true
  | .unpin _ => true
  | .dropName _ => true
  | .effective _ _ => true
  | .boundary _ => true
  | _ => false

/-! ## Epochs -/

/-- 256 MiB, the content limit of an epoch (R97). -/
def epochLimit : Nat := 268435456

/-- The epochs that are HELD. -/
def heldCount (s : State) : Nat := (s.led.epochs.filter fun e => e.state == .held).length

/-- The open epoch. -/
def openEpoch (s : State) : Option Epoch := s.led.epochs.find? fun e => e.state == .opened

/-- Its number; 0 when none is open. -/
def openNum (s : State) : Nat := ((openEpoch s).map (·.num)).getD 0

/-- EPOCH_HIGH, from either copy (R96). -/
def epochHigh (s : State) : Nat := (s.led.highA.orElse fun _ => s.led.highB).getD 0

/-- Whether an epoch has committed. -/
def committed (s : State) (n : Nat) : Bool := n != 0 && decide (n ≤ s.led.lastCommitted)

/-- The ledger changed. -/
def onLed (f : Ledger → Ledger) (s : State) : State := { s with led := f s.led }

/-- The open epoch changed. -/
def onOpen (f : Epoch → Epoch) (s : State) : State :=
  onLed (fun l => { l with epochs := modifyFirst (fun e => e.state == .opened) f l.epochs }) s

/-- A new epoch: EPOCH_HIGH + 1 is written to both copies and the epoch opens (R96). -/
def openNext (at_ : LTime) (formatting : Bool) (s : State) : State :=
  let n := epochHigh s + 1
  onLed (fun l => { l with
    highA := some n
    highB := some n
    epochs := l.epochs ++ [⟨n, at_, 0, .opened, [], 112, l.work, false, false, formatting, [], false, 0⟩] }) s

/-- Closing by the causes of CLOSE (R351): 0 boundary, 1 command, 2 warning, 3 256 MiB limit, 4 switchover. -/
def closeNow (cause : Nat) (s : State) : State :=
  let t := now s
  let n := openNum s
  let s := onOpen (fun e => { e with
    state := .closed
    closed := t
    after := s.led.work
    closedTick := s.clk
    byWarning := cause == 2 }) s
  let s := if mirroring s then emit (.twill 0x12 (putLe 8 n ++ putLe 8 t ++ putLe 1 cause ++ zeros 7)) s else s
  openNext t false s

/-- The open epoch closes under R97, unless two epochs are HELD, when only a warning closes it (R99). A standby closes
with the active's CLOSE (R351). -/
def closeEpoch (cause : Nat) (s : State) : State :=
  if (openEpoch s).isNone || isStandby s then s
  else if heldCount s ≥ 2 && cause != 2 then s
  else closeNow cause s

/-! ## Events -/

/-- Severity of an event code (Table CI.16); STORE_STAGE and SELF_TEST_DONE and DRAM_ECC state theirs apart. -/
def sevOf (code : Nat) : Nat :=
  if [0x0004, 0x0006, 0x0008, 0x0101, 0x0201, 0x0401, 0x0402, 0x0503, 0x0504, 0x0D01].contains code then 1
  else if [0x0001, 0x0003, 0x0005, 0x0007, 0x0102, 0x0103, 0x0108, 0x0205, 0x0301, 0x0403, 0x0405, 0x0601, 0x0702,
    0x0801, 0x0A02, 0x0A04, 0x0C01, 0x0C02, 0x0D02, 0x0D04].contains code then 2
  else if [0x0009, 0x0104, 0x0105, 0x0106, 0x0107, 0x0109, 0x010A, 0x010B, 0x0204, 0x0302, 0x0404, 0x0501, 0x0502,
    0x0602, 0x0603, 0x0901, 0x0B02, 0x0B03].contains code then 3
  else if [0x0902, 0x0903, 0x0C03].contains code then 5
  else 4

/-- Source of an event code (Table CI.19), for the codes whose source does not depend on a network or a relay. -/
def srcOf (code : Nat) : Nat :=
  if code ≤ 0x0003 then 0x00
  else if code ≤ 0x0009 then 0x01
  else if code = 0x0108 || code = 0x0109 then 0x01
  else if code = 0x010A || code = 0x010B then 0x07
  else match code / 256 with
    | 0x01 => 0x00
    | 0x02 => 0x07
    | 0x03 => 0x09
    | 0x04 => 0x0A
    | 0x05 => 0x0B
    | 0x06 => 0x0C
    | 0x07 => 0x06
    | 0x08 => 0x08
    | 0x09 => 0x02
    | 0x0A => 0x0F
    | 0x0B => 0x0E
    | 0x0C => 0x0D
    | _ => 0x10

/-- Source of a network's events (Table CI.19, 0x0101 to 0x0107). -/
def netSrc : Option Net → Nat
  | some .plc => 0x03
  | some .rf => 0x04
  | none => 0x00

/-- An event record at the present instant. -/
def mkEv (s : State) (code : Nat) (data : Bytes) (mh : Option Nat) : EvRec :=
  { ltime := now s, code := code, severity := sevOf code, source := srcOf code, mh := mh, data := fitTo 16 data }

/-- An event of a network: its source is that network's block. -/
def mkNetEv (s : State) (code : Nat) (data : Bytes) (mh : Option Nat) (net : Option Net) : EvRec :=
  { mkEv s code data mh with source := netSrc net }

/-- Events about ledger content, posted after the epoch that holds the content commits (R46). DEDUCED: those that
report what their own append group changes (log entry 14). -/
def aboutLedger (e : EvRec) : Bool :=
  [0x0008, 0x0101, 0x0102, 0x0103, 0x010A, 0x010B, 0x0204, 0x0205, 0x0301, 0x0302, 0x0401, 0x0402, 0x0403, 0x0404,
    0x0501, 0x0502, 0x0503, 0x0504].contains e.code ||
  ((e.code == 0x0405 || e.code == 0x0406) && e.source == 0x0A)

/-- An MSI-X message is sent, or pends while its vector is masked (BAR0 MSI-X structures). -/
def sendMsix (v : Nat) (s : State) : State :=
  if (s.bar0.msix.getD (4 * v + 3) 1) % 2 = 1 then
    { s with bar0 := { s.bar0 with pba := if s.bar0.pba.testBit v then s.bar0.pba else s.bar0.pba + 2 ^ v } }
  else emit (.msix v) s

/-- Entries of the event ring. -/
def EvRing.size (r : EvRing) : Nat := 2 ^ r.log2

/-- The event ring is full (R47). -/
def EvRing.full (r : EvRing) : Bool := (r.prod + 1) % r.size == r.cons % r.size

/-- One entry written to the event ring, PROD advanced and copied to the shadow (R483), the vector sent. -/
def writeEvent (e : EvRec) (s : State) : State :=
  let r := s.bar0.ev
  let p := (r.prod + 1) % r.size
  let s := emit (.hostEvent r.prod e) { s with bar0 := { s.bar0 with ev := { r with prod := p } } }
  let s := if r.shadow = 0 then s else emit (.shadow r.shadow p) s
  sendMsix r.vector s

/-- EVENTS_LOST as it is posted to the ring (R47). -/
def lostEvent (s : State) : EvRec := mkEv s 0x0009 (putLe 4 (min s.bar0.ev.lostSep 0xFFFFFFFF)) none

/-- When space has returned, EVENTS_LOST is posted first and the separate count cleared (R47). -/
def postLost (s : State) : State :=
  if s.bar0.ev.enable && s.bar0.ev.lostSep != 0 && !s.bar0.ev.full && isActive s then
    let s := writeEvent (lostEvent s) s
    { s with bar0 := { s.bar0 with ev := { s.bar0.ev with lostSep := 0 } } }
  else s

/-- An event offered to the event ring (R46, R47), to the remote sessions (R49) and to the head (R92); a standby posts none (R27). -/
def postEvent (e : EvRec) (s : State) : State :=
  if !isActive s then s
  else
    let s := postLost s
    let s :=
      if s.bar0.ev.enable && decide (e.severity ≥ s.bar0.ev.minSeverity) then
        if s.bar0.ev.full then
          { s with bar0 := { s.bar0 with ev := { s.bar0.ev with
            lost := satInc 0xFFFFFFFF s.bar0.ev.lost, lostSep := satInc 0xFFFFFFFF s.bar0.ev.lostSep } } }
        else writeEvent e s
      else s
    let s := if s.uploadSub.connected && s.uploadSub.headRing.isSome then
        { emit (.uploadSub 0x03 e.bytes) s with uploadSub := { s.uploadSub with lastTraffic := s.clk } }
      else s
    { emitAll (s.remotes.map fun r => .remoteEvent r.id e) s with
      remotes := s.remotes.map fun r => { r with lastTraffic := s.clk } }

/-! ## Append groups -/

/-- The KEY of the next group (R350): INPUT_SEQ and the group's index within its input. -/
def nextKey (s : State) : Nat := (s.twin.curSeq % 2 ^ 56) * 256 + s.twin.groupIndex % 256

/-- A new input of the stream (R349, R350), of a kind: the active sends it to its standby, whose own stream is the one it receives. -/
def newInput (kind : Nat) (s : State) : State :=
  if isStandby s then s
  else
  let n := s.twin.inputSeq + 1
  let s := { s with twin := { s.twin with inputSeq := n, curSeq := n, groupIndex := 0 } }
  if mirroring s then emit (.twill 0x10 (putLe 8 n ++ putLe 1 kind ++ zeros 7 ++ putLe 8 (now s))) s else s

/-- Work on an input taken earlier goes on: its groups carry that input's INPUT_SEQ (R350). -/
def resumeInput (n : Nat) (s : State) : State := { s with twin := { s.twin with curSeq := n, groupIndex := 0 } }

/-- A timer of the stream: an input of the active (R349, kind 6); a standby runs it as the active's input instead. -/
def onTimer (f : State → State) (s : State) : State :=
  if isStandby s then s else f s

/-- The timer enters the active's stream (R349, kind 6). -/
def timerInput (s : State) : State := if isActive s then newInput 6 s else s

/-- What stops a group from being appended: two epochs HELD (R99), or salvage mode and an item outside R121. -/
def appendRefusal (items : List Item) (s : State) : Option Nat :=
  if heldCount s ≥ 2 then some 0x0501
  else if inSalvage s && !(items.all Item.admitted) then some 0x0503
  else none

/-- An epoch not yet committed, changed. -/
def onEpoch (n : Nat) (f : Epoch → Epoch) (s : State) : State :=
  onLed (fun l => { l with epochs := modifyFirst (fun e => e.num == n) f l.epochs }) s

/-- The epoch a group goes into: the open one (R22); on a standby the one that the group's mark names, while it is not yet
digested (R351). -/
def groupEpoch (s : State) : Nat :=
  match if isStandby s then lookupNat (nextKey s) s.twin.marks else none with
  | some n => if s.led.epochs.any fun e => e.num == n && e.state == .closed then n else openNum s
  | none => openNum s

/-- An epoch with one more group; a closed one's content follows. -/
def Epoch.take (g : Group) (e : Epoch) : Epoch :=
  { e with
    groups := e.groups ++ [g]
    size := if g.fromSub then e.size else e.size + g.size
    after := if e.state == .closed then g.items.foldl (fun w i => i.apply e.num g.completed w) e.after else e.after }

/-- The group goes into the open epoch (R22): its content is applied, its size counted, its mark sent (R351).
Events of a subordinate enter the journal and are not posted (log entry 63). -/
def addGroup (items : List Item) (mh : Option Nat) (fromCmd fromSub : Bool) (s : State) : State :=
  let n := groupEpoch s
  let t := now s
  let g : Group := { mh := mh, completed := t, key := nextKey s, fromCmd := fromCmd, fromSub := fromSub, items := items }
  let s1 := onLed (fun l => { l with work := items.foldl (fun w i => i.apply n t w) l.work }) s
  let s1 := onEpoch n (Epoch.take g) s1
  let s1 := { s1 with twin := { s1.twin with groupIndex := s1.twin.groupIndex + 1 } }
  let s1 := if mirroring s1 then emit (.twill 0x11 (putLe 8 g.key ++ putLe 8 n)) s1 else s1
  let evs := items.filterMap fun i => match i with
    | .event e => if aboutLedger e then none else some e
    | _ => none
  if fromSub then s1 else evs.foldl (fun a e => postEvent e a) s1

/-- The open epoch closes when its content reaches 256 MiB (R97). -/
def limitClose (s : State) : State :=
  match openEpoch s with
  | some e => if e.size ≥ epochLimit then closeEpoch 3 s else s
  | none => s

/-- An append group completes (R22). With no epoch open its events are kept for the next start (R382); beyond
256 MiB while two epochs are HELD, and in salvage mode for other items, it is refused and counted (R99, R121). -/
def append (items : List Item) (mh : Option Nat) (s : State) : State :=
  match openEpoch s with
  | none => { s with boot := { s.boot with owed := s.boot.owed ++ items.filterMap fun i => match i with
      | .event e => some e
      | _ => none } }
  | some e =>
    if (heldCount s ≥ 2 && decide (e.size ≥ epochLimit)) || (inSalvage s && !(items.all Item.admitted)) then
      { s with counters := { s.counters with refusedGroups := s.counters.refusedGroups + 1 } }
    else limitClose (addGroup items mh false false s)

/-- An event that the stream of inputs gives: journalled in its own group (R46). -/
def raiseEv (e : EvRec) (s : State) : State := append [.event e] e.mh s

/-- An event by code and data, without a meter. -/
def raise (code : Nat) (data : Bytes) (s : State) : State := raiseEv (mkEv s code data none) s

/-- An event of the chip's own hardware: a standby sends it to the active, which appends it (R349). -/
def raiseHw (code : Nat) (data : Bytes) (s : State) : State :=
  if isStandby s then emit (.twill 0x14 (mkEv s code data none).bytes) s
  else raise code data (newInput 8 s)

/-- A change of one record, as an append group of its own. -/
def patchRec (idx : Nat) (f : Rec → Rec) (evs : List EvRec) (s : State) : State :=
  match getRec s idx with
  | some r => append (.patch idx r (f r) :: evs.map .event) (some (recMh idx r)) s
  | none => s

/-- A configuration item's new value with its next version (R42). -/
def nextVersion (v : Nat) : Nat := if v ≥ 0xFFFFFFFE then 1 else v + 1

/-- An item the device changes by itself (R42): read-only and state items. -/
def setItem (item : Nat) (b : Bytes) (s : State) : State :=
  append [.config item (nextVersion (s.led.work.itemVersion item)) b] none s

/-! ## Completions -/

/-- A ring changed. -/
def onRing (n : Nat) (f : Ring → Ring) (s : State) : State :=
  { s with bar0 := { s.bar0 with rings := s.bar0.rings.modify n f } }

/-- A ring's block. -/
def ringOf (s : State) (n : Nat) : Ring := s.bar0.rings.getD n Ring.reset

/-- The interrupt of a posted completion: after COAL_COUNT + 1 of them, or after COAL_TIME (Table CI.7, R31). -/
def coalesce (n : Nat) (coalCount : Nat) (s : State) : State :=
  let r := ringOf s n
  if decide (r.coalPending + 1 ≥ coalCount + 1) || s.bar0.coalTime == 0 then
    sendMsix r.vector (onRing n (fun r => { r with coalPending := 0, coalDue := none }) s)
  else
    onRing n (fun r => { r with
      coalPending := r.coalPending + 1
      coalDue := some (r.coalDue.getD (s.clk + usTicks s.bar0.coalTime)) }) s

/-- A completion written to the completion ring with the ring's phase (R34), its output buffer first. -/
def postCompletion (addr : Nat) (c : Completion) (s : State) : State :=
  let r := ringOf s c.ring
  let s := if c.out.isEmpty then s else emit (.buffer addr c.out) s
  let s := emit (.completion c.ring r.cpProd r.phase { c with crHead := r.head }) s
  let s := onRing c.ring (fun r => { r with
    cpProd := (r.cpProd + 1) % 256, phase := if r.cpProd = 255 then !r.phase else r.phase,
    reserved := r.reserved - 1, unread := r.unread + 1 }) s
  coalesce c.ring r.coalCount s

/-- The completion as a replay (R474). -/
def replayOf (s : State) (c : Completion) : Completion :=
  { c with replayed := true, committed := committed s c.epoch, bufUsed := 0, out := [] }

/-- One completion owed is delivered. -/
def deliver (d : Dest) (session : Option Nat) (addr : Nat) (c : Completion) (s : State) : State :=
  match d with
  | .host => postCompletion addr c s
  | .remote =>
    match session with
    | some i =>
      if s.remotes.any fun r => r.id == i then
        { emit (.remoteCompletion i c) s with
          remotes := modifyFirst (fun r => r.id == i) (fun r => { r with lastTraffic := s.clk }) s.remotes }
      else s
    | none => s
  | .upload =>
    if s.uploadSub.connected then
      { emit (.uploadSub 0x02 (c.bytes false ++ c.out)) s with uploadSub := { s.uploadSub with lastTraffic := s.clk } }
    else s
  | .dropped => s

/-- A completed command leaves: every copy gets its completion, the first as it is, the others as replays (R38);
the completion enters the ring's cache of 4,096 unless its class is 0x01. -/
def complete (f : InFlight) (c : Completion) (s : State) : State :=
  let s := { s with inflight := s.inflight.filter fun g => g.seq != f.seq }
  let s := (f.dests.zipIdx).foldl (fun a d =>
    deliver d.1 f.session f.cmd.bufAddr (if d.2 = 0 then c else replayOf a c) a) s
  onRing c.ring (fun r => { r with
    outstanding := r.outstanding - f.dests.length
    cache := if c.result / 256 = 1 then r.cache
      else lastN 4096 (r.cache ++ [⟨c.tag, f.frame, Config.sha256 f.frame, { c with out := [] }⟩]) }) s

/-- What audit record a change leaves beside opcode, ring, tag and frame (R54, R114). -/
structure AuditPart where
  item : Nat
  isTable : Bool
  digestValues : Bool
  mh : Option Nat
  oldVersion : Nat
  newVersion : Nat
  old : Bytes
  new : Bytes
  deriving DecidableEq, Repr

/-- The answer of step 4 of R38 to a command: a refusal or OK_NO_CHANGE without change; a reply of a read with the epoch
read; a change with its items; nothing yet (the command waits to start); started, to complete later. -/
inductive Answer where
  | refuse (result : Nat) (data : Bytes)
  | reply (result : Nat) (epoch : Nat) (uncommitted : Bool) (data out : Bytes) (s : State)
  | change (items : List Item) (audit : AuditPart) (result : Nat) (data out : Bytes) (used : Nat) (s : State)
  | hold
  | wait (s : State)

/-- The audit part of a changing command without values of its own: OLD zero, NEW its PARAM (R114). -/
def auditParam (c : Cmd) (mh : Option Nat) : AuditPart :=
  ⟨0, false, false, mh, 0, 0, [], c.param⟩

/-- A value as OLD or NEW holds it: zero-padded up to 32 bytes, else its SHA-256 (R114). -/
def auditValue (b : Bytes) : Bytes := if b.length ≤ 32 then fitTo 32 b else Config.sha256 b

/-- The commands whose tables a head distributes (R125, R146, R165, R172). -/
def distributed (op : Nat) : Bool := [0x0401, 0x0501, 0x0502, 0x0603, 0x0701].contains op

/-- Origin, ring and key identifier of an audit record (Table LG.17, R54): a table load that comes on the upload channel is
the head's distribution. -/
def auditOrigin (s : State) (f : InFlight) : Nat × Nat × Bytes :=
  match f.dests.head? with
  | some .upload =>
    if distributed f.cmd.opcode then (2, 0xFF, s.uploadSub.headKeyId) else (1, f.cmd.ring, s.uploadSub.headKeyId)
  | some .remote =>
    (1, f.cmd.ring, ((s.remotes.find? fun r => some r.id == f.session).map (·.keyId)).getD [])
  | _ => (0, f.cmd.ring, [])

/-- The audit record of a changing command (R54, Table LG.17). -/
def auditOf (s : State) (f : InFlight) (p : AuditPart) (result : Nat) : Audit :=
  let o := auditOrigin s f
  { opcode := f.cmd.opcode, ring := o.2.1, origin := o.1, item := p.item, tag := f.cmd.tag, keyId := o.2.2,
    segment := 0, isTable := p.isTable, digestValues := p.digestValues, result := result, mh := p.mh,
    oldVersion := p.oldVersion, newVersion := p.newVersion, frameDigest := Config.sha256 f.frame,
    old := p.old, new := p.new, sub := false }

/-- A completion of a command. -/
def mkCompletion (f : InFlight) (result epoch used : Nat) (committed_ uncommitted : Bool) (data out : Bytes) :
    Completion :=
  { tag := f.cmd.tag, result := result, opcode := f.cmd.opcode, replayed := false, committed := committed_,
    uncommittedData := uncommitted, ring := f.cmd.ring, crHead := 0, bufUsed := used, epoch := epoch,
    data := fitTo 32 data, out := out }

/-- A completion goes out now, or with WAIT_COMMIT once its epoch commits (R37). -/
def completeOrWait (f : InFlight) (c : Completion) (s : State) : State :=
  if f.cmd.waitCommit && c.epoch != 0 && !committed s c.epoch then
    { s with
      inflight := modifyFirst (fun g => g.seq == f.seq) (fun g => { g with started := true, waitCommit := some c })
        s.inflight }
  else complete f c s

/-- A command is finished with an answer (R37, R54): a change is appended with its audit record last, unless the
ledger refuses the group (R99, R121). -/
def finish (f : InFlight) (a : Answer) (s : State) : State :=
  match a with
  | .refuse r d => complete f (mkCompletion f r 0 0 false false d []) s
  | .reply r e u d o s' =>
    completeOrWait f (mkCompletion f r e (if f.cmd.bufOut then o.length else f.cmd.bufLen) (committed s' e) u d o) s'
  | .change items p r d o used s' =>
    let all := items ++ [.audit (auditOf s' f p r)]
    match appendRefusal all s' with
    | some code => complete f (mkCompletion f code 0 0 false false [] []) s
    | none =>
      let n := openNum s'
      let s'' := limitClose (addGroup all p.mh true false s')
      completeOrWait f (mkCompletion f r n used false false d o) s''
  | .hold => s
  | .wait s' => s'

/-- The command of a ring and tag that is in progress. -/
def inflightOf (s : State) (key : Nat × Nat) : Option InFlight :=
  s.inflight.find? fun f => f.cmd.ring == key.1 && f.cmd.tag == key.2 && f.waitCommit.isNone

/-- A command in progress is finished later, by whatever ended its work. -/
def finishKey (key : Nat × Nat) (a : Answer) (s : State) : State :=
  match inflightOf s key with
  | some f => finish f a s
  | none =>
    match a with
    | .change items _ _ _ _ _ s' => append items none s'
    | .reply _ _ _ _ _ s' => s'
    | .wait s' => s'
    | .refuse _ _ => s
    | .hold => s

end Sys2Proof.Machine
end

