-- ==== Sys2Proof/Machine/Operands.lean ====
section
/-! DEFINITION. The operand forms of commands: the 64-byte frame (Table CI.8), PARAM layouts and buffer directions by
opcode (Table CI.13, R469), the meter an opcode names, deadlines, and step 4's common part (R38, R41). -/

namespace Sys2Proof.Machine

/-- Which buffer an opcode takes (Table CI.13). -/
inductive BufDir where
  | none
  | input
  | output
  | either
  deriving DecidableEq, Repr

/-- A row of Table CI.13: opcode, changing, head role needed, buffer, and the PARAM fields (offset, size) it names. -/
structure OpRow where
  op : Nat
  chg : Bool
  head : Bool
  buf : BufDir
  fields : List (Nat × Nat)
  deriving DecidableEq, Repr

/-- Table CI.13, classes 0x01 to 0x04. -/
def opRowsA : List OpRow := [
  ⟨0x0101, false, false, .none, []⟩,
  ⟨0x0102, false, false, .none, []⟩,
  ⟨0x0103, false, false, .output, [(0x20, 4)]⟩,
  ⟨0x0104, true, false, .either, [(0x20, 4), (0x24, 4), (0x28, 16)]⟩,
  ⟨0x0105, true, false, .none, [(0x20, 1), (0x24, 4)]⟩,
  ⟨0x0106, true, false, .none, [(0x20, 1), (0x24, 4)]⟩,
  ⟨0x0201, true, false, .either, [(0x20, 16), (0x30, 2), (0x32, 1), (0x33, 1)]⟩,
  ⟨0x0202, true, false, .none, [(0x20, 4)]⟩,
  ⟨0x0203, false, false, .none, [(0x20, 16)]⟩,
  ⟨0x0204, false, false, .output, [(0x20, 4), (0x28, 8)]⟩,
  ⟨0x0205, false, false, .output, [(0x20, 4), (0x24, 4)]⟩,
  ⟨0x0206, true, false, .none, [(0x20, 4), (0x24, 4), (0x28, 8)]⟩,
  ⟨0x0207, true, false, .either, [(0x20, 4), (0x24, 1), (0x25, 1), (0x26, 2), (0x28, 6)]⟩,
  ⟨0x0208, true, false, .input, [(0x20, 4)]⟩,
  ⟨0x0209, false, true, .output, []⟩,
  ⟨0x0301, true, false, .none, [(0x20, 8)]⟩,
  ⟨0x0302, true, false, .none, [(0x20, 8)]⟩,
  ⟨0x0303, true, false, .none, [(0x20, 8), (0x28, 16)]⟩,
  ⟨0x0304, true, false, .none, [(0x20, 16)]⟩,
  ⟨0x0305, false, false, .output, [(0x20, 4), (0x24, 1), (0x28, 8), (0x30, 8), (0x38, 8)]⟩,
  ⟨0x0306, false, false, .output, [(0x20, 8), (0x28, 8), (0x30, 1)]⟩,
  ⟨0x0307, false, false, .output, [(0x20, 4)]⟩,
  ⟨0x0308, true, false, .none, []⟩,
  ⟨0x0309, true, false, .none, [(0x20, 4), (0x24, 4)]⟩,
  ⟨0x030A, false, false, .output, [(0x20, 8), (0x28, 8)]⟩,
  ⟨0x0401, true, false, .input, [(0x20, 4)]⟩,
  ⟨0x0402, false, false, .output, []⟩,
  ⟨0x0403, true, false, .none, [(0x20, 4), (0x24, 1), (0x25, 1), (0x26, 2), (0x28, 8), (0x30, 8)]⟩,
  ⟨0x0404, true, false, .none, [(0x20, 4), (0x28, 8), (0x30, 8)]⟩]

/-- Table CI.13, classes 0x05 to 0x09. -/
def opRowsB : List OpRow := [
  ⟨0x0501, true, false, .input, [(0x20, 4)]⟩,
  ⟨0x0502, true, false, .input, [(0x20, 4)]⟩,
  ⟨0x0503, false, false, .output, [(0x20, 4), (0x24, 4)]⟩,
  ⟨0x0504, true, false, .none, [(0x20, 4), (0x24, 1)]⟩,
  ⟨0x0601, true, false, .none, [(0x20, 4), (0x28, 8), (0x30, 8)]⟩,
  ⟨0x0602, false, false, .output, [(0x20, 4)]⟩,
  ⟨0x0603, true, false, .input, [(0x20, 4)]⟩,
  ⟨0x0604, true, false, .none, [(0x20, 4)]⟩,
  ⟨0x0605, true, false, .none, [(0x20, 4), (0x24, 1)]⟩,
  ⟨0x0606, true, false, .none, [(0x20, 1), (0x21, 1)]⟩,
  ⟨0x0701, true, false, .input, [(0x20, 4)]⟩,
  ⟨0x0702, false, false, .output, [(0x20, 4), (0x28, 8)]⟩,
  ⟨0x0703, true, false, .none, [(0x20, 8), (0x28, 4)]⟩,
  ⟨0x0704, false, false, .none, [(0x20, 4)]⟩,
  ⟨0x0705, false, false, .output, [(0x20, 8), (0x28, 8)]⟩,
  ⟨0x0801, false, false, .none, []⟩,
  ⟨0x0802, true, false, .none, [(0x20, 8)]⟩,
  ⟨0x0803, true, false, .input, [(0x20, 4)]⟩,
  ⟨0x0804, true, false, .input, [(0x20, 4)]⟩,
  ⟨0x0901, true, false, .input, [(0x20, 1), (0x21, 1), (0x22, 1), (0x24, 4)]⟩,
  ⟨0x0902, true, false, .input, [(0x20, 1), (0x21, 1), (0x24, 4)]⟩,
  ⟨0x0903, true, false, .none, [(0x20, 1), (0x21, 1)]⟩,
  ⟨0x0904, true, false, .none, [(0x20, 1)]⟩,
  ⟨0x0905, false, false, .none, [(0x20, 1)]⟩,
  ⟨0x0906, true, false, .input, [(0x20, 1)]⟩]

/-- Table CI.13, classes 0x0A to 0x0E. -/
def opRowsC : List OpRow := [
  ⟨0x0A01, true, false, .input, [(0x20, 4), (0x24, 4)]⟩,
  ⟨0x0A02, false, false, .none, []⟩,
  ⟨0x0A03, true, false, .none, []⟩,
  ⟨0x0A04, true, false, .input, []⟩,
  ⟨0x0A05, false, false, .none, [(0x20, 2)]⟩,
  ⟨0x0A06, true, false, .none, [(0x20, 2)]⟩,
  ⟨0x0B01, false, false, .none, []⟩,
  ⟨0x0B02, true, false, .none, []⟩,
  ⟨0x0B03, true, false, .none, []⟩,
  ⟨0x0B04, true, false, .none, [(0x20, 1), (0x24, 4)]⟩,
  ⟨0x0C01, false, false, .output, []⟩,
  ⟨0x0C02, false, false, .none, [(0x20, 1)]⟩,
  ⟨0x0C03, false, false, .output, [(0x20, 8), (0x28, 4)]⟩,
  ⟨0x0C04, true, false, .input, [(0x20, 8), (0x28, 4)]⟩,
  ⟨0x0C05, true, false, .none, [(0x20, 8), (0x28, 4)]⟩,
  ⟨0x0C06, true, false, .none, [(0x20, 1), (0x24, 4)]⟩,
  ⟨0x0D01, true, false, .input, [(0x20, 1), (0x21, 1), (0x22, 1), (0x23, 1)]⟩,
  ⟨0x0D02, true, false, .none, [(0x20, 1), (0x21, 1)]⟩,
  ⟨0x0D03, true, false, .input, []⟩,
  ⟨0x0D04, false, false, .none, []⟩,
  ⟨0x0E01, true, false, .none, [(0x20, 4)]⟩,
  ⟨0x0E02, false, false, .output, [(0x20, 4)]⟩,
  ⟨0x0E03, false, false, .output, []⟩,
  ⟨0x0E04, true, false, .input, [(0x20, 4)]⟩]

/-- Table CI.13. -/
def opRows : List OpRow := opRowsA ++ opRowsB ++ opRowsC

/-- The row of an opcode. -/
def opRow (op : Nat) : Option OpRow := opRows.find? fun r => r.op == op

/-- Whether a PARAM byte belongs to a field the opcode names. -/
def OpRow.named (r : OpRow) (off : Nat) : Bool :=
  r.fields.any fun f => decide (f.1 ≤ off) && decide (off < f.1 + f.2)

/-- Reserved bits inside named PARAM fields: WHAT [31:4] of MTR_READ_NOW, CHANNELS [6:4] of LDG_READ_SERIES,
and DEPTH and the reserved bits of ATTR (Table KC.2). -/
def reservedBitsClear (op : Nat) (param : Bytes) : Bool :=
  if op = 0x0206 then decide (le param 4 4 < 16)
  else if op = 0x0901 || op = 0x0902 then decide (le param 4 4 &&& 0xEF0007C0 = 0)
  else if op = 0x0305 then (bitsOf (le param 4 1) 6 4) == 0
  else true

/-- Reserved bytes of a frame are zero (R8, R38 step 1): FLAGS [7:3], 0x03, 0x1C to 0x1F and the unnamed PARAM bytes. -/
def reservedZero (r : OpRow) (frame : Bytes) : Bool :=
  decide (le frame 2 1 < 8) && zeroAt frame 3 1 && zeroAt frame 0x1C 4 &&
    ((List.range 32).all fun k => r.named (0x20 + k) || le frame (0x20 + k) 1 == 0) &&
    reservedBitsClear r.op (frame.drop 0x20)

/-- Sizes of the configuration items that a value in PARAM carries; none for those carried in the buffer. -/
def itemInParam (item : Nat) : Bool :=
  !([0x0103, 0x0104, 0x0107, 0x0108, 0x0109, 0x0B10, 0x0C04, 0x0D01, 0x0D02, 0x0D03, 0x0D04, 0x0D05, 0x0F01].contains item)

/-- Whether a command, as its PARAM stands, needs a buffer (some true), takes none (some false), or may have one. -/
def bufferNeed (r : OpRow) (param : Bytes) : Option Bool :=
  if r.op = 0x0104 then some (!itemInParam (le param 0 4))
  else if r.op = 0x0201 then some (le param 0x13 1 == 1)
  else if r.op = 0x0207 then (if le param 4 1 = 2 then none else some true)
  else match r.buf with
    | .none => some false
    | _ => some true

/-- BUF_OUT agrees with the direction the opcode and its fields select (R469). -/
def directionOk (r : OpRow) (param : Bytes) (bufOut : Bool) (len : Nat) : Bool :=
  match r.buf with
  | .input => !bufOut
  | .output => bufOut || len == 0
  | .none => true
  | .either =>
    if r.op = 0x0207 then
      (match le param 4 1 with
        | 0 => bufOut || len == 0
        | 1 => !bufOut
        | _ => true)
    else !bufOut

/-- Lengths that an opcode's own rule requires with result 0x0106 (R339, R424, R429). -/
def lengthOk (op : Nat) (param : Bytes) (len : Nat) : Bool :=
  if op = 0x0C03 || op = 0x0C04 then len == le param 8 4 * 4096
  else if op = 0x0D01 then len == le param 2 1 * le param 3 1
  else if op = 0x0D03 then len == 16
  else true

/-- Buffer fields valid (R469). -/
def bufferOk (r : OpRow) (frame : Bytes) (remote : Bool) : Bool :=
  let addr := le frame 0x10 8
  let len := le frame 0x18 4
  let param := frame.drop 0x20
  let bufOut := bitOf (le frame 2 1) 2
  addr % 8 == 0 && (len != 0 || addr == 0) && (!remote || addr == 0) &&
    decide (len ≤ if remote then 65536 else 16777216) &&
    (match bufferNeed r param with
      | some true => len != 0
      | some false => len == 0
      | none => true) &&
    directionOk r param bufOut len && lengthOk r.op param len

/-- The command a frame spells, with its ring and input buffer. -/
def cmdOf (ring : Nat) (frame buf : Bytes) : Cmd :=
  { ring := ring, opcode := le frame 0 2, fence := bitOf (le frame 2 1) 0, waitCommit := bitOf (le frame 2 1) 1,
    bufOut := bitOf (le frame 2 1) 2, deadline := le frame 4 4, tag := le frame 8 8, bufAddr := le frame 0x10 8,
    bufLen := le frame 0x18 4, param := (frame.drop 0x20).take 32, buf := buf }

/-- Step 1 and 2 of R38: the result that refuses a frame, if one does. -/
def frameRefusal (frame : Bytes) (remote : Bool) : Option Nat :=
  match opRow (le frame 0 2) with
  | none => some 0x0101
  | some r =>
    if !reservedZero r frame then some 0x0102
    else if !bufferOk r frame remote then some 0x0106
    else if le frame 8 8 = 0 then some 0x0104
    else none

/-- The MH a command names, where its opcode names one. -/
def cmdMh (c : Cmd) : Option Nat :=
  if [0x0202, 0x0204, 0x0206, 0x0207, 0x0305, 0x0307, 0x0403, 0x0404, 0x0503, 0x0601, 0x0602, 0x0604, 0x0605,
    0x0704].contains c.opcode then some (c.p 0x20 4)
  else if c.opcode = 0x0504 && c.p 0x24 1 == 0 then some (c.p 0x20 4)
  else none

/-- DEADLINE in seconds, with the class defaults (Table CI.8). -/
def cmdDeadline (c : Cmd) : Nat :=
  if c.deadline != 0 then c.deadline
  else if c.opcode / 256 = 0x02 || c.opcode = 0x0504 || c.opcode = 0x0604 || c.opcode = 0x0605 then 300
  else 10

/-- Ring order and FENCE let a command start (R41): every earlier command of its ring has
started, and with FENCE none before it is left. -/
def orderAllows (f : InFlight) (s : State) : Bool :=
  s.inflight.all fun g =>
    !(g.cmd.ring == f.cmd.ring && decide (g.seq < f.seq)) ||
      (g.started && !f.cmd.fence)

/-- No earlier command of the ring that names the same MH is still to execute (R41). -/
def sameMhClear (f : InFlight) (s : State) : Bool :=
  (cmdMh f.cmd).isNone ||
    s.inflight.all fun g =>
      !(g.cmd.ring == f.cmd.ring && decide (g.seq < f.seq) && g.waitCommit.isNone && cmdMh g.cmd == cmdMh f.cmd)

/-- A session runs for a meter. -/
def sessionOf (s : State) (idx : Nat) : Option Session :=
  s.meters.sessions.find? fun x => x.idx == idx

/-- A session serves a command. -/
def servesCmd (s : State) (c : Cmd) : Bool :=
  s.meters.sessions.any fun x => x.cmd == some (c.ring, c.tag)

/-- Step 4 of R38 for one opcode: the command executes if it was fetched and not yet finished, ring order lets it start
and no earlier command of its meter stands before it; the role and the service stage are checked, then the body
answers. A command that may not start yet leaves the state unchanged; one that waits for its meter has started. -/
def runDcs (op : Nat) (c : Cmd) (body : Cmd → State → Answer) (s : State) : State :=
  match s.inflight.find? fun f => f.cmd == c && f.waitCommit.isNone && f.forwardedTo.isNone with
  | none => s
  | some f =>
    if c.opcode != op || !orderAllows f s then s
    else
      let s := { s with inflight := modifyFirst (fun g => g.seq == f.seq) (fun g => { g with started := true }) s.inflight }
      if !sameMhClear f s then s
      else
        match opRow op with
        | none => s
        | some r =>
          if r.head && !s.boot.headRole then finish f (.refuse 0x0201 []) s
          else if !inService s then finish f (.refuse 0x0204 []) s
          else
            let t := if r.chg then newInput 4 s else s
            match body c t with
            | .hold => s
            | a => finish f a t

/-- A reply without output: OK with DATA. -/
def okData (epoch : Nat) (data : Bytes) (s : State) : Answer := .reply 0 epoch false data [] s

/-- An output written to the buffer: cut to BUF_LEN with 0x0001 when it does not fit (R37). -/
def okOut (c : Cmd) (epoch : Nat) (data out : Bytes) (s : State) : Answer :=
  .reply (if out.length ≤ c.bufLen then 0 else 0x0001) epoch false data (out.take c.bufLen) s

/-- A refusal without data. -/
def no (r : Nat) : Answer := .refuse r []

/-- A change whose audit record holds its PARAM (R114). -/
def changeParam (c : Cmd) (mh : Option Nat) (items : List Item) (data : Bytes) (s : State) : Answer :=
  .change items (auditParam c mh) 0 data [] c.bufLen s

/-- EXPECT_VERSION against the present version (R42). -/
def versionOk (expect now_ : Nat) : Bool := expect == 0xFFFFFFFF || expect == now_

/-- The first refusal of a list of (condition, result) judged in order (R45). -/
def firstRefusal : List (Bool × Nat) → Option Nat
  | [] => none
  | (b, r) :: rest => if b then some r else firstRefusal rest

/-- A command on a meter (R9, R73): a stale or free handle gives 0x0202. -/
def onMeter (c : Cmd) (s : State) (k : Nat → Rec → Answer) : Answer :=
  match s.led.work.recOf (c.p 0x20 4) with
  | none => no 0x0202
  | some (idx, r) => k idx r

/-- A command forwarded to the subordinate that holds its meter (R95): sent on the open upload channel with the
subordinate's MH and the original tag, else 0x0603. A standby waits for the active's forwarded completion (R349, kind 5). -/
def forwardTo (c : Cmd) (r : Rec) (s : State) : Answer :=
  if isStandby s || s.uploadHeads.any fun u => u.segment == r.segment && u.opened then
    let c' := { c with param := putLe 4 r.subMh ++ c.param.drop 4 }
    .wait { (if isStandby s then s else emit (.forward r.segment c') s) with
      inflight := modifyFirst (fun g => g.cmd == c) (fun g => { g with forwardedTo := some r.segment }) s.inflight }
  else no 0x0603

/-- A command on a meter that R95 forwards: a subordinate's meter goes to its segment; a command on the chip's own
meter waits while a session with it runs (R84). -/
def onOwnMeter (c : Cmd) (s : State) (k : Nat → Rec → Answer) : Answer :=
  onMeter c s fun idx r =>
    if r.segment != 0 then forwardTo c r s
    else if servesCmd s c then .hold
    else if (sessionOf s idx).isSome then .hold
    else k idx r

/-! ## Reading committed state -/

/-- Whether an epoch is among the four most recently committed, pinned or named (R104). -/
def mayRead (s : State) (n : Nat) : Bool :=
  (lastN 4 (s.led.readable.map (·.1))).contains n || s.led.work.pins.contains n ||
    s.led.work.names.any fun x => x.2 == n

/-- The content readable at an epoch (R104): EPOCH 0 selects the last committed one. -/
def readAt (s : State) (epoch : Nat) : Option (Nat × LState) :=
  let n := if epoch = 0 then s.led.lastCommitted else epoch
  s.led.readable.find? fun e => e.1 == n && mayRead s n

/-- A read at an epoch; one that is not readable gives 0x0205. -/
def atEpoch (s : State) (epoch : Nat) (k : Nat → LState → Answer) : Answer :=
  match readAt s epoch with
  | some (n, l) => k n l
  | none => no 0x0205

end Sys2Proof.Machine
end

