-- ==== Sys2Proof/Machine/Fabric.lean ====
section
/-! DEFINITION. The hardware queue fabric (03_queue_fabric): credits, packets, pops, drops and resets of one queue, and
the commands on them. -/

namespace Sys2Proof.Machine

/-- Cells a packet of `n` bytes fills (R60). -/
def cellsOf (n : Nat) : Nat := ceilDiv n 32

/-- A pointer moved on by some cells within the queue's range (R55). -/
def Queue.advance (q : Queue) (p n : Nat) : Nat :=
  if q.sizeCells = 0 then p else q.baseCell + (p - q.baseCell + n) % q.sizeCells

/-- Both copies of the write pointer moved on. -/
def Queue.moveWr (q : Queue) (n : Nat) : Queue := { q with wr := q.advance q.wr n, wrCopy := q.advance q.wrCopy n }

/-- Both copies of the read pointer moved on. -/
def Queue.moveRd (q : Queue) (n : Nat) : Queue := { q with rd := q.advance q.rd n, rdCopy := q.advance q.rdCopy n }

/-- A queue emptied: every item, the partly popped packet and the packet under production discarded (R65). -/
def Queue.emptied (q : Queue) (cells items : Nat) : Queue :=
  { q with
    items := []
    popped := 0
    building := none
    creditCells := cells
    creditItems := items
    wr := q.baseCell
    wrCopy := q.baseCell
    rd := q.baseCell
    rdCopy := q.baseCell
    stalled := false }

/-- The reset of R65: contents discarded, pointers at BASE_CELL, credits restored; pushes to a packet still being
produced are discarded up to its END. A stalled pop returns zero with ERR in the tag (R63). -/
def Queue.resetNow (q : Queue) : Queue :=
  { q.emptied q.sizeCells q.itemLimit with
    abandoned := q.abandoned || q.building.isSome
    popTag := if q.stalled then 0x200 else q.popTag }

/-- The next word of a packet (R57, R60): starting a packet needs and debits MAX_PKT_CELLS cells and one item; without
the credits nothing starts (R58). Pushes to an abandoned packet are discarded (R65). -/
def Queue.push (q : Queue) (w : BitVec 32) : Queue :=
  if !q.enable || q.abandoned then q
  else match q.building with
    | some b => { q with building := some (b ++ putLe 4 w.toNat) }
    | none =>
      if decide (q.creditCells ≥ q.maxPktCells) && decide (q.creditItems ≥ 1) then
        { q with
          building := some (putLe 4 w.toNat)
          creditCells := q.creditCells - q.maxPktCells
          creditItems := q.creditItems - 1 }
      else q

/-- The words of a packet: 32 bytes each, the last padded with zeros (R60, R62). -/
def packetWords (b : Bytes) : List CellWord :=
  (List.range (cellsOf b.length)).map fun k =>
    let part := (b.drop (32 * k)).take 32
    ⟨fitTo 32 part, part.length⟩

/-- The END write (R59, R61): a bad LAST_VALID or a packet beyond MAX_PKT_CELLS is discarded whole and counted; otherwise
the cells not used return and the packet becomes visible. -/
def Queue.finish (q : Queue) (lastValid : Nat) : Queue :=
  if !q.enable then q
  else if q.abandoned then { q with abandoned := false }
  else match q.building with
    | none => q
    | some b =>
      let len := b.length - 4 + lastValid
      let used := cellsOf len
      if lastValid = 0 || decide (lastValid > 4) || decide (used > q.maxPktCells) then
        { q with
          building := none
          creditCells := q.creditCells + q.maxPktCells
          creditItems := q.creditItems + 1
          oversize := satInc 255 q.oversize }
      else
        { q.moveWr used with
          building := none
          creditCells := q.creditCells + (q.maxPktCells - used)
          items := q.items ++ [packetWords (b.take len)] }

/-- The tag of a popped word (Table QF.3, POP_TAG). -/
def popTagOf (valid : Nat) (eop sop poison : Bool) : BitVec 32 :=
  BitVec.ofNat 32 (valid + 64 * bit eop + 128 * bit sop + 256 * bit poison)

/-- A pop from a queue that is not empty (R62): the next word with its tag; one cell credit returns, and the item credit
with the last word of a packet (R57). -/
def Queue.popWord (q : Queue) (poison : Bool) : Queue × Bytes :=
  match q.items with
  | (w :: rest) :: more =>
    let q' := { q.moveRd 1 with
      items := if rest.isEmpty then more else rest :: more
      popped := if rest.isEmpty then 0 else q.popped + 1
      creditCells := q.creditCells + 1
      creditItems := if rest.isEmpty then q.creditItems + 1 else q.creditItems
      poisoned := if poison then satInc 255 q.poisoned else q.poisoned
      popTag := popTagOf w.valid rest.isEmpty (q.popped == 0) poison }
    (q', w.bytes)
  | _ => (q, [])

/-- DROP (R64): the current packet's cells and item are freed. -/
def Queue.drop (q : Queue) : Queue :=
  match q.items with
  | p :: more =>
    { q.moveRd p.length with
      items := more
      popped := 0
      creditCells := q.creditCells + p.length
      creditItems := q.creditItems + 1 }
  | [] => q

/-- The fields of CFG taken (R69). -/
def Queue.takeCfg (q : Queue) (v : Nat) : Queue :=
  { q with itemLimit := bitsOf v 28 16, sizeCells := bitsOf v 15 0 }

/-- ENABLE set (R57, R69): refused where SIZE_CELLS is below MAX_PKT_CELLS or ITEM_LIMIT is 0; grants the credits. -/
def Queue.turnOn (q : Queue) : Queue :=
  if decide (q.sizeCells < q.maxPktCells) || q.itemLimit == 0 then q
  else { q.emptied q.sizeCells q.itemLimit with enable := true, abandoned := false }

/-- ENABLE cleared (R69): contents discarded and a stalled pop released with ERR (R63). -/
def Queue.turnOff (q : Queue) : Queue :=
  { q.emptied 0 0 with
    enable := false
    abandoned := false
    popTag := if q.stalled then 0x200 else q.popTag }

/-- One queue of the fabric. -/
def queueOf (s : State) (n : Nat) : Queue := s.fabric.getD n Queue.reset

/-- One queue changed. -/
def onQueue (n : Nat) (f : Queue → Queue) (s : State) : State := { s with fabric := s.fabric.modify n f }

/-- The zero word with ERR that a released pop returns, where one was stalled (R63). -/
def releaseErr (n : Nat) (was : Queue) (s : State) : State :=
  if was.stalled then emit (.popWord n (zeros 32) 0x200) s else s

/-- A pop: the word and its tag are returned. -/
def popNow (n : Nat) (poison : Bool) (s : State) : State :=
  let r := (queueOf s n).popWord poison
  emit (.popWord n r.2 r.1.popTag) (onQueue n (fun _ => { r.1 with stalled := false }) s)

/-- QFB_PUSH from the producer port; from another port it is ignored (R56). -/
def opQfbPush (n port : Nat) (w : BitVec 32) (s : State) : State :=
  if (queueOf s n).producer = port then onQueue n (fun q => q.push w) s else s

/-- QFB_END from the producer port (R56). -/
def opQfbEnd (n port lastValid : Nat) (s : State) : State :=
  if (queueOf s n).producer = port then onQueue n (fun q => q.finish lastValid) s else s

/-- QFB_POP from the consumer port: less than 256 bits removes nothing and returns zero (R62); an empty queue stalls
the consumer (R63). -/
def opQfbPop (n port : Nat) (whole damaged : Bool) (s : State) : State :=
  let q := queueOf s n
  if !(q.enable && q.consumer == port) then s
  else if !whole then emit (.popWord n (zeros 32) q.popTag) s
  else if q.items.isEmpty then onQueue n (fun q => { q with stalled := true }) s
  else popNow n damaged s

/-- A stalled pop returns once a packet is visible (R63); a reset or a disable has released it already. -/
def opPopStallRelease (n : Nat) (s : State) : State :=
  let q := queueOf s n
  if q.stalled && !q.items.isEmpty then popNow n false s else s

/-- DROP from the consumer port (R56, R64). -/
def opQfbDrop (n port : Nat) (s : State) : State :=
  if (queueOf s n).consumer = port then onQueue n Queue.drop s else s

/-- A write of CFG with ENABLE 1 (R69): on an enabled queue it changes nothing. -/
def opQueueEnable (n v : Nat) (s : State) : State :=
  if !bitOf v 31 || (queueOf s n).enable then s else onQueue n (fun q => (q.takeCfg v).turnOn) s

/-- A write of CFG with ENABLE 0 (R69): an enabled queue is disabled, a disabled one takes the fields. -/
def opQueueDisable (n v : Nat) (s : State) : State :=
  if bitOf v 31 then s
  else
    let was := queueOf s n
    if was.enable then releaseErr n was (onQueue n Queue.turnOff s) else onQueue n (fun q => q.takeCfg v) s

/-- ERR of a queue (Table QF.3). -/
def Queue.errWord (q : Queue) : Nat :=
  q.mismatches * 2 ^ 24 + q.poisoned * 2 ^ 16 + q.oversize * 2 ^ 8 + 128 * bit q.lastMismatch

/-- Counts of a queue's ERR already read and cleared, which the counters record goes on holding (R446). -/
def errTaken (s : State) (n : Nat) : Nat × Nat × Nat := (lookupNat n s.counters.queueErr).getD (0, 0, 0)

/-- Reading ERR returns the counts and clears them; LAST_MISMATCH stays (Table QF.3). The counts read go on in the counters
record (R446). -/
def opQfbErrRead (n : Nat) (s : State) : State :=
  let q := queueOf s n
  let t := errTaken s n
  let s := { s with
    counters := { s.counters with
      queueErr := insertNat n (t.1 + q.mismatches, t.2.1 + q.poisoned, t.2.2 + q.oversize) s.counters.queueErr } }
  emit (.read q.errWord) (onQueue n (fun q => { q with mismatches := 0, poisoned := 0, oversize := 0 }) s)

/-- QFB_PUSH (R60). -/
def execQfbPush (queue port : Nat) (word : BitVec 32) (s : State) : Host.Outcome State Fault Refusal :=
  .next (opQfbPush queue port word s)

/-- QFB_END (R61). -/
def execQfbEnd (queue port lastValid : Nat) (s : State) : Host.Outcome State Fault Refusal :=
  .next (opQfbEnd queue port lastValid s)

/-- QFB_POP (R62). -/
def execQfbPop (queue port : Nat) (whole damaged : Bool) (s : State) : Host.Outcome State Fault Refusal :=
  .next (opQfbPop queue port whole damaged s)

/-- POP_STALL_RELEASE (R63). -/
def execPopStallRelease (queue : Nat) (s : State) : Host.Outcome State Fault Refusal :=
  .next (opPopStallRelease queue s)

/-- QFB_DROP (R64). -/
def execQfbDrop (queue port : Nat) (s : State) : Host.Outcome State Fault Refusal := .next (opQfbDrop queue port s)

/-- QUEUE_ENABLE (R69). -/
def execQueueEnable (queue value : Nat) (s : State) : Host.Outcome State Fault Refusal :=
  .next (opQueueEnable queue value s)

/-- QUEUE_DISABLE (R69). -/
def execQueueDisable (queue value : Nat) (s : State) : Host.Outcome State Fault Refusal :=
  .next (opQueueDisable queue value s)

/-- QFB_ERR_READ (R65). -/
def execQfbErrRead (queue : Nat) (s : State) : Host.Outcome State Fault Refusal := .next (opQfbErrRead queue s)

end Sys2Proof.Machine
end

