-- ==== Sys2Proof/Machine/Flags.lean ====
section
/-! DEFINITION. Every status and flag word the spec gives: MBX_STATUS, MBX_ERR, the keeper's windows, queue, timebase
and keeper registers as they read (02, 03, 12, 16, 17), and the boot journal's recording. -/

namespace Sys2Proof.Machine

/-! ## MBX_ERR -/

/-- A bit of MBX_ERR set (Table CI.6). -/
def setErr (bitNo : Nat) (s : State) : State :=
  { s with bar0 := { s.bar0 with err := s.bar0.err ||| BitVec.ofNat 32 (2 ^ bitNo) } }

/-- Bit numbers of MBX_ERR (Table CI.6). -/
def errDoorbellRange : Nat := 0

/-- See `errDoorbellRange`. -/
def errDmaRead : Nat := 1

/-- See `errDoorbellRange`. -/
def errDoorbellDisabled : Nat := 3

/-- See `errDoorbellRange`. -/
def errBaseWhileEnabled : Nat := 4

/-- See `errDoorbellRange`. -/
def errAccess : Nat := 5

/-- See `errDoorbellRange`. -/
def errRingConfig : Nat := 6

/-! ## Status words -/

/-- SELF_ROLE (Table CI.4); 0 while the main domains do not run. -/
def selfRoleCode (s : State) : Nat := if mainRuns s then s.twin.role.code else 0

/-- PTP_LOCKED: state LOCKED with source PTP (R270). -/
def ptpLocked (s : State) : Bool := s.time.servo == .locked && s.time.source == .ptp

/-- Degraded mode, any cause (R381). -/
def isDegraded (s : State) : Bool := !s.keeper.degraded.isEmpty

/-- MBX_STATUS (Table CI.4). -/
def mbxStatus (s : State) : Nat :=
  s.boot.stage * 2 ^ 24 + selfRoleCode s * 2 ^ 22 + s.twin.partner.code * 2 ^ 19 + bit s.boot.headRole * 2 ^ 18 +
    bit (isDegraded s) * 2 ^ 17 + bit (s.boot.phase == .recovery) * 2 ^ 16 +
    bit (s.store.stage == .full || s.store.stage == .exhausted) * 2 ^ 15 +
    bit (s.store.stage == .salvage || s.store.stage == .exhausted) * 2 ^ 14 + bit (ptpLocked s) * 2 ^ 13 +
    bit s.d2d.up * 2 ^ 12 + bit (served s && s.bar0.linkUp)

/-- MBX_ID (Table CI.2). -/
def mbxId (s : State) : Nat := 0x8840 * 2 ^ 16 + s.fuse.revision * 2 ^ 8 + s.fuse.ordering

/-- MBX_VERSION (Table CI.3): DCS_MAJOR 1 and the image's DCS_MINOR. -/
def mbxVersion (s : State) : Nat := 0x10000 + s.bar0.dcsMinor

/-- MAIN_ALIVE (R376): every application core has serviced its watchdog within its period. -/
def mainAlive (s : State) : Bool :=
  s.keeper.appKicks.length == 4 &&
    s.keeper.appKicks.all fun k => decide (s.clk ≤ k + msTicks s.keeper.appPeriodMs)

/-- KPR_HOST_STATUS (Table CI.17). -/
def kprHostStatus (s : State) : Nat :=
  s.keeper.faultCode * 2 ^ 16 + s.boot.journal.stageReached * 2 ^ 12 + s.boot.journal.failedStage * 2 ^ 8 +
    8 * bit (s.keeper.tamperLatched != 0) + 4 * bit (s.keeper.supply.mainWarn || s.keeper.supply.fieldWarn) +
    2 * bit (s.boot.phase == .recovery) + bit (mainAlive s)

/-- KPR_HOST_JOURNAL (Table CI.17, R400). -/
def kprHostJournal (s : State) : Nat :=
  s.boot.journal.starts % 256 * 2 ^ 24 + ((s.boot.journal.recs.getLast?.map (·.code)).getD 0) * 2 ^ 16

/-- KPR_SUPPLY_STATUS (Table KP.8); DIPS_60S counts the dips begun in the last 60 s. -/
def kprSupplyStatus (s : State) : Nat :=
  min 255 ((s.keeper.supply.dips.filter fun d => decide (s.clk ≤ d + secTicks 60)).length) * 2 ^ 16 +
    16 * bit (isDegraded s) + 8 * bit s.keeper.supply.hold + 4 * bit s.keeper.supply.fieldReset +
    2 * bit s.keeper.supply.fieldWarn + bit s.keeper.supply.mainWarn

/-- The tamper inputs as they stand now: a free value, since no command says when an input returns to rest (log entry 58). -/
def senseTamper (s : State) : State :=
  draw { s with keeper := { s.keeper with tamperActive := Config.freeNat s.fresh % 16 } }

/-- KPR_TAMPER (Table KP.8). -/
def kprTamper (s : State) : Nat := s.keeper.tamperLatched * 16 + s.keeper.tamperActive

/-- KPR_CLOCK_STATUS (Table CK.2). -/
def kprClockStatus (s : State) : Nat := s.keeper.clockLost * 2 ^ 16 + s.keeper.clockRunning

/-- STATUS of a queue (Table QF.3): visible items and their cells. -/
def Queue.statusWord (q : Queue) : Nat :=
  q.items.length * 2 ^ 16 + ((q.items.map List.length).sum + q.popped)

/-- CREDIT of a queue (Table QF.3). -/
def Queue.creditWord (q : Queue) : Nat := q.creditItems * 2 ^ 16 + q.creditCells

/-- CFG of a queue. -/
def Queue.cfgWord (q : Queue) : Nat := bit q.enable * 2 ^ 31 + q.itemLimit * 2 ^ 16 + q.sizeCells

/-- CFG2 of a queue. -/
def Queue.cfg2Word (q : Queue) : Nat := q.producer * 2 ^ 24 + q.consumer * 2 ^ 16 + q.maxPktCells

/-- MBX_CR_CTRL of a ring (Table CI.7). -/
def Ring.ctrlWord (r : Ring) : Nat :=
  bit r.enable * 2 ^ 31 + bit r.remote * 2 ^ 30 + r.coalCount * 2 ^ 20 + r.vector * 2 ^ 8

/-- MBX_CR_STATUS of a ring (Table CI.7). -/
def Ring.statusWord (r : Ring) : Nat := r.head * 2 ^ 16 + r.outstanding

/-- MBX_EV_CTRL (Table CI.10). -/
def EvRing.ctrlWord (r : EvRing) : Nat :=
  bit r.enable * 2 ^ 31 + r.vector * 2 ^ 16 + r.minSeverity * 2 ^ 8 + r.log2

/-- TS_PPS_CFG (Table TM.1). -/
def Timebase.ppsCfgWord (t : Timebase) : Nat :=
  bit t.outEn * 2 ^ 31 + bit t.inEn * 2 ^ 30 + bit t.inFalling * 2 ^ 29 + t.widthMs

/-- PTP_STATE (Table TM.3). -/
def ptpState (s : State) : Nat :=
  32 * bit s.time.unset +
    8 * (match s.time.source with
      | .none => 0
      | .ptp => 1
      | .pps => 2) +
    (match s.time.servo with
      | .freeRun => 0
      | .acquiring => 1
      | .locked => 2
      | .holdover => 3)

/-! ## Boot journal -/

/-- A record in the boot journal (R400, Table CK.7): LTIME from the keeper RTC, 0 while it is invalid; a ring of 2,044
records; each write raises the header's SEQ. -/
def journal (kind stage code flags : Nat) (data : Bytes) (s : State) : State :=
  let j := s.boot.journal
  let r : BootRec := ⟨if s.keeper.rtcValid then s.keeper.rtc else 0, j.starts, kind, stage, code, flags, fitTo 16 data⟩
  { s with boot := { s.boot with journal := { j with
    seq := j.seq + 1
    head := (j.head + 1) % 2044
    recs := lastN 2044 (j.recs ++ [r]) } } }

/-- A journal record without stage, code or flags. -/
def note (kind : Nat) (data : Bytes) (s : State) : State := journal kind 0xF 0 0 data s

/-- Boot journal header, 64 bytes (Table CK.6). -/
def Journal.headerBytes (j : Journal) : Bytes :=
  let body := [0x42, 0x4A, 0x4E, 0x4C] ++ putLe 2 1 ++ zeros 2 ++ putLe 4 j.seq ++ putLe 4 j.starts ++ putLe 2 j.head ++
    putLe 2 j.recs.length ++ putLe 1 j.stageReached ++ putLe 1 j.failedStage ++ putLe 1 j.lastCode ++ putLe 1 j.alt ++
    fitTo 9 (j.failRun.flatMap (putLe 1)) ++ putLe 1 j.recovery ++ zeros 2 ++ putLe 8 j.powerFailEpoch ++ zeros 16
  body ++ putLe 4 (crc32c body)

/-- Boot journal record, 32 bytes (Table CK.7). -/
def BootRec.bytes (r : BootRec) : Bytes :=
  putLe 8 r.ltime ++ putLe 4 r.start ++ putLe 1 r.kind ++ putLe 1 r.stage ++ putLe 1 r.code ++ putLe 1 r.flags ++
    fitTo 16 r.data

/-- The ASCII code of a hexadecimal digit. -/
def hexDigit (n : Nat) : Byte := BitVec.ofNat 8 (if n < 10 then 48 + n else 55 + n)

/-- A line of hexadecimal characters ended by CR LF (R400). -/
def hexLine (b : Bytes) : Bytes := b.flatMap (fun x => [hexDigit (x.toNat / 16), hexDigit (x.toNat % 16)]) ++ [13, 10]

end Sys2Proof.Machine
end

