-- ==== Sys2Proof/Machine/Registers.lean ====
section
/-! DEFINITION. Reads and writes of the registers that have no command of their own (R11, R29): BAR0, a queue's block, the
timebase block and the keeper block; and the reads that clear. A register that has a command of its own is left to it. -/

namespace Sys2Proof.Machine

/-- Bits [31:0] and [63:32] of a 64-bit address. -/
def hi32 (v : Nat) : Nat := v / 2 ^ 32 % 2 ^ 32

/-- See `hi32`. -/
def lo32 (v : Nat) : Nat := v % 2 ^ 32

/-- An address with its low half replaced, the bits below `align` reading as zero. -/
def withLo (v w align : Nat) : Nat := hi32 v * 2 ^ 32 + (w % 2 ^ 32) / align * align

/-- An address with its high half replaced. -/
def withHi (v w : Nat) : Nat := (w % 2 ^ 32) * 2 ^ 32 + lo32 v

/-- What a ring block's register reads (Table CI.7). -/
def ringRead (r : Ring) (off : Nat) : Nat :=
  match off with
  | 0x00 => lo32 r.crBase
  | 0x04 => hi32 r.crBase
  | 0x08 => lo32 r.cpBase
  | 0x0C => hi32 r.cpBase
  | 0x10 => r.ctrlWord
  | 0x14 => r.statusWord
  | 0x18 => r.tail
  | 0x1C => r.cpHead
  | _ => 0

/-- What a BAR0 register reads (Table CI.1); reserved offsets and write-only registers read zero. -/
def bar0Read (s : State) (off : Nat) : Nat :=
  if 0x100 ≤ off && off < 0x300 then ringRead (ringOf s ((off - 0x100) / 32)) ((off - 0x100) % 32)
  else if 0x800 ≤ off && off < 0xA00 then s.bar0.msix.getD ((off - 0x800) / 4) 0
  else match off with
    | 0x000 => mbxId s
    | 0x004 => mbxVersion s
    | 0x008 => mbxStatus s
    | 0x00C => bit s.bar0.attached
    | 0x010 => s.bar0.err.toNat
    | 0x014 => s.bar0.coalTime
    | 0x300 => lo32 s.bar0.ev.base
    | 0x304 => hi32 s.bar0.ev.base
    | 0x308 => s.bar0.ev.ctrlWord
    | 0x30C => s.bar0.ev.prod % 65536
    | 0x310 => s.bar0.ev.cons % 65536
    | 0x314 => lo32 s.bar0.ev.shadow
    | 0x318 => hi32 s.bar0.ev.shadow
    | 0xA00 => s.bar0.pba % 2 ^ 32
    | 0xC00 => kprHostStatus s
    | 0xC0C => kprHostJournal s
    | _ => 0

/-- A base register of a ring block written (R32): ignored with BASE_WHILE_ENABLED while the ring is enabled. -/
def baseWrite (n : Nat) (f : Ring → Ring) (s : State) : State :=
  if (ringOf s n).enable then setErr errBaseWhileEnabled s else onRing n f s

/-- A base register of the event ring block written. -/
def evBaseWrite (f : EvRing → EvRing) (s : State) : State :=
  if s.bar0.ev.enable then setErr errBaseWhileEnabled s else { s with bar0 := { s.bar0 with ev := f s.bar0.ev } }

/-- A register of ring block `n` written; the doorbells and a change of ENABLE have commands of their own. -/
def ringWrite (n off v : Nat) (s : State) : State :=
  match off with
  | 0x00 => baseWrite n (fun r => { r with crBase := withLo r.crBase v 16384 }) s
  | 0x04 => baseWrite n (fun r => { r with crBase := withHi r.crBase v }) s
  | 0x08 => baseWrite n (fun r => { r with cpBase := withLo r.cpBase v 16384 }) s
  | 0x0C => baseWrite n (fun r => { r with cpBase := withHi r.cpBase v }) s
  | 0x10 =>
    if bitOf v 31 == (ringOf s n).enable then
      onRing n (fun r => { r with coalCount := bitsOf v 23 20, vector := bitsOf v 12 8 }) s
    else s
  | _ => s

/-- A word of the MSI-X table written; unmasking a vector with its bit pending sends it. -/
def msixWrite (k v : Nat) (s : State) : State :=
  let s := { s with bar0 := { s.bar0 with msix := s.bar0.msix.set k (v % 2 ^ 32) } }
  let n := k / 4
  if k % 4 = 3 && v % 2 == 0 && s.bar0.pba.testBit n then
    emit (.msix n) { s with bar0 := { s.bar0 with pba := s.bar0.pba - 2 ^ n } }
  else s

/-- A BAR0 register written (R11, Tables CI.1 to CI.10). -/
def bar0Write (off v : Nat) (s : State) : State :=
  if 0x100 ≤ off && off < 0x300 then ringWrite ((off - 0x100) / 32) ((off - 0x100) % 32) v s
  else if 0x800 ≤ off && off < 0xA00 then msixWrite ((off - 0x800) / 4) v s
  else match off with
    | 0x00C => if v % 4 = 0 then { s with bar0 := { s.bar0 with attached := false } } else s
    | 0x010 => { s with bar0 := { s.bar0 with err := s.bar0.err &&& ~~~(BitVec.ofNat 32 v) } }
    | 0x014 => { s with bar0 := { s.bar0 with coalTime := v % 65536 } }
    | 0x300 => evBaseWrite (fun e => { e with base := withLo e.base v 4096 }) s
    | 0x304 => evBaseWrite (fun e => { e with base := withHi e.base v }) s
    | 0x308 =>
      if bitOf v 31 == s.bar0.ev.enable then
        { s with bar0 := { s.bar0 with ev := { s.bar0.ev with
          vector := bitsOf v 20 16
          minSeverity := bitsOf v 10 8
          log2 := if s.bar0.ev.enable then s.bar0.ev.log2 else bitsOf v 4 0 } } }
      else s
    | 0x314 => { s with bar0 := { s.bar0 with ev := { s.bar0.ev with shadow := withLo s.bar0.ev.shadow v 8 } } }
    | 0x318 => { s with bar0 := { s.bar0 with ev := { s.bar0.ev with shadow := withHi s.bar0.ev.shadow v } } }
    | 0xC08 => if bitsOf v 2 0 = 0 || decide (bitsOf v 2 0 > 3) then note 0x0C (putLe 2 v) s else s
    | _ => s

/-- What a register of a queue's block reads (Table QF.2). -/
def qfbRead (q : Queue) (off : Nat) : Nat :=
  match off with
  | 0x00 => q.baseCell
  | 0x04 => q.cfgWord
  | 0x08 => q.cfg2Word
  | 0x0C => q.statusWord
  | 0x20 => q.creditWord
  | 0x24 => q.popTag.toNat
  | _ => 0

/-- BASE and CFG2 take writes only while ENABLE is 0 (R69). -/
def qfbWrite (n off v : Nat) (s : State) : State :=
  onQueue n (fun q =>
    if q.enable then q
    else match off with
      | 0x00 => { q with baseCell := bitsOf v 15 0 }
      | 0x08 => { q with producer := bitsOf v 31 24, consumer := bitsOf v 23 16, maxPktCells := bitsOf v 11 0 }
      | _ => q) s

/-- What a timebase register reads (Table TM.1). -/
def tsRead (t : Timebase) (off : Nat) : Nat :=
  match off with
  | 0x04 => t.countHi
  | 0x0C => lo32 t.secLatch
  | 0x10 => hi32 t.secLatch % 65536
  | 0x14 => (t.rate % (2 ^ 32 : Nat)).toNat
  | 0x18 => t.stepNs.toNat
  | 0x1C => t.stepSec
  | 0x24 => t.ppsCfgWord
  | 0x2C => lo32 t.ppsSec
  | _ => 0

/-- A timebase register written (Table TM.1); RATE and CTRL have commands of their own. -/
def tsWrite (off v : Nat) (t : Timebase) : Timebase :=
  match off with
  | 0x18 => { t with stepNs := BitVec.ofNat 32 v &&& 0xBFFFFFFF }
  | 0x1C => { t with stepSec := lo32 v }
  | 0x24 => { t with outEn := bitOf v 31, inEn := bitOf v 30, inFalling := bitOf v 29, widthMs := bitsOf v 9 0 }
  | _ => t

/-- What a keeper register reads (Tables KP.7, CK.2); those that clear on reading have commands of their own. -/
def kprRead (s : State) (off : Nat) : Nat :=
  match off with
  | 0x00 => kprSupplyStatus s
  | 0x08 => s.keeper.appPeriodMs
  | 0x10 => kprTamper s
  | _ => 0

/-- A keeper register written: APP_PERIOD_MS. A value outside 100 to 60,000 is ignored. DESIGN CHOICE, log entry 15. -/
def kprWrite (off v : Nat) (s : State) : State :=
  if off = 0x08 && decide (100 ≤ v % 65536) && decide (v % 65536 ≤ 60000) then
    { s with keeper := { s.keeper with appPeriodMs := v % 65536 } }
  else s

/-- Registers whose read has a command of its own: EV_LOST, ERR, COUNT_LO, NOW_NS, PPS_IN_NS, DIP_MIN, BRIDGE,
CLOCK_STATUS. -/
def ownRead (space : RegSpace) (off : Nat) : Bool :=
  match space with
  | .bar0 => off == 0x31C
  | .qfb _ => off == 0x14 || decide (0x40 ≤ off)
  | .ts => off == 0x00 || off == 0x08 || off == 0x28
  | .kpr => off == 0x04 || off == 0x18 || off == 0x1C

/-- A register access (R11). A BAR0 access needs the PCIe link; one of another width or alignment than 32 bits is ignored
or reads zero, and sets MBX_ERR.ACCESS (R29). -/
def opRegisterWrite (space : RegSpace) (off size : Nat) (write : Option Nat) (s : State) : State :=
  match space with
  | .bar0 =>
    if s.boot.phase == .off || !s.bar0.linkUp then s
    else if size != 4 || off % 4 != 0 then
      setErr errAccess (if write.isNone then emit (.read 0) s else s)
    else match write with
      | some v => bar0Write off v s
      | none => if ownRead space off then s else emit (.read (bar0Read s off)) s
  | .qfb n =>
    match write with
    | some v => qfbWrite n off v s
    | none => if ownRead space off then s else emit (.read (qfbRead (queueOf s n) off)) s
  | .ts =>
    match write with
    | some v => { s with tb := tsWrite off v s.tb }
    | none => if ownRead space off then s else emit (.read (tsRead s.tb off)) s
  | .kpr =>
    let s := if off = 0x10 then senseTamper s else s
    match write with
    | some v => kprWrite off v s
    | none => if ownRead space off then s else emit (.read (kprRead s off)) s

/-- REGISTER_WRITE (R11, R29, R69). -/
def execRegisterWrite (space : RegSpace) (off size : Nat) (write : Option Nat) (s : State) :
    Host.Outcome State Fault Refusal := .next (opRegisterWrite space off size write s)

/-- MBX_EV_LOST_READ (R47): returns the ring-full loss count and clears it; the separate count stays. When space has
returned, EVENTS_LOST is posted. -/
def execMbxEvLostRead (s : State) : Host.Outcome State Fault Refusal :=
  .next (postLost (emit (.read s.bar0.ev.lost) { s with bar0 := { s.bar0 with ev := { s.bar0.ev with lost := 0 } } }))

end Sys2Proof.Machine
end

