-- ==== Sys2Proof/Machine/Rings.lean ====
section
/-! DEFINITION. Rings, doorbells, command fetch, interrupts, attach and detach, remote sessions and read cursors
(02_command_interface; R106). -/

namespace Sys2Proof.Machine

/-! ## Taking a frame (R38 steps 1 to 3) -/

/-- A frame just taken, before it is known whether it executes. -/
def newFlight (s : State) (ring : Nat) (frame buf : Bytes) (d : Dest) (session : Option Nat) : InFlight :=
  { seq := s.nextSeq, cmd := cmdOf ring frame buf, frame := frame, dests := [d], session := session, started := false,
    waitCommit := none, forwardedTo := none, takenAt := s.clk }

/-- The cached completion of a tag (R38). -/
def cachedOf (r : Ring) (tag : Nat) : Option Cached := r.cache.find? fun c => c.tag == tag

/-- Whether a cached tag is of an identical frame; one rebuilt from an audit record is compared by digest (R39). -/
def sameFrame (c : Cached) (frame : Bytes) : Bool :=
  if c.frame.isEmpty then c.digest == Config.sha256 frame else c.frame == frame

/-- A frame that completes at once with a result of its own. -/
def completeAtOnce (f : InFlight) (result : Nat) (s : State) : State :=
  complete f (mkCompletion f result 0 0 false false [] []) s

/-- A frame that gets a result without entering the cache in place of its tag's own completion (0x0105), or a replay. -/
def answerOnly (f : InFlight) (d : Dest) (c : Completion) (s : State) : State :=
  onRing f.cmd.ring (fun r => { r with outstanding := r.outstanding - 1 }) (deliver d f.session f.cmd.bufAddr c s)

/-- Steps 1 to 3 of R38 on a frame taken from a ring, a remote session or the upload channel: a bad frame completes with
its class 0x01 result; a cached tag is replayed (R474) or conflicts; a tag still executing is joined or conflicts; any
other command is now in progress. A failed buffer read completes with 0x0806. -/
def takeFrame (ring : Nat) (frame buf : Bytes) (bufOk : Bool) (d : Dest) (session : Option Nat) (s : State) : State :=
  let f := newFlight s ring frame buf d session
  let s := onRing ring (fun r => { r with outstanding := r.outstanding + 1 }) { s with nextSeq := s.nextSeq + 1 }
  match frameRefusal frame (d != .host) with
  | some r => completeAtOnce f r s
  | none =>
    match cachedOf (ringOf s ring) f.cmd.tag with
    | some c =>
      if sameFrame c frame then answerOnly f d (replayOf s c.comp) s
      else answerOnly f d (mkCompletion f 0x0105 0 0 false false [] []) s
    | none =>
      match s.inflight.find? fun g => g.cmd.ring == ring && g.cmd.tag == f.cmd.tag with
      | some g =>
        if g.frame == frame then
          { s with inflight := modifyFirst (fun h => h.seq == g.seq) (fun h => { h with dests := h.dests ++ [d] }) s.inflight }
        else answerOnly f d (mkCompletion f 0x0105 0 0 false false [] []) s
      | none =>
        let s := { s with inflight := s.inflight ++ [f] }
        if bufOk then s else completeAtOnce f 0x0806 s

/-! ## Stopping rings -/

/-- Commands fetched from a ring run on, and their completions are no longer written (R35, R52). -/
def dropHost (ring : Nat) (s : State) : State :=
  { s with
    inflight := s.inflight.map fun f =>
      if f.cmd.ring == ring then { f with dests := f.dests.map fun d => if d == .host then .dropped else d } else f }

/-- A ring's ENABLE cleared (R35): HEAD, TAIL, CP_HEAD and the phase return; OUTSTANDING, cache and cursors stay. -/
def Ring.disabled (r : Ring) : Ring :=
  { r with
    enable := false
    head := 0
    tail := 0
    cpHead := 0
    cpProd := 0
    unread := 0
    reserved := 0
    phase := true
    coalPending := 0
    coalDue := none }

/-- The event ring's ENABLE cleared (R35): PROD and CONS return to 0. -/
def EvRing.disabled (r : EvRing) : EvRing := { r with enable := false, prod := 0, cons := 0 }

/-- A command ring stopped. -/
def stopRing (n : Nat) (s : State) : State := dropHost n (onRing n Ring.disabled s)

/-- Every host-owned ring and the event ring stopped, ATTACHED cleared (R52). -/
def stopHost (s : State) : State :=
  let s := (List.range 16).foldl (fun a n => if (ringOf a n).remote then a else stopRing n a) s
  { s with bar0 := { s.bar0 with attached := false, ev := s.bar0.ev.disabled } }

/-- A detach with its event: 0 orderly, 1 surprise (R52). -/
def detach (how : Nat) (s : State) : State := raise 0x0005 [BitVec.ofNat 8 how] (stopHost s)

/-! ## Commands on rings -/

/-- HOST_ATTACH: ATTACHED set by the host (R32); the event is raised. -/
def opHostAttach (s : State) : State :=
  if !s.bar0.linkUp || s.bar0.attached then s
  else raise 0x0004 [] { s with bar0 := { s.bar0 with attached := true } }

/-- ORDERLY_DETACH (R52). -/
def opOrderlyDetach (s : State) : State := if s.bar0.linkUp then detach 0 s else s

/-- SURPRISE_REMOVAL (R52): the link is down, journalled as a reset of the endpoint (Table CK.3). -/
def opSurpriseRemoval (s : State) : State :=
  if s.bar0.linkUp then
    note 0x04 [0x0D] (detach 1 { s with bar0 := { s.bar0 with linkUp := false } })
  else s

/-- PCIE_HOT_RESET (R393): only the endpoint: the host's rings stop as at a detach (R52) and its registers return to
their reset values; rings bound to remote sessions go on. -/
def opPcieHotReset (s : State) : State :=
  let s := if s.bar0.linkUp then detach 1 s else stopHost s
  note 0x04 [0x0D] { s with
    bar0 := { Bar0.reset with
      dcsMinor := s.bar0.dcsMinor
      rings := s.bar0.rings.map fun r =>
        if r.remote then r else { Ring.reset with outstanding := r.outstanding, cache := r.cache, cursors := r.cursors }
      ev := { EvRing.reset with lostSep := s.bar0.ev.lostSep } } }

/-- PCIE_LINK_UP (R52): the link trains while the keeper runs. -/
def opPcieLinkUp (s : State) : State :=
  if s.boot.phase == .off then s else { s with bar0 := { s.bar0 with linkUp := true } }

/-- MBX_CR_TAIL written (R32): accepted when it adds commands or none; otherwise ignored with DOORBELL_RANGE; ignored
with DOORBELL_DISABLED on a disabled or remote-owned ring. -/
def opCrTail (n v : Nat) (s : State) : State :=
  let r := ringOf s n
  if !r.enable || r.remote then setErr errDoorbellDisabled s
  else
    let new := v % 256
    if (new + 256 - r.head) % 256 ≥ (r.tail + 256 - r.head) % 256 then onRing n (fun r => { r with tail := new }) s
    else setErr errDoorbellRange s

/-- MBX_CP_HEAD written (R32): accepted up to the entries posted and not yet consumed. -/
def opCpHead (n v : Nat) (s : State) : State :=
  let r := ringOf s n
  if !r.enable || r.remote then setErr errDoorbellDisabled s
  else
    let d := (v % 256 + 256 - r.cpHead) % 256
    if d ≤ r.unread then onRing n (fun r => { r with cpHead := v % 256, unread := r.unread - d }) s
    else setErr errDoorbellRange s

/-- MBX_EV_CONS written (R32, R47): counted against the events posted, modulo the ring size; freed space lets
EVENTS_LOST out. -/
def opEvCons (v : Nat) (s : State) : State :=
  let e := s.bar0.ev
  if !e.enable then setErr errDoorbellDisabled s
  else
    let new := v % 65536
    if (new + e.size - e.cons % e.size) % e.size ≤ (e.prod + e.size - e.cons % e.size) % e.size then
      postLost { s with bar0 := { s.bar0 with ev := { e with cons := new } } }
    else setErr errDoorbellRange s

/-- ENABLE of a command ring set (R482): an invalid configuration leaves it clear and sets RING_CONFIG; a ring bound to a
remote session cannot be used by the host (R48). The write takes COAL_COUNT and VECTOR too. -/
def opRingEnable (n v : Nat) (s : State) : State :=
  let r := ringOf s n
  if !bitOf v 31 || r.remote || !s.bar0.linkUp then s
  else
    let s := onRing n (fun r => { r with coalCount := bitsOf v 23 20, vector := bitsOf v 12 8 }) s
    if r.enable then s
    else if r.crBase = 0 || r.cpBase = 0 || r.crBase = r.cpBase then setErr errRingConfig s
    else onRing n (fun r => { r.disabled with enable := true }) s

/-- ENABLE of a command ring cleared (R35). -/
def opRingDisable (n v : Nat) (s : State) : State :=
  let r := ringOf s n
  if bitOf v 31 || r.remote || !s.bar0.linkUp then s
  else
    let s := onRing n (fun r => { r with coalCount := bitsOf v 23 20, vector := bitsOf v 12 8 }) s
    if r.enable then stopRing n s else s

/-- ENABLE of the event ring set (R482). -/
def opEvEnable (v : Nat) (s : State) : State :=
  let e := s.bar0.ev
  if !bitOf v 31 || !s.bar0.linkUp then s
  else if e.enable then s
  else
    let e := { e with vector := bitsOf v 20 16, minSeverity := bitsOf v 10 8, log2 := bitsOf v 4 0 }
    let s := { s with bar0 := { s.bar0 with ev := e } }
    if e.log2 < 4 || decide (e.log2 > 16) || e.base = 0 then setErr errRingConfig s
    else { s with bar0 := { s.bar0 with ev := { e with enable := true } } }

/-- ENABLE of the event ring cleared (R35). -/
def opEvDisable (v : Nat) (s : State) : State :=
  if bitOf v 31 || !s.bar0.linkUp then s
  else
    { s with
      bar0 := { s.bar0 with
        ev := { s.bar0.ev.disabled with vector := bitsOf v 20 16, minSeverity := bitsOf v 10 8, log2 := bitsOf v 4 0 } } }

/-- The device may fetch from a ring (R32, R33, R43): attached, served, a command waiting, and a completion entry left
to reserve (255 at most reserved or unconsumed). -/
def mayFetch (n : Nat) (s : State) : Bool :=
  let r := ringOf s n
  s.bar0.linkUp && s.bar0.attached && served s && r.enable && !r.remote && r.head != r.tail &&
    decide (r.reserved + r.unread < 255)

/-- COMMAND_FETCH (R33, R38): a failed fetch sets DMA_READ and disables the ring; otherwise HEAD moves on, a completion
entry is reserved and the frame is taken. -/
def opCommandFetch (n : Nat) (f : Fetched) (s : State) : State :=
  if !mayFetch n s then s
  else if !f.frameOk then stopRing n (setErr errDmaRead s)
  else
    takeFrame n f.frame f.buf f.bufOk .host none
      (onRing n (fun r => { r with head := (r.head + 1) % 256, reserved := r.reserved + 1 }) s)

/-- COALESCED_INTERRUPT_TIMER (R31, Table CI.6): COAL_TIME after the first uncounted completion. -/
def opCoalesced (n : Nat) (s : State) : State :=
  let r := ringOf s n
  match r.coalDue with
  | some d =>
    if d ≤ s.clk then sendMsix r.vector (onRing n (fun r => { r with coalPending := 0, coalDue := none }) s) else s
  | none => s

/-- CURSOR_EXPIRY (R106): 600 s without a continuation. -/
def opCursorExpiry (n op : Nat) (s : State) : State :=
  onRing n (fun r => { r with cursors := r.cursors.filter fun c => !(c.opcode == op && decide (c.due ≤ s.clk)) }) s

/-! ## Remote sessions -/

/-- The entries of a binding table (R51): number (ring or segment), KEY_ID_A, KEY_ID_B. -/
def bindings (b : Bytes) : List (Nat × Bytes × Bytes) :=
  (List.range (le b 2 2)).map fun k =>
    let e := (b.drop (8 + 48 * k)).take 48
    (le e 0 1, (e.drop 4).take 20, (e.drop 24).take 20)

/-- The binding whose entry a key identifier matches (R51): KEY_ID_A, or a non-zero KEY_ID_B. -/
def boundTo (b : Bytes) (keyId : Bytes) : Option Nat :=
  ((bindings b).find? fun e => e.2.1 == keyId || (e.2.2 == keyId && !allZero e.2.2)).map (·.1)

/-- REMOTE_BINDINGS (item 0x0107). -/
def remoteBindings (s : State) : Bytes := (s.led.work.itemRaw 0x0107).getD []

/-- Every ring's REMOTE bit (R48, R93): bound in REMOTE_BINDINGS, or HEAD_RING. -/
def rebindRings (s : State) : State :=
  let bound := (bindings (remoteBindings s)).map (·.1)
  { s with
    bar0 := { s.bar0 with
      rings := (s.bar0.rings.zipIdx).map fun r =>
        { r.1 with remote := bound.contains r.2 || s.uploadSub.headRing == some r.2 } } }

/-- A remote session closed (R49, R50): commands go on; REMOTE_CLOSE is raised with the reason. -/
def closeRemote (id reason : Nat) (s : State) : State :=
  match s.remotes.find? fun r => r.id == id with
  | none => s
  | some r =>
    raise 0x0007 (putLe 1 r.ring ++ putLe 2 reason)
      (emit (.tlsClose id reason) { s with remotes := s.remotes.filter fun x => x.id != id })

/-- Sessions open, the upload channel counted as one (R48, R93). -/
def sessionsOpen (s : State) : Nat := s.remotes.length + bit s.uploadSub.connected

/-- REMOTE_CONNECT (R48): bound to the ring of its binding; a second connection of one binding replaces the first; an
unbound one, or one beyond 8, is closed with access_denied (49). -/
def opRemoteConnect (id : Nat) (keyId : Bytes) (s : State) : State :=
  if !served s then emit (.tlsClose id 49) s
  else match boundTo (remoteBindings s) keyId with
    | none => emit (.tlsClose id 49) s
    | some ring =>
      let s := match s.remotes.find? fun r => r.ring == ring with
        | some old => closeRemote old.id 3 s
        | none => s
      if sessionsOpen s ≥ 8 then emit (.tlsClose id 49) s
      else raise 0x0006 (putLe 1 ring ++ keyId.take 15)
        { s with remotes := s.remotes ++ [⟨id, ring, keyId, s.clk, s.clk⟩] }

/-- The session's traffic noted. -/
def touchRemote (id : Nat) (s : State) : State :=
  { s with
    remotes := modifyFirst (fun r => r.id == id) (fun r => { r with lastSent := s.clk, lastTraffic := s.clk }) s.remotes }

/-- REMOTE_MESSAGE (R49): an unknown TYPE, a non-zero reserved byte or a wrong LENGTH closes the session; a COMMAND carries
a frame and, with BUF_OUT clear, BUF_LEN bytes, and is taken under R38. -/
def opRemoteMessage (id : Nat) (header body : Bytes) (s : State) : State :=
  match s.remotes.find? fun r => r.id == id with
  | none => s
  | some r =>
    let s := touchRemote id s
    let typ := le header 0 1
    if header.length != 8 || !zeroAt header 1 3 || le header 4 4 != body.length || typ = 0 || decide (typ > 4) then
      closeRemote id 1 s
    else if typ = 1 then
      let frame := body.take 64
      let want := if bitOf (le frame 2 1) 2 then 0 else le frame 0x18 4
      if body.length != 64 + want then closeRemote id 1 s
      else takeFrame r.ring frame (body.drop 64) true .remote (some id) s
    else s

/-- REMOTE_KEEPALIVE_TIMER (R49): 30 s without traffic. -/
def opRemoteKeepalive (id : Nat) (s : State) : State :=
  match s.remotes.find? fun r => r.id == id with
  | none => s
  | some r =>
    if r.lastTraffic + secTicks 30 ≤ s.clk then
      { emit (.remote id 4 []) s with
        remotes := modifyFirst (fun r => r.id == id) (fun r => { r with lastTraffic := s.clk }) s.remotes }
    else s

/-- REMOTE_IDLE_TIMEOUT (R49): nothing sent by the peer for 90 s. -/
def opRemoteIdle (id : Nat) (s : State) : State :=
  match s.remotes.find? fun r => r.id == id with
  | none => s
  | some r => if r.lastSent + secTicks 90 ≤ s.clk then closeRemote id 2 s else s

/-! ## The meanings -/

/-- HOST_ATTACH (R32). -/
def execHostAttach (s : State) : Host.Outcome State Fault Refusal := .next (opHostAttach s)

/-- ORDERLY_DETACH (R52). -/
def execOrderlyDetach (s : State) : Host.Outcome State Fault Refusal := .next (opOrderlyDetach s)

/-- SURPRISE_REMOVAL (R52). -/
def execSurpriseRemoval (s : State) : Host.Outcome State Fault Refusal := .next (opSurpriseRemoval s)

/-- PCIE_HOT_RESET (R393). -/
def execPcieHotReset (s : State) : Host.Outcome State Fault Refusal := .next (opPcieHotReset s)

/-- PCIE_LINK_UP (R52). -/
def execPcieLinkUp (s : State) : Host.Outcome State Fault Refusal := .next (opPcieLinkUp s)

/-- MBX_CR_TAIL_WRITE (R32). -/
def execMbxCrTailWrite (ring value : Nat) (s : State) : Host.Outcome State Fault Refusal := .next (opCrTail ring value s)

/-- MBX_CP_HEAD_WRITE (R32). -/
def execMbxCpHeadWrite (ring value : Nat) (s : State) : Host.Outcome State Fault Refusal := .next (opCpHead ring value s)

/-- MBX_EV_CONS_WRITE (R32). -/
def execMbxEvConsWrite (value : Nat) (s : State) : Host.Outcome State Fault Refusal := .next (opEvCons value s)

/-- RING_ENABLE (R482). -/
def execRingEnable (ring value : Nat) (s : State) : Host.Outcome State Fault Refusal := .next (opRingEnable ring value s)

/-- RING_DISABLE (R35). -/
def execRingDisable (ring value : Nat) (s : State) : Host.Outcome State Fault Refusal := .next (opRingDisable ring value s)

/-- EVENT_RING_ENABLE (R482). -/
def execEventRingEnable (value : Nat) (s : State) : Host.Outcome State Fault Refusal := .next (opEvEnable value s)

/-- EVENT_RING_DISABLE (R35). -/
def execEventRingDisable (value : Nat) (s : State) : Host.Outcome State Fault Refusal := .next (opEvDisable value s)

/-- COMMAND_FETCH (R33). -/
def execCommandFetch (ring : Nat) (f : Fetched) (s : State) : Host.Outcome State Fault Refusal :=
  .next (opCommandFetch ring f s)

/-- COALESCED_INTERRUPT_TIMER (R31). -/
def execCoalescedInterruptTimer (ring : Nat) (s : State) : Host.Outcome State Fault Refusal := .next (opCoalesced ring s)

/-- CURSOR_EXPIRY (R106). -/
def execCursorExpiry (ring opcode : Nat) (s : State) : Host.Outcome State Fault Refusal :=
  .next (opCursorExpiry ring opcode s)

/-- REMOTE_CONNECT (R48). -/
def execRemoteConnect (session : Nat) (keyId : Bytes) (s : State) : Host.Outcome State Fault Refusal :=
  .next (opRemoteConnect session keyId s)

/-- REMOTE_IDLE_TIMEOUT (R49). -/
def execRemoteIdleTimeout (session : Nat) (s : State) : Host.Outcome State Fault Refusal := .next (opRemoteIdle session s)

/-- REMOTE_CLOSE (R50). -/
def execRemoteClose (session reason : Nat) (s : State) : Host.Outcome State Fault Refusal :=
  .next (closeRemote session reason s)

end Sys2Proof.Machine
end

