-- ==== Sys2Proof/Machine/ConfigItems.lean ====
section
/-! DEFINITION. Configuration items (Tables CI.18, PL.3, RF.3, TM.2, KC.14, FS.8, TW.13, KP.9, FP.9; R210, R484):
sizes, defaults, range checks and effects, SYS_GET_CONFIG and SYS_SET_CONFIG, and the common form of settings and table
loads (R42). -/

namespace Sys2Proof.Machine

/-- Size of an item's value; 0 for a table, none for an item that does not exist. -/
def itemSize (item : Nat) : Option Nat :=
  if [0x0107, 0x0108, 0x0B10, 0x0D02, 0x0D04].contains item then some 0
  else if [0x0A01, 0x0A03, 0x0A05, 0x0A06, 0x0A07, 0x0A0B, 0x0B01, 0x0B02, 0x0B04, 0x0B05, 0x0B06, 0x0B0B, 0x0B0C,
    0x0B0D, 0x0B0F, 0x0C03, 0x0E03, 0x0E04, 0x0F03, 0x1101, 0x1102, 0x1103, 0x1104, 0x1107].contains item then some 1
  else if [0x0105, 0x0106, 0x0301, 0x0302, 0x0A04, 0x0A08, 0x0A0A, 0x0B03, 0x0B07, 0x0B08, 0x0B0A, 0x0B0E, 0x0C01,
    0x0C02, 0x0E01, 0x0E02, 0x0F06, 0x1002, 0x1105].contains item then some 2
  else if [0x0E05, 0x0F04, 0x1001, 0x1106].contains item then some 4
  else if [0x0A09, 0x0A0C, 0x0B09].contains item then some 8
  else if item = 0x0A02 then some 9
  else if [0x0101, 0x0102, 0x0601, 0x0602, 0x0F02, 0x0F05].contains item then some 16
  else if [0x0103, 0x0104, 0x0109].contains item then some 48
  else if item = 0x0C04 then some 256
  else if item = 0x0D01 || item = 0x0D05 then some 97
  else if item = 0x0D03 then some 162
  else if item = 0x0F01 then some 194
  else none

/-- Carriers of a band (Table PL.1). -/
def bandCarriers (band : Nat) : Nat := if band = 2 then 54 else if band = 3 then 72 else 36

/-- The value of an item of a content, its default where it was never set. -/
def LState.item (l : LState) (s : State) (item : Nat) : Bytes :=
  match l.itemRaw item with
  | some b => b
  | none =>
    match item with
    | 0x0101 => putLe 1 2 ++ zeros 15
    | 0x0102 => putLe 1 2 ++ zeros 15
    | 0x0103 => putLe 1 2 ++ zeros 47
    | 0x0104 => putLe 1 2 ++ zeros 47
    | 0x0105 => putLe 2 7480
    | 0x0106 => putLe 2 7481
    | 0x0107 => putLe 2 1 ++ zeros 6
    | 0x0108 => putLe 2 1 ++ zeros 6
    | 0x0301 => putLe 2 62
    | 0x0302 => putLe 2 400
    | 0x0A01 => putLe 1 1
    | 0x0A02 => putLe 9 (2 ^ bandCarriers (l.itemNat 0x0A01 1 1) - 1)
    | 0x0A04 => putLe 2 300
    | 0x0A05 => putLe 1 20
    | 0x0A06 => putLe 1 40
    | 0x0A07 => putLe 1 15
    | 0x0A08 => putLe 2 400
    | 0x0A09 => s.fuse.eui
    | 0x0A0A => putLe 2 0x8840
    | 0x0A0B => putLe 1 1
    | 0x0A0C => s.fuse.eui
    | 0x0B01 => putLe 1 1
    | 0x0B02 => putLe 1 1
    | 0x0B04 => putLe 1 14
    | 0x0B06 => putLe 1 8
    | 0x0B07 => putLe 2 150
    | 0x0B08 => putLe 2 (if l.itemNat 0x0B01 1 1 = 1 then 100 else 1000)
    | 0x0B09 => (s.fuse.eui.take 1).map (fun b => b ||| 2) ++ s.fuse.eui.drop 1
    | 0x0B0A => putLe 2 0x8841
    | 0x0B0B => putLe 1 20
    | 0x0B0C => putLe 1 40
    | 0x0B0D => putLe 1 8
    | 0x0B0E => putLe 2 60
    | 0x0B0F => putLe 1 1
    | 0x0B10 => putLe 2 1 ++ zeros 6
    | 0x0C01 => putLe 2 60
    | 0x0C02 => putLe 2 37
    | 0x0D02 => putLe 2 1 ++ zeros 6
    | 0x0D04 => putLe 2 1 ++ zeros 6
    | 0x0E01 => putLe 2 256
    | 0x0E02 => putLe 2 16
    | 0x0E03 => putLe 1 60
    | 0x0E04 => putLe 1 14
    | 0x0E05 => putLe 4 86400
    | 0x0F06 => putLe 2 200
    | 0x1102 => putLe 1 48
    | 0x1103 => putLe 1 128
    | 0x1105 => putLe 2 240
    | 0x1106 => putLe 4 7200
    | 0x1107 => putLe 1 10
    | _ => zeros ((itemSize item).getD 0)

/-- The value of an item in force in the working content. -/
def itemNow (s : State) (item : Nat) : Bytes := s.led.work.item s item

/-- An unsigned item in force. -/
def itemVal (s : State) (item : Nat) : Nat := leNat (itemNow s item)

/-- An unsigned item that takes effect at a start: its value as the present start took it. -/
def startVal (s : State) (item : Nat) : Nat := leNat ({ s.led.work with config := s.boot.startItems }.item s item)

/-- The value that SYS_GET_CONFIG returns: keeper MRAM's items and the read-only ones come from their own places. -/
def readItem (s : State) (l : LState) (item : Nat) : Bytes :=
  match item with
  | 0x0601 => ((Item.relay 0 (l.relays.getD 0 ⟨2, 3, 0, 0, 0, 0⟩)).parts.head?.map (·.2.2)).getD []
  | 0x0602 => ((Item.relay 1 (l.relays.getD 1 ⟨2, 3, 0, 0, 0, 0⟩)).parts.head?.map (·.2.2)).getD []
  | 0x0D01 => Config.derive Config.pufSecret [0x01] 97
  | 0x0D03 => Config.derive Config.pufSecret [0x02] 162
  | 0x0D05 => if s.keys.operatorAuthority.isEmpty then zeros 97 else s.keys.operatorAuthority
  | 0x1001 => putLe 4 s.keeper.tamperCfg
  | 0x1002 => putLe 2 s.keeper.appWdtMs
  | _ => l.item s item

/-- The version of an item (R42). -/
def readVersion (s : State) (l : LState) (item : Nat) : Nat :=
  match item with
  | 0x0601 => (l.relays.getD 0 ⟨2, 3, 0, 0, 0, 0⟩).version
  | 0x0602 => (l.relays.getD 1 ⟨2, 3, 0, 0, 0, 0⟩).version
  | 0x1001 => s.keeper.tamperVersion
  | 0x1002 => s.keeper.appWdtVersion
  | _ => l.itemVersion item

/-- Items SYS_SET_CONFIG never writes (R42, R210, R215, R268, R312, R340, Table TW.13). -/
def readOnlyItem (s : State) (item : Nat) : Bool :=
  [0x0601, 0x0602, 0x0A0C, 0x0C04, 0x0D01, 0x0D03, 0x0E03, 0x0F03].contains item ||
    (item == 0x0D05 && s.keys.lifecycle != .provisioned)

/-- A value within a closed range. -/
def within (lo hi v : Nat) : Bool := decide (lo ≤ v) && decide (v ≤ hi)

/-- No element of a list occurs twice. -/
def noRepeat {α : Type} [BEq α] : List α → Bool
  | [] => true
  | x :: xs => !xs.contains x && noRepeat xs

/-- The key identifiers of a binding table, zero ones left out. -/
def bindingKeys (b : Bytes) : List Bytes :=
  ((bindings b).flatMap fun e => [e.2.1, e.2.2]).filter fun k => !allZero k

/-- A binding table's form (R51): length, no number or key twice; 0x0107 where broken. -/
def bindingForm (b : Bytes) (maxCount lo hi : Nat) : Nat :=
  let n := le b 2 2
  if b.length != 8 + 48 * n then 0x0107
  else if !(noRepeat ((bindings b).map (·.1))) || !(noRepeat (bindingKeys b)) then 0x0107
  else if le b 0 2 != 1 || decide (n > maxCount) || !((bindings b).all fun e => within lo hi e.1) then 0x0103
  else 0

/-- The key generation entries of METER_MASTERS (R296): class, master, generation, previous master, previous generation. -/
def masterEntries (b : Bytes) : List (Nat × Nat × Nat × Nat × Nat) :=
  (List.range (le b 2 2)).map fun k =>
    let o := 8 + 8 * k
    (le b o 2, le b (o + 2) 1, le b (o + 3) 1, le b (o + 4) 1, le b (o + 5) 1)

/-- A master slot with ENGINE and DERIVE (Table KC.2: bits 2 and 21 of ATTR). -/
def masterSlotOk (s : State) (n : Nat) : Bool :=
  s.keys.slots.any fun k => k.num == n && k.key.attr.getLsbD 2 && k.key.attr.getLsbD 21

/-- METER_MASTERS' form (R296). -/
def mastersForm (s : State) (b : Bytes) : Nat :=
  let es := masterEntries b
  let used := (s.led.work.recs.filter fun r => r.2.keySrc == 0 && r.2.segment == 0).map (·.2.cls)
  if b.length != 8 + 8 * le b 2 2 || le b 0 2 != 1 || decide (le b 2 2 > 256) then 0x0107
  else if !(within 16 31 (le b 4 1) && decide (le b 5 1 ≥ 1)) || !(es.all fun e => within 16 31 e.2.1 &&
    (e.2.2.2.1 == 0 || within 16 31 e.2.2.2.1)) then 0x0107
  else if !(noRepeat (es.map (·.1))) || !(used.all fun c => es.any fun e => e.1 == c) then 0x0107
  else if !(masterSlotOk s (le b 4 1)) || !(es.all fun e => masterSlotOk s e.2.1 &&
    (e.2.2.2.1 == 0 || masterSlotOk s e.2.2.2.1)) then 0x0107
  else 0

/-- Data rate of a Lyre mode in kb/s (Table RF.2). -/
def modeKbps (m : Nat) : Nat :=
  match m with
  | 1 => 50
  | 2 => 100
  | 3 => 150
  | 4 => 100
  | 5 => 400
  | 6 => 800
  | 7 => 50
  | 8 => 200
  | _ => 400

/-- Airtime in µs of a frame of some octets at a mode (7.68 ms for 48 octets at FSK50, R254). DEDUCED, log entry 16. -/
def airtimeUs (mode octets : Nat) : Nat := octets * 8000 / modeKbps mode

/-- The entries of SLEEP_PROFILES (Table RF.5). -/
def sleepProfiles (b : Bytes) : List SleepProfile :=
  (List.range (le b 2 2)).map fun k =>
    let o := 8 + 16 * k
    ⟨le b o 2, le b (o + 2) 2, le b (o + 4) 2, le b (o + 6) 2, le b (o + 8) 2, le b (o + 12) 4⟩

/-- SLEEP_PROFILES' form (R254). -/
def profilesForm (s : State) (b : Bytes) : Nat :=
  let ps := sleepProfiles b
  let a := airtimeUs (itemVal s 0x0B02) 48
  if b.length != 8 + 16 * le b 2 2 || le b 0 2 != 1 || decide (le b 2 2 > 256) then 0x0107
  else if !(noRepeat (ps.map (·.cls))) then 0x0107
  else if !(ps.all fun p => within 2 3600 p.wakePeriodS && decide (p.listenMs * 1000 ≥ 2 * a + 1000) &&
    decide (p.listenMs ≤ 1000) && within 5 30000 p.guardMs && within 500 30000 p.awakeMs && within 300 86400 p.checkinS &&
    ((s.led.work.classOf p.cls).map (·.sleepy)).getD false) then 0x0107
  else 0

/-- TRUST_ANCHORS' form (Table KC.14): length and COUNT. -/
def anchorsForm (b : Bytes) : Nat :=
  if b.length != 8 + 128 * le b 2 2 || le b 0 2 != 1 || decide (le b 2 2 > 8) then 0x0107 else 0

/-- IPv4 value's range (R51). -/
def ipv4Ok (b : Bytes) : Bool := decide (le b 0 1 ≤ 2) && decide (le b 1 1 ≤ 32)

/-- IPv6 value's range (R51). -/
def ipv6Ok (b : Bytes) : Bool := decide (le b 0 1 ≤ 2) && decide (le b 1 1 ≤ 128)

/-- TX_POWER_DBM and FEM_GAIN_DB together (R243). -/
def powerOk (power : Int) (fem : Nat) : Bool :=
  if fem = 0 then decide (-10 ≤ power) && decide (power ≤ 14)
  else decide (-10 ≤ power - fem) && decide (power - fem ≤ 14) && decide (power ≤ 27)

/-- Reserved bytes within a value are zero (R8). -/
def itemReserved (item : Nat) (b : Bytes) : Bool :=
  match item with
  | 0x0101 => zeroAt b 2 2 && zeroAt b 12 4
  | 0x0102 => zeroAt b 2 2 && zeroAt b 12 4
  | 0x0103 => zeroAt b 2 14
  | 0x0104 => zeroAt b 2 14
  | 0x0107 => zeroAt b 4 4 && (List.range (le b 2 2)).all fun k => zeroAt b (9 + 48 * k) 3 && zeroAt b (52 + 48 * k) 4
  | 0x0108 => zeroAt b 4 4 && (List.range (le b 2 2)).all fun k => zeroAt b (9 + 48 * k) 3 && zeroAt b (52 + 48 * k) 4
  | 0x0109 => zeroAt b 40 8
  | 0x0B10 => zeroAt b 4 4 && (List.range (le b 2 2)).all fun k => zeroAt b (18 + 16 * k) 2
  | 0x0D02 => zeroAt b 7 1 && (List.range (le b 2 2)).all fun k => zeroAt b (14 + 8 * k) 2
  | 0x0D04 => zeroAt b 4 4
  | 0x1001 => (b.take 4).all fun x => decide (x.toNat < 8)
  | _ => true

/-- The checks of class 0x02 on an item (R51, R268). -/
def itemState (s : State) (item : Nat) : Option Nat :=
  if item = 0x0108 && !s.boot.headRole then some 0x0201
  else if (item = 0x0C02 || item = 0x0C03) && ptpLocked s && s.time.utcOffsetValid then some 0x0208
  else none

/-- The range check of an item's value: 0 when it passes, else the result. -/
def itemCheck (s : State) (item : Nat) (b : Bytes) : Nat :=
  let v := leNat b
  let range (ok : Bool) : Nat := if ok then 0 else 0x0103
  match item with
  | 0x0101 => range (ipv4Ok b)
  | 0x0102 => range (ipv4Ok b)
  | 0x0103 => range (ipv6Ok b)
  | 0x0104 => range (ipv6Ok b)
  | 0x0105 => range (within 1 65535 v && v != 7482 && v != itemVal s 0x0106)
  | 0x0106 => range (within 1 65535 v && v != 7482 && v != itemVal s 0x0105)
  | 0x0107 =>
    let f := bindingForm b 8 0 15
    if f != 0 then f
    else range ((bindings b).all fun e => !((ringOf s e.1).enable && !(ringOf s e.1).remote))
  | 0x0108 => bindingForm b 255 1 255
  | 0x0301 => range (within 62 400 v && decide (v ≤ itemVal s 0x0302))
  | 0x0302 => range (within 62 3650 v && decide (itemVal s 0x0301 ≤ v))
  | 0x0A01 => range (within 1 3 v)
  | 0x0A02 =>
    let n := bandCarriers (itemVal s 0x0A01)
    range (decide (v < 2 ^ n) && decide (((List.range n).filter fun k => v.testBit k).length ≥ 12))
  | 0x0A03 => range (within 0 31 v)
  | 0x0A04 => range (within 60 3600 v)
  | 0x0A07 => range (within 1 15 v)
  | 0x0A08 => range (within 50 5000 v)
  | 0x0A0A => range (within 0 0xFFFD v)
  | 0x0A0B => range (within 0 1 v)
  | 0x0B01 => range (within 1 3 v)
  | 0x0B02 => range (within 1 3 v || (within 4 6 v && itemVal s 0x0B01 == 2))
  | 0x0B03 => range (decide (v < Config.channelCount (itemVal s 0x0B01) (itemVal s 0x0B02)))
  | 0x0B04 => range (powerOk (leInt b 0 1) (itemVal s 0x0B05))
  | 0x0B05 => range (within 0 20 v && powerOk (leInt (itemNow s 0x0B04) 0 1) v)
  | 0x0B06 => range (within 1 15 v)
  | 0x0B07 => range (within 10 2000 v)
  | 0x0B08 => range (within 1 1000 v)
  | 0x0B09 => range (b != itemNow s 0x0A09)
  | 0x0B0A => range (within 0 0xFFFD v)
  | 0x0B0D => range (within 1 15 v)
  | 0x0B0E => range (within 10 600 v)
  | 0x0B0F => range (within 0 1 v)
  | 0x0B10 => profilesForm s b
  | 0x0C01 => range (within 10 3600 v)
  | 0x0C02 => range (within 0 255 v)
  | 0x0C03 => range (within 0 2 v)
  | 0x0D02 => mastersForm s b
  | 0x0D04 => anchorsForm b
  | 0x0E01 => range (within 64 1024 v && decide (v ≤ s.fuse.dramGib * 128))
  | 0x0E02 =>
    let old := itemVal s 0x0E02
    if decide (v > 256) then 0x0103
    else if decide (v > old) then
      (if (v - old) * 262144 ≤ s.store.fig.ledgerExported - s.store.fig.ledgerUsed then 0 else 0x0501)
    else range (s.store.vol3.all fun u => decide (u.1 < v * 262144))
  | 0x0E04 => range (within 1 90 v)
  | 0x0E05 => range (within 3600 2592000 v)
  | 0x0F04 => range (v == 0 || decide (le b 0 1 < 224))
  | 0x0F05 => range (v == 0 || decide (le b 0 1 < 255))
  | 0x0F06 => range (within 10 1000 v)
  | 0x1002 => range (within 100 60000 v)
  | 0x1101 => range (within 0 128 v)
  | 0x1102 => range (within 1 48 v)
  | 0x1104 => range (within 0 1 v)
  | 0x1105 => range (within 100 1000 v)
  | 0x1106 => range (within 3600 72000 v)
  | 0x1107 => range (within 1 20 v)
  | _ => 0

/-- The LEAP_HISTORY value with a change of the offset added: the last 16 changes are kept (R267). -/
def historyWith (l : LState) (at_ : LTime) (offset : Int) : Bytes :=
  let es := lastN 16 (l.leapHistory ++ [(at_, offset)])
  fitTo 256 (es.flatMap fun e => putLe 8 e.1 ++ putInt 2 e.2 ++ zeros 6)

/-- What a change of the offset at an instant leaves beside TAI_UTC: LEAP_HISTORY, and the latest boundary evaluated moved by as
much as U moves, so that a count U passes a second time gives no boundary again (R267). -/
def offsetItems (l : LState) (at_ : LTime) (offset : Int) : List Item :=
  [.config 0x0C04 (nextVersion (l.itemVersion 0x0C04)) (historyWith l at_ offset),
    .boundary ((l.lastBoundary : Int) + (offset - l.taiUtc) * 524288).toNat]

/-- The ledger items of a changed configuration item: keeper MRAM's items are not in the ledger (R386); a change of
TAI_UTC enters LEAP_HISTORY (R267). -/
def itemItems (s : State) (item version : Nat) (b : Bytes) : List Item :=
  if item = 0x1001 || item = 0x1002 then []
  else if item = 0x0C02 then
    .config item version b :: offsetItems s.led.work (now s) (leInt b 0 2)
  else [.config item version b]

/-- A remote session whose binding is gone is closed at once (R51). -/
def closeUnbound (new : Bytes) (s : State) : State :=
  let s := s.remotes.foldl (fun a r => if boundTo new r.keyId == some r.ring then a else closeRemote r.id 4 a) s
  let bound := (bindings new).map (·.1)
  { s with
    bar0 := { s.bar0 with
      rings := (s.bar0.rings.zipIdx).map fun r =>
        { r.1 with remote := bound.contains r.2 || s.uploadSub.headRing == some r.2 } } }

/-- A neighbour whose tone map a new mask ends (R214, Table PL.9): no map is held, and a request is decided. -/
def clearMap (clk : Nat) (n : Neighbour) : Neighbour :=
  { n with state := .requested, mod := 0, toneMap := 0, cap := 0, requests := 0, probeDue := some (clk + msTicks 100) }

/-- What a changed item does beside its value: bindings (R51), tone maps (R214), the broadcast key's change (R299), the
keeper's own items (R378, R386), volume 3's size against volume 0's (R340), the keeper's copies of the placard's (R439). -/
def itemEffects (item version : Nat) (old b : Bytes) (s : State) : State :=
  match item with
  | 0x0107 => closeUnbound b s
  | 0x0108 =>
    let gone := s.uploadHeads.filter fun u => u.opened && boundTo b u.keyId != some u.segment
    { gone.foldl (fun a u => raise 0x0109 (putLe 1 u.segment) a) s with
      uploadHeads := s.uploadHeads.filter fun u => boundTo b u.keyId == some u.segment }
  | 0x0109 =>
    if s.uploadSub.connected && s.uploadSub.headKeyId != b.take 20 &&
      (allZero ((b.drop 20).take 20) || s.uploadSub.headKeyId != (b.drop 20).take 20) then
      { s with uploadSub := { s.uploadSub with connected := false } }
    else s
  | 0x0A02 =>
    { s with
      zither := { s.zither with neighbours := s.zither.neighbours.map (clearMap s.clk) } }
  | 0x0D02 =>
    if le old 5 1 != le b 5 1 then { s with keys := { s.keys with bkeyChangedAt := some s.clk, rejoined := [] } } else s
  | 0x0D05 => { s with keys := { s.keys with operatorAuthority := b } }
  | 0x1001 =>
    let s := senseTamper s
    { s with
      keeper := { s.keeper with
        tamperCfg := leNat b
        tamperVersion := version
        tamperLatched := s.keeper.tamperLatched &&& s.keeper.tamperActive } }
  | 0x1002 =>
    { s with
      keeper := { s.keeper with
        appWdtMs := leNat b
        appWdtVersion := version
        appPeriodMs := if inService s then leNat b else s.keeper.appPeriodMs } }
  | 0x0E02 =>
    let a := leNat old * 262144
    let n := leNat b * 262144
    { s with
      store := { s.store with
        vol3Blocks := s.store.vol3Blocks + n - a
        fig := { s.store.fig with ledgerExported := s.store.fig.ledgerExported + a - n } } }
  | 0x1105 => { s with panel := { s.panel with placard := { s.panel.placard with driveMs := leNat b } } }
  | 0x1106 => { s with panel := { s.panel with placard := { s.panel.placard with limitVms := leNat b } } }
  | _ => s

/-- CONFIG_CHANGED (Table CI.16). -/
def configEvent (s : State) (item version ring : Nat) : EvRec :=
  mkEv s 0x0008 (putLe 4 item ++ putLe 4 version ++ putLe 1 ring) none

/-- The audit part of a value change (R54, R114). -/
def auditChange (item oldV newV : Nat) (old new : Bytes) : AuditPart :=
  ⟨item, false, decide (old.length > 32) || decide (new.length > 32), none, oldV, newV, auditValue old, auditValue new⟩

/-- A setting changed by a command of its own (R42): EXPECT_VERSION, then no change, then the change. A setting that is a
configuration item raises CONFIG_CHANGED (item 0: the setting has no item). -/
def setting (c : Cmd) (s : State) (expect oldV : Nat) (old new : Bytes) (item : Nat) (items : Nat → List Item)
    (data : Nat → Bytes) (effect : Nat → State → State) : Answer :=
  if !versionOk expect oldV then no 0x0203
  else if old == new then .refuse 0x0002 (data oldV)
  else
    let v := nextVersion oldV
    .change (items v ++ if item = 0 then [] else [.event (configEvent s item v c.ring)]) (auditChange item oldV v old new) 0 (data v) [] c.bufLen
      (effect v s)

/-- A table loaded by a command (R42, R54, R114): the form first, then EXPECT_VERSION, then no change, then the load; the
audit record holds the digests of both tables. `extra` are the items that go with the load. -/
def loadTable (c : Cmd) (s : State) (oldV : Nat) (oldRaw : Bytes) (t : Option (Nat → TableLoad))
    (refusal : Option Nat) (extra : Nat → List Item) (effect : State → State) : Answer :=
  match t with
  | none => no 0x0107
  | some mk =>
    match refusal with
    | some r => no r
    | none =>
      if !versionOk (c.p 0x20 4) oldV then no 0x0203
      else if oldV != 0 && oldRaw == c.buf then .refuse 0x0002 (putLe 4 oldV)
      else
        let v := nextVersion oldV
        .change (.table (mk v) :: extra v)
          ⟨0, true, false, none, oldV, v, Config.sha256 oldRaw, Config.sha256 c.buf⟩ 0 (putLe 4 v) [] c.bufLen
          (effect s)

/-- SYS_GET_CONFIG (R51): VERSION, LENGTH and the value, as the last committed epoch holds them. -/
def bodySysGetConfig (c : Cmd) (s : State) : Answer :=
  let item := c.p 0x20 4
  if (itemSize item).isNone then no 0x0103
  else atEpoch s 0 fun n l =>
    let b := readItem s l item
    okOut c n (putLe 4 (readVersion s l item) ++ putLe 4 b.length) b s

/-- SYS_SET_CONFIG (R42, R51): the value comes from VALUE or, when longer than 16 bytes, from the buffer. -/
def bodySysSetConfig (c : Cmd) (s : State) : Answer :=
  let item := c.p 0x20 4
  let size := (itemSize item).getD 0
  let b := if itemInParam item then c.pBytes 0x28 size else c.buf
  if itemInParam item && !zeroAt c.param (8 + size) (16 - size) then no 0x0102
  else match itemState s item with
    | some r => no r
    | none =>
      if (itemSize item).isNone || readOnlyItem s item then no 0x0103
      else if size != 0 && b.length != size then no 0x0103
      else if !itemReserved item b then no 0x0102
      else
        let k := itemCheck s item b
        if k != 0 then no k
        else
          let old := readItem s s.led.work item
          setting c s (c.p 0x24 4) (readVersion s s.led.work item) old b item (fun v => itemItems s item v b)
            (fun v => putLe 4 v) (fun v t => itemEffects item v old b t)

/-- SYS_GET_CONFIG (R51). -/
def execSysGetConfig (c : Cmd) (s : State) : Host.Outcome State Fault Refusal := .next (runDcs 0x0103 c bodySysGetConfig s)

/-! ## The other SYS_ commands -/

/-- SYS_IDENTIFY (Table CI.14, R472). -/
def bodySysIdentify (_ : Cmd) (s : State) : Answer :=
  okData 0 (putLe 1 s.fuse.ordering ++ putLe 1 (bit s.boot.headRole) ++ putLe 1 (segmentId s) ++
    putLe 1 s.fuse.revision ++ putLe 4 (mbxVersion s) ++ putLe 4 s.fw.runningVersion ++ zeros 4 ++ fitTo 16 s.fuse.uid) s

/-- Meters of the working content that are JOINED. -/
def joinedCount (s : State) : Nat := (s.led.work.recs.filter fun r => r.2.net.state == .joined).length

/-- SYS_GET_STATUS (R45). -/
def bodySysGetStatus (_ : Cmd) (s : State) : Answer :=
  okData 0 (putLe 8 s.led.lastCommitted ++ putLe 8 (openNum s) ++ putLe 4 (joinedCount s) ++
    putLe 2 s.meters.sessions.length ++ putLe 1 (s.uploadHeads.filter fun u => u.joined).length ++ zeros 1 ++
    putLe 4 (mbxStatus s)) s

/-- Cause 0x0001 of degraded mode stands (R381). -/
def degradedByDips (s : State) : Bool := s.keeper.degraded.contains 1

/-- SYS_SET_ROLE (R42): the role recorded for the next start. -/
def bodySysSetRole (c : Cmd) (s : State) : Answer :=
  let role := c.p 0x20 1
  if role = 1 && s.fuse.ordering != 0x48 then no 0x0201
  else if degradedByDips s then no 0x0207
  else if role > 1 then no 0x0103
  else
    setting c s (c.p 0x24 4) (s.led.work.itemVersion roleItem) (putLe 1 (s.led.work.itemNat roleItem 1 0)) (putLe 1 role)
      0 (fun v => [.config roleItem v (putLe 1 role)]) (fun _ => []) (fun _ t => t)

/-- SYS_IDENTIFY (R472). -/
def execSysIdentify (c : Cmd) (s : State) : Host.Outcome State Fault Refusal := .next (runDcs 0x0101 c bodySysIdentify s)

/-- SYS_GET_STATUS (R45). -/
def execSysGetStatus (c : Cmd) (s : State) : Host.Outcome State Fault Refusal := .next (runDcs 0x0102 c bodySysGetStatus s)

/-- SYS_SET_ROLE (R42). -/
def execSysSetRole (c : Cmd) (s : State) : Host.Outcome State Fault Refusal := .next (runDcs 0x0105 c bodySysSetRole s)

end Sys2Proof.Machine
end

