-- ==== Sys2Proof/Machine/Ledger.lean ====
section
/-! DEFINITION. The Damask ledger (05_damask_ledger): the LDG_ commands, boundaries, flush, digest, commit, HELD epochs,
reclaim, formatting and mounting. -/

namespace Sys2Proof.Machine

/-! ## Paged reads (R106) -/

/-- A read that is refused while its cursor handling stands: a completion without output. -/
def replyNo (r : Nat) (s : State) : Answer := .reply r 0 false [] [] s

/-- The cursor a read continues: same ring, opcode and PARAM (R106). -/
def cursorOf (c : Cmd) (s : State) : Option Cursor :=
  (ringOf s c.ring).cursors.find? fun x => x.opcode == c.opcode && x.param == c.param

/-- The cursors of an opcode on a ring discarded. -/
def dropCursor (c : Cmd) (s : State) : State :=
  onRing c.ring (fun r => { r with cursors := r.cursors.filter fun x => x.opcode != c.opcode }) s

/-- How many whole entries fit in a length. -/
def fitCount : Nat → List Bytes → Nat
  | _, [] => 0
  | n, e :: es => if e.length ≤ n then 1 + fitCount (n - e.length) es else 0

/-- The entries from a position on, as many whole ones as the buffer holds (R106): 0x0001 with a cursor when some are
left, else 0x0000 and the sequence ends. -/
def pageOut (c : Cmd) (epoch pos : Nat) (entries : List Bytes) (data : Nat → Bytes) (uncommitted : Bool) (s : State) :
    Answer :=
  let left := entries.drop pos
  let k := fitCount c.bufLen left
  let out := (left.take k).flatten
  let s := dropCursor c s
  if k = left.length then .reply 0 epoch uncommitted (data k) out s
  else
    .reply 0x0001 epoch uncommitted (data k) out
      (onRing c.ring (fun r => { r with
        cursors := r.cursors ++ [⟨c.opcode, c.param, epoch, pos + k, s.clk + secTicks 600⟩] }) s)

/-- A paged read of committed content: a continuation at its cursor's epoch, else a new sequence at the epoch asked for. -/
def pagedRead (c : Cmd) (epoch : Nat) (entries : LState → List Bytes) (data : Nat → Bytes) (s : State) : Answer :=
  match cursorOf c s with
  | some x =>
    match readAt s x.epoch with
    | some (n, l) => pageOut c n x.pos (entries l) data false s
    | none => replyNo 0x0205 s
  | none =>
    match readAt s epoch with
    | some (n, l) => pageOut c n 0 (entries l) data false s
    | none => replyNo 0x0205 (dropCursor c s)

/-! ## LDG_ commands (Table LG.7) -/

/-- LDG_PIN. -/
def bodyLdgPin (c : Cmd) (s : State) : Answer :=
  let w := s.led.work
  let e := if c.p 0x20 8 = 0 then s.led.lastCommitted else c.p 0x20 8
  if (readAt s e).isNone then no 0x0205
  else if w.pins.contains e then .refuse 0x0002 (putLe 1 w.pins.length)
  else if w.pins.length ≥ 64 then no 0x0305
  else changeParam c none [.pin e] (putLe 1 (w.pins.length + 1)) s

/-- LDG_UNPIN. -/
def bodyLdgUnpin (c : Cmd) (s : State) : Answer :=
  let w := s.led.work
  let e := c.p 0x20 8
  if e = 0 || !w.pins.contains e then .refuse 0x0002 (putLe 1 w.pins.length)
  else changeParam c none [.unpin e] (putLe 1 (w.pins.length - 1)) s

/-- LDG_NAME. -/
def bodyLdgName (c : Cmd) (s : State) : Answer :=
  let w := s.led.work
  let e := if c.p 0x20 8 = 0 then s.led.lastCommitted else c.p 0x20 8
  let n := c.pBytes 0x28 16
  if allZero n || w.names.any (fun x => x.1 == n) then no 0x0103
  else if (readAt s e).isNone then no 0x0205
  else if w.names.length ≥ 16 then no 0x0305
  else changeParam c none [.name n e] (putLe 1 (w.names.length + 1)) s

/-- LDG_DROP_NAME. -/
def bodyLdgDropName (c : Cmd) (s : State) : Answer :=
  let w := s.led.work
  let n := c.pBytes 0x20 16
  if !w.names.any (fun x => x.1 == n) then no 0x0103
  else changeParam c none [.dropName n] (putLe 1 (w.names.length - 1)) s

/-- The series entries LDG_READ_SERIES returns. -/
def seriesSlice (mh mask from_ to_ : Nat) (l : LState) : List Bytes :=
  match l.recOf mh with
  | none => []
  | some (idx, _) =>
    (((lookupNat idx l.series).getD []).filter fun e => decide (from_ ≤ e.start) && decide (e.start < to_) &&
      mask.testBit e.channel && (e.kind != 3 || mask.testBit 7)).map SEntry.bytes

/-- LDG_READ_SERIES. -/
def bodyLdgReadSeries (c : Cmd) (s : State) : Answer :=
  if (s.led.work.recOf (c.p 0x20 4)).isNone then replyNo 0x0202 s
  else if c.p 0x28 8 ≥ c.p 0x30 8 then replyNo 0x0103 s
  else pagedRead c (c.p 0x38 8) (seriesSlice (c.p 0x20 4) (c.p 0x24 1) (c.p 0x28 8) (c.p 0x30 8)) (putLe 4) s

/-- The records of one journal, each with its epoch, SEQ and bytes (R115). -/
def journalRows (kind : Nat) (l : LState) : List (Nat × Nat × Bytes) :=
  let number (base : Nat) (xs : List (Nat × Bytes)) := (xs.zipIdx).map fun x => (x.1.1, base + x.2 + 1, x.1.2)
  if kind = 0 then number l.eventBase (l.events.map fun e => (e.1, e.2.bytes))
  else if kind = 1 then number 0 (l.audits.map fun e => (e.1, e.2.bytes))
  else number 0 (l.clockAdjs.map fun e => (e.1, e.2.bytes))

/-- The records LDG_READ_JOURNAL returns, each behind its header (Table LG.18). -/
def journalSlice (kind from_ to_ : Nat) (l : LState) : List Bytes :=
  ((journalRows kind l).filter fun r => decide (from_ ≤ r.1) && decide (r.1 ≤ to_)).map fun r =>
    journalHeader r.1 kind r.2.2.length r.2.1 ++ r.2.2

/-- LDG_READ_JOURNAL: read at the last committed epoch; TO_EPOCH 0 means that epoch. -/
def bodyLdgReadJournal (c : Cmd) (s : State) : Answer :=
  let k := c.p 0x30 1
  if k > 2 then replyNo 0x0103 s
  else
    let at_ := ((cursorOf c s).map (·.epoch)).getD s.led.lastCommitted
    let to_ := if c.p 0x28 8 = 0 then at_ else c.p 0x28 8
    pagedRead c 0 (journalSlice k (c.p 0x20 8) to_) (putLe 4) s

/-- LDG_READ_OPEN: the meter's append groups in the open epoch, in append order. -/
def bodyLdgReadOpen (c : Cmd) (s : State) : Answer :=
  match s.led.work.recOf (c.p 0x20 4), openEpoch s with
  | none, _ => replyNo 0x0202 s
  | _, none => replyNo 0x0205 s
  | some _, some e =>
    let entries := (e.groups.filter fun g => g.mh == some (c.p 0x20 4)).map Group.bytes
    match cursorOf c s with
    | some x => if x.epoch = e.num then pageOut c e.num x.pos entries (putLe 4) true s else replyNo 0x0205 s
    | none => pageOut c e.num 0 entries (putLe 4) true s

/-- LDG_CLOSE_EPOCH: its group holds its audit record; the close follows the group (R475, `opLdgCloseEpoch`). -/
def bodyLdgCloseEpoch (c : Cmd) (s : State) : Answer := changeParam c none [] (putLe 8 (openNum s)) s

/-- Whether the last group of the open epoch is that of a command. -/
def lastGroupIs (c : Cmd) (s : State) : Bool :=
  match (openEpoch s).bind fun e => e.groups.getLast? with
  | some g => g.items.any fun i => match i with
    | .audit a => a.opcode == c.opcode && a.tag == c.tag && a.ring == c.ring
    | _ => false
  | none => false

/-- LDG_CLOSE_EPOCH whole: once its group is the last of the open epoch, the epoch closes at the same instant (R475). -/
def opLdgCloseEpoch (c : Cmd) (s : State) : State :=
  let count (x : State) := ((openEpoch x).map fun e => e.groups.length).getD 0
  let s1 := runDcs 0x0308 c bodyLdgCloseEpoch s
  if openNum s1 = openNum s && count s1 ≠ count s && lastGroupIs c s1 then closeEpoch 1 s1 else s1

/-- LDG_SET_PERIOD. -/
def bodyLdgSetPeriod (c : Cmd) (s : State) : Answer :=
  let p := c.p 0x20 4
  if !within 1 3600 p then no 0x0103
  else
    setting c s (c.p 0x24 4) s.led.work.periodVersion (putLe 4 s.led.work.period) (putLe 4 p) 0 (fun v => [.period p v])
      (fun _ => []) (fun _ t => t)

/-- The billing export's entries (Table LG.7): ascending MH, then append order. -/
def billingSlice (periodEnd : Nat) (l : LState) : List Bytes :=
  ((l.billing.filter fun b => b.periodEnd == periodEnd).mergeSort fun a b => decide (a.mh ≤ b.mh)).map BSnap.exportBytes

/-- LDG_EXPORT_BILLING. -/
def bodyLdgExportBilling (c : Cmd) (s : State) : Answer :=
  pagedRead c (c.p 0x28 8) (billingSlice (c.p 0x20 8)) (putLe 4) s

/-! ## Pages and HELD epochs -/

/-- The roots of the root log whose content still stands, for RESYNC_ROOTS (Table TW.4, R102). -/
def rootsBody (s : State) : Bytes :=
  let rs := s.led.rootLog.filter fun r => !r.voided && s.led.readable.any fun e => e.1 == r.epoch
  putLe 2 rs.length ++ zeros 6 ++ rs.flatMap fun r => putLe 8 r.epoch ++ fitTo 32 r.digest

/-- A standby starts its resynchronisation (R364), unless it is inert. -/
def startResync (s : State) : State :=
  if !isStandby s || s.twin.inert then s
  else emit (.twill 0x40 (rootsBody s)) { s with
    twin := { s.twin with resync := some ⟨true, false, 0, none, false, 0, false⟩ } }

/-- A standby leaves sync, says so and resynchronises (R353). The REASON codes are the model's (log entry 17). -/
def leaveSync (reason : Nat) (s : State) : State :=
  if isStandby s && s.twin.inSync then
    startResync (emit (.twill 0x13 (putLe 1 reason ++ zeros 7 ++ putLe 8 (openNum s)))
      { s with twin := { s.twin with inSync := false } })
  else s

/-- What the store answers to a page of an epoch (Table FS.5, R336): none accepts. -/
def pageRefusal (e : Epoch) (failed : Bool) (s : State) : Option Nat :=
  match s.store.stage with
  | .full => some 0x0501
  | .exhausted => some 0x0501
  | .salvage =>
    if s.store.salvageAdmit.contains e.num || e.groups.all (fun g => g.items.all Item.admitted) then
      (if failed then some 0x0802 else none)
    else some 0x0503
  | _ => if failed then some 0x0802 else none

/-- The epoch of a number that has not committed. -/
def epochOf (s : State) (n : Nat) : Option Epoch := s.led.epochs.find? fun e => e.num == n

/-- An epoch becomes HELD (R99, R102): its HELD-result entry is written first, then EPOCH_UNCOMMITTED is raised. A standby
with a HELD epoch leaves sync (R353). -/
def holdEpoch (e : Epoch) (result : Nat) (s : State) : State :=
  let s := onLed (fun l => { l with heldResults := lastN 2 (l.heldResults ++ [(e.num, result)]) }) s
  let s := onEpoch e.num (fun x => { x with state := .held }) s
  leaveSync 2 (raiseHw 0x0202 (putLe 8 e.num ++ putLe 2 result) s)

/-- Units given from the emergency pool for a flush in SALVAGE (R336, R480): the pool is spent as far as it goes. -/
def poolSpend (n : Nat) (s : State) : State :=
  { s with store := { s.store with fig := { s.store.fig with emergency := s.store.fig.emergency - n } } }

/-- Units written by the ledger and the host are counted (Table FS.7). -/
def countUnits (n : Nat) (s : State) : State :=
  { s with store := { s.store with cnt := { s.store.cnt with hostUnits := s.store.cnt.hostUnits + n } } }

/-- The severity and raising of STORE_STAGE (Table FS.5). -/
def raiseStage (st : Stage) (back : Bool) (s : State) : State :=
  let sev := match st with
    | .normal => 1
    | .reclaiming => 2
    | .full => 4
    | .salvage => 5
    | .exhausted => 5
  let e := { mkEv s 0x0701 (putLe 1 st.code) none with severity := if back && st == .normal then 1 else sev }
  if isStandby s then emit (.twill 0x14 e.bytes) s else raiseEv e (newInput 8 s)

/-- The store enters a stage and says so (R334). The epochs that R336 admits are noted at the entry to SALVAGE. -/
def enterStage (st : Stage) (s : State) : State :=
  if s.store.stage == st then s
  else
    let admitted := if st == .salvage then (s.led.epochs.filter fun e => e.state == .held || e.state == .opened).map (·.num)
      else s.store.salvageAdmit
    raiseStage st true { s with
      store := { s.store with
        stage := st
        fullSince := if st == .full then s.clk else s.store.fullSince
        salvageAdmit := admitted } }

/-- Units of volume 1 (Table FS.3). -/
def journalUnits : Nat := 2097152

/-- The event records of a content after the oldest are discarded in whole epochs until volume 1 is at most 90 % used (R319). -/
def LState.trimEvents (l : LState) : LState :=
  let most := journalUnits * 90 / 100 * 128
  let last := ((l.events.drop (l.events.length - most - 1)).head?.map (·.1)).getD 0
  let kept := if l.events.length ≤ most then l.events else l.events.filter fun e => decide (e.1 > last)
  { l with
    events := kept
    eventBase := l.eventBase + (l.events.length - kept.length) }

/-- Before a journal append takes volume 1 above 95 %, the oldest event records go (R319). -/
def trimJournal (s : State) : State :=
  if s.led.work.events.length ≤ journalUnits * 95 / 100 * 128 then s
  else onLed (fun l => { l with
    work := l.work.trimEvents
    epochs := l.epochs.map fun e => if e.state == .opened then e else { e with after := e.after.trimEvents } }) s

/-- EPOCH_FLUSH_WRITE (R100): pages of an epoch go to the store. A closed epoch waits while two epochs are HELD (R99); a
refusal, or a page that cannot be placed, makes it HELD (Table LG.2). In SALVAGE the units come from the emergency pool, and
a pool that runs out enters EXHAUSTED with the epoch HELD (R480). -/
def opEpochFlushWrite (n pages : Nat) (failed : Bool) (s0 : State) : State :=
  let s := trimJournal s0
  match epochOf s n with
  | none => s
  | some e =>
    if e.state != .opened && e.state != .closed then s
    else if e.state == .closed && heldCount s ≥ 2 then s
    else match pageRefusal e failed s with
      | some r => if e.state == .closed then holdEpoch e r s else s
      | none =>
        if s.store.stage == .salvage then
          let had := s.store.fig.emergency
          let s1 := countUnits (min pages had) (poolSpend pages s)
          let s2 := if pages ≥ had then enterStage .exhausted s1 else s1
          if decide (pages > had) && e.state == .closed then holdEpoch e 0x0501 s2 else s2
        else countUnits pages s

/-! ## Comparison and rooting -/

/-- The digest of the epoch before this one (PREV_DIGEST, Table LG.4); none while it has not formed. -/
def prevDigest (n : Nat) (s : State) : Option Bytes :=
  match (s.led.epochs.filter fun e => decide (e.num < n)).getLast? with
  | some e => if e.flushed then some e.digest else none
  | none => some s.led.lastDigest

/-- The partner's digest of an epoch, if it has arrived. -/
def partnerDigest (n : Nat) (s : State) : Option Bytes := lookupNat n s.twin.partnerDigests

/-- One epoch's next state when it is the lowest not committed (Table LG.2, R99). -/
def rootReady (e : Epoch) (s : State) : Option Bool :=
  match e.state with
  | .closed => if e.flushed && (e.uncompared || !comparing s) then some e.uncompared else none
  | .comparing =>
    if partnerDigest e.num s == some e.digest then some e.uncompared
    else if e.uncompared || !comparing s then some true
    else none
  | _ => none

/-- The lowest epoch not committed enters ROOTING when Table LG.2 lets it. -/
def advance (s : State) : State :=
  match s.led.epochs.head? with
  | some e =>
    match rootReady e s with
    | some u => onEpoch e.num (fun x => { x with state := .rooting, uncompared := u }) s
    | none => s
  | none => s

/-- EPOCH_FLUSHED up to the comparison (R98, R103; see TwinSync): the closed epoch's pages are down and its digest is formed; it is sent to a partner
(R355); with one to compare the epoch waits, else it goes on to ROOTING in number order. -/
def opEpochFlushed (n : Nat) (s : State) : State :=
  match epochOf s n, prevDigest n s with
  | some e, some p =>
    if e.state != .closed || e.flushed || heldCount s ≥ 2 then s
    else
      let d := epochDigest (segmentId s) e.num e.opened e.closed p e.groups
      let s1 := onEpoch n (fun x => { x with
        flushed := true
        digest := d
        state := if comparing s then .comparing else .closed }) s
      advance (if s.twin.link.trained && !isSolo s then emit (.twill 0x21 (putLe 8 n ++ fitTo 32 d)) s1 else s1)
  | _, _ => s

/-- COMPARE_WAIT_EXPIRY (R100): 4 ms after the warning, an epoch still without the partner's digest roots UNCOMPARED. -/
def opCompareWait (s : State) : State :=
  if s.keeper.supply.hold && decide (s.keeper.supply.holdSince + msTicks 4 ≤ s.clk) then
    let mark (e : Epoch) : Epoch :=
      if e.state == .comparing && partnerDigest e.num s != some e.digest then { e with uncompared := true } else e
    advance (onLed (fun l => { l with epochs := l.epochs.map mark }) s)
  else s

/-! ## Commit -/

/-- Contents kept for upload and resynchronisation: the latest 4,096, as many as the root log names (log entry 18). -/
def keepContents (hs : List Held) : List Held := lastN 4096 hs

/-- Epochs sent on the upload channel (R93): every committed epoch after the last one sent, at most 8 beyond the last one
acknowledged, none beyond a refused one. -/
def uploadMore (s : State) : State :=
  let u := s.uploadSub
  if !u.connected || u.headRing.isNone || u.refused.isSome || isStandby s then s
  else
    let beyond := s.led.contents.filter fun h => decide (h.num > u.acked)
    let next := (beyond.take 8).filter fun h => decide (h.num > u.sent)
    { emitAll (next.map Output.epochData) s with
      uploadSub := { u with
        sent := (next.getLast?.map (·.num)).getD u.sent
        lastTraffic := if next.isEmpty then u.lastTraffic else s.clk } }

/-- The epochs still readable after a commit: the four latest, and those pinned or named in either content. -/
def pruneReadable (s : State) : State :=
  let c := ((s.led.readable.getLast?).map (·.2)).getD LState.fresh
  let keep (n : Nat) : Bool :=
    mayRead s n || c.pins.contains n || c.names.any (fun x => x.2 == n) || (s.twin.resync.bind (·.pin)) == some n
  onLed (fun l => { l with readable := l.readable.filter fun e => keep e.1 }) s

/-- The events of an epoch that wait for its commit (R46), in order. -/
def commitEvents (e : Epoch) : List EvRec :=
  (e.groups.filter fun g => !g.fromSub).flatMap fun g => g.items.filterMap fun i => match i with
    | .event x => if aboutLedger x then some x else none
    | _ => none

/-- The WAIT_COMMIT commands whose epoch has committed complete (R37). -/
def releaseWaiting (s : State) : State :=
  (s.inflight.filter fun f => f.forwardedTo.isNone && match f.waitCommit with
    | some c => committed s c.epoch
    | none => false).foldl (fun a f => match f.waitCommit with
      | some c => complete f { c with committed := true } a
      | none => a) s

/-- The slot the next root is written to: the one that does not hold the newest root (R101). -/
def nextSlot (l : Ledger) : Nat :=
  match l.slot0, l.slot1 with
  | some a, some b => if a.epoch > b.epoch then 1 else 0
  | some _, none => 1
  | none, _ => 0

/-- The root record of an epoch that commits now. -/
def rootOf (e : Epoch) (s : State) : Root :=
  { epoch := e.num, slot := nextSlot s.led, uncompared := e.uncompared, byWarning := e.byWarning,
    formatting := e.formatting, closed := e.closed, committed := now s, epochHigh := epochHigh s, digest := e.digest,
    prev := s.led.lastCommitted, voided := false }

/-- The ledger after an epoch's commit point: root slot and root log written, content readable and held for upload. -/
def Ledger.commit (e : Epoch) (r : Root) (l : Ledger) : Ledger :=
  { l with
    epochs := l.epochs.filter fun x => x.num != e.num
    readable := l.readable ++ [(e.num, e.after)]
    contents := keepContents (l.contents ++ [⟨e.num, e.opened, e.closed, e.groups, e.digest⟩])
    lastCommitted := e.num
    lastDigest := e.digest
    slot0 := if r.slot = 0 then some r else l.slot0
    slot1 := if r.slot = 1 then some r else l.slot1
    rootLog := lastN 4096 (l.rootLog ++ [{ r with slot := 0xFF }])
    heldResults := l.heldResults.filter fun h => h.1 != e.num }

/-- The commit of an epoch (R101): after the root is written and read back equal, EPOCH_COMMITTED is raised, the events
about its content are posted, reads and uploads are admitted, WAIT_COMMIT commands complete, and the next epoch goes on. -/
def commitEpoch (e : Epoch) (s : State) : State :=
  let s := pruneReadable (onLed (Ledger.commit e (rootOf e s)) s)
  let s := (commitEvents e).foldl (fun a x => postEvent x a) s
  let s := if isStandby s then s else raise 0x0201 (putLe 8 e.num) (newInput 8 s)
  let s := match s.keeper.resetWanted with
    | some (n, scope, delay) =>
      if n = e.num then { s with
        keeper := { s.keeper with resetWanted := none, delayedReset := some (s.clk + msTicks delay, scope) } } else s
    | none => s
  advance (uploadMore (releaseWaiting s))

/-- EPOCH_COMMIT up to the role change of a switchover (see Twin): a root slot that does not read back equal leaves the
epoch in ROOTING. -/
def opEpochCommitCore (n : Nat) (readBackEqual : Bool) (s : State) : State :=
  match epochOf s n with
  | some e => if e.state == .rooting && readBackEqual then commitEpoch e s else s
  | none => s

/-- HELD epochs that the store accepts again return to CLOSED and flush on (Table LG.2); their HELD-result entries are
cleared (R102). -/
def retryHeld (s : State) : State :=
  let ok := (s.led.epochs.filter fun e => e.state == .held && (pageRefusal e false s).isNone).map (·.num)
  onLed (fun l => { l with
    epochs := l.epochs.map fun e => if ok.contains e.num then { e with state := .closed } else e
    heldResults := l.heldResults.filter fun h => !ok.contains h.1 }) s

/-! ## Boundaries -/

/-- The number of whole periods in a UTC count. -/
def periodIndex (u : Int) (p : Nat) : Int := if p = 0 then 0 else u / (p : Int)

/-- The period that sets the open epoch's boundary: the one in force when it opened (Table LG.7, LDG_SET_PERIOD). -/
def openPeriod (s : State) : Nat := ((openEpoch s).map fun e => e.after.period).getD 60

/-- A boundary has come since the latest one judged, or since the latest step of chip time (R97, R475). -/
def boundaryDue (s : State) : Bool :=
  let p := openPeriod s
  decide (periodIndex s.time.lastUtcCount p < periodIndex (s.led.work.utc (now s)) p)

/-- EPOCH_BOUNDARY (R97): the open epoch closes and the next one opens at the same instant; while two epochs are HELD the
boundary passes (R99). A standby closes with the active's CLOSE (R351). -/
def opEpochBoundary (s : State) : State :=
  if (openEpoch s).isSome && !isStandby s && boundaryDue s then
    let s := newInput 6 { s with time := { s.time with lastUtcCount := s.led.work.utc (now s) } }
    closeEpoch 0 s
  else s

/-! ## Reclaim -/

/-- Seconds a segment of an interval length covers (Table LG.12). -/
def segmentSpan (intervalMin : Nat) : Nat :=
  (match intervalMin with
    | 1 => 3
    | 5 => 12
    | 10 => 24
    | 15 => 48
    | 30 => 96
    | _ => 192) * 3600

/-- The instant at which the segment that holds an entry ends. -/
def segmentEnd (span : Nat) (start : LTime) : LTime := (start / 65536 / span * span + span) * 65536

/-- The segment span of a record's class. -/
def LState.spanOf (l : LState) (idx : Nat) : Nat :=
  segmentSpan ((((lookupNat idx l.recs).bind fun r => l.classOf r.cls).map (·.intervalMin)).getD 60)

/-- The content after the segments that ended before an instant are given back (R118), with the contributions, results and
minute records of the same age (R183, R201). -/
def LState.reclaim (l : LState) (before : LTime) : LState :=
  let keep (idx : Nat) (x : LTime) : Bool := !decide (segmentEnd (l.spanOf idx) x ≤ before)
  { l with
    series := l.series.map fun e => (e.1, e.2.filter fun x => keep e.1 x.start)
    contribs := l.contribs.filter fun c => keep c.idx c.label
    results := l.results.filter fun r => !decide (r.start + r.durationS * 65536 ≤ before)
    minutes := l.minutes.filter fun m => !decide (m.start + 60 * 65536 ≤ before) }

/-- The instant of a number of days before another. -/
def daysBefore (x : LTime) (d : Nat) : LTime := x - d * 86400 * 65536

/-- The latest 00:00 UTC. -/
def utcMidnight (s : State) : LTime :=
  s.led.work.ltimeOfUtc (now s) (s.led.work.utc (now s) / 86400 * 86400)

/-- The interval part of DAILY_RECLAIM (R118): segments whose spans ended before the ceiling. -/
def reclaimDaily (s : State) : State :=
  onLed (fun l => { l with work := l.work.reclaim (daysBefore (utcMidnight s) (itemVal s 0x0302)) }) s

/-! ## Formatting and mounting -/

/-- The creation record's group (R96): KEY 0, FLAGS 0, MH zero. -/
def creationGroup (t : LTime) (s : State) : Group :=
  { mh := none, completed := t, key := 0, fromCmd := false, fromSub := false,
    items := [.creation (segmentId s) t s.store.uid] }

/-- A blank ledger volume: no root anywhere. -/
def ledgerBlank (l : Ledger) : Bool := l.slot0.isNone && l.slot1.isNone && l.rootLog.isEmpty

/-- Formatting (R96): epoch 1 commits with the creation record alone before any other epoch opens. -/
def formatLedger (s : State) : State :=
  let t := now s
  let g := creationGroup t s
  let w := (Item.creation (segmentId s) t s.store.uid).apply 1 t LState.fresh
  let e : Epoch := ⟨1, t, t, .rooting, [g], 112 + g.size, w, false, false, true,
    epochDigest (segmentId s) 1 t t [] [g], true, s.clk⟩
  let s := { s with led := { Ledger.blank with mounted := true, work := w, highA := some 1, highB := some 1 } }
  onLed (Ledger.commit e (rootOf e s)) s

/-- The root a mount takes (R102), and whether it is a fallback. `v0`, `v1` and `logOk` say which roots' map pages verify;
`skip` leaves out step 1 (ALT [1], R402). -/
def mountChoice (skip v0 v1 : Bool) (logOk : List Nat) (l : Ledger) : Option (Root × Bool) :=
  let held (r : Root) := l.readable.any fun e => e.1 == r.epoch
  let a := l.slot0.map fun r => (r, v0 && held r)
  let b := l.slot1.map fun r => (r, v1 && held r)
  let two := match a, b with
    | some x, some y => if x.1.epoch ≥ y.1.epoch then [x, y] else [y, x]
    | some x, none => [x]
    | none, some y => [y]
    | none, none => []
  let log := (l.rootLog.filter fun r => !r.voided && logOk.contains r.epoch && held r &&
    two.all fun x => decide (r.epoch < x.1.epoch)).getLast?
  match two with
  | [] => log.map fun r => (r, true)
  | x :: rest =>
    if x.2 && !skip then some (x.1, false)
    else match rest.find? fun y => y.2 with
      | some y => some (y.1, true)
      | none => log.map fun r => (r, true)

/-- The ledger mounted at a root (R102, R476): every higher root is void, its content gone, EPOCH_HIGH mended when both
copies are bad. -/
def Ledger.mount (r : Root) (l : Ledger) : Ledger :=
  let w := ((l.readable.find? fun e => e.1 == r.epoch).map (·.2)).getD LState.fresh
  let above (n : Nat) (x : Option Root) := match x with
    | some y => if y.epoch > r.epoch then some { r with slot := n } else some y
    | none => none
  let high := match l.highA, l.highB with
    | some a, _ => a
    | none, some b => b
    | none, none => r.epochHigh + 65536
  { l with
    mounted := true
    work := w
    epochs := []
    readable := l.readable.filter fun e => decide (e.1 ≤ r.epoch)
    contents := l.contents.filter fun h => decide (h.num ≤ r.epoch)
    lastCommitted := r.epoch
    lastDigest := r.digest
    slot0 := above 0 l.slot0
    slot1 := above 1 l.slot1
    rootLog := l.rootLog.map fun x => if x.epoch > r.epoch then { x with voided := true } else x
    highA := some high
    highB := some high
    heldResults := [] }

/-- EPOCH_UNCOMMITTED for each number lost (R102): from the mounted epoch + 1 to EPOCH_HIGH as it stood, with the result that
had held it; the numbers skipped by the margin of step 3 are not reported. -/
def lostEvents (r : Root) (l : Ledger) (s : State) : List EvRec :=
  let high := match l.highA, l.highB with
    | some a, _ => a
    | none, some b => b
    | none, none => r.epochHigh
  (List.range (high - r.epoch)).map fun k =>
    let n := r.epoch + 1 + k
    mkEv s 0x0202 (putLe 8 n ++ putLe 2 ((lookupNat n l.heldResults).getD 0)) none

/-- The mount of S5: the events it raises are owed to the first epoch that opens. -/
def mountLedger (r : Root) (fallback : Bool) (s : State) : State :=
  let evs := (if fallback then [mkEv s 0x0203 (putLe 8 r.epoch) none] else []) ++ lostEvents r s.led s
  { onLed (Ledger.mount r) s with boot := { s.boot with owed := s.boot.owed ++ evs } }

/-- Every epoch not committed is LOST (Table LG.2): a reset of the main domains or a loss of supply. -/
def loseEpochs (s : State) : State := onLed (fun l => { l with epochs := [], mounted := false }) s

/-! ## The meanings -/

/-- LDG_PIN (R107). -/
def execLdgPin (c : Cmd) (s : State) : Host.Outcome State Fault Refusal := .next (runDcs 0x0301 c bodyLdgPin s)

/-- LDG_UNPIN (R107). -/
def execLdgUnpin (c : Cmd) (s : State) : Host.Outcome State Fault Refusal := .next (runDcs 0x0302 c bodyLdgUnpin s)

/-- LDG_NAME (R107). -/
def execLdgName (c : Cmd) (s : State) : Host.Outcome State Fault Refusal := .next (runDcs 0x0303 c bodyLdgName s)

/-- LDG_DROP_NAME (R107). -/
def execLdgDropName (c : Cmd) (s : State) : Host.Outcome State Fault Refusal := .next (runDcs 0x0304 c bodyLdgDropName s)

/-- LDG_READ_SERIES (R107). -/
def execLdgReadSeries (c : Cmd) (s : State) : Host.Outcome State Fault Refusal :=
  .next (runDcs 0x0305 c bodyLdgReadSeries s)

/-- LDG_READ_JOURNAL (R107). -/
def execLdgReadJournal (c : Cmd) (s : State) : Host.Outcome State Fault Refusal :=
  .next (runDcs 0x0306 c bodyLdgReadJournal s)

/-- LDG_READ_OPEN (R107). -/
def execLdgReadOpen (c : Cmd) (s : State) : Host.Outcome State Fault Refusal := .next (runDcs 0x0307 c bodyLdgReadOpen s)

/-- LDG_CLOSE_EPOCH (R475). -/
def execLdgCloseEpoch (c : Cmd) (s : State) : Host.Outcome State Fault Refusal := .next (opLdgCloseEpoch c s)

/-- LDG_SET_PERIOD (R107). -/
def execLdgSetPeriod (c : Cmd) (s : State) : Host.Outcome State Fault Refusal := .next (runDcs 0x0309 c bodyLdgSetPeriod s)

/-- LDG_EXPORT_BILLING (R107). -/
def execLdgExportBilling (c : Cmd) (s : State) : Host.Outcome State Fault Refusal :=
  .next (runDcs 0x030A c bodyLdgExportBilling s)

/-- EPOCH_BOUNDARY (R97). -/
def execEpochBoundary (s : State) : Host.Outcome State Fault Refusal := .next (onTimer opEpochBoundary s)

/-- EPOCH_FLUSH_WRITE (R100). -/
def execEpochFlushWrite (epoch pages : Nat) (failed : Bool) (s : State) : Host.Outcome State Fault Refusal :=
  .next (opEpochFlushWrite epoch pages failed s)

/-- HELD_RETRY_TIMER (R99). -/
def execHeldRetryTimer (s : State) : Host.Outcome State Fault Refusal := .next (retryHeld s)

/-- COMPARE_WAIT_EXPIRY (R100). -/
def execCompareWaitExpiry (s : State) : Host.Outcome State Fault Refusal := .next (opCompareWait s)

end Sys2Proof.Machine
end

