-- ==== Sys2Proof/Machine/Tables.lean ====
section
/-! DEFINITION. The tables of R74, R123, R144, R147 and R166 as the host sends them: their form checks (0x0107) and their
typed content. -/

namespace Sys2Proof.Machine

/-- The entries of `n` bytes from an offset. -/
def chunks (b : Bytes) (off n count : Nat) : List Bytes :=
  (List.range count).map fun k => (b.drop (off + n * k)).take n

/-! ## Schedule table (Tables MS.1 to MS.3) -/

/-- A class descriptor from its 32 bytes. -/
def classDesc (b : Bytes) : ClassDesc :=
  let f := le b 5 1
  { cls := le b 0 2, suite := le b 2 1, intervalMin := le b 3 1, channels := le b 4 1, plc := f.testBit 0,
    rf := f.testBit 1, sleepy := f.testBit 2, stateless := f.testBit 3, snapCap := f.testBit 4, relay := f.testBit 5,
    prepay := f.testBit 6, profileObis := (b.drop 8).take 6, silentLimitS := le b 16 4, timeoutBaseMs := le b 20 2,
    timeoutHopMs := le b 22 2 }

/-- A class descriptor's fields lie within their ranges (Table MS.2). -/
def classOk (b : Bytes) : Bool :=
  let d := classDesc b
  d.cls != 0xFFFF && decide (d.suite ≤ 2) && [1, 5, 10, 15, 30, 60].contains d.intervalMin && within 1 4 d.channels &&
    decide (le b 5 1 < 128) && (d.plc || d.rf) && (!d.stateless || (d.rf && d.sleepy && !d.plc)) && zeroAt b 6 2 &&
    zeroAt b 14 2 && within 600 2592000 d.silentLimitS && within 200 30000 d.timeoutBaseMs &&
    decide (d.timeoutHopMs ≤ 10000) && zeroAt b 24 8

/-- A schedule entry from its 32 bytes. -/
def schedEntry (b : Bytes) : SchedEntry :=
  { cls := le b 0 2, what := le b 2 1, priority := le b 3 1, periodS := le b 4 4, anchor := le b 8 8, spreadS := le b 16 4,
    retries := le b 20 1, retryGapS := le b 22 2, deadlineS := le b 24 4 }

/-- A schedule entry's fields lie within their ranges (Table MS.3). -/
def schedOk (b : Bytes) : Bool :=
  let e := schedEntry b
  within 1 15 e.what && decide (e.priority ≤ 3) && within 60 2592000 e.periodS && e.anchor % 65536 == 0 &&
    decide (e.spreadS ≤ e.periodS) && decide (e.retries ≤ 7) && zeroAt b 21 1 && within 1 3600 e.retryGapS &&
    within 1 3600 e.deadlineS && zeroAt b 28 4

/-- Classes that own records use. -/
def usedClasses (s : State) : List Nat := (s.led.work.recs.filter fun r => r.2.segment == 0).map (·.2.cls)

/-- The schedule table (R74). -/
def parseSched (s : State) (b : Bytes) : Option SchedTable :=
  let nc := le b 2 2
  let ne := le b 4 2
  let cs := chunks b 16 32 nc
  let es := chunks b (16 + 32 * nc) 32 ne
  let t : SchedTable := ⟨cs.map classDesc, es.map schedEntry⟩
  if b.length == 16 + 32 * (nc + ne) && le b 0 2 == 1 && within 1 256 nc && decide (ne ≤ 256) && zeroAt b 6 10 &&
    cs.all classOk && es.all schedOk && noRepeat (t.classes.map (·.cls)) &&
    (usedClasses s).all (fun c => t.classes.any fun d => d.cls == c) &&
    t.entries.all (fun e => e.cls == 0xFFFF || t.classes.any fun d => d.cls == e.cls) then some t
  else none

/-! ## Rule table (Tables VA.1 to VA.3) -/

/-- A rule from its 32 bytes. -/
def ruleOf (b : Bytes) : Rule :=
  { cls := le b 0 2, kind := le b 2 1, channels := le b 3 1, action := le b 4 1, scaler := leInt b 5 1, n := le b 6 2,
    a := leInt b 8 8, b := leInt b 16 8, factor := le b 24 2 }

/-- The fields a rule's KIND uses lie within their ranges (Table VA.4). -/
def ruleKindOk (r : Rule) (aRaw : Nat) : Bool :=
  match r.kind with
  | 1 => r.factor == 0
  | 2 => r.factor == 0
  | 3 => within 1 16 r.n && within 100 10000 r.factor
  | 4 => within 2 2880 r.n && r.factor == 0
  | 5 => within 2 2880 r.n && r.factor == 0
  | 6 => decide (aRaw < 256) && r.factor == 0
  | 7 => decide (0 ≤ r.a) && decide (r.a ≤ 3600) && r.factor == 0
  | 8 => decide (r.n ≤ 16) && decide (r.factor ≤ 1000)
  | _ => false

/-- A rule's fields lie within their ranges (Table VA.2). -/
def ruleOk (b : Bytes) : Bool :=
  let r := ruleOf b
  within 1 15 r.channels && decide (r.action ≤ 2) && decide (-9 ≤ r.scaler) && decide (r.scaler ≤ 9) &&
    ruleKindOk r (le b 8 8) && zeroAt b 26 6

/-- An estimation descriptor from its 16 bytes. -/
def estOf (b : Bytes) : EstDesc :=
  { cls := le b 0 2, method1 := le b 2 1 % 4, method2 := le b 2 1 / 4 % 4, maxGap := le b 3 1, historyWeeks := le b 4 1,
    minHistory := le b 5 1, scaleToRegister := (le b 6 1).testBit 0 }

/-- An estimation descriptor's fields lie within their ranges (Table VA.3). -/
def estOk (b : Bytes) : Bool :=
  let e := estOf b
  decide (le b 2 1 < 16) && decide (e.method1 ≤ 2) && decide (e.method2 ≤ 2) && within 1 96 e.maxGap &&
    within 1 8 e.historyWeeks && within 1 e.historyWeeks e.minHistory && decide (le b 6 1 < 2) && zeroAt b 7 9

/-- No class has more than 8 REGISTER_MATCH rules, counting those of 0xFFFF (R123). -/
def registerRulesOk (rs : List Rule) : Bool :=
  let m := rs.filter fun r => r.kind == 8
  let count (c : Nat) := (m.filter fun r => r.cls == c || r.cls == 0xFFFF).length
  (0xFFFF :: m.map (·.cls)).all fun c => decide (count c ≤ 8)

/-- The rule table (R123). -/
def parseRules (b : Bytes) : Option RuleTable :=
  let nr := le b 2 2
  let nc := le b 4 2
  let rs := chunks b 16 32 nr
  let es := chunks b (16 + 32 * nr) 16 nc
  let t : RuleTable := ⟨le b 8 8, rs.map ruleOf, es.map estOf⟩
  if b.length == 16 + 32 * nr + 16 * nc && le b 0 2 == 1 && decide (nr ≤ 1024) && decide (nc ≤ 256) && zeroAt b 6 2 &&
    rs.all ruleOk && es.all estOk && noRepeat (t.ests.map (·.cls)) && registerRulesOk t.rules then some t
  else none

/-! ## Tariff table (Tables TB.1 to TB.6) -/

/-- A season entry from its 8 bytes. -/
def seasonOf (b : Bytes) : Season :=
  ⟨le b 0 1, le b 1 1, le b 2 1, le b 3 1, le b 4 1, [le b 5 1, le b 6 1, le b 7 1]⟩

/-- A determinant descriptor from its 8 bytes. -/
def detOf (b : Bytes) : DetDesc := ⟨le b 0 1, le b 1 1, le b 2 1, (le b 3 1).testBit 0, le b 4 4⟩

/-- A schedule descriptor from its 256 bytes. -/
def tariffSched (b : Bytes) : TariffSched :=
  { schedule := le b 0 2, computeCharges := (le b 2 1).testBit 0, demandMethod := le b 4 1, demandSubs := le b 5 1,
    demandMin := le b 6 2, standing := le b 8 4, seasons := (chunks b 16 8 (le b 3 1)).map seasonOf,
    dets := (chunks b 0x50 8 16).map detOf }

/-- A season's fields lie within their ranges, its day profiles among the table's. -/
def seasonOk (profiles : Nat) (e : Season) : Bool :=
  within 1 12 e.month && within 1 31 e.day && within 1 profiles e.weekdayDp && within 1 profiles e.saturdayDp &&
    within 1 profiles e.sundayDp && e.specialDp.all (within 1 profiles)

/-- A determinant's fields lie within their ranges (Table TB.4). -/
def detOk (b : Bytes) : Bool :=
  let d := detOf b
  decide (d.kind ≤ 2) && decide (d.channel ≤ 3) && decide (d.rate ≤ 8) && decide (le b 3 1 < 2) &&
    (!d.charged || d.kind == 1) && (d.charged || d.price == 0)

/-- The demand fields agree with the method (Table TB.2). -/
def demandOk (t : TariffSched) : Bool :=
  match t.demandMethod with
  | 0 => true
  | 1 => t.demandSubs == 1 && within 1 60 t.demandMin
  | 2 => within 2 15 t.demandSubs && within 1 60 t.demandMin && t.demandMin % t.demandSubs == 0
  | _ => false

/-- A schedule descriptor's fields lie within their ranges (Table TB.2, R144). -/
def tariffSchedOk (profiles : Nat) (b : Bytes) : Bool :=
  let t := tariffSched b
  within 1 65534 t.schedule && decide (le b 2 1 < 2) && within 1 8 (le b 3 1) && demandOk t && zeroAt b 12 4 &&
    zeroAt b (16 + 8 * le b 3 1) (64 - 8 * le b 3 1) && t.seasons.all (seasonOk profiles) &&
    noRepeat (t.seasons.map fun e => (e.month, e.day)) && (chunks b 0x50 8 16).all detOk && zeroAt b 0xD0 48

/-- A day profile from its 64 bytes. -/
def dayProfile (b : Bytes) : DayProfile := ⟨(chunks b 4 4 (le b 0 1)).map fun x => (le x 0 2, le x 2 1)⟩

/-- A list of numbers rises strictly. -/
def rising : List Nat → Bool
  | [] => true
  | [_] => true
  | a :: b :: r => decide (a < b) && rising (b :: r)

/-- A day profile's fields lie within their ranges (Table TB.5). -/
def dayProfileOk (b : Bytes) : Bool :=
  let d := dayProfile b
  within 1 15 (le b 0 1) && zeroAt b 1 3 && d.switches.head?.map (·.1) == some 0 && rising (d.switches.map (·.1)) &&
    d.switches.all (fun x => decide (x.1 ≤ 1439) && within 1 8 x.2) && (chunks b 4 4 15).all fun x => zeroAt x 3 1

/-- The schedule a class maps to (R144). -/
def TariffTable.schedOf (t : TariffTable) (cls : Nat) : Option TariffSched :=
  let m := (t.classMap.find? fun e => e.1 == cls).orElse fun _ => t.classMap.find? fun e => e.1 == 0xFFFF
  m.bind fun e => t.scheds.find? fun x => x.schedule == e.2

/-- A demand sub-window is a whole multiple of the interval of every class mapped to its schedule (R144). -/
def subWindowsOk (s : State) (t : TariffTable) : Bool :=
  (((s.led.work.tables.sched.now).map (·.classes)).getD []).all fun d =>
    match t.schedOf d.cls with
    | some x => x.demandMethod == 0 || (x.demandMin / x.demandSubs) % d.intervalMin == 0
    | none => true

/-- The tariff table (R144). -/
def parseTariff (s : State) (b : Bytes) : Option TariffTable :=
  let ns := le b 2 2
  let nd := le b 4 2
  let nm := le b 6 2
  let ss := chunks b 32 256 ns
  let ds := chunks b (32 + 256 * ns) 64 nd
  let ms := chunks b (32 + 256 * ns + 64 * nd) 8 nm
  let t : TariffTable := ⟨le b 16 8, ss.map tariffSched, ds.map dayProfile, ms.map fun x => (le x 0 2, le x 4 2)⟩
  if b.length == 32 + 256 * ns + 64 * nd + 8 * nm && le b 0 2 == 1 && within 1 32 ns && within 1 255 nd &&
    within 1 256 nm && zeroAt b 8 8 && zeroAt b 24 8 && ss.all (tariffSchedOk nd) && ds.all dayProfileOk &&
    ms.all (fun x => zeroAt x 2 2 && zeroAt x 6 2) && noRepeat (t.scheds.map (·.schedule)) &&
    noRepeat (t.classMap.map (·.1)) && t.classMap.all (fun m => t.scheds.any fun x => x.schedule == m.2) &&
    (usedClasses s).all (fun c => (t.schedOf c).isSome) && subWindowsOk s t then some t
  else none

/-! ## Calendar (Tables TB.7, TB.8) -/

/-- A special day from its 8 bytes. -/
def specialOf (b : Bytes) : SpecialDay := ⟨le b 0 2, le b 2 1, le b 3 1, le b 4 1⟩

/-- No date is named special twice (R147); YEAR 0 names the date of every year. -/
def specialsOk : List SpecialDay → Bool
  | [] => true
  | x :: xs => xs.all (fun y => !(x.month == y.month && x.day == y.day &&
      (x.year == y.year || x.year == 0 || y.year == 0))) && specialsOk xs

/-- The shortest span between explicit ends, in seconds; none with fewer than two. -/
def shortestPeriod : List LTime → Option Nat
  | a :: b :: r =>
    let d := (b - a) / 65536
    some (match shortestPeriod (b :: r) with
      | some m => min d m
      | none => d)
  | _ => none

/-- The calendar table (R147). -/
def parseCalendar (b : Bytes) : Option Calendar :=
  let ns := le b 2 2
  let ne := le b 4 2
  let ss := chunks b 32 8 ns
  let t : Calendar :=
    { effective := le b 16 8, billDay := le b 6 1, billMinute := le b 8 2, clockLimitS := le b 10 2, settleS := le b 12 4,
      specials := ss.map specialOf, ends := (chunks b (32 + 8 * ns) 8 ne).map leNat }
  if b.length == 32 + 8 * (ns + ne) && le b 0 2 == 1 && decide (ns ≤ 512) && decide (ne ≤ 256) &&
    (ne == 0 || t.billDay == 0) && (t.billDay != 0 || ne != 0) && decide (t.billDay ≤ 28) && zeroAt b 7 1 &&
    decide (t.billMinute ≤ 1439) && within 1 3600 t.clockLimitS && decide (t.settleS ≤ 1209600) && zeroAt b 24 8 &&
    ss.all (fun x => zeroAt x 5 3) &&
    t.specials.all (fun x => within 1 12 x.month && within 1 31 x.day && within 1 3 x.typ) && specialsOk t.specials &&
    rising t.ends && ((shortestPeriod t.ends).map fun m => decide (t.settleS < m)).getD true then some t
  else none

/-! ## Friendly-window and credit-policy table (Tables TB.14, TB.18) -/

/-- A credit policy from its 32 bytes. -/
def policyOf (b : Bytes) : Policy :=
  ⟨le b 0 2, le b 2 1, le b 4 4, leInt b 8 8, leInt b 16 8, leInt b 24 8⟩

/-- A friendly window from its 8 bytes. -/
def windowOf (b : Bytes) : FriendlyWindow := ⟨le b 0 1, le b 1 1, le b 2 2, le b 4 2⟩

/-- The friendly-window and credit-policy table (R166). -/
def parseFriendly (s : State) (b : Bytes) : Option FriendlyTable :=
  let np := le b 2 2
  let nw := le b 4 2
  let ps := chunks b 16 32 np
  let ws := chunks b (16 + 32 * np) 8 nw
  let t : FriendlyTable := ⟨ps.map policyOf, ws.map windowOf⟩
  if b.length == 16 + 32 * np + 8 * nw && le b 0 2 == 1 && within 1 256 np && decide (nw ≤ 64) && zeroAt b 6 10 &&
    ps.all (fun x => zeroAt x 3 1) && ws.all (fun x => zeroAt x 6 2) && noRepeat (t.policies.map (·.cls)) &&
    t.policies.all (fun p => decide (p.reconnectMode ≤ 1) && decide (p.graceS ≤ 86400) && decide (0 ≤ p.low) &&
      decide (0 ≤ p.emergency) && decide (-p.emergency ≤ p.reconnectLevel)) &&
    t.windows.all (fun w => decide (w.days < 128) && decide (w.types < 8) && decide (w.startMin < w.endMin) &&
      decide (w.startMin ≤ 1439) && decide (w.endMin ≤ 1440)) &&
    (usedClasses s).all (fun c => t.policies.any fun p => p.cls == c || p.cls == 0xFFFF) then some t
  else none

end Sys2Proof.Machine
end

