-- ==== Sys2Proof/Machine/Tariff.lean ====
section
/-! DEFINITION. What an interval part is worth under a tariff (07): its span in label time, the rate at a label (R145), the
division of a part at instants (R143), its contribution to a determinant (R149), demand windows (R150, R156). -/

namespace Sys2Proof.Machine

/-! ## Slots and spans of parts -/

/-- Seconds of an interval of a record's class. -/
def LState.slotSec (l : LState) (r : Rec) : Nat := 60 * (((l.classOf r.cls).map (·.intervalMin)).getD 60)

/-- Start of the slot that holds a label: UTC multiples of the interval. -/
def LState.slotOf (l : LState) (sec : Nat) (x : LTime) : LTime :=
  x - ((l.utc x % (sec : Int)).toNat * 65536 + x % 65536)

/-- The slot boundary a meter time counts as being at: within 2 s of one (R135). -/
def LState.boundaryNear (l : LState) (sec : Nat) (x : LTime) : Option LTime :=
  let b := l.slotOf sec (x + 2 * 65536)
  if b ≤ x + 2 * 65536 && x ≤ b + 2 * 65536 then some b else none

/-- Kinds of an entry that holds the value itself of a slot and fold. -/
def SEntry.isMain (e : SEntry) : Bool := e.kind == 0 || e.kind == 1

/-- A value that counts for billing (R129). -/
def SEntry.billed (e : SEntry) : Bool :=
  e.kind != 3 && (e.state == .valid || e.state == .estimated || e.state == .edited)

/-- The main entry of a slot, fold and channel. -/
def mainAt (series : List SEntry) (start : LTime) (fold channel : Nat) : Option SEntry :=
  series.find? fun e => e.start == start && e.fold == fold && e.channel == channel && e.isMain

/-- The original kept for an entry (R112). -/
def originalAt (series : List SEntry) (start : LTime) (fold channel : Nat) : Option SEntry :=
  series.find? fun e => e.start == start && e.fold == fold && e.channel == channel && e.kind == 3

/-- Whether a part lies at the end of its slot: supply returned in it (R156). DEDUCED: the slot before it is marked power
fail too (log entry 19). -/
def atSlotEnd (series : List SEntry) (sec : Nat) (e : SEntry) : Bool :=
  e.isMain && e.short && e.powerFail &&
    ((mainAt series (e.start - sec * 65536) e.fold e.channel).map (·.powerFail)).getD false

/-- The label time a part covers: from, to. -/
def partSpan (series : List SEntry) (sec : Nat) (e : SEntry) : LTime × LTime :=
  let d := e.durationS * 65536
  if atSlotEnd series sec e then (e.start + sec * 65536 - d, e.start + sec * 65536) else (e.start, e.start + d)

/-! ## Rates -/

/-- TYPE of a date in a calendar; 0 when it is not special (R145, R166). -/
def specialType (c : Option Calendar) (day : Nat) : Nat :=
  let (y, m, d) := civil day
  ((c.bind fun t => t.specials.find? fun x => (x.year == y || x.year == 0) && x.month == m && x.day == d).map
    (·.typ)).getD 0

/-- The calendar in force at a label. -/
def LState.calendarAt (l : LState) (x : LTime) : Option Calendar := (l.tables.calendar.at x).map (·.2)

/-- The season of a date: the latest that began on or before it, wrapping at the year end (R145). -/
def seasonAt (t : TariffSched) (day : Nat) : Option Season :=
  let (_, m, d) := civil day
  let key (e : Season) := e.month * 32 + e.day
  let pick (es : List Season) : Option Season := es.foldl (fun a e => match a with
    | some b => if key e > key b then some e else some b
    | none => some e) none
  (pick (t.seasons.filter fun e => decide (key e ≤ m * 32 + d))).orElse fun _ => pick t.seasons

/-- The day profile of a schedule on a local day (R145). -/
def profileOn (t : TariffTable) (x : TariffSched) (special day : Nat) : Option DayProfile :=
  (seasonAt x day).bind fun e =>
    let p := if special != 0 then e.specialDp.getD (special - 1) 0
      else match weekday day with
        | 5 => e.saturdayDp
        | 6 => e.sundayDp
        | _ => e.weekdayDp
    t.profiles[p - 1]?

/-- The instant a switch minute takes effect on a local day: its first occurrence, or the first instant after a jump that
skips it (R145). -/
def LState.switchInstant (l : LState) (day minute : Nat) : LTime :=
  let x := l.ofLocalDay day minute
  if l.localSec x = ((day * 86400 + minute * 60 : Nat) : Int) then x else (l.zoneAt x).from_

/-- The switches of a schedule on a local day: instant and rate. -/
def LState.switchesOn (l : LState) (t : TariffTable) (x : TariffSched) (c : Option Calendar) (day : Nat) :
    List (LTime × Nat) :=
  ((profileOn t x (specialType c day) day).map fun p => p.switches.map fun w => (l.switchInstant day w.1, w.2)).getD []

/-- The tariff table and schedule of a class at a label (R146). -/
def LState.schedAt (l : LState) (cls : Nat) (x : LTime) : Option (TariffTable × TariffSched) :=
  (l.tables.tariff.at x).bind fun t => (t.2.schedOf cls).map fun y => (t.2, y)

/-- The rate of a schedule of a table at a label (R145). -/
def LState.rateIn (l : LState) (t : TariffTable) (y : TariffSched) (x : LTime) : Nat :=
  let sw := l.switchesOn t y (l.calendarAt x) (l.localDay x)
  (((sw.filter fun w => decide (w.1 ≤ x)).getLast?.orElse fun _ => sw.head?).map (·.2)).getD 0

/-- The rate at a label (R145). -/
def LState.rateAt (l : LState) (cls : Nat) (x : LTime) : Nat :=
  match l.schedAt cls x with
  | none => 0
  | some (t, y) => l.rateIn t y x

/-- Instants at which day-profile switches of a schedule lie within a span, its ends included. -/
def LState.switchTimes (l : LState) (t : TariffTable) (y : TariffSched) (a b : LTime) : List LTime :=
  let d0 := l.localDay a
  let days := (List.range (l.localDay b + 1 - d0)).map (d0 + ·)
  ((days.flatMap fun d => (l.switchesOn t y (l.calendarAt a) d).map (·.1)).filter fun x =>
    decide (a ≤ x) && decide (x ≤ b))

/-- Rate switches and tables' EFFECTIVE instants strictly inside a span, in order: a day-profile switch to the rate already
in force switches nothing. -/
def LState.switchesIn (l : LState) (cls : Nat) (a b : LTime) : List LTime :=
  let sw := match l.schedAt cls a with
    | some (t, y) => (l.switchTimes t y a b).filter fun x => l.rateAt cls x != l.rateAt cls (x - 1)
    | none => []
  let eff := l.tables.tariff.inForce.map (·.1)
  (((sw ++ eff).filter fun x => decide (a < x) && decide (x < b)).mergeSort fun p q => decide (p ≤ q)).dedup

/-! ## Division of a part (R143) -/

/-- A value from `a` to `b` divided at instants strictly inside: pieces (from, to, value) that add up exactly. -/
def divideAt (v : Int) (a b : LTime) (cuts : List LTime) : List (LTime × LTime × Int) :=
  let ts := (cuts.filter fun x => decide (a < x) && decide (x < b))
  let cum (x : LTime) : Int := if b ≤ a then v else roundDiv (v * ((x - a : Nat) : Int)) (b - a)
  let ends := ts ++ [b]
  ((a :: ts).zip ends).map fun p => (p.1, p.2, cum p.2 - (if p.1 = a then 0 else cum p.1))

/-- The pieces of a part, divided at rate switches and at the instants given. -/
def LState.pieces (l : LState) (r : Rec) (series : List SEntry) (e : SEntry) (cuts : List LTime) :
    List (LTime × LTime × Int) :=
  let sp := partSpan series (l.slotSec r) e
  let all := ((cuts ++ l.switchesIn r.cls sp.1 sp.2).mergeSort fun p q => decide (p ≤ q)).dedup
  divideAt e.value sp.1 sp.2 all

/-- Whether a determinant takes a piece of a channel at a rate. -/
def DetDesc.takes (d : DetDesc) (channel rate : Nat) : Bool :=
  d.kind == 1 && d.channel == channel && (d.rate == 0 || d.rate == rate)

/-- What a part adds to energy determinant `n` (1 to 16) over a span (R139): none where the determinant is unused or
a demand determinant at some label. -/
def LState.energyOf (l : LState) (r : Rec) (series : List SEntry) (e : SEntry) (n : Nat) : Option Int :=
  (l.pieces r series e []).foldl (fun a p => match a, l.schedAt r.cls p.1 with
    | some v, some (_, y) =>
      match y.dets[n - 1]? with
      | some d =>
        if d.kind != 1 then none
        else if d.takes e.channel (l.rateAt r.cls p.1) then some (v + p.2.2) else some v
      | none => none
    | _, _ => none) (some 0)

/-! ## Demand windows (R150, R156) -/

/-- A demand window: start, end, whether it was cut short, its elapsed label time, its energy. -/
structure Window where
  start : LTime
  stop : LTime
  elapsed : Nat
  energy : Int
  rate : Nat
  deriving DecidableEq, Repr

/-- Nominal window starts from local midnight, each `step` minutes, that lie in a span. -/
def LState.windowStarts (l : LState) (step : Nat) (a b : LTime) : List LTime :=
  let d0 := l.localDay a
  let days := (List.range (l.localDay b + 1 - d0)).map (d0 + ·)
  (days.flatMap fun d => (List.range (1440 / step)).map fun k => l.switchInstant d (k * step)).filter fun x =>
    decide (x < b)

/-- The covered label time and energy of a channel and fold within a span. -/
def LState.inSpan (l : LState) (r : Rec) (series : List SEntry) (channel fold : Nat) (a b : LTime) : Nat × Int :=
  let sec := l.slotSec r
  (series.filter fun e => e.channel == channel && e.fold == fold && e.kind != 3 &&
      decide (e.start < b) && decide (a < e.start + sec * 65536)).foldl (fun acc e =>
    let sp := partSpan series sec e
    let lo := max a sp.1
    let hi := min b sp.2
    if lo < hi then
      let v : Int := if e.billed then
          (((divideAt e.value sp.1 sp.2 [a, b]).filter fun p => decide (a ≤ p.1) && decide (p.1 < b)).map (·.2.2)).sum
        else 0
      (acc.1 + (hi - lo), acc.2 + v)
    else acc) (0, 0)

/-- The instants at which outages begin in a channel and fold: the end of a power-fail part at its slot's start. -/
def outageStarts (series : List SEntry) (sec channel fold : Nat) : List LTime :=
  series.filterMap fun e =>
    if e.channel == channel && e.fold == fold && e.isMain && e.short && e.powerFail && !atSlotEnd series sec e &&
      e.durationS != 0 then some (partSpan series sec e).2
    else none

/-- The instants at which supply returns. -/
def outageEnds (series : List SEntry) (sec channel fold : Nat) : List LTime :=
  series.filterMap fun e =>
    if e.channel == channel && e.fold == fold && e.short && e.powerFail && (e.kind == 2 || atSlotEnd series sec e) then
      some (partSpan series sec e).1
    else none

/-- The outages of a channel and fold, paired in order: from, to; one without a return lasts to the end given. -/
def outageSpans (series : List SEntry) (sec channel fold : Nat) (last : LTime) : List (LTime × LTime) :=
  let ends := (outageEnds series sec channel fold).mergeSort fun a b => decide (a ≤ b)
  (outageStarts series sec channel fold).map fun a => (a, ((ends.find? fun e => decide (a ≤ e)).getD last))

/-- Seconds of outage within a span, in LTIME units. -/
def outageIn (outs : List (LTime × LTime)) (a b : LTime) : Nat :=
  (outs.map fun o => min b o.2 - max a o.1).sum

/-- The spans a nominal window falls into when cut at instants (R150); the parts inside an outage are dropped, and a window
that starts inside one begins at the restoration. -/
def cutWindow (cuts : List LTime) (outs : List (LTime × LTime)) (a b : LTime) : List (LTime × LTime) :=
  let inner := ((cuts ++ outs.flatMap fun o => [o.1, o.2]).filter fun x => decide (a < x) && decide (x < b)).mergeSort
    fun p q => decide (p ≤ q)
  (((a :: inner).zip (inner ++ [b])).filter fun p => decide (p.1 < p.2) &&
    !(outs.any fun o => decide (o.1 ≤ p.1) && decide (p.2 ≤ o.2)))

/-- The demand windows of one channel and fold within a period, up to a label; `cuts` are the clock steps beyond the limit and
the period ends. A window counts once its label time has passed. -/
def LState.windows (l : LState) (r : Rec) (series : List SEntry) (t : TariffSched) (channel fold : Nat) (a b last : LTime)
    (cuts : List LTime) : List Window :=
  let step := t.demandMin / max 1 t.demandSubs
  let len := t.demandMin * 60 * 65536
  let sec := l.slotSec r
  let outs := outageSpans series sec channel fold last
  let nominal := if step = 0 then [] else (l.windowStarts step (a - len) b)
  let spans := nominal.flatMap fun x => cutWindow (cuts ++ l.switchesIn r.cls x (x + len)) outs x (x + len)
  (spans.filter fun p => decide (a ≤ p.1) && decide (p.1 < b) && decide (p.2 ≤ last)).map fun p =>
    ⟨p.1, p.2, p.2 - p.1 - outageIn outs p.1 p.2, (l.inSpan r series channel fold p.1 p.2).2, l.rateAt r.cls p.1⟩

/-- A window's demand (R150): round(E × 3,600 × 65,536 / e). -/
def Window.demand (w : Window) : Int := roundDiv (w.energy * 3600 * 65536) w.elapsed

end Sys2Proof.Machine
end

