-- ==== Sys2Proof/Machine/Muslin.lean ====
section
/-! DEFINITION. Muslin (06): what one exchange works out, the meter's clock steps and the labels they fold or split (R109 to
R111, R157 to R160), rules, states, estimates, register scaling and the register cross-check (R124 to R141). -/

namespace Sys2Proof.Machine

/-! ## The work of one exchange -/

/-- What an exchange, an edit or a revalidation has worked out so far: the record as it was and as it stands, the content it
judges against, the instant, T_rx, the instant of the exchange's first frame (T_x of R175), the series as it stands, the entries written, the values that changed (old, new),
the findings (rule, channel, slot start), other events, clock adjustments, balance contributions by group, other items. -/
structure Work where
  idx : Nat
  was : Rec
  r : Rec
  l : LState
  t : LTime
  rx : LTime
  tx : LTime
  series : List SEntry
  written : List SEntry
  deltas : List (Option SEntry × Option SEntry)
  findings : List (Nat × Nat × LTime)
  events : List EvRec
  adjs : List ClockAdj
  contribs : List (Nat × List Contrib)
  extra : List Item
  deriving DecidableEq, Repr

/-- Work on a record with nothing done yet. -/
def startWork (idx : Nat) (r : Rec) (rx : LTime) (s : State) : Work :=
  { idx := idx, was := r, r := r, l := s.led.work, t := now s, rx := rx, tx := rx,
    series := (lookupNat idx s.led.work.series).getD [], written := [], deltas := [], findings := [], events := [],
    adjs := [], contribs := [], extra := [] }

/-- MH of the work's record. -/
def Work.mh (w : Work) : Nat := recMh w.idx w.r

/-- Seconds of the meter's interval. -/
def Work.sec (w : Work) : Nat := w.l.slotSec w.r

/-- A finding noted. -/
def Work.find (rule channel : Nat) (start : LTime) (w : Work) : Work :=
  { w with findings := w.findings ++ [(rule, channel, start)] }

/-- An event of the exchange noted. -/
def Work.event (code : Nat) (data : Bytes) (w : Work) : Work :=
  { w with events := w.events ++ [{ ltime := w.t, code := code, severity := sevOf code, source := srcOf code,
                                    mh := some w.mh, data := fitTo 16 data }] }

/-- An entry written to the series; the change of a value that may count for billing is noted. -/
def Work.put (e : SEntry) (w : Work) : Work :=
  let old := w.series.find? fun x => x.same e
  { w with
    series := putEntry e w.series
    written := w.written ++ [e]
    deltas := if e.kind = 3 then w.deltas else w.deltas ++ [(old, some e)] }

/-- The record of the work changed. -/
def Work.onRec (f : Rec → Rec) (w : Work) : Work := { w with r := f w.r }

/-! ## Slots -/

/-- The next slot's start. -/
def Work.nextSlot (w : Work) (x : LTime) : LTime := w.l.slotOf w.sec (x + w.sec * 98304)

/-- The previous slot's start. -/
def Work.prevSlot (w : Work) (x : LTime) : LTime := w.l.slotOf w.sec (x - w.sec * 32768)

/-- The slots from one start up to and with another. -/
def Work.slotsTo (w : Work) : Nat → LTime → LTime → List LTime
  | 0, _, _ => []
  | n + 1, x, last => if x ≤ last then x :: w.slotsTo n (w.nextSlot x) last else []

/-- The slots between two instants, inclusive. -/
def Work.slots (w : Work) (a b : LTime) : List LTime := w.slotsTo ((b - a) / max 1 (w.sec * 65536) + 2) a b

/-- The main entry of a slot that is not EMPTY. -/
def Work.held (w : Work) (start : LTime) (fold channel : Nat) : Option SEntry :=
  match mainAt w.series start fold channel with
  | some e => if e.state == .empty then none else some e
  | none => none

/-- A value of an entry's slot has been received: it stands as received, or an original is kept. -/
def Work.wasReceived (w : Work) (e : SEntry) : Bool :=
  e.state == .valid || e.state == .notValidated || e.state == .rejected ||
    (originalAt w.series e.start e.fold e.channel).isSome

/-! ## Clock steps (R157 to R160) -/

/-- The highest fold stored for the labels of a range. -/
def maxFold (series : List SEntry) (a b : LTime) : Nat :=
  (series.filter fun e => decide (a ≤ e.start) && decide (e.start < b)).foldl (fun m e => max m e.fold) 0

/-- Whether a step's repeated range, from NEW up to OLD, contains a slot start (R160). -/
def Work.foldsAt (w : Work) (old new : LTime) : Bool :=
  decide (new < old) && decide (new ≤ w.l.slotOf w.sec (old - 1))

/-- Calendar's CLOCK_LIMIT_S; 9 before any calendar (R147). -/
def LState.clockLimit (l : LState) (x : LTime) : Nat := ((l.calendarAt x).map (·.clockLimitS)).getD 9

/-- The adjustments of a meter that the journal already holds. -/
def Work.known (w : Work) : List ClockAdj :=
  (w.l.clockAdjs.map (·.2)).filter fun a => a.mh == some w.mh

/-- The clock-adjustment record of a step (Table LG.16). AT is the step's instant in chip time: OLD less the meter's
latest offset. DEDUCED (log entry 20). -/
def Work.adjOf (w : Work) (x : RxStep) : ClockAdj :=
  let limit := w.l.clockLimit x.old
  let step : Int := (x.new : Int) - x.old
  let folds := w.foldsAt x.old x.new
  { at_ := ((x.old : Int) - w.r.clock.offset).toNat, mh := some w.mh, seq := w.r.clock.adjSeq + 1,
    kind := if x.byChip then 1 else 0, beyond := decide (step.natAbs > limit * 65536), foldBegun := folds,
    backward := decide (x.new < x.old), old := x.old, new := x.new, step := step, limitS := limit,
    fold := if folds then maxFold w.series (w.l.slotOf w.sec x.new) x.old + 1 else 0 }

/-- One step the chip learns of: a step already journalled is not journalled again. A step beyond the limit raises
CLOCK_ADJUSTED. -/
def Work.step (x : RxStep) (w : Work) : Work :=
  if (w.known ++ w.adjs).any fun a => a.old == x.old && a.new == x.new then w
  else
    let a := w.adjOf x
    let w := { w with adjs := w.adjs ++ [a] }
    let w := w.onRec fun r => { r with clock := { r.clock with
      adjSeq := (r.clock.adjSeq + 1) % 65536, fold := if a.foldBegun then min 255 a.fold else r.clock.fold } }
    if a.beyond then w.event 0x0205 (putLe 8 (a.step % 2 ^ 64).toNat) else w

/-- The adjustments that bear on the exchange: those known before, then its own. -/
def Work.allAdjs (w : Work) : List ClockAdj := w.known ++ w.adjs

/-! ## Received values become entries (R109 to R111, R158, R159) -/

/-- A received value with its place: the entry (state still open) and the meter's status byte. -/
structure Cand where
  e : SEntry
  status : Option Nat
  deriving DecidableEq, Repr

/-- The fold steps of the exchange: its own ones, or the latest one known. -/
def Work.foldSteps (w : Work) : List ClockAdj :=
  let own := w.adjs.filter (·.foldBegun)
  if !own.isEmpty then own else ((w.known.filter (·.foldBegun)).getLast?).toList

/-- The fold of a label that lies after `n` descents of the labels in the order received (`any`: some label descends). A
value of a later exchange in the repeated range, delivered without a descent, is one of the repetition when the label is
stored already. DEDUCED (log entry 21). -/
def Work.foldOf (w : Work) (any : Bool) (n channel : Nat) (start : LTime) : Nat :=
  let steps := w.foldSteps
  let inRange (a : ClockAdj) : Bool := decide (w.l.slotOf w.sec a.new ≤ start) && decide (start < a.old)
  let own := !(w.adjs.filter (·.foldBegun)).isEmpty
  match (if n = 0 then steps.head? else (steps[n - 1]?).orElse fun _ => steps.getLast?) with
  | none => 0
  | some a =>
    if !inRange a then 0
    else if n ≥ 1 then a.fold
    else if own || any then 0
    else if (w.held start 0 channel).isSome then a.fold
    else 0

/-- The values of one channel with the number of descents before each. -/
def descents : LTime → Nat → List (LTime × RxValue) → List (Nat × LTime × RxValue)
  | _, _, [] => []
  | last, n, (x, v) :: r =>
    let n' := if x < last then n + 1 else n
    (n', x, v) :: descents x n' r

/-- One received value as an entry: kind 0 or 1 by its fold, kind 2 for a second part, which starts its duration before the
slot's end. A step within the limit inside the interval shortens or lengthens it (R158). -/
def Work.candOf (w : Work) (any : Bool) (n : Nat) (x : LTime) (v : RxValue) : Cand :=
  let fold := w.foldOf any n v.channel x
  let inside := w.allAdjs.find? fun a =>
    !a.beyond && !a.foldBegun && decide (x ≤ a.old) && decide (a.old < x + w.sec * 65536)
  let d := match inside with
    | some a => ((w.sec : Int) - roundDiv a.step 65536).toNat
    | none => v.durationS
  { e := { start := if v.split then x + (w.sec - v.durationS) * 65536 else x, value := v.value, channel := v.channel,
           fold := fold, kind := if v.split then 2 else if fold = 0 then 0 else 1, state := .empty, durationS := d,
           scaler := v.scaler, unit := v.unit, short := v.short, powerFail := v.powerFail,
           clockAdj := v.clockAdj || inside.isSome }
    status := v.status }

/-- The received values of the class's channels as entries. -/
def Work.cands (w : Work) (vs : List RxValue) : List Cand :=
  let chans := ((w.l.classOf w.r.cls).map (·.channels)).getD 4
  (List.range chans).flatMap fun c =>
    let xs := (vs.filter fun v => v.channel == c).map fun v => (w.l.slotOf w.sec (w.l.ofLocal v.label v.deviation v.dst), v)
    let ds := descents 0 0 xs
    ds.map fun p => w.candOf (ds.any fun q => decide (q.1 ≥ 1)) p.1 p.2.1 p.2.2

/-- The parts a step beyond the limit makes (R159): start, fold, kind and seconds of the part before and of the part after,
and the slots a forward step skips. -/
def Work.stepParts (w : Work) (a : ClockAdj) : (LTime × Nat × Nat × Nat) × (LTime × Nat × Nat × Nat) × List LTime :=
  let so := w.l.slotOf w.sec a.old
  let sn := w.l.slotOf w.sec a.new
  let secs (d : Nat) : Nat := (roundDiv (d : Int) 65536).toNat
  let d1 := secs (a.old - so)
  let d2 := secs (sn + w.sec * 65536 - a.new)
  let second := if so = sn && !a.foldBegun then (so + (w.sec - d2) * 65536, 0, 2, d2)
    else (sn, a.fold, if a.foldBegun then 1 else 0, d2)
  let skipped := if a.new > a.old then
      (w.slots so sn).filter fun x => decide (x > so) && decide (x < sn)
    else []
  ((so, 0, 0, d1), second, skipped)

/-- The entry of a part given its value. -/
def partEntry (like : SEntry) (p : LTime × Nat × Nat × Nat) (v : Int) : SEntry :=
  { like with start := p.1, fold := p.2.1, kind := p.2.2.1, durationS := p.2.2.2, value := v, short := true, clockAdj := true }

/-- The candidates of one channel after a step beyond the limit: the parts delivered take their durations and marks; a
single value is divided by the durations of the parts (R143); a forward step's skipped slots hold 0 (R159). -/
def Work.applyStep (w : Work) (channel : Nat) (a : ClockAdj) (cs : List Cand) : List Cand :=
  let (p1, p2, skipped) := w.stepParts a
  let is (p : LTime × Nat × Nat × Nat) (c : Cand) : Bool :=
    c.e.channel == channel && c.e.fold == p.2.1 && c.e.kind == p.2.2.1 &&
      (c.e.start == p.1 || (p.2.2.1 == 2 && w.l.slotOf w.sec c.e.start == w.l.slotOf w.sec p.1))
  let zero (like : Cand) : List Cand := skipped.map fun x => { like with e := partEntry like.e (x, 0, 0, 0) 0 }
  let others := cs.filter fun c => !(is p1 c) && !(is p2 c)
  match cs.find? (is p1), cs.find? (is p2) with
  | some c1, some c2 =>
    others ++ [{ c1 with e := partEntry c1.e p1 c1.e.value }, { c2 with e := partEntry c2.e p2 c2.e.value }] ++ zero c1
  | some c, none =>
    let v1 := if p1.2.2.2 + p2.2.2.2 = 0 then c.e.value
      else roundDiv (c.e.value * (p1.2.2.2 : Int)) (p1.2.2.2 + p2.2.2.2)
    others ++ [{ c with e := partEntry c.e p1 v1 }, { c with e := partEntry c.e p2 (c.e.value - v1) }] ++ zero c
  | none, some c =>
    if a.foldBegun then others ++ [{ c with e := partEntry c.e p2 c.e.value }]
    else
      let v1 := if p1.2.2.2 + p2.2.2.2 = 0 then 0
        else roundDiv (c.e.value * (p1.2.2.2 : Int)) (p1.2.2.2 + p2.2.2.2)
      others ++ [{ c with e := partEntry c.e p1 v1 }, { c with e := partEntry c.e p2 (c.e.value - v1) }] ++ zero c
  | none, none => cs

/-- Slots wholly within an outage hold value 0, VALID, short and power fail, and 0 s (R156). DEDUCED (log entry 22): as R159
lays down for slots a step skips. -/
def Work.outageSlots (w : Work) (outs : List (LTime × LTime)) (cs : List Cand) : List Cand :=
  let chans := ((w.l.classOf w.r.cls).map (·.channels)).getD 4
  outs.flatMap fun o =>
    ((w.slots (w.l.slotOf w.sec o.1) o.2).filter fun x =>
      decide (o.1 ≤ x) && decide (x + w.sec * 65536 ≤ o.2)).flatMap fun x =>
      (List.range chans).filterMap fun c =>
        if (w.held x 0 c).isSome || cs.any (fun k => k.e.channel == c && k.e.start == x) then none
        else match (cs.find? fun k => k.e.channel == c).map (·.e) with
          | some e => some ⟨{ e with start := x, value := 0, fold := 0, kind := 0, durationS := 0, short := true,
                                     powerFail := true, clockAdj := false }, none⟩
          | none => none

/-- Every candidate of the exchange, in the order START, FOLD, CHANNEL (R126). -/
def Work.candidates (w : Work) (vs : List RxValue) (outs : List (LTime × LTime)) : List Cand :=
  let cs := w.cands vs
  let cs := (w.adjs.filter (·.beyond)).foldl (fun a x =>
    ([0, 1, 2, 3]).foldl (fun b c => w.applyStep c x b) a) cs
  (cs ++ w.outageSlots outs cs).mergeSort fun a b => !(b.e.before a.e)

/-! ## Rules (R124, R127, R128) -/

/-- The rule set of the meter: index and entry, in table order (R124). -/
def Work.rules (w : Work) : List (Nat × Rule) :=
  (((w.l.tables.rules.now.map (·.rules)).getD []).zipIdx.map fun p => (p.2, p.1)).filter fun p =>
    p.2.cls == w.r.cls || p.2.cls == 0xFFFF

/-- The class's estimation descriptor. -/
def Work.est (w : Work) : Option EstDesc :=
  w.l.tables.rules.now.bind fun t => t.ests.find? fun e => e.cls == w.r.cls

/-- A channel block with nothing in it. -/
def ChanBlock.blank : ChanBlock := ⟨0, 0, 0, 0, 0, 0, 0, List.replicate 16 0⟩

/-- The block of a channel. -/
def Work.chan (w : Work) (c : Nat) : ChanBlock := w.r.val.chans.getD c ChanBlock.blank

/-- The channel blocks, four of them. -/
def fourChans (cs : List ChanBlock) : List ChanBlock := (List.range 4).map fun c => cs.getD c ChanBlock.blank

/-- A channel block changed. -/
def Work.onChan (c : Nat) (f : ChanBlock → ChanBlock) (w : Work) : Work :=
  w.onRec fun r => { r with val := { r.val with chans := (fourChans r.val.chans).modify c f } }

/-- A value of one power of ten at a lower one. -/
def scaleTo (v : Int) (from_ to_ : Int) : Int := v * 10 ^ (from_ - to_).toNat

/-- The `n` most recent ring values. -/
def ChanBlock.recent (b : ChanBlock) (n : Nat) : List Int :=
  (List.range n).map fun k => b.ring.getD ((b.ringPos + 15 - k) % 16) 0

/-- The largest of a list of values. -/
def maxInt : List Int → Int
  | [] => 0
  | x :: xs => xs.foldl max x

/-- The runs of a channel with a value counted (R128); an EMPTY slot before it has reset them. -/
def ChanBlock.count (b : ChanBlock) (v : Int) : ChanBlock :=
  { b with
    zeroRun := if v = 0 then satInc 0xFFFF b.zeroRun else 0
    flatRun := if b.flatRun != 0 && v = b.flatValue then satInc 0xFFFF b.flatRun else 1
    flatValue := v }

/-- Both counts reset. -/
def ChanBlock.noRuns (b : ChanBlock) : ChanBlock := { b with zeroRun := 0, flatRun := 0 }

/-- A VALID value enters the ring. -/
def ChanBlock.push (b : ChanBlock) (start : LTime) (v : Int) : ChanBlock :=
  { b with
    lastValidStart := start
    lastValid := v
    ring := b.ring.set b.ringPos v
    ringPos := (b.ringPos + 1) % 16
    ringFill := min 16 (b.ringFill + 1) }

/-- Whether a value fails a rule (Table VA.4); `b` is the channel's block with this value counted. -/
def ruleFails (x : Rule) (b : ChanBlock) (c : Cand) (rx : LTime) (offset : Int) : Bool :=
  let p := min x.scaler c.e.scaler
  let v := scaleTo c.e.value c.e.scaler p
  let a := scaleTo x.a x.scaler p
  match x.kind with
  | 1 => decide (v * 3600 > a * c.e.durationS)
  | 2 => decide (v * 3600 < a * c.e.durationS)
  | 3 => decide (b.ringFill ≥ x.n) &&
      decide (v * 100 > a * 100 + x.factor * scaleTo (maxInt (b.recent x.n)) c.e.scaler p)
  | 4 => decide (c.e.value = 0) && decide (b.zeroRun ≥ x.n)
  | 5 => decide (c.e.value ≠ 0) && decide (b.flatRun ≥ x.n)
  | 6 => (c.status.map fun st => (st &&& x.a.toNat % 256) != 0).getD false
  | 7 => decide (((c.e.start + c.e.durationS * 65536 : Nat) : Int) > (rx : Int) + offset + x.a * 65536)
  | _ => false

/-- The rules of the set that a value fails. -/
def Work.failed (w : Work) (b : ChanBlock) (c : Cand) : List (Nat × Rule) :=
  w.rules.filter fun p => p.2.channels.testBit c.e.channel && ruleFails p.2 b c w.rx w.r.clock.offset

/-- What becomes of a value (R129): its state, and whether it is to be estimated. -/
def Work.verdict (w : Work) (fails : List (Nat × Rule)) : ValueState × Bool :=
  if w.rules.isEmpty then (.notValidated, false)
  else if fails.any fun p => p.2.action == 2 || (p.2.action == 1 && w.est.isNone) then (.rejected, false)
  else if fails.any fun p => p.2.action == 1 then (.rejected, true)
  else (.valid, false)

/-- A channel's runs before a value: an EMPTY slot before it resets them. -/
def Work.runsBefore (w : Work) (c : Cand) : ChanBlock :=
  let b := w.chan c.e.channel
  let prev := w.prevSlot c.e.start
  if c.e.kind != 2 && !(w.series.any fun e => e.channel == c.e.channel && e.start == prev && e.isMain && e.state != .empty)
  then b.noRuns else b

/-- A value is judged: findings for each rule failed, the channel's runs and ring, its state and whether it is to be estimated. -/
def Work.judge (c : Cand) (w : Work) : Work × ValueState × Bool :=
  let b := (w.runsBefore c).count c.e.value
  let fails := w.failed b c
  let v := w.verdict fails
  let w := fails.foldl (fun a p => a.find p.1 c.e.channel c.e.start) w
  let b := if v.1 == .valid then b.push c.e.start c.e.value else b
  (w.onChan c.e.channel (fun _ => b), v.1, v.2)

/-- The counts of Table VA.7 and LAST_INTERVAL_END after a value is stored. -/
def Work.stored (e : SEntry) (w : Work) : Work :=
  w.onRec fun r => { r with
    val := { r.val with rejected := if e.state == .rejected then r.val.rejected + 1 else r.val.rejected }
    clock := { r.clock with lastIntervalEnd := max r.clock.lastIntervalEnd (w.l.slotOf w.sec e.start + w.sec * 65536) } }

/-- A value judged as new and stored (R130, row EMPTY); the list holds what ACTION 1 refused. -/
def Work.takeNew (c : Cand) (p : Work × List Cand) : Work × List Cand :=
  let (w, st, est) := p.1.judge c
  let e := { c.e with state := st }
  let w := w.put e
  let w := if est then w else w.stored e
  (w.onRec fun r => { r with clock := { r.clock with
      lastIntervalEnd := max r.clock.lastIntervalEnd (w.l.slotOf w.sec e.start + w.sec * 65536) } },
    if est then p.2 ++ [⟨e, c.status⟩] else p.2)

/-- A value whose slot holds an estimate never received (R130): VALID, it replaces the estimate; otherwise the estimate
stands and the value is kept as original. DEDUCED (log entry 23). -/
def Work.takeLate (old : SEntry) (c : Cand) (p : Work × List Cand) : Work × List Cand :=
  let (w, st, _) := p.1.judge c
  let w := if st == .valid then (w.put { c.e with state := .valid, kind := old.kind }).find 0xFFF2 c.e.channel c.e.start
    else w.put { c.e with kind := 3, state := st }
  (w, p.2)

/-- A received value is handled by the state stored for its slot, fold and channel (R130). -/
def Work.take (p : Work × List Cand) (c : Cand) : Work × List Cand :=
  let w := p.1
  if c.e.fold > 255 || c.e.fold == 0 && c.e.kind == 1 then (w.find 0xFFF1 c.e.channel c.e.start, p.2)
  else
    let old := w.series.find? fun x => x.same c.e && x.state != .empty
    match old with
    | none => Work.takeNew c p
    | some o =>
      let orig := originalAt w.series o.start o.fold o.channel
      match o.state with
      | .edited =>
        let w := if orig.isNone then w.put { c.e with kind := 3, state := .notValidated } else w
        (w.find 0xFFF5 c.e.channel c.e.start, p.2)
      | .estimated =>
        match orig with
        | none => Work.takeLate o c p
        | some x => if x.value = c.e.value then p else (w.find 0xFFF0 c.e.channel c.e.start, p.2)
      | _ => if o.value = c.e.value then p else (w.find 0xFFF0 c.e.channel c.e.start, p.2)

/-! ## Estimation (R131 to R135) -/

/-- Slots of fold 0 of a channel to be estimated: refused ones, and EMPTY ones with a received value after them. -/
def Work.toEstimate (w : Work) (channel : Nat) (refused : List Cand) : List LTime :=
  let mains := w.series.filter fun e => e.channel == channel && e.fold == 0 && e.isMain && e.state != .empty
  match mains.head?, (mains.filter fun e => w.wasReceived e).getLast? with
  | some a, some b =>
    (w.slots a.start b.start).filter fun x =>
      refused.any (fun c => c.e.start == x && c.e.channel == channel && c.e.fold == 0) || (w.held x 0 channel).isNone
  | _, _ => []

/-- Runs of consecutive slots. -/
def Work.runs (w : Work) : List LTime → List (List LTime)
  | [] => []
  | x :: xs =>
    match w.runs xs with
    | (y :: ys) :: rest => if y = w.nextSlot x then (x :: y :: ys) :: rest else [x] :: (y :: ys) :: rest
    | rest => [x] :: rest

/-- A value LINEAR or HISTORY may use. -/
def SEntry.good (e : SEntry) : Bool := e.state == .valid || e.state == .edited

/-- LINEAR over a run (R133). -/
def Work.linear (w : Work) (d : EstDesc) (channel : Nat) (run : List LTime) : Option (List Int) :=
  match run.head?, run.getLast? with
  | some x, some y =>
    match w.held (w.prevSlot x) 0 channel, w.held (w.nextSlot y) 0 channel with
    | some a, some b =>
      let whole (e : SEntry) : Bool := e.good && e.durationS == w.sec && !e.short
      let odd := w.series.any fun e => e.channel == channel && run.contains (w.l.slotOf w.sec e.start) &&
        e.kind != 3 && (e.fold != 0 || e.kind == 2 || e.short)
      if whole a && whole b && !odd && decide (run.length ≤ d.maxGap) then
        some ((List.range run.length).map fun k => a.value + roundDiv ((b.value - a.value) * (k + 1)) (run.length + 1))
      else none
    | _, _ => none
  | _, _ => none

/-- The values HISTORY finds for a slot: the same local slot time in each earlier week (R134). -/
def Work.historyOf (w : Work) (d : EstDesc) (channel : Nat) (x : LTime) : List Int :=
  (List.range d.historyWeeks).filterMap fun k =>
    let u := w.l.localSec x - (7 * 86400 * (k + 1) : Nat)
    let y := w.l.ofLocal ((u.toNat) * 65536) none true
    match w.held y 0 channel with
    | some e => if e.good then some e.value else none
    | none => none

/-- HISTORY over a run (R134). -/
def Work.history (w : Work) (d : EstDesc) (channel : Nat) (run : List LTime) : Option (List Int) :=
  let est (x : LTime) : Option Int :=
    let vs := w.historyOf d channel x
    if vs.length ≥ d.minHistory && vs.length != 0 then
      let m := roundDiv vs.sum vs.length
      match w.held x 0 channel with
      | some e => some (if e.short then roundDiv (m * e.durationS) (max 1 w.sec) else m)
      | none => some m
    else none
  run.mapM est

/-- One method over a run: 0 none, 1 LINEAR, 2 HISTORY. -/
def Work.method (w : Work) (d : EstDesc) (m channel : Nat) (run : List LTime) : Option (List Int) :=
  match m with
  | 1 => w.linear d channel run
  | 2 => w.history d channel run
  | _ => none

/-- Scaler and unit of a channel's entries up to an instant. -/
def Work.unitAt (w : Work) (channel : Nat) (x : LTime) : Int × Nat :=
  match ((w.series.filter fun e => e.channel == channel && decide (e.start ≤ x)).getLast?).orElse fun _ =>
    w.series.find? fun e => e.channel == channel with
  | some e => (e.scaler, e.unit)
  | none => (0, 0)

/-- A slot never received, given a value and a state. -/
def Work.newSlot (w : Work) (channel : Nat) (x : LTime) (v : Int) (st : ValueState) : SEntry :=
  { start := x, value := v, channel := channel, fold := 0, kind := 0, state := st, durationS := w.sec,
    scaler := (w.unitAt channel x).1, unit := (w.unitAt channel x).2, short := false, powerFail := false,
    clockAdj := false }

/-- An estimated slot stored: a refused value is kept as original (R112, R129), a missing slot gives GAP_FILLED. -/
def Work.fill (channel : Nat) (w : Work) (p : LTime × Int) : Work :=
  let w := match w.held p.1 0 channel with
    | some e => (w.put { e with kind := 3, state := .rejected }).put { e with value := p.2, state := .estimated }
    | none =>
      (w.put (w.newSlot channel p.1 p.2 .estimated)).find 0xFFF6 channel p.1
  w.onRec fun r => { r with val := { r.val with estimated := r.val.estimated + 1 } }

/-- A run estimated (R132): the estimates stored, or each slot's ESTIMATION_FAILED, a refused value staying REJECTED. -/
def Work.estimateRun (channel : Nat) (d : EstDesc) (p : Work × List (LTime × Int)) (run : List LTime) :
    Work × List (LTime × Int) :=
  let w := p.1
  match (w.method d d.method1 channel run).orElse fun _ => w.method d d.method2 channel run with
  | some vs => ((run.zip vs).foldl (fun a x => a.fill channel x) w, p.2 ++ run.zip vs)
  | none =>
    (run.foldl (fun a x =>
      let a := a.find 0xFFF3 channel x
      match a.held x 0 channel with
      | some e => a.stored e
      | none => a) w, p.2)

/-- The register entry of a rule with N = 0 that covers a channel. -/
def Work.scaleReg (w : Work) (channel : Nat) : Option RegEntry :=
  (w.rules.find? fun p => p.2.kind == 8 && p.2.n == 0 && p.2.channels.testBit channel).bind fun p =>
    w.r.regs.find? fun x => x.rule == p.1

/-- The parts of a channel within a span that are not originals. -/
def Work.partsIn (w : Work) (channel : Nat) (a b : LTime) : List SEntry :=
  w.series.filter fun e => e.channel == channel && e.kind != 3 && decide (a ≤ e.start) && decide (e.start < b)

/-- Whether a span holds an EMPTY or REJECTED slot of a channel, other than those listed. -/
def Work.broken (w : Work) (channel : Nat) (a b : LTime) (except : List LTime) : Bool :=
  (w.slots a (b - 1)).any fun x => !except.contains x &&
    (match w.held x 0 channel with
      | none => true
      | some e => e.state == .rejected)

/-- D_reg of a register at a channel's scaler. -/
def regDiff (x : RegEntry) (scaler : Int) : Int :=
  let d := x.value - x.prevValue
  if x.scaler ≥ scaler then scaleTo d x.scaler scaler else roundDiv d (10 ^ (scaler - x.scaler).toNat)

/-- The estimates scaled so that their sum is R (R135). -/
def scaledEstimates (es : List (LTime × Int)) (r : Int) : List (LTime × Int) :=
  let total := (es.map (·.2)).sum
  let n := es.length
  let cum (k : Nat) : Int := if total = 0 then (k : Int) else ((es.take k).map (·.2)).sum
  let den : Int := if total = 0 then (n : Int) else total
  let part (k : Nat) : Int :=
    if den > 0 then roundDiv (cum k * r) den.toNat else roundDiv (-(cum k * r)) den.natAbs
  (es.zipIdx).map fun p => (p.1.1, part (p.2 + 1) - (if p.2 = 0 then 0 else part p.2))

/-- An estimate's value replaced. -/
def Work.rescale (channel : Nat) (w : Work) (p : LTime × Int) : Work :=
  match w.held p.1 0 channel with
  | some e => w.put { e with value := p.2 }
  | none => w

/-- Scaling of a channel's estimates of the exchange to the meter's register (R135). -/
def Work.scaleChannel (channel : Nat) (d : EstDesc) (es : List (LTime × Int)) (w : Work) : Work :=
  if !d.scaleToRegister || es.isEmpty then w
  else match w.scaleReg channel with
    | none => w
    | some x =>
      let first := (es.head?.map (·.1)).getD 0
      let skip := w.find 0xFFF4 channel first
      match w.l.boundaryNear w.sec x.prevAt, w.l.boundaryNear w.sec x.at_ with
      | some a, some b =>
        let scaler := ((w.held first 0 channel).map (·.scaler)).getD 0
        let k := ((w.partsIn channel a b).filter (·.good)).map (·.value)
        let r := regDiff x scaler - k.sum
        if x.prevAt = 0 || !(es.all fun e => decide (a ≤ e.1) && decide (e.1 + w.sec * 65536 ≤ b)) || decide (r < 0) ||
          w.broken channel a b (es.map (·.1)) then skip
        else (scaledEstimates es r).foldl (fun v p => v.rescale channel p) w
      | _, _ => skip

/-- Estimation of every channel, then scaling. -/
def Work.estimate (refused : List Cand) (w : Work) : Work :=
  match w.est with
  | none => refused.foldl (fun a c => a.stored c.e) w
  | some d =>
    if w.rules.isEmpty then w
    else
      let w := (refused.filter fun c => c.e.fold != 0 || !c.e.isMain).foldl (fun a c =>
        (a.find 0xFFF3 c.e.channel c.e.start).stored c.e) w
      ([0, 1, 2, 3]).foldl (fun a c =>
        let p := (a.runs (a.toEstimate c refused)).foldl (fun q run => Work.estimateRun c d q run) (a, [])
        p.1.scaleChannel c d p.2) w

/-! ## Register cross-check (R138, R139) -/

/-- The REGISTER_MATCH rules of the set, in index order, eight at most. -/
def Work.regRules (w : Work) : List (Nat × Rule) := (w.rules.filter fun p => p.2.kind == 8).take 8

/-- OBIS of a rule: A [47:0] as its six bytes stand in the table. -/
def Rule.obis (x : Rule) : Bytes := putInt 6 x.a

/-- A rule's register entry with the exchange's reading moved in: VALUE and AT pass to PREV_VALUE and PREV_AT (R138). -/
def regAfter (regs : List RegEntry) (rs : List RxReg) (p : Nat × Rule) : RegEntry :=
  let old : RegEntry := ((regs.find? fun x => x.obis == p.2.obis && x.rule == p.1).orElse fun _ =>
    regs.find? fun x => x.obis == p.2.obis).getD ⟨p.2.obis, 0, 0, 0, 0, 0, 0, 0, p.1, false, false⟩
  match rs.find? fun x => x.obis == p.2.obis with
  | some x =>
    { old with
      rule := p.1
      scaler := x.scaler
      unit := x.unit
      value := x.value
      at_ := x.at_
      prevValue := old.value
      prevAt := old.at_ }
  | none => { old with rule := p.1 }

/-- The register entries of the rules, with the exchange's readings moved in (R138). -/
def Work.readRegs (w : Work) (rs : List RxReg) : Work :=
  w.onRec fun r => { r with regs := w.regRules.map (regAfter r.regs rs) }

/-- The channels of a rule's mask that the class keeps. -/
def Work.maskChans (w : Work) (x : Rule) : List Nat :=
  (List.range (((w.l.classOf w.r.cls).map (·.channels)).getD 4)).filter fun c => x.channels.testBit c

/-- D_chip of a rule over a span, at the channel's scaler: none where determinant N cannot be used (R139). -/
def Work.chipDiff (w : Work) (x : Rule) (a b : LTime) : Option (Int × Int) :=
  let parts := (w.maskChans x).flatMap fun c => (w.partsIn c a b).filter (·.billed)
  let scaler := (parts.head?.map (·.scaler)).getD 0
  if x.n = 0 then some ((parts.map (·.value)).sum, scaler)
  else
    let all := (List.range 4).flatMap fun c => (w.partsIn c a b).filter (·.billed)
    let sums := all.mapM fun e => w.l.energyOf w.r w.series e x.n
    sums.map fun vs => (vs.sum, (all.head?.map (·.scaler)).getD 0)

/-- Whether a span includes a fold or a split of a channel. -/
def Work.foldedIn (w : Work) (channel : Nat) (a b : LTime) : Bool :=
  (w.partsIn channel a b).any fun e => e.fold != 0 || e.kind == 2

/-- One register test (R139): the entry after it, and whether it failed. -/
def Work.regTest (w : Work) (x : Rule) (g : RegEntry) : RegEntry × Bool :=
  let skip := ({ g with failed := false, skipped := true }, false)
  match w.l.boundaryNear w.sec g.prevAt, w.l.boundaryNear w.sec g.at_ with
  | some a, some b =>
    if g.prevAt = 0 || (w.maskChans x).any fun c => w.broken c a b [] || w.foldedIn c a b then skip
    else match w.chipDiff x a b with
      | none => skip
      | some (dc, sc) =>
        let dr := g.value - g.prevValue
        let p := min (min g.scaler sc) x.scaler
        let diff := scaleTo dr g.scaler p - scaleTo dc sc p
        let lim := max (1000 * scaleTo x.b x.scaler p) (x.factor * (scaleTo dr g.scaler p).natAbs)
        let last := if g.scaler ≤ p then diff else roundDiv diff (10 ^ (g.scaler - p).toNat)
        let bad := decide (1000 * (diff.natAbs : Int) > lim)
        ({ g with lastDiff := last, failed := bad, skipped := false }, bad)
  | _, _ => skip

/-- The register check (R139): each rule whose register has a new reading is tested. -/
def Work.checkRegs (rs : List RxReg) (w : Work) : Work :=
  (w.regRules.zipIdx).foldl (fun v p =>
    let x := p.1.2
    if !(rs.any fun q => q.obis == x.obis) then v
    else match v.r.regs[p.2]? with
      | none => v
      | some g =>
        let (g', bad) := v.regTest x g
        let v := v.onRec fun r => { r with
          regs := r.regs.set p.2 g'
          counts := { r.counts with findings := if bad then r.counts.findings + 1 else r.counts.findings } }
        if bad then v.event 0x0302 (putLe 2 p.2 ++ putInt 8 g'.lastDiff) else v) w

/-! ## The whole validation -/

/-- The clock steps that an exchange brings, ahead of its values (R113). -/
def Work.takeSteps (rsp : Response) (w : Work) : Work := rsp.steps.foldl (fun a x => a.step x) w

/-- Validation of an exchange (R126), its clock steps taken: the values, estimation and the register check. -/
def Work.validate (rsp : Response) (w : Work) : Work :=
  let w := w.onRec fun r => { r with val := { r.val with rulesVersion := w.l.tables.rules.nowVersion } }
  let p := (w.candidates rsp.values rsp.outages).foldl Work.take (w, [])
  let w := p.1.readRegs rsp.regs
  let w := (w.estimate p.2).checkRegs rsp.regs
  let done := (w.allAdjs.filter (·.foldBegun)).getLast?
  let passed := (done.map fun a => decide ((a.old : Int) ≤ (w.t : Int) + w.r.clock.offset)).getD true
  w.onRec fun r => { r with clock := { r.clock with fold := if passed then 0 else r.clock.fold } }

/-- VALIDATION_FINDING events, at most 16 in a group (R141). -/
def Work.findingEvents (w : Work) : List EvRec :=
  (w.findings.take 16).map fun f =>
    { ltime := w.t, code := 0x0301, severity := sevOf 0x0301, source := srcOf 0x0301, mh := some w.mh,
      data := fitTo 16 (putLe 2 f.1 ++ putLe 1 f.2.1 ++ putLe 8 f.2.2) }

/-- The items of a finished work, in order: clock adjustments ahead of the intervals (R113), the intervals, the record, the
contributions, the events, and what else goes in the group (R21). -/
def Work.items (w : Work) : List Item :=
  let r := { w.r with counts := { w.r.counts with findings := w.r.counts.findings + w.findings.length } }
  w.adjs.map Item.clockAdj ++ (if w.written.isEmpty then [] else [.series w.idx w.written]) ++ [.patch w.idx w.was r] ++
    w.contribs.map (fun c => Item.contrib c.1 c.2) ++ (w.findingEvents ++ w.events).map Item.event ++ w.extra

/-! ## Edits and revalidation (R136, R137) -/

/-- The start of the oldest segment still kept of a series. -/
def Work.oldestKept (w : Work) : Option LTime :=
  w.series.head?.map fun e =>
    let span := w.l.spanOf w.idx
    e.start / 65536 / max 1 span * span * 65536

/-- VAL_EDIT's refusal (R136). A slot before the oldest kept segment counts as reclaimed. DEDUCED (log entry 24). -/
def Work.editBad (w : Work) (channel fold : Nat) (at_ : LTime) (v : Int) : Bool :=
  w.l.slotOf w.sec at_ != at_ || decide (at_ > w.r.clock.lastIntervalEnd) ||
    decide (channel ≥ ((w.l.classOf w.r.cls).map (·.channels)).getD 0) ||
    (fold != 0 && (mainAt w.series at_ fold channel).isNone) || decide (v < minSigned 32) || decide (v > maxSigned 32) ||
    (match w.oldestKept with
      | some x => decide (at_ < x)
      | none => true)

/-- VAL_EDIT's change (R136): the received value is kept as original with the state it held (R112). -/
def Work.edit (channel fold : Nat) (at_ : LTime) (v : Int) (w : Work) : Work :=
  match w.held at_ fold channel with
  | some e =>
    let keep := (e.state == .valid || e.state == .notValidated || e.state == .rejected) &&
      (originalAt w.series at_ fold channel).isNone
    (if keep then w.put { e with kind := 3 } else w).put { e with value := v, state := .edited }
  | none =>
    w.put { w.newSlot channel at_ v .edited with fold := fold }

/-- A stored value as it runs through a channel's block without being judged. -/
def Work.replay (w : Work) (e : SEntry) : Work :=
  if e.kind == 3 || e.state == .empty || !w.wasReceived e then w
  else
    let v := ((originalAt w.series e.start e.fold e.channel).map (·.value)).getD e.value
    let b := (w.runsBefore ⟨e, none⟩).count v
    w.onChan e.channel fun _ => if e.state == .valid then b.push e.start v else b

/-- One stored value judged anew (R137): from its original where one is kept; EDITED values stay; an estimate that filled a
gap is taken out and estimated anew. -/
def Work.rejudge (p : Work × List Cand) (e : SEntry) : Work × List Cand :=
  let w := p.1
  if e.state == .edited || e.state == .empty || e.kind == 3 then p
  else
    let orig := originalAt w.series e.start e.fold e.channel
    if e.state == .estimated && orig.isNone then (w.put { e with state := .empty, value := 0 }, p.2)
    else
      let v := (orig.map (·.value)).getD e.value
      let c : Cand := ⟨{ e with value := v }, none⟩
      let (w, st, est) := w.judge c
      let e' := { c.e with state := st }
      let w := if e' == e then w else w.put e'
      (w, if est then p.2 ++ [⟨e', none⟩] else p.2)

/-- VAL_REVALIDATE (R137): the table in force over the values of a span, in the order of R126. -/
def Work.revalidate (from_ to_ : LTime) (w : Work) : Work :=
  let all := w.series
  let w := w.onRec fun r => { r with val := { r.val with
    rulesVersion := w.l.tables.rules.nowVersion, chans := List.replicate 4 ChanBlock.blank } }
  let w := (all.filter fun e => decide (e.start < from_)).foldl Work.replay w
  let p := (all.filter fun e => decide (from_ ≤ e.start) && decide (e.start < to_)).foldl Work.rejudge (w, [])
  let w := (all.filter fun e => decide (to_ ≤ e.start)).foldl Work.replay p.1
  w.estimate p.2

/-- The values a work changed, net: the entry before and after, once for each place. -/
def Work.net (w : Work) : List (Option SEntry × Option SEntry) :=
  let places := (w.deltas.filterMap (·.2)).foldl (fun a e => if a.any (fun x => x.same e) then a else a ++ [e]) []
  (places.map fun e =>
    (((w.deltas.find? fun d => (d.2.map fun x => x.same e).getD false).bind (·.1)),
      w.series.find? fun x => x.same e)).filter fun d => d.1 != d.2

end Sys2Proof.Machine
end

