-- ==== Sys2Proof/Machine/Billing.lean ====
section
/-! DEFINITION. Billing determinants, charges, credit accounts and relay orders as changes of a record (07: R148 to R156,
R160, R164 to R170): the part of them that one append group carries. -/

namespace Sys2Proof.Machine

/-! ## Period blocks (R148) -/

/-- A FREE block. -/
def PeriodBlock.blank : PeriodBlock :=
  ⟨.free, 0, 0, 0, 0, 0, 0, 0, 0, 0, 0, 0, 0, List.replicate 16 (0, 0), List.replicate 16 0, 0⟩

/-- The OPEN block. -/
def Rec.openBlk (r : Rec) : PeriodBlock := if r.blockA.state == .opened then r.blockA else r.blockB

/-- The other block, SETTLING or FREE. -/
def Rec.otherBlk (r : Rec) : PeriodBlock := if r.blockA.state == .opened then r.blockB else r.blockA

/-- The OPEN block changed. -/
def Rec.onOpenBlk (f : PeriodBlock → PeriodBlock) (r : Rec) : Rec :=
  if r.blockA.state == .opened then { r with blockA := f r.blockA } else { r with blockB := f r.blockB }

/-- The other block changed. -/
def Rec.onOtherBlk (f : PeriodBlock → PeriodBlock) (r : Rec) : Rec :=
  if r.blockA.state == .opened then { r with blockB := f r.blockB } else { r with blockA := f r.blockA }

/-- The SETTLING block, if there is one. -/
def Rec.settling (r : Rec) : Option PeriodBlock := if r.otherBlk.state == .settling then some r.otherBlk else none

/-- A bit of a block's FLAGS set. -/
def PeriodBlock.flag (k : Nat) (b : PeriodBlock) : PeriodBlock := { b with flags := b.flags ||| 2 ^ k }

/-- The next billing period end after an instant under a calendar; 0 when there is none (Table TB.7, R147). -/
def LState.nextEnd (l : LState) (x : LTime) : LTime :=
  match l.tables.calendar.now with
  | none => 0
  | some c =>
    if c.billDay = 0 then (c.ends.find? fun e => decide (x < e)).getD 0
    else
      let (y, m, _) := civil (l.localDay x)
      let at_ (k : Nat) : LTime := l.ofLocalDay (dayNumber (y + (m - 1 + k) / 12) ((m - 1 + k) % 12 + 1) c.billDay) c.billMinute
      ((List.range 3).map at_).find? (fun e => decide (x < e)) |>.getD 0

/-- SETTLE_S of the calendar in force; 0 before any (R147). -/
def LState.settleS (l : LState) : Nat := ((l.tables.calendar.now).map (·.settleS)).getD 0

/-- The schedule of a class at an instant, as TARIFF_SCHEDULE and SCHEDULE hold it; 0 without one. -/
def LState.scheduleNo (l : LState) (cls : Nat) (x : LTime) : Nat := ((l.schedAt cls x).map (·.2.schedule)).getD 0

/-- A block opened at an instant (R148, R154). -/
def LState.openedAt (l : LState) (cls : Nat) (x : LTime) : PeriodBlock :=
  { PeriodBlock.blank with
    state := .opened
    schedule := l.scheduleNo cls x
    periodStart := x
    periodEnd := l.nextEnd x }

/-! ## Where a part goes (R152, R154, R160) -/

/-- The block a label belongs to. -/
inductive BlockSel where
  | current
  | settling
  | closed
  deriving DecidableEq, Repr

/-- The block that holds a label or an instant. -/
def Rec.blockAt (r : Rec) (x : LTime) : BlockSel :=
  if r.openBlk.periodStart ≤ x then .current
  else match r.settling with
    | some b => if b.periodStart ≤ x then .settling else .closed
    | none => .closed

/-- The chip instant of the step that began a part's fold (R160). -/
def Work.foldInstant (w : Work) (e : SEntry) : LTime :=
  ((w.allAdjs.find? fun a => a.foldBegun && a.fold == e.fold && decide (w.l.slotOf w.sec a.new ≤ e.start) &&
    decide (e.start < a.old)).map (·.at_)).getD w.t

/-- The block of a piece of a part: by its label, or for a folded part the block OPEN at the instant of the step. -/
def Work.blockOf (w : Work) (e : SEntry) (label : LTime) : BlockSel :=
  if e.fold = 0 then w.r.blockAt label else w.r.blockAt (w.foldInstant e)

/-- The block selected changed; what belongs to a closed period goes to the open block (R152). -/
def Rec.onSel (sel : BlockSel) (f : PeriodBlock → PeriodBlock) (r : Rec) : Rec :=
  match sel with
  | .settling => r.onOtherBlk f
  | _ => r.onOpenBlk f

/-! ## Energy and charges (R149, R151) -/

/-- An energy determinant with a value added, saturating with FLAGS [0] (R149); `late` adds it to LATE_DET too. -/
def PeriodBlock.addDet (i : Nat) (v : Int) (late : Bool) (b : PeriodBlock) : PeriodBlock :=
  let cur := (b.det.getD i (0, 0)).1
  let b := { b with
    det := b.det.modify i fun d => (satAdd64 d.1 v, d.2)
    lateDet := if late then b.lateDet.modify i fun x => satAdd64 x v else b.lateDet }
  if fits64 (cur + v) then b else b.flag 0

/-- Whole units moved out of RESIDUE and what is left (R151). -/
def residueMove (residue : Nat) (inc : Int) : Int × Nat :=
  let total := (residue : Int) + inc
  (total / 100000000, (total % 100000000).toNat)

/-- A charge increment in 10^-12 currency unit taken: RESIDUE, CHARGES and, for a prepayment meter, the debit due (R151). The
second value is the amount to debit. -/
def Rec.charge (sel : BlockSel) (inc : Int) (r : Rec) : Rec × Int :=
  let (whole, rest) := residueMove r.credit.residue inc
  let r := { r with credit := { r.credit with residue := rest } }
  (r.onSel sel fun b => { b with charges := satAdd64 b.charges whole }, whole)

/-- A charged channel of the schedule has a scaler below -3: the schedule charges nothing for this meter (R151). -/
def Work.unchargeable (w : Work) (t : TariffSched) : Bool :=
  t.computeCharges && t.dets.any fun d => d.kind == 1 && d.charged &&
    w.series.any fun e => e.channel == d.channel && decide (e.scaler < -3)

/-- The balance moved by debits so far, kept until the movement is judged. -/
structure Bill where
  w : Work
  debit : Int
  blocked : Bool
  deriving DecidableEq, Repr

/-- One piece of a part added (sign 1) or taken back (sign -1): its energy determinants and its charges. -/
def Bill.piece (e : SEntry) (sign : Int) (p : LTime × LTime × Int) (x : Bill) : Bill :=
  match x.w.l.schedAt x.w.r.cls p.1 with
  | none => x
  | some (_, t) =>
    let sel := x.w.blockOf e p.1
    let rate := x.w.l.rateAt x.w.r.cls p.1
    let v := sign * p.2.2
    let blocked := x.w.unchargeable t
    (t.dets.zipIdx).foldl (fun y d =>
      if !(d.1.takes e.channel rate) then y
      else
        let r := y.w.r.onSel sel (fun b => b.addDet d.2 v (sel == .closed))
        if t.computeCharges && d.1.charged then
          if blocked then { y with w := { y.w with r := r }, blocked := true }
          else
            let (r, whole) := r.charge sel (v * d.1.price * 10 ^ (e.scaler + 3).toNat)
            { y with w := { y.w with r := r }, debit := y.debit + whole }
        else { y with w := { y.w with r := r } }) x

/-- A part added or taken back: divided at rate switches, table changes and the starts of the blocks (R143, R149, R154). -/
def Bill.part (e : SEntry) (sign : Int) (x : Bill) : Bill :=
  if !e.billed then x
  else
    let cuts := [x.w.r.openBlk.periodStart] ++ (x.w.r.settling.map (·.periodStart)).toList
    (x.w.l.pieces x.w.r x.w.series e cuts).foldl (fun y p => y.piece e sign p) x

/-- One changed value (R152): the old contribution taken back, the new one added; a closed period's slot is counted late; a
folded part sets FLAGS [1]. -/
def Bill.delta (d : Option SEntry × Option SEntry) (x : Bill) : Bill :=
  let e := d.2.orElse fun _ => d.1
  match e with
  | none => x
  | some e =>
    let sel := x.w.blockOf e e.start
    let x := match d.1 with
      | some o => x.part o (-1)
      | none => x
    let x := match d.2 with
      | some n => x.part n 1
      | none => x
    let stop := (partSpan x.w.series x.w.sec e).2
    let w := x.w.onRec fun r => r.onSel sel fun b =>
      let b := { b with
        lateSlots := if sel == .closed then b.lateSlots + 1 else b.lateSlots
        lastLabel := if sel == .closed then b.lastLabel else max b.lastLabel stop }
      if e.fold = 0 then b else b.flag 1
    { x with w := w }

/-! ## Demand (R150, R152) -/

/-- The label cuts of demand windows beside rate switches: clock steps beyond the limit and the blocks' bounds. -/
def Work.demandCuts (w : Work) : List LTime :=
  ((w.allAdjs.filter (·.beyond)).flatMap fun a => [a.old, a.new]) ++
    [w.r.openBlk.periodStart, w.r.openBlk.periodEnd, w.r.otherBlk.periodStart, w.r.otherBlk.periodEnd]

/-- The demand windows of a channel in a block: those of fold 0 that start in the period, and those of the folds that
belong to the block. Label time counts as passed up to the last delivered interval and the present instant. -/
def Work.blockWindows (w : Work) (t : TariffSched) (channel : Nat) (sel : BlockSel) (b : PeriodBlock) : List Window :=
  let last := min w.r.clock.lastIntervalEnd w.t
  let stop := if b.periodEnd = 0 then last else b.periodEnd
  let plain := w.l.windows w.r w.series t channel 0 b.periodStart stop last w.demandCuts
  let folds := (w.allAdjs.filter fun a => a.foldBegun && w.r.blockAt a.at_ == sel).flatMap fun a =>
    w.l.windows w.r w.series t channel a.fold (w.l.slotOf w.sec a.new) a.old a.old w.demandCuts
  plain ++ folds

/-- The greatest demand with its window start; the earliest of equals. -/
def bestWindow (ws : List Window) : Int × LTime :=
  match ws with
  | [] => (0, 0)
  | x :: xs => xs.foldl (fun a y => if y.demand > a.1 then (y.demand, y.start) else a) (x.demand, x.start)

/-- A block with its demand determinants recomputed from the stored series, and its excluded windows counted (R150). -/
def Work.demandBlock (w : Work) (sel : BlockSel) (b : PeriodBlock) : PeriodBlock :=
  match w.l.schedAt w.r.cls (max b.periodStart ((w.series.head?.map (·.start)).getD 0)) with
  | none => b
  | some (_, t) =>
    if t.demandMethod = 0 then b
    else
      let chans := ((t.dets.filter fun d => d.kind == 2).map (·.channel)).dedup
      let all := chans.map fun c => (c, w.blockWindows t c sel b)
      let det := (t.dets.zipIdx).foldl (fun a d =>
        if d.1.kind = 2 then
          let ws := (((all.find? fun p => p.1 == d.1.channel).map (·.2)).getD []).filter fun x =>
            decide (x.elapsed ≥ 60 * 65536) && (d.1.rate == 0 || d.1.rate == x.rate)
          a.set d.2 (bestWindow ws)
        else a) b.det
      let out : Nat := ((all.map fun p => (p.2.filter fun x => decide (x.elapsed < 60 * 65536)).length)).sum
      let b := { b with det := det, excluded := out }
      if out = 0 then b else b.flag 3

/-! ## PROVISIONAL and outages (R153, R156) -/

/-- PROVISIONAL of a block (R153): slot-channels EMPTY or NOT_VALIDATED between PERIOD_START and the earlier of PERIOD_END and
the present instant. -/
def Work.provisional (w : Work) (b : PeriodBlock) : Nat :=
  match w.l.schedAt w.r.cls b.periodStart with
  | none => 0
  | some (_, t) =>
    let stop := if b.periodEnd = 0 then w.t else min b.periodEnd w.t
    let chans := ((t.dets.filter fun d => d.kind != 0).map (·.channel)).dedup
    let first := w.l.slotOf w.sec (b.periodStart + w.sec * 65536 - 1)
    let slots := (w.slots first stop).filter fun x => decide (x + w.sec * 65536 ≤ stop)
    (chans.map fun c => (slots.filter fun x => match w.held x 0 c with
      | none => true
      | some e => e.state == .notValidated).length).sum

/-- Seconds of meter outage within a block's period, from the stored marks of channel 0. -/
def outageSec (series : List SEntry) (sec : Nat) (last : LTime) (b : PeriodBlock) : Nat :=
  let stop := if b.periodEnd = 0 then last else min last b.periodEnd
  outageIn (outageSpans series sec 0 0 last) b.periodStart stop / 65536

/-- OUTAGE_S grows by the outage the exchange adds (R156). -/
def Work.outage (w : Work) (before : List SEntry) (b : PeriodBlock) : PeriodBlock :=
  let a := outageSec before w.sec w.was.clock.lastIntervalEnd b
  let n := outageSec w.series w.sec w.r.clock.lastIntervalEnd b
  if n > a then { b with outageS := b.outageS + (n - a) }.flag 2 else b

/-- Demand, PROVISIONAL and outages of both blocks brought up to date. -/
def Work.freshBlocks (before : List SEntry) (w : Work) : Work :=
  let up (sel : BlockSel) (b : PeriodBlock) : PeriodBlock :=
    let b := w.outage before (w.demandBlock sel b)
    { b with provisional := w.provisional b }
  let w1 := w.onRec fun r => r.onOpenBlk (up .current)
  if w.r.settling.isSome then w1.onRec fun r => r.onOtherBlk (up .settling) else w1

/-! ## Friendly windows and account state (R166, R167) -/

/-- The policy of a class. -/
def LState.policyOf (l : LState) (cls : Nat) : Option Policy :=
  (l.tables.friendly.now).bind fun t =>
    (t.policies.find? fun p => p.cls == cls).orElse fun _ => t.policies.find? fun p => p.cls == 0xFFFF

/-- The end of a friendly window that covers an instant, if one does (R166). -/
def LState.covered (l : LState) (x : LTime) : Option LTime :=
  let day := l.localDay x
  let minute := l.localMinute x
  let typ := specialType (l.calendarAt x) day
  let on (f : FriendlyWindow) : Bool :=
    (if typ = 0 then f.days.testBit (weekday day) else f.types.testBit (typ - 1)) &&
      decide (f.startMin ≤ minute) && decide (minute < f.endMin)
  (((l.tables.friendly.now.map (·.windows)).getD []).find? on).map fun f =>
    let e := if f.endMin < 1440 then l.switchInstant day f.endMin else l.switchInstant (day + 1) 0
    if e > x then e else x + 60 * 65536

/-- The first instant from one on that lies outside every friendly window; none when the windows leave none within
`n` windows. -/
def LState.outside (l : LState) : Nat → LTime → Option LTime
  | 0, _ => none
  | n + 1, x =>
    match l.covered x with
    | some e => l.outside n e
    | none => some x

/-- DUE_AT of an exhausted account (R167). -/
def LState.dueAt (l : LState) (p : Policy) (exhaustedAt : LTime) : Option LTime :=
  l.outside 1024 (exhaustedAt + p.graceS * 65536)

/-- The account state of a balance (R166). -/
def Policy.stateOf (p : Policy) (b : Int) : AccountState :=
  if b ≥ p.low then .normal else if 0 ≤ b then .low else if -p.emergency ≤ b then .emergency else .exhausted

/-! ## Relay orders (R169, R170, Table TB.17) -/

/-- A meter's relay state set; an arrival in CONNECTED, DISCONNECTED or ARMED raises RELAY_OPERATED. -/
def Work.setRelay (st : RelayState) (w : Work) : Work :=
  let w := w.onRec fun r => { r with place := { r.place with relay := st } }
  if st == .connected || st == .disconnected || st == .armed then
    let e : EvRec := { ltime := w.t, code := 0x0405, severity := sevOf 0x0405, source := 0x0A, mh := some w.mh,
                       data := fitTo 16 [0xFF, BitVec.ofNat 8 st.code] }
    { w with events := w.events ++ [e] }
  else w

/-- The state a control_state stands for (Table TB.16). -/
def relayOf (control : Nat) : Option RelayState :=
  match control with
  | 0 => some .disconnected
  | 1 => some .connected
  | 2 => some .armed
  | _ => none

/-- The orders area with nothing pending. -/
def Orders.done (o : Orders) : Orders := { o with reason := 0, pending := 0, attempts := 0, dueAt := 0, orderTag := 0 }

/-- The orders area of a record changed. -/
def Work.onOrders (f : Orders → Orders) (w : Work) : Work := w.onRec fun r => { r with orders := f r.orders }

/-- The credit account of a record changed. -/
def Work.onCredit (f : Credit → Credit) (w : Work) : Work := w.onRec fun r => { r with credit := f r.credit }

/-- A credit disconnect still pending is dropped (R167, Table TB.17): the relay returns to the state last read. -/
def Work.dropPending (w : Work) : Work :=
  let back := match relayOf w.r.orders.controlState with
    | some .armed => RelayState.armed
    | _ => .connected
  let w := if w.r.place.relay == .disconnectPending then (w.setRelay back).onOrders Orders.done
    else if w.r.place.relay == .unknown && w.r.orders.pending == 1 && w.r.orders.reason == 2 then w.onOrders Orders.done
    else w
  w.onCredit fun c => { c with disconnectDue := false }

/-- Whether the relay stands in an order's target state (R170): 1 disconnect, 2 reconnect arm, 3 reconnect close. -/
def atTarget (kind : Nat) (st : RelayState) : Bool :=
  match kind with
  | 1 => st == .disconnected
  | 2 => st == .armed || st == .connected
  | _ => st == .connected

/-- An order taken (Table TB.17): it becomes pending, and the relay state moves at once unless it is UNKNOWN. A reconnect
drops a credit disconnect that waits. -/
def Work.order (kind reason tag : Nat) (w : Work) : Work :=
  let w := if kind != 1 then w.dropPending else w
  if atTarget kind w.r.place.relay then w
  else
    let w := w.onOrders fun o => { o with
      pending := kind, reason := reason, attempts := 0, dueAt := w.t, orderTag := tag }
    if w.r.place.relay == .unknown then w
    else w.setRelay (if kind = 1 then .disconnecting else .reconnecting)

/-- A credit disconnect of an exhausted account (R167): due now, or later with DUE_AT. -/
def Work.creditDisconnect (p : Policy) (w : Work) : Work :=
  let st := w.r.place.relay
  if !(w.r.prepay && w.r.hasRelay) || w.r.credit.operatorHold ||
    !(st == .connected || st == .armed || (st == .unknown && w.r.orders.pending == 0)) then w
  else match w.l.dueAt p w.r.credit.exhaustedAt with
    | none => w
    | some due =>
      let w := w.onCredit fun c => { c with disconnectDue := decide (c.exhaustedAt + p.graceS * 65536 ≤ w.t) }
      let w := w.onOrders fun o => { o with pending := 1, reason := 2, attempts := 0, dueAt := due, orderTag := 0 }
      if st == .unknown then w
      else w.setRelay (if due ≤ w.t then .disconnecting else .disconnectPending)

/-- A relay disconnected for credit whose balance has reached RECONNECT_LEVEL is reconnected at once (R168). -/
def Work.creditReconnect (p : Policy) (w : Work) : Work :=
  if w.r.credit.disconnectedForCredit && decide (w.r.credit.balance ≥ p.reconnectLevel) then
    let w := w.onCredit fun c => { c with disconnectedForCredit := false }
    w.order (2 + p.reconnectMode) 3 0
  else w

/-- The account judged after a movement (R166 to R168). Without a policy for its class the state stays. DESIGN CHOICE (log
entry 25). -/
def Work.judgeAccount (w : Work) : Work :=
  match w.l.policyOf w.r.cls with
  | none => w
  | some p =>
    let old := w.r.credit.state
    let st := p.stateOf w.r.credit.balance
    let w := w.onCredit fun c => { c with state := st }
    let w := if st == old then w
      else if st == .low then w.event 0x0403 (putInt 8 w.r.credit.balance)
      else if st == .exhausted then
        (w.onCredit fun c => { c with exhaustedAt := w.t, operatorHold := false }).event 0x0404 (putInt 8 w.r.credit.balance)
      else w
    let w := if st == .exhausted then w.creditDisconnect p else w.dropPending
    w.creditReconnect p

/-- A movement of BALANCE that no command makes: it saturates (R165). -/
def Work.move (delta : Int) (w : Work) : Work :=
  (w.onCredit fun c => { c with balance := satAdd64 c.balance delta }).judgeAccount

/-- A debit of charges (R151, R165). -/
def Work.debit (amount : Int) (standing : Bool) (w : Work) : Work :=
  if amount = 0 || !w.r.prepay then w
  else (w.onCredit fun c => { c with
    chargedTotal := satAdd64 c.chargedTotal amount
    standingTotal := if standing then satAdd64 c.standingTotal amount else c.standingTotal }).move (-amount)

/-- The billing of a work's changed values (R149 to R153, R156, R165). -/
def Work.bill (w : Work) : Work :=
  let before := (lookupNat w.idx w.l.series).getD []
  let start : Bill := ⟨w, 0, false⟩
  let x := w.net.foldl (fun y d => Bill.delta d y) start
  let w := if x.blocked then x.w.find 0xFFF4 0 w.t else x.w
  (w.freshBlocks before).debit x.debit false

/-! ## Closing blocks (R154) -/

/-- The billing snapshot of a record's block (Table LG.9). -/
def Work.snapshot (w : Work) (b : PeriodBlock) : BSnap :=
  { mh := w.mh, segment := 0, identity := w.r.identity, periodStart := b.periodStart, periodEnd := b.periodEnd,
    reason := b.reason, scheduleVersion := b.scheduleVersion, blockA := w.r.blockA, blockB := w.r.blockB,
    credit := w.r.credit }

/-- The SETTLING block closes (R154 step 2): the snapshot, for a close that is not scheduled the meter's
BILLING_PERIOD_CLOSED, and the block becomes FREE. A push still outstanding sets FLAGS [4] (R163). -/
def Work.closeSettling (w : Work) : Work :=
  match w.r.settling with
  | none => w
  | some _ =>
    let out := w.r.orders.pushState == 1 || w.r.orders.pushState == 2
    let w := w.onRec fun r => r.onOtherBlk fun b =>
      let b := { b with provisional := w.provisional b }
      if out then b.flag 4 else b
    let b := w.r.otherBlk
    let w := { w with extra := w.extra ++ [Item.billing (w.snapshot b)] }
    let w := if b.reason = 0 then w else w.event 0x0401 (putLe 8 b.periodEnd)
    w.onRec fun r => r.onOtherBlk fun _ => PeriodBlock.blank

/-- Version of the tariff table in force just before an instant. -/
def LState.tariffVersionAt (l : LState) (x : LTime) : Nat := ((l.tables.tariff.at (x - 1)).map (·.1)).getD 0

/-- The OPEN block becomes SETTLING at an instant, for a reason, and the FREE block opens (R154 steps 1 and 3). -/
def Work.settle (reason : Nat) (x : LTime) (w : Work) : Work :=
  let w := w.closeSettling
  let w := w.onRec fun r => r.onOpenBlk fun b => { b with
    state := .settling, reason := reason, periodEnd := x, scheduleVersion := w.l.tariffVersionAt x }
  let fresh := w.l.openedAt w.r.cls x
  let w := w.onRec fun r =>
    if r.blockA.state == .free then { r with blockA := fresh } else { r with blockB := fresh }
  w.onRec fun r => { r with place := { r.place with tariffSchedule := fresh.schedule } }

/-- What parts delivered before the boundary and labelled at or after it move to the new block (R154 step 1). -/
def Work.movePast (w : Work) (x : LTime) : Work :=
  let late := w.series.filter fun e => e.billed && e.fold == 0 && decide ((partSpan w.series w.sec e).2 > x)
  let before : PeriodBlock → PeriodBlock → Work → Work := fun a b v => v.onRec fun r =>
    (r.onOtherBlk fun _ => a).onOpenBlk fun _ => b
  late.foldl (fun v e =>
    (v.l.pieces v.r v.series e [x]).foldl (fun u p =>
      if p.1 < x then u
      else match u.l.schedAt u.r.cls p.1 with
        | none => u
        | some (_, t) =>
          let rate := u.l.rateAt u.r.cls p.1
          let f (sign : Int) (b : PeriodBlock) : PeriodBlock := (t.dets.zipIdx).foldl (fun c d =>
            if d.1.takes e.channel rate then c.addDet d.2 (sign * p.2.2) false else c) b
          before (f (-1) u.r.otherBlk) (f 1 u.r.openBlk) u) v) w

/-! ## Scheduled closes (R154) -/

/-- The billing snapshots a work appends. -/
def Work.snaps (w : Work) : List BSnap := w.extra.filterMap fun i => match i with
  | .billing b => some b
  | _ => none

/-- BILLING_PERIOD_CLOSED of scheduled closes: one for the chip for each PERIOD_END, MH_VALID clear (R154). -/
def closedEvents (s : State) (t : LTime) (bs : List BSnap) : List EvRec :=
  ((bs.filter fun b => b.reason == 0).map (·.periodEnd)).dedup.map fun e =>
    { mkEv s 0x0401 (putLe 8 e) none with ltime := t }

end Sys2Proof.Machine
end

