-- ==== Sys2Proof/Machine/Field.lean ====
section
/-! DEFINITION. What the two field networks share (10_zither_plc, 11_lyre_rf): message bodies, queued frames and their
digests (R354), counters (R223), the check of R18, neighbours (R225), links and routes (R232 to R235). -/

namespace Sys2Proof.Machine

/-! ## Modems and settings -/

/-- The modem of a network. -/
def modemOf (s : State) : Net → Modem
  | .plc => s.zither
  | .rf => s.rf

/-- One modem changed. -/
def onModem (net : Net) (f : Modem → Modem) (s : State) : State :=
  match net with
  | .plc => { s with zither := f s.zither }
  | .rf => { s with rf := f s.rf }

/-- The MAC counters of one network changed (Table ST.4). -/
def onMac (net : Net) (f : MacCounters → MacCounters) (s : State) : State :=
  onModem net (fun m => { m with counters := f m.counters }) s

/-- A 64-bit count that saturates (R446). -/
def inc64 (v : Nat) : Nat := satInc (2 ^ 64 - 1) v

/-- An item that each network has under a number of its own. -/
def netItem (s : State) (net : Net) (plc rf : Nat) : Nat := itemVal s (match net with
  | .plc => plc
  | .rf => rf)

/-- MAX_HOPS of a network. -/
def maxHops (s : State) (net : Net) : Nat := netItem s net 0x0A07 0x0B0D

/-- The current BKEY_INDEX (R296); 0 while no broadcast key exists (R486). -/
def bkeyIndex (s : State) : Nat := le (itemNow s 0x0D02) 5 1

/-- The index under which broadcasts go (R299): the previous one until every joined meter has rejoined or 7 days have
passed since the change. -/
def castIndex (s : State) : Nat :=
  let prev := le (itemNow s 0x0D02) 6 1
  if s.keys.bkeyChangedAt.isSome && prev != 0 then prev else bkeyIndex s

/-- The other network. -/
def otherNet : Net → Net
  | .plc => .rf
  | .rf => .plc

/-- A network that transmits (R27, R223, R231, R261): an active chip's, enabled, not stopped, no warning standing, and on
Zither the die-to-die link up. -/
def mayTransmit (s : State) (net : Net) : Bool :=
  isActive s && (modemOf s net).enabled && !(modemOf s net).stopped && !warned s && mainRuns s &&
    (net == .rf || s.d2d.up)

/-! ## Message bodies -/

/-- One phase present in a snapshot reply (Table PL.13). -/
def phasorBytes (p : Option SnapPhase) : Bytes :=
  match p with
  | some x => putLe 4 x.vMv ++ putInt 2 x.vAngle ++ putInt 2 x.iAngle ++ putLe 4 x.iMa
  | none => []

/-- PHASES of a snapshot reply (Table PL.13). -/
def phaseMask (ps : List (Option SnapPhase)) : Nat := ((ps.zipIdx).map fun p => if p.1.isSome then 2 ^ p.2 else 0).sum

/-- BODY of a message (Tables MS.4, PL.7, PL.10 to PL.13, RF.4, TM.8). -/
def Msg.body : Msg → Bytes
  | .dlmsSegment a i n b => putLe 2 a ++ putLe 1 i ++ putLe 1 n ++ b
  | .joinConfirm j => putLe 4 j
  | .leave c => putLe 1 c
  | .imageBlock c n b => putLe 2 c ++ zeros 2 ++ putLe 4 n ++ b
  | .joinRequest i c p => fitTo 16 i ++ putLe 2 c ++ putLe 2 p
  | .joinAccept a n k w j => putLe 2 a ++ putLe 1 n.code ++ putLe 1 k ++ fitTo 16 w ++ putLe 4 j
  | .joinRefuse c => putLe 1 c
  | .rejoinOrder n => putLe 1 n.code
  | .lastGasp t c => putLe 8 t ++ putLe 1 c
  | .alarm t r => putLe 8 t ++ putLe 4 r
  | .checkIn t b => putLe 8 t ++ putLe 1 b ++ zeros 3
  | .installBeacon c r => putLe 2 c ++ putInt 1 r ++ zeros 1
  | .dlmsPush b => b
  | .pushAck t c => putLe 8 t ++ putLe 5 c ++ zeros 3
  | .routeSet h w up => putLe 1 up.length ++ putLe 1 h ++ putLe 2 w ++ up.flatMap (putLe 2)
  | .routeReport ls =>
    putLe 1 ls.length ++ zeros 1 ++ ls.flatMap fun l => putLe 2 l.1 ++ putLe 1 l.2.1 ++ putLe 1 l.2.2.1 ++ putLe 4 l.2.2.2
  | .routeError f o c => putLe 2 f ++ putLe 2 o ++ putLe 5 c ++ zeros 1
  | .routeQuery t => putLe 2 t ++ zeros 2
  | .timeBeacon sec ns fl u off q =>
    putLe 6 sec ++ putLe 4 ns ++ zeros 1 ++ putLe 1 fl ++ putLe 2 u ++ putInt 2 off ++ putLe 2 q ++ zeros 2
  | .linkProbe => []
  | .wake r => putLe 2 r
  | .wakeAck t => putLe 8 t
  | .rendezvousOrder t st h l => putLe 2 t ++ putLe 8 st ++ putLe 4 h ++ putLe 2 l ++ zeros 2
  | .snapshotOrder i t => putLe 4 i ++ putLe 8 t ++ putLe 2 300 ++ zeros 2
  | .snapshotFetch i => putLe 4 i
  | .snapshotReply i st u ps => putLe 4 i ++ putLe 1 st ++ putLe 1 (phaseMask ps) ++ putLe 2 u ++ ps.flatMap phasorBytes

/-- An address as a frame carries it (Table PL.6). -/
def Addr.bytes : Addr → Bytes
  | .short a => putLe 2 a
  | .eui e => fitTo 8 e

/-- Length of a network frame (Table PL.6), for the cells it fills. -/
def RxFrame.size (f : RxFrame) : Nat :=
  4 + f.orig.bytes.length + f.dest.bytes.length + 5 + (if f.route.isEmpty then 0 else 2 + 2 * f.route.length) +
    (if f.proxy.isSome then 2 else 0) + f.msg.body.length + 8

/-! ## Frames the chip generates -/

/-- DIGEST of a generated frame (R354). -/
def TxFrame.digest (f : TxFrame) : Bytes :=
  (Config.sha256 (putLe 1 f.msg.typ ++ f.dest.bytes ++ putLe 1 f.keyIndex ++ f.msg.body)).take 16

/-- N of a frame: how many of its network, destination and type were generated since the epoch opened (R354). -/
def frameNumber (f : TxFrame) (s : State) : Nat :=
  (s.twin.ownFrames.filter fun m =>
    m.epoch == openNum s && m.net == f.net && m.typ == f.msg.typ && m.dest == f.dest.bytes).length

/-- The mark of a generated frame. -/
def markOf (f : TxFrame) (since : Nat) (s : State) : FrameMark :=
  ⟨openNum s, f.net, f.msg.typ, f.dest.bytes, frameNumber f s, f.digest, since⟩

/-- Marks still needed: those of the open epoch, and those unmatched. -/
def keepMarks (s : State) (ms : List FrameMark) : List FrameMark :=
  ms.filter fun m => m.epoch == openNum s || m.since != 0

/-- The own mark of a generated frame kept. -/
def addMark (m : FrameMark) (s : State) : State :=
  { s with twin := { s.twin with ownFrames := keepMarks s s.twin.ownFrames ++ [m] } }

/-- FRAME_DIGEST to the standby (R354). -/
def sendDigest (m : FrameMark) (s : State) : State :=
  emit (.twill 0x20 (putLe 1 m.net.code ++ putLe 1 m.typ ++ zeros 2 ++ putLe 4 m.n ++ fitTo 8 m.dest ++ m.digest)) s

/-- A frame goes into the transmit queue of its priority (Table QF.1). -/
def enqueue (f : TxFrame) (s : State) : State :=
  onModem f.net (fun m => { m with queues := m.queues.modify f.priority (· ++ [f]) }) s

/-- A frame is generated for a network that is enabled (R354): the active queues it, and sends its digest to a standby that
mirrors it; a standby keeps the digest to be matched and transmits nothing (R27). Broadcasts wait for a broadcast
key (R486). -/
def queueFrame (f : TxFrame) (s : State) : State :=
  if !(modemOf s f.net).enabled || (f.broadcast && bkeyIndex s == 0) then s
  else if isStandby s then addMark (markOf f (max 1 s.clk) s) s
  else if mirroring s then
    let m := markOf f 0 s
    enqueue f (sendDigest m (addMark m s))
  else enqueue f s

/-- Transmit priority of a frame of a type for which the spec names none (log entry 26). -/
def ownPriority (m : Msg) : Nat := Config.framePriority m.typ % 4

/-- A unicast frame to a meter's short address, under its unicast key. -/
def sendShort (net : Net) (short prio : Nat) (m : Msg) (s : State) : State :=
  queueFrame ⟨net, prio, .short short, false, 0, none, [], none, m⟩ s

/-- A frame to a record's meter on its network, if it has an address. -/
def sendTo (r : Rec) (prio : Nat) (m : Msg) (s : State) : State :=
  match r.net.network with
  | some net => sendShort net r.net.short prio m s
  | none => s

/-- A stateless frame to an extended address (R78, R237, R250): back through the meter's proxy on Zither, flooded with
FLOOD_TTL on Lyre (R251). -/
def sendEui (net : Net) (eui : Bytes) (m : Msg) (s : State) : State :=
  let hops := match net with
    | .plc => none
    | .rf => some (itemVal s 0x0B06)
  queueFrame ⟨net, ownPriority m, .eui eui, false, 0, hops, [], none, m⟩ s

/-- HOPS_LEFT of a flooded frame or broadcast (R236, R251). -/
def floodHops (s : State) (net : Net) : Nat := netItem s net 0x0A07 0x0B06

/-- A broadcast under the current broadcast key (R236, R251). -/
def broadcast (net : Net) (prio : Nat) (hops : Nat) (m : Msg) (s : State) : State :=
  queueFrame ⟨net, prio, .short 0xFFFF, true, castIndex s, some hops, [], none, m⟩ s

/-! ## Counters (R223) -/

/-- The partner must know of a new block before it is used (R223). -/
def ctrPartner (s : State) : Bool :=
  isActive s && (s.twin.partner == .present || s.twin.partner == .starting || s.twin.partner == .standby)

/-- The Twill link is silent (R343). -/
def linkSilent (s : State) : Bool := !s.twin.link.trained

/-- Size of a counter block. -/
def ctrBlock : Nat := 2 ^ 20

/-- A new block reserved in keeper MRAM once the present one is used up; not while the link to a partner is silent. -/
def reserveBlock (net : Net) (s : State) : State :=
  let m := modemOf s net
  if m.nextCtr < m.reservedEnd then s
  else if ctrPartner s && linkSilent s then s
  else
    let e := max m.nextCtr m.reservedEnd + ctrBlock
    onModem net (fun m => { m with reservedEnd := e, usableEnd := if ctrPartner s then m.usableEnd else e }) s

/-- The next counter, where one may be used. -/
def takeCtr (net : Net) (s : State) : Option (Nat × State) :=
  let s := reserveBlock net s
  let m := modemOf s net
  if m.nextCtr < m.usableEnd && decide (m.nextCtr < 2 ^ 40) then
    some (m.nextCtr, onModem net (fun m => { m with nextCtr := m.nextCtr + 1 }) s)
  else none

/-- A modem at a start (R222, R223, R248): counters continue at the reserved end, the highest accepted counters are those
of the records, windows count as full, and everything in DRAM is gone. -/
def Modem.started (m : Modem) (on : Bool) (l : LState) : Modem :=
  { Modem.reset with
    enabled := on
    nextCtr := max 1 m.reservedEnd
    reservedEnd := m.reservedEnd
    usableEnd := m.reservedEnd
    highest := (l.recs.filter fun e => e.2.segment == 0).map fun e => (e.2.identity.take 8, e.2.net.frameCtr) }

/-! ## The check of R18 -/

/-- What the check of R18 finds. -/
inductive Verdict where
  | pass
  | unknown
  | badMic
  | badCtr
  deriving DecidableEq, Repr

/-- The record a frame's source names. -/
def sourceOf (s : State) (f : RxFrame) : Option (Nat × Rec) :=
  match f.orig with
  | .short a => s.led.work.byShort f.net a
  | .eui e => s.led.work.byEui e

/-- The value held under an EUI-64. -/
def lookupEui {α : Type} (e : Bytes) (l : List (Bytes × α)) : Option α := (l.find? fun x => x.1 == e).map (·.2)

/-- A list of pairs with the value under one EUI-64 set. -/
def putEui {α : Type} (e : Bytes) (v : α) (l : List (Bytes × α)) : List (Bytes × α) :=
  (l.filter fun x => x.1 != e) ++ [(e, v)]

/-- Highest counter accepted from a meter (R222, R248). -/
def Modem.highestOf (m : Modem) (eui : Bytes) : Nat := (lookupEui eui m.highest).getD 0

/-- The window of accepted counters below the highest (R248): full where the modem has none. -/
def Modem.windowOf (m : Modem) (eui : Bytes) : BitVec 64 := (lookupEui eui m.window).getD (BitVec.allOnes 64)

/-- The frame-counter check of R222, on Lyre with the window of R248. -/
def ctrOk (net : Net) (m : Modem) (eui : Bytes) (ctr : Nat) : Bool :=
  let h := m.highestOf eui
  decide (ctr < 2 ^ 32) &&
    (decide (ctr > h) ||
      (net == .rf && decide (ctr < h) && decide (h - ctr ≤ 63) && !((m.windowOf eui).getLsbD (h - ctr))))

/-- An accepted counter entered: bit k of the window is the counter k below the highest. -/
def Modem.accept (eui : Bytes) (ctr : Nat) (m : Modem) : Modem :=
  let h := m.highestOf eui
  let w := m.windowOf eui
  if ctr > h then
    { m with highest := putEui eui ctr m.highest, window := putEui eui ((w <<< (ctr - h)) ||| 1#64) m.window }
  else { m with window := putEui eui (w ||| (1#64 <<< (h - ctr))) m.window }

/-- The check of R18 on a frame: its source's record and key, its MIC, its counter. -/
def checkFrame (s : State) (f : RxFrame) : Verdict :=
  match sourceOf s f with
  | none => .unknown
  | some (_, r) =>
    if !f.micOk then .badMic
    else if ctrOk f.net (modemOf s f.net) (r.identity.take 8) f.ctr then .pass
    else .badCtr

/-- A record with one more security failure. -/
def Rec.failed (r : Rec) : Rec := { r with counts := { r.counts with securityFails := r.counts.securityFails + 1 } }

/-- A session's authentication failure or a frame's: SECURITY_FAILS moves on, with METER_SECURITY_FAIL where the rule
raises it (R18). -/
def securityFail (idx : Nat) (event : Bool) (net : Option Net) (s : State) : State :=
  match getRec s idx with
  | none => s
  | some r =>
    patchRec idx Rec.failed
      (if event then [mkNetEv s 0x0104 (putLe 4 (r.counts.securityFails + 1)) (some (recMh idx r)) net] else []) s

/-- A frame that fails the check (R18): counted in the MAC; against its source on the active, the first integrity failure
in each 3,600 s raising METER_SECURITY_FAIL. The standby's own receivers feed no ledger (R349). -/
def failFrame (f : RxFrame) (mic : Bool) (s : State) : State :=
  let s := onMac f.net (fun c =>
    if mic then { c with rxSecurity := inc64 c.rxSecurity }
    else { c with rxSecurity := inc64 c.rxSecurity, rxDuplicate := inc64 c.rxDuplicate }) s
  match sourceOf s f with
  | none => s
  | some (idx, _) =>
    if !isActive s then s
    else
      let last := lookupNat idx s.meters.lastFailEvent
      let due := mic && (match last with
        | some t => decide (t + secTicks 3600 ≤ s.clk)
        | none => true)
      let s := if due then
          { s with meters := { s.meters with lastFailEvent := insertNat idx s.clk s.meters.lastFailEvent } }
        else s
      securityFail idx due (some f.net) (newInput 8 s)

/-! ## Neighbours (R225 to R228, R253) -/

/-- A neighbour's entry changed. -/
def onNeighbour (net : Net) (short : Nat) (f : Neighbour → Neighbour) (s : State) : State :=
  onModem net (fun m => { m with neighbours := modifyFirst (fun n => n.short == short) f m.neighbours }) s

/-- A neighbour's entry. -/
def neighbourOf (s : State) (net : Net) (short : Nat) : Option Neighbour :=
  (modemOf s net).neighbours.find? fun n => n.short == short

/-- Stations that are the first hop of some route. -/
def Modem.firstHops (m : Modem) : List Nat := m.routes.filterMap fun r => r.hops.head?

/-- The instant at which a decided tone map request goes in a LINK_PROBE: 100 ms on, and not within 10 s of the last. -/
def probeTime (clk : Nat) (n : Neighbour) : Nat :=
  if n.requestAt = 0 then clk + msTicks 100 else max (clk + msTicks 100) (n.requestAt + secTicks 10)

/-- A tone map request decided for a neighbour (R228). -/
def Neighbour.ask (clk : Nat) (n : Neighbour) : Neighbour :=
  { n with state := .requested, probeDue := some (probeTime clk n) }

/-- A new entry (R225): on Zither with no tone map and a request decided (Table PL.9), on Lyre as R253 sets it. -/
def newNeighbour (s : State) (f : RxFrame) : Neighbour :=
  let n : Neighbour :=
    { short := f.fromShort, state := .none, mod := 0, toneMap := 0, attenDb := f.attenDb, lqi := f.lqi, lqiRef := 0,
      cap := 0, txFail := 0, limited := 0, tmAt := 0, requests := 0, requestAt := 0, probeDue := none,
      holdoffUntil := 0, moreRobust := false, lastHeard := s.clk }
  match f.net with
  | .plc => n.ask s.clk
  | .rf => { n with state := .valid, mod := startVal s 0x0B02, cap := 1000 * modeKbps (startVal s 0x0B02) }

/-- A frame heard from a known neighbour: LQI and attenuation taken; on Zither a fall of more than 12 below LQI_REF asks for
a new tone map one step more robust meanwhile (Table PL.9). -/
def Neighbour.heard (clk : Nat) (f : RxFrame) (n : Neighbour) : Neighbour :=
  let n := { n with attenDb := f.attenDb, lqi := f.lqi, lastHeard := clk }
  if f.net == .plc && n.state == .valid && decide (f.lqi + 12 < n.lqiRef) then
    { n.ask clk with moreRobust := true, requests := 0 }
  else n

/-- The entry that gives way to a new station: the one heard longest ago that is no route's first hop (R225). -/
def Modem.oldest (m : Modem) : Option Nat :=
  ((m.neighbours.filter fun n => !(m.firstHops.contains n.short)).foldl (fun (a : Option Neighbour) n =>
    match a with
    | some b => if n.lastHeard < b.lastHeard then some n else a
    | none => some n) none).map (·.short)

/-- A station's frame passed R18: its neighbour entry is updated or made (R225). -/
def hearNeighbour (f : RxFrame) (s : State) : State :=
  if f.fromShort = 0 || decide (f.fromShort > 0x0FFF) then s
  else if (neighbourOf s f.net f.fromShort).isSome then onNeighbour f.net f.fromShort (Neighbour.heard s.clk f) s
  else
    let m := modemOf s f.net
    let add := fun (ns : List Neighbour) => onModem f.net (fun m => { m with neighbours := ns ++ [newNeighbour s f] }) s
    if m.neighbours.length < 512 then add m.neighbours
    else match m.oldest with
      | some x => add (m.neighbours.filter fun n => n.short != x)
      | none => onMac f.net (fun c => { c with neighbourRefused := inc64 c.neighbourRefused }) s

/-! ## Links and routes (R232 to R235) -/

/-- The chip's own links: those of its neighbour table, from the neighbour to the chip. -/
def chipLinks (m : Modem) : List Link := m.neighbours.map fun n => ⟨n.short, 0, n.attenDb, n.lqi, n.cap, 0, true⟩

/-- A link may be used (R233). -/
def linkUsable (s : State) (net : Net) (k : Link) : Bool :=
  decide (k.lqi ≥ netItem s net 0x0A06 0x0B0C) && k.cap != 0 && decide (k.failedUntil ≤ s.clk)

/-- Cost of a link (R233). -/
def linkCost (s : State) (net : Net) (k : Link) : Nat :=
  1000000 / k.cap + (255 - k.lqi) / 4 + netItem s net 0x0A05 0x0B0B

/-- Short addresses of the sleepy meters on Lyre: no route passes through one (R253). -/
def sleepyShorts (s : State) (net : Net) : List Nat :=
  match net with
  | .plc => []
  | .rf => (s.led.work.recs.filter fun e => e.2.sleepy && e.2.net.network == some .rf).map (·.2.net.short)

/-- The edge of a link in both directions with its cost, where every known direction is usable; the higher cost counts
(R233). Nothing leaves a sleepy meter. -/
def edgesOf (s : State) (net : Net) (ls : List Link) (sleepy : List Nat) (k : Link) : List (Nat × Nat × Nat) :=
  let back := ls.filter fun j => j.src == k.dst && j.dst == k.src
  if linkUsable s net k && back.all (linkUsable s net) then
    let c := back.foldl (fun a j => max a (linkCost s net j)) (linkCost s net k)
    ((if sleepy.contains k.src then [] else [(k.src, k.dst, c)]) ++
      (if sleepy.contains k.dst then [] else [(k.dst, k.src, c)]))
  else []

/-- Every usable edge of a network. -/
def edges (s : State) (net : Net) : List (Nat × Nat × Nat) :=
  let m := modemOf s net
  let ls := (chipLinks m ++ m.links).filter fun k => k.reported || decide (s.clk < k.failedUntil)
  ls.flatMap (edgesOf s net ls (sleepyShorts s net))

/-- Lexicographic order of lists of short addresses. -/
def lexLess : List Nat → List Nat → Bool
  | [], [] => false
  | [], _ :: _ => true
  | _ :: _, [] => false
  | a :: as, b :: bs => decide (a < b) || (a == b && lexLess as bs)

/-- One path (cost, hops) comes before another: less cost, then fewer hops, then the lower list (R233). -/
def pathBefore (a b : Nat × List Nat) : Bool :=
  decide (a.1 < b.1) || (a.1 == b.1 && (decide (a.2.length < b.2.length) ||
    (a.2.length == b.2.length && lexLess a.2 b.2)))

/-- One edge taken from the paths known so far. -/
def relaxEdge (known acc : List (Nat × Nat × List Nat)) (e : Nat × Nat × Nat) : List (Nat × Nat × List Nat) :=
  match lookupNat e.1 known with
  | none => acc
  | some p =>
    let cand := (p.1 + e.2.2, p.2 ++ [e.2.1])
    match lookupNat e.2.1 acc with
    | some old => if pathBefore cand old then insertNat e.2.1 cand acc else acc
    | none => insertNat e.2.1 cand acc

/-- The best paths from the chip with at most `n` hops. -/
def paths (es : List (Nat × Nat × Nat)) : Nat → List (Nat × Nat × List Nat)
  | 0 => [(0, 0, [])]
  | n + 1 =>
    let known := paths es n
    es.foldl (relaxEdge known) known

/-- The route to a short address under R233. -/
def bestRoute (ps : List (Nat × Nat × List Nat)) (short : Nat) : Option (List Nat) := (lookupNat short ps).map (·.2)

/-- The paths of a network now. -/
def pathsNow (s : State) (net : Net) : List (Nat × Nat × List Nat) := paths (edges s net) (maxHops s net)

/-- The route to a meter; one that the table does not hold is UNREACHABLE. -/
def routeTo (s : State) (net : Net) (short : Nat) : Route :=
  ((modemOf s net).routes.find? fun r => r.short == short).getD ⟨short, [], .unreachable, 0, false, none, false, false⟩

/-- A route put into the table of up to 4,096 destinations (R233). -/
def putRoute (net : Net) (r : Route) (s : State) : State :=
  onModem net (fun m => { m with routes := ((m.routes.filter fun x => x.short != r.short) ++ [r]).take 4096 }) s

/-- A route that changes: a ROUTE_SET follows (R234). -/
def Route.to (hops : List Nat) (urgent : Bool) (r : Route) : Route :=
  { r with hops := hops, state := .valid, setPending := true, urgent := urgent, provisional := false }

/-- A route after a recomputation without a failure (R233, R235). -/
def Route.recomputed (ps : List (Nat × Nat × List Nat)) (r : Route) : Route :=
  match bestRoute ps r.short with
  | none => r
  | some h =>
    if r.state == .valid && (r.provisional || r.hops == h) then r
    else r.to h (r.state != .valid)

/-- Routes recomputed (R233). -/
def recompute (net : Net) (s : State) : State :=
  let ps := pathsNow s net
  onModem net (fun m => { m with routes := m.routes.map (Route.recomputed ps) }) s

/-- Whether a path from the chip uses the edge between two stations. -/
def usesEdge (hops : List Nat) (a b : Nat) : Bool :=
  ((0 :: hops).zip hops).any fun e => (e.1 == a && e.2 == b) || (e.1 == b && e.2 == a)

/-- The edge between two stations marked failed for 600 s (R235). -/
def markFailed (a b : Nat) (clk : Nat) (ls : List Link) : List Link :=
  let t := clk + secTicks 600
  let on := fun (k : Link) => (k.src == a && k.dst == b) || (k.src == b && k.dst == a)
  if ls.any on then modifyAll on (fun k => { k with failedUntil := t }) ls else ls ++ [⟨a, b, 0, 0, 0, t, false⟩]

/-- One route when an edge failed (R235): another path, or REPAIRING for 30 s. -/
def Route.onFail (ps : List (Nat × Nat × List Nat)) (a b clk : Nat) (r : Route) : Route :=
  if r.state == .valid && usesEdge r.hops a b then
    match bestRoute ps r.short with
    | some h => r.to h true
    | none => { r with state := .repairing, repairDue := clk + secTicks 30, provisional := false }
  else r.recomputed ps

/-- The edge between two stations fails (R235): the routes through it move or are repaired, a ROUTE_QUERY flooded for each
under repair; every other route is computed again. -/
def failEdge (net : Net) (a b : Nat) (s : State) : State :=
  let hit := (modemOf s net).routes.filter fun r => r.state == .valid && usesEdge r.hops a b
  let s := onModem net (fun m => { m with links := markFailed a b s.clk m.links }) s
  let ps := pathsNow s net
  let s := onModem net (fun m => { m with routes := m.routes.map (Route.onFail ps a b s.clk) }) s
  let s := onMac net (fun c => { c with routeFailures := min (2 ^ 64 - 1) (c.routeFailures + hit.length) }) s
  hit.foldl (fun a r =>
    if (routeTo a net r.short).state == .repairing then
      broadcast net (ownPriority (.routeQuery 0)) (floodHops a net) (.routeQuery r.short) a
    else a) s

/-- The downstream route that a frame's upstream ROUTE shows: its relays turned round, then the meter. -/
def downstream (route : List Nat) (short : Nat) : List Nat := (route.filter (· != 0)).reverse ++ [short]

/-- A frame of a meter passed R18: an UNREACHABLE route becomes VALID again (R235), over the path it came by. -/
def reachAgain (f : RxFrame) (short : Nat) (s : State) : State :=
  let r := routeTo s f.net short
  if r.state == .unreachable then putRoute f.net (r.to (downstream f.route short) true) s else s

/-! ## Frames that pass -/

/-- Cells and items that the frames waiting in one class queue hold (Table QF.1). -/
def classFull (net : Net) (cls : Nat) (rx : List RxFrame) : Bool :=
  let q := rx.filter fun f => f.msg.cls == cls
  let cells := (q.map fun f => ceilDiv f.size 32).sum
  decide (q.length ≥ 4096) || decide (cells + (if net == .plc then 48 else 68) > 2048)

/-- Types that a meter sends to the chip (Tables PL.7, RF.4). -/
def Msg.fromMeter (m : Msg) : Bool := [0x01, 0x02, 0x03, 0x10, 0x14, 0x15, 0x16, 0x17, 0x18, 0x21, 0x22, 0x27, 0x32].contains m.typ

/-- A frame that passed waits in the queue of its class, or is dropped without credit (R224, Table QF.1). One of a type that no
meter sends to the chip leaves its queue without effect (log entry 64). -/
def queueRx (f : RxFrame) (s : State) : State :=
  if !f.msg.fromMeter then s
  else if classFull f.net f.msg.cls ((modemOf s f.net).rx.map (·.2)) then
    onMac f.net (fun c => { c with rxOverflow := inc64 c.rxOverflow }) s
  else onModem f.net (fun m => { m with rx := m.rx ++ [(if isActive s || isStandby s then s.twin.inputSeq else 0, f)] }) s

/-- One meter's rendezvous changed (R257). -/
def onRendezvous (idx : Nat) (f : Rendezvous → Rendezvous) (s : State) : State :=
  let l := s.lyre.rendezvous
  let l' := if l.any (fun v => v.idx == idx) then modifyFirst (fun v => v.idx == idx) f l else l ++ [f (Rendezvous.blank idx)]
  { s with lyre := { s.lyre with rendezvous := l' } }

/-- The sleep profile of a class (Table RF.5). -/
def profileOf (s : State) (cls : Nat) : Option SleepProfile := (sleepProfiles (itemNow s 0x0B10)).find? fun p => p.cls == cls

/-- Any accepted frame of a meter ends LOST (R258). -/
def endLost (idx : Nat) (s : State) : State :=
  if s.lyre.rendezvous.any (fun v => v.idx == idx && v.lost) then
    onRendezvous idx (fun v => { v with lost := false, fullFails := 0 }) s
  else s

/-- The LTIME of a meter's last authenticated frame noted (LAST_CONTACT, Table LG.10). -/
def noteContact (f : RxFrame) (s : State) : State :=
  match sourceOf s f with
  | none => s
  | some (idx, _) => { s with meters := { s.meters with contact := insertNat idx f.rxTime s.meters.contact } }

/-- A frame passed R18: its counter is entered, it becomes an input of the stream (R349, kind 1), its sender a neighbour, its
source's route VALID, and it waits for its row. -/
def passFrame (f : RxFrame) (s : State) : State :=
  match sourceOf s f with
  | none => s
  | some (idx, r) =>
    let s := endLost idx (onModem f.net (Modem.accept (r.identity.take 8) f.ctr) s)
    let s := if isActive s then newInput 1 s else s
    let s := noteContact f s
    let s := hearNeighbour f s
    let s := if r.net.network == some f.net && r.net.state != .admitted then reachAgain f r.net.short s else s
    queueRx f s

/-- A frame taken from its queue by the row that handles it; one that came before the chip was active becomes an input now
(R349, R481). -/
def takeRx (f : RxFrame) (s : State) : Option State :=
  match (modemOf s f.net).rx.find? fun x => x.2 == f with
  | some x =>
    let s := onModem f.net (fun m => { m with rx := m.rx.erase x }) s
    some (if x.1 = 0 && isActive s then newInput 1 s else resumeInput x.1 s)
  | none => none

/-- Frames are processed once the first epoch of the start is open (R481). -/
def mayProcess (s : State) : Bool := inService s && (openEpoch s).isSome

/-- A frame's row: the frame is taken and handled with its source's record. -/
def onFrame (f : RxFrame) (s : State) (k : Nat → Rec → State → State) : State :=
  if !mayProcess s then s
  else match takeRx f s with
    | none => s
    | some s' =>
      match sourceOf s' f with
      | none => s'
      | some (idx, r) => k idx r s'

/-! ## Sending on air -/

/-- One step more robust on its ladder (R213). -/
def lessMod : Nat → Nat
  | 3 => 2
  | 2 => 1
  | 6 => 5
  | 5 => 4
  | _ => 0

/-- Modulation and tone map of a transmission toward a Zither neighbour (R218, R228): sends 1 and 2 use its map, send 3 one
step more robust on the same carriers, sends 4 and 5 ROBO on every carrier of the mask. -/
def plcMode (s : State) (n : Option Neighbour) (send : Nat) : Nat × Nat :=
  let mask := itemVal s 0x0A02
  match n with
  | none => (0, mask)
  | some n =>
    if n.toneMap = 0 || decide (send ≥ 4) then (0, mask)
    else
      let m := if n.moreRobust then lessMod n.mod else n.mod
      (if send = 3 then lessMod m else m, n.toneMap)

/-- Level of a transmission: TX_ATTEN_DB lowered further under R230, or TX_POWER_DBM. -/
def txLevel (s : State) (net : Net) : Int :=
  match net with
  | .plc => (itemVal s 0x0A03 + s.zither.attenExtra : Nat)
  | .rf => leInt (itemNow s 0x0B04) 0 1

/-- A frame goes on air toward a station. -/
def airFrame (f : TxFrame) (ctr hop send : Nat) (s : State) : State :=
  let m := match f.net with
    | .plc => plcMode s (neighbourOf s .plc hop) send
    | .rf => (startVal s 0x0B02, 0)
  emit (.field f ctr m.1 m.2 (txLevel s f.net)) s

/-- ROUTE of a unicast frame as it is sent (R234, R237): the route to the meter, or to the proxy of an extended address. -/
def routeNow (s : State) (f : TxFrame) : List Nat :=
  match f.dest with
  | .short a => if f.msg == .linkProbe then [a] else (routeTo s f.net a).hops
  | .eui e => if f.net == .plc then (lookupEui e s.zither.proxyRoutes).getD [] else []

/-- Whether a frame is flooded or broadcast, and so sent once without acknowledgement (R217, R251). -/
def TxFrame.floods (f : TxFrame) : Bool :=
  f.broadcast || (f.net == .rf && f.msg.cls == 1)

/-- A frame waits while its meter's route is REPAIRING (R235). -/
def frameWaits (s : State) (f : TxFrame) : Bool :=
  match f.dest with
  | .short a => !f.broadcast && f.msg != .linkProbe && (routeTo s f.net a).state == .repairing
  | .eui _ => false

/-- A frame to a meter whose route is UNREACHABLE cannot be sent (R235). -/
def frameLost (s : State) (f : TxFrame) : Bool :=
  match f.dest with
  | .short a => !f.broadcast && f.msg != .linkProbe && (routeTo s f.net a).state == .unreachable
  | .eui _ => false

/-- The frame to send next: strict priority, 3 highest, in queue order (R217). -/
def nextFrame (s : State) (net : Net) : Option TxFrame :=
  (((modemOf s net).queues.reverse.flatten).find? fun f => !frameWaits s f)

/-- A queued frame removed. -/
def dequeue (f : TxFrame) (s : State) : State :=
  onModem f.net (fun m => { m with queues := m.queues.modify f.priority (·.erase f) }) s

/-- The frame on air before was acknowledged: its neighbour's TX_FAIL returns to 0. -/
def airDone (net : Net) (s : State) : State :=
  let s := (modemOf s net).onAir.foldl (fun a o => onNeighbour net o.firstHop (fun n => { n with txFail := 0 }) a) s
  onModem net (fun m => { m with onAir := [] }) s

/-- A tone map request rides on a frame to a neighbour that owes one (R228). -/
def rideRequest (short : Nat) (s : State) : State :=
  match neighbourOf s .plc short with
  | none => s
  | some n =>
    if n.probeDue.isSome && (n.requestAt == 0 || decide (n.requestAt + secTicks 10 ≤ s.clk)) then
      emit (.toneMapRequest short) (onNeighbour .plc short (fun n => { n with
        requests := n.requests + 1
        requestAt := s.clk
        probeDue := none }) s)
    else s

end Sys2Proof.Machine
end

