-- ==== Sys2Proof/Machine/Sessions.lean ====
section
/-! DEFINITION. The session engine (04_meters_and_sessions R75 to R77, R82 to R89): sessions, requests and their timeouts,
read-backs, failures, retries, scheduled slots. -/

namespace Sys2Proof.Machine

/-! ## A record with its run-time parts -/

/-- A record with the counters and the contact time that the run has moved since its last group (R87, R222). -/
def liveRec (s : State) (idx : Nat) (r : Rec) : Rec :=
  let eui := r.identity.take 8
  { r with
    net := { r.net with
      invTx := (lookupNat idx s.meters.invTx).getD r.net.invTx
      frameCtr := max r.net.frameCtr (max (s.zither.highestOf eui) (s.rf.highestOf eui)) }
    clock := { r.clock with lastContact := (lookupNat idx s.meters.contact).getD r.clock.lastContact } }

/-- The own invocation counters go on at the committed value plus 65,536 after a reset of the main domains (R87). -/
def countersOn (s : State) : State :=
  { s with meters := { s.meters with
      invTx := (s.led.work.recs.filter fun e => e.2.segment == 0).map fun e => (e.1, e.2.net.invTx + 65536) } }

/-- What salvage mode lets a group change of a record (R121). -/
def salvageRec (was r : Rec) : Rec :=
  { was with
    net := { was.net with invTx := r.net.invTx, invRx := r.net.invRx, frameCtr := r.net.frameCtr }
    clock := { was.clock with lastContact := r.clock.lastContact, lastSuccess := r.clock.lastSuccess }
    place := { was.place with
      tariffSchedule := r.place.tariffSchedule
      tariffVersionMeter := r.place.tariffVersionMeter
      tariffPushedAt := r.place.tariffPushedAt
      relay := r.place.relay }
    counts := r.counts
    blockA := r.blockA
    blockB := r.blockB
    credit := r.credit
    orders := r.orders }

/-- A change of a meter's record in a group of its own, with its run-time parts. -/
def patchMeter (idx : Nat) (f : Rec → Rec) (evs : List EvRec) (s : State) : State :=
  match getRec s idx with
  | some r =>
    let r' := f (liveRec s idx r)
    append (.patch idx r (if inSalvage s then salvageRec r r' else r') :: evs.map .event) (some (recMh idx r)) s
  | none => s

/-! ## Sessions -/

/-- The session of a meter changed. -/
def onSession (idx : Nat) (f : Session → Session) (s : State) : State :=
  { s with meters := { s.meters with sessions := modifyFirst (fun x => x.idx == idx) f s.meters.sessions } }

/-- A session ends: its place and what its response left are freed (R83, R224). -/
def endSession (idx : Nat) (s : State) : State :=
  { s with
    meters := { s.meters with
      sessions := s.meters.sessions.filter fun x => x.idx != idx
      reassembly := s.meters.reassembly.filter fun x => x.idx != idx } }

/-- Field work may start (R28, R99): service, no warning standing, fewer than two epochs HELD. A standby goes by the active's
warning, which the stream gives (R349). -/
def mayExchange (s : State) : Bool :=
  inService s && !(if isStandby s then s.twin.activeHold else warned s) && decide (heldCount s < 2)

/-- A scheduled exchange of WHAT may start (R121, R274): in salvage mode none that would append interval data, and none while UNSET is
set. -/
def mayCollect (s : State) (what : Nat) : Bool := mayExchange s && !(inSalvage s && bitOf what 0) && !s.time.unset

/-- A sleepy meter listens now (R255). -/
def awake (s : State) (idx : Nat) : Bool :=
  s.lyre.rendezvous.any fun v => v.idx == idx && decide (s.clk ≤ v.awakeUntil)

/-- Whether the present request of a session is an order: a SET or an ACTION (R85, R89). -/
def Purpose.isOrder : Purpose → Bool
  | .collect _ _ => false
  | .dlms service _ _ _ _ => service != 0
  | .push => true
  | .relay _ => true
  | .campaign op => op != 0

/-- Hops on a meter's present route. -/
def hopsOf (s : State) (r : Rec) : Nat :=
  match r.net.network with
  | some net => (routeTo s net r.net.short).hops.length
  | none => 0

/-- Response timeout (R85). -/
def timeoutTicks (s : State) (r : Rec) : Nat :=
  match s.led.work.classOf r.cls with
  | some d => msTicks (d.timeoutBaseMs + hopsOf s r * d.timeoutHopMs)
  | none => 0

/-- A sleepy meter that listens goes on for AWAKE_MS after the last frame addressed to it (R255). -/
def stayAwake (idx : Nat) (r : Rec) (s : State) : State :=
  match profileOf s r.cls with
  | some p => if awake s idx then onRendezvous idx (fun v => { v with awakeUntil := max v.awakeUntil (s.clk + msTicks p.awakeMs) }) s else s
  | none => s

/-- One request goes to a meter under a new invocation counter (R85, R87). The APDU's bytes and its APDU_ID are the
implementation's own: free values (log entry 27). -/
def sendApdu (idx : Nat) (r : Rec) (prio : Nat) (s : State) : State :=
  let n := ((lookupNat idx s.meters.invTx).getD r.net.invTx) + 1
  let m : Msg := .dlmsSegment (Config.freeNat s.fresh % 65536) 0 1 (Config.freeBytes s.fresh)
  stayAwake idx r (sendTo r prio m (draw { s with meters := { s.meters with invTx := insertNat idx n s.meters.invTx } }))

/-- An order sent leaves its trace in the record (Tables LG.10, TB.15, R169, R162). -/
def Purpose.sent (p : Purpose) (t : LTime) (r : Rec) : Rec :=
  match p with
  | .relay _ =>
    { r with
      counts := { r.counts with orderNumber := r.counts.orderNumber + 1 }
      orders := { r.orders with attempts := min 255 (r.orders.attempts + 1), sentAt := t } }
  | .push =>
    { r with
      place := { r.place with tariffPushedAt := t }
      orders := { r.orders with pushState := 2, pushAttempts := min 7 (r.orders.pushAttempts + 1) } }
  | .campaign op =>
    if op = 3 then { r with place := { r.place with campaignState := 4 } }
    else if op = 4 then { r with place := { r.place with campaignState := 6 } }
    else r
  | _ => r

/-- The traces of an order that is sent now. -/
def noteOrder (x : Session) (s : State) : State :=
  match x.purpose with
  | .relay _ => patchMeter x.idx (x.purpose.sent (now s)) [] s
  | .push => patchMeter x.idx (x.purpose.sent (now s)) [] s
  | .campaign op => if op ≥ 3 then patchMeter x.idx (x.purpose.sent (now s)) [] s else s
  | _ => s

/-- A write that sets the meter's clock: attribute 2 of its clock object (R161). -/
def Purpose.setsClock (p : Purpose) : Bool :=
  match p with
  | .dlms service _ attr classId _ => service == 1 && classId == 8 && attr == 2
  | _ => false

/-- Whole seconds until the meter's clock is at least 30 s from the start of a slot (R161). -/
def clockWait (s : State) (r : Rec) : Nat :=
  let sec := s.led.work.slotSec r
  let m := ((((now s : Nat) : Int) + r.clock.offset).toNat / 65536) % sec
  if sec ≤ 60 then 0
  else if m < 30 then 30 - m
  else if sec < m + 30 then sec - m + 30
  else 0

/-- A transmission of the session's present request: the AARQ, the request, or a read-back; a request that sets a meter's
clock waits until the clock is clear of a slot's start (R161). -/
def sendRequest (idx : Nat) (s : State) : State :=
  match sessionOf s idx, getRec s idx with
  | some x, some r =>
    let hold := if x.associated && !x.awaitingReadBack && x.purpose.setsClock then clockWait s r else 0
    if hold ≠ 0 then
      onSession idx (fun x => { x with
        attempts := 0
        reqDeadline := s.clk + secTicks hold
        state := .requesting }) s
    else
    let s := if x.associated && !x.awaitingReadBack then noteOrder x s else s
    let s := onSession idx (fun x => { x with
      attempts := if x.awaitingReadBack then x.attempts else x.attempts + 1
      readTries := if x.awaitingReadBack then x.readTries + 1 else x.readTries
      reqDeadline := s.clk + timeoutTicks s r
      firstAt := if x.firstAt = 0 then now s else x.firstAt
      answered := x.answered && x.awaitingReadBack
      state := if x.associated then .requesting else .associating }) s
    sendApdu idx r x.priority s
  | _, _ => s

/-- The MH of a record index, where it is in use. -/
def mhOfIdx (s : State) (idx : Nat) : Option Nat := (getRec s idx).map (recMh idx)

/-- DATA of a field-work command (Table CI.13) as its session stands: VALUES, DLMS_RESULT, SENT or RELAY_STATE. -/
def Session.data (x : Session) (s : State) : Bytes :=
  match x.purpose with
  | .collect _ _ => putLe 4 x.appendedValues
  | .dlms _ _ _ _ _ => putLe 1 ((x.response.map (·.dlmsResult)).getD 0)
  | .push => putLe 4 1
  | .relay _ => putLe 1 (((getRec s x.idx).map (·.place.relay.code)).getD 0)
  | .campaign _ => []

/-- A field-work command completes with its final result, its audit record in the group that completes it (R487); where the
command is gone, what the exchange formed is appended alone. -/
def finishField (key : Nat × Nat) (mh : Option Nat) (items : List Item) (result : Nat) (data out : Bytes) (s : State) :
    State :=
  match inflightOf s key with
  | some f => finish f (.change items (auditParam f.cmd mh) result data out (if f.cmd.bufOut then out.length else f.cmd.bufLen) s) s
  | none => if items.isEmpty then s else append items mh s

/-- What an exchange formed goes to the ledger: with its command's audit record, or alone. -/
def finishExchange (x : Session) (items : List Item) (result : Nat) (data out : Bytes) (s : State) : State :=
  match x.cmd with
  | some key => finishField key (mhOfIdx s x.idx) items result data out s
  | none => if items.isEmpty then s else append items (mhOfIdx s x.idx) s

/-- A move to the other network ordered (R82): the class allows both, no success in the last 300 s, at most once in
3,600 s, not in salvage mode (R477). -/
def orderRejoin (idx : Nat) (s : State) : State :=
  match getRec s idx with
  | none => s
  | some r =>
    match r.net.network, s.led.work.classOf r.cls with
    | some net, some d =>
      let last := lookupNat idx s.meters.rejoinAt
      let late := match last with
        | some t => decide (t + secTicks 3600 ≤ s.clk)
        | none => true
      let quiet := r.clock.lastSuccess = 0 || decide (r.clock.lastSuccess + ltSec 300 < now s)
      if d.plc && d.rf && r.net.state == .joined && late && quiet && !inSalvage s then
        sendEui (otherNet net) (r.identity.take 8) (.rejoinOrder (otherNet net))
          { s with meters := { s.meters with rejoinAt := insertNat idx s.clk s.meters.rejoinAt } }
      else s
    | _, _ => s

/-- A failed scheduled exchange waits for its retry (R76). -/
def addRetry (x : Session) (what : Nat) (deadlineS : Nat) (s : State) : State :=
  if x.scheduled && decide (x.retriesLeft > 0) then
    { s with
      meters := { s.meters with
        retries := s.meters.retries ++ [⟨⟨x.idx, x.entries, what, x.priority, x.retriesLeft - 1, x.retryGapS, deadlineS,
          x.nextSlot⟩, s.clk + secTicks x.retryGapS⟩] } }
  else s

/-- WHAT of a session. -/
def Purpose.what : Purpose → Nat
  | .collect w _ => w
  | _ => 0

/-- Whole seconds of a span of ticks. -/
def ticksSec (n : Nat) : Nat := n / 250000000

/-- A relay command whose order got no response is not finished before its deadline: the order stays pending and the meter's
next slot retries it (R170, Table TB.17). -/
def Session.keepsCmd (x : Session) (result clk : Nat) : Bool :=
  match x.purpose with
  | .relay _ => x.cmd.isSome && result == 0x0601 && decide (clk < x.deadline)
  | _ => false

/-- A session ends FAILED with a result of Table MS.7. -/
def failSession (idx result : Nat) (s : State) : State :=
  match sessionOf s idx with
  | none => s
  | some x =>
    let s := endSession idx s
    let s := if result = 0x0402 then securityFail idx true ((getRec s idx).bind (·.net.network)) s else s
    let s := patchMeter idx (fun r => { r with counts := { r.counts with exchangesFailed := r.counts.exchangesFailed + 1 } }) [] s
    let s := if x.keepsCmd result s.clk then s else finishExchange x [] result (x.data s) [] s
    let s := addRetry x x.purpose.what (ticksSec (x.deadline - x.startedAt)) s
    if result = 0x0603 then orderRejoin idx s else s

/-- A request may go now: the meter joined, its route not UNREACHABLE (R235). -/
def reachable (s : State) (r : Rec) : Bool :=
  match r.net.network with
  | some net => r.net.state == .joined && (routeTo s net r.net.short).state != .unreachable
  | none => false

/-- A session goes on from PENDING: its first request is sent, unless its meter sleeps; without a route it fails. -/
def proceed (idx : Nat) (s : State) : State :=
  match getRec s idx with
  | none => endSession idx s
  | some r =>
    if r.sleepy && !awake s idx then s
    else if reachable s r then sendRequest idx s
    else failSession idx 0x0603 s

/-- A session with nothing done yet. -/
def mkSession (s : State) (idx : Nat) (p : Purpose) (prio deadline : Nat) (cmd : Option (Nat × Nat)) : Session :=
  { idx := idx, state := .pending, associated := false, purpose := p, scheduled := false, priority := prio,
    entries := [], retriesLeft := 0, retryGapS := 0, nextSlot := 0, cmd := cmd, deadline := deadline,
    reqDeadline := 0, attempts := 0, readTries := 0, awaitingReadBack := false, answered := false, disagreed := false,
    startedAt := s.clk, firstAt := 0, appendedValues := 0, rxTime := 0, seq := 0, response := none, result := 0 }

/-- A session opens. -/
def openSession (x : Session) (s : State) : State :=
  proceed x.idx { s with meters := { s.meters with sessions := s.meters.sessions ++ [x] } }

/-- A session that a command starts (R83): at once any free place; 0x0302 when all 1,024 are in use. While a warning stands
it waits (R28); a group that the ledger would refuse refuses it. -/
def startField (c : Cmd) (idx : Nat) (p : Purpose) (prio : Nat) (s : State) : Answer :=
  match inflightOf s (c.ring, c.tag) with
  | none => .hold
  | some f =>
    if heldCount s ≥ 2 then no 0x0501
    else if inSalvage s && bitOf p.what 0 then no 0x0503
    else if !mayExchange s then .hold
    else if s.meters.sessions.length ≥ 1024 then no 0x0302
    else .wait (openSession (mkSession s idx p prio (f.takenAt + secTicks (cmdDeadline c)) (some (c.ring, c.tag))) s)

/-! ## Responses -/

/-- A segment of a response joined (R224): a repeated INDEX is dropped. Answers whether the APDU is whole. -/
def addSegment (idx apduId index count : Nat) (b : Bytes) (due : Nat) (s : State) : State × Bool :=
  let old := s.meters.reassembly.find? fun x => x.idx == idx && x.apduId == apduId
  let x := old.getD ⟨idx, apduId, count, [], due⟩
  let x := if index ≥ x.count then x else { x with held := (if (lookupNat index x.held).isSome then x.held else insertNat index b x.held) }
  let rest := s.meters.reassembly.filter fun y => !(y.idx == idx && y.apduId == apduId)
  if x.held.length ≥ x.count then ({ s with meters := { s.meters with reassembly := rest } }, true)
  else ({ s with meters := { s.meters with reassembly := rest ++ [x] } }, false)

/-- DLMS_SEGMENT_RECEIVED (R224): a whole APDU goes to a cipher engine and the session to DECRYPTING. -/
def opDlmsSegment (f : RxFrame) (s : State) : State :=
  match f.msg with
  | .dlmsSegment a i n b =>
    onFrame f s fun idx _ s =>
      match sessionOf s idx with
      | none => s
      | some x =>
        if !(x.state == .associating || x.state == .requesting) then s
        else
          let p := addSegment idx a i n b x.reqDeadline s
          if p.2 then onSession idx (fun x => { x with state := .decrypting, rxTime := f.rxTime, seq := s.twin.curSeq }) p.1 else p.1
  | _ => s

/-- Two parts of one exchange's data as one (R86: block transfer, and the requests of one exchange). -/
def joinResponse (a : Option Response) (b : Response) : Response :=
  match a with
  | none => b
  | some a =>
    { b with
      values := a.values ++ b.values
      regs := a.regs ++ b.regs
      events := a.events ++ b.events
      steps := a.steps ++ b.steps
      outages := a.outages ++ b.outages
      clock := b.clock.orElse fun _ => a.clock
      hundredths := if b.clock.isSome then b.hundredths else a.hundredths
      clockValid := if b.clock.isSome then b.clockValid else a.clockValid
      rxTime := if b.clock.isSome then b.rxTime else a.rxTime
      hopDelay := if b.clock.isSome then b.hopDelay else a.hopDelay
      dlmsData := a.dlmsData ++ b.dlmsData
      feedback := b.feedback.orElse fun _ => a.feedback
      image := b.image.orElse fun _ => a.image
      pushName := b.pushName.orElse fun _ => a.pushName }

/-- The association is in: the first request follows. An order that may have been sent before, and one on a relay never
read, begin with a read-back (R89, Table TB.17). -/
def associated (idx : Nat) (s : State) : State :=
  let back := match (sessionOf s idx).map (·.purpose), getRec s idx with
    | some (.relay _), some r => r.place.relay == .unknown || r.orders.attempts != 0
    | some .push, some r => r.orders.pushAttempts != 0
    | some (.campaign op), _ => op != 0
    | _, _ => false
  sendRequest idx (onSession idx (fun x => { x with associated := true, attempts := 0, awaitingReadBack := back, response := none }) s)

/-- CIPHER_JOB_COMPLETE (R20, R85, R87): a set authentication flag ends the exchange with a security finding; a repeated
counter is dropped; the AARE lets the requests begin; a whole response goes to PROCESSING, another part is asked for. -/
def opCipherDone (d : CipherDone) (s : State) : State :=
  match sessionOf s d.idx, getRec s d.idx with
  | some x, some r =>
    if x.state != .decrypting then s
    else
    let s := resumeInput x.seq s
    if d.job.authFail then failSession d.idx 0x0402 s
    else if d.job.result != 0 then failSession d.idx d.job.result s
    else if d.response.invCtr ≤ max r.net.invRx ((x.response.map (·.invCtr)).getD 0) then
      onSession d.idx (fun x => { x with state := if x.associated then .requesting else .associating }) s
    else if !x.associated then
      if d.response.dlmsResult != 0 then failSession d.idx 0x0602 s
      else associated d.idx (onSession d.idx (fun x => { x with response := some d.response }) s)
    else
      let rsp := joinResponse x.response d.response
      let s := onSession d.idx (fun x => { x with response := some rsp }) s
      if d.response.more && d.response.dlmsResult == 0 then
        sendRequest d.idx (onSession d.idx (fun x => { x with attempts := 0 }) s)
      else onSession d.idx (fun x => { x with state := .processing }) s
  | _, _ => s

/-! ## Timeouts -/

/-- RESPONSE_TIMEOUT (R85, R89): the partial response is discarded; a GET is sent again up to three times, an order after a
read-back; then the session fails. -/
def opResponseTimeout (idx : Nat) (s : State) : State :=
  match sessionOf s idx with
  | none => s
  | some x =>
    if !(x.state == .associating || x.state == .requesting) || x.disagreed || decide (s.clk < x.reqDeadline) then s
    else
      let s := { s with meters := { s.meters with reassembly := s.meters.reassembly.filter fun y => y.idx != idx } }
      let s := timerInput s
      if x.awaitingReadBack then
        if x.readTries < 3 then sendRequest idx s else failSession idx 0x0601 s
      else if x.associated && x.purpose.isOrder && x.attempts != 0 then
        sendRequest idx (onSession idx (fun x => { x with awaitingReadBack := true, readTries := 0 }) s)
      else if x.attempts < 3 then sendRequest idx s
      else failSession idx 0x0601 s

/-- SESSION_DEADLINE (R85). -/
def opSessionDeadline (idx : Nat) (s : State) : State :=
  match sessionOf s idx with
  | none => s
  | some x =>
    if decide (s.clk < x.deadline) || x.state == .processing then s
    else failSession idx 0x0601 (timerInput s)

/-! ## Scheduled slots (R75, R76, R83, R84) -/

/-- Offset of a meter's slot in its period, in LTIME units (R75). -/
def slotOffset (idx spreadS : Nat) : LTime :=
  let h := (idx * 40503) % 65536
  (h * spreadS * 1000 / 65536) * 65536 / 1000

/-- The latest slot of an entry at or before an instant (R75). -/
def SchedEntry.slotAt (e : SchedEntry) (idx : Nat) (x : LTime) : Option LTime :=
  let first := e.anchor + slotOffset idx e.spreadS
  if x < first then none else some (first + (x - first) / (e.periodS * 65536) * (e.periodS * 65536))

/-- The slot of an entry last taken for a meter; before any, the later of its admission and the table's load. -/
def slotTaken (s : State) (idx k : Nat) (r : Rec) : LTime :=
  match s.meters.slots.find? fun e => e.1 == (idx, k) with
  | some e => e.2
  | none => max r.clock.admittedAt ((s.led.work.tables.sched.inForce.head?.map (·.1)).getD 0)

/-- Entries that serve a class, with their numbers. -/
def entriesOf (s : State) (cls : Nat) : List (Nat × SchedEntry) :=
  match s.led.work.tables.sched.now with
  | none => []
  | some t => ((t.entries.zipIdx).filter fun e => e.1.cls == cls || e.1.cls == 0xFFFF).map fun e => (e.2, e.1)

/-- The entries whose slot of a meter is due, with the slot. -/
def slotsDue (s : State) (idx : Nat) (r : Rec) : List (Nat × SchedEntry × LTime) :=
  (entriesOf s r.cls).filterMap fun e =>
    match e.2.slotAt idx (now s) with
    | some x => if x > slotTaken s idx e.1 r then some (e.1, e.2, x) else none
    | none => none

/-- The largest of a list of numbers. -/
def maxNat (l : List Nat) : Nat := l.foldl max 0

/-- The smallest of a list of numbers; 0 for none. -/
def minNat : List Nat → Nat
  | [] => 0
  | x :: xs => xs.foldl min x

/-- Slots of one second merged into one exchange (R76); its next slot is the first next slot of any of them. -/
def mergedSlot (idx : Nat) (es : List (Nat × SchedEntry × LTime)) : PendingSlot :=
  { idx := idx, entries := es.map (·.1), what := es.foldl (fun a e => a ||| e.2.1.what) 0,
    priority := maxNat (es.map (·.2.1.priority)), retriesLeft := maxNat (es.map (·.2.1.retries)),
    retryGapS := minNat (es.map (·.2.1.retryGapS)), deadlineS := maxNat (es.map (·.2.1.deadlineS)),
    nextSlot := minNat (es.map fun e => e.2.2 + e.2.1.periodS * 65536) }

/-- Sessions that scheduled exchanges use. -/
def scheduledUsed (s : State) : Nat := (s.meters.sessions.filter (·.scheduled)).length

/-- A scheduled exchange's session opens (R83); FROM 0 asks from the end of the last stored interval (R76). -/
def openSlot (p : PendingSlot) (s : State) : State :=
  openSession { mkSession s p.idx (.collect p.what 0) p.priority (s.clk + secTicks p.deadlineS) none with
    scheduled := true
    entries := p.entries
    retriesLeft := p.retriesLeft
    retryGapS := p.retryGapS
    nextSlot := p.nextSlot } s

/-- A place for a scheduled exchange is free (R83). -/
def slotPlace (s : State) : Bool := decide (scheduledUsed s < 960) && decide (s.meters.sessions.length < 1024)

/-- A slot waits for a place or for the meter's running session: one entry a meter; the one it finds is dropped and counted
where it is of the same entry, else both go as one (R83, R84). -/
def deferSlot (p : PendingSlot) (s : State) : State :=
  let old := s.meters.waiting.find? fun w => w.idx == p.idx
  let rest := s.meters.waiting.filter fun w => w.idx != p.idx
  match old with
  | none => { s with meters := { s.meters with waiting := rest ++ [p] } }
  | some w =>
    if w.entries.any p.entries.contains then
      { s with meters := { s.meters with waiting := rest ++ [p], droppedSlots := inc64 s.meters.droppedSlots } }
    else
      { s with
        meters := { s.meters with
          waiting := rest ++ [{ p with
            entries := w.entries ++ p.entries
            what := w.what ||| p.what
            priority := max w.priority p.priority
            retriesLeft := max w.retriesLeft p.retriesLeft
            retryGapS := min w.retryGapS p.retryGapS
            deadlineS := max w.deadlineS p.deadlineS
            nextSlot := min w.nextSlot p.nextSlot }] } }

/-- A slot starts its exchange, or waits. -/
def startSlot (p : PendingSlot) (s : State) : State :=
  if (sessionOf s p.idx).isSome || !slotPlace s then deferSlot p s else openSlot p s

/-- Slots taken. -/
def takeSlots (idx : Nat) (es : List (Nat × SchedEntry × LTime)) (s : State) : State :=
  { s with
    meters := { s.meters with
      slots := (s.meters.slots.filter fun x => !(es.any fun e => x.1 == (idx, e.1))) ++
        es.map fun e => ((idx, e.1), e.2.2) } }

/-- SCHEDULED_SLOT (R75, R76): the slot of an entry is due; the slots of the same second go with it. Stateless-only meters
are never asked (R252). -/
def opScheduledSlot (idx entry : Nat) (s : State) : State :=
  match getRec s idx with
  | none => s
  | some r =>
    let due := slotsDue s idx r
    let stateless := ((s.led.work.classOf r.cls).map (·.stateless)).getD true
    match due.find? fun e => e.1 == entry with
    | none => s
    | some e =>
      let es := due.filter fun x => x.2.2 / 65536 == e.2.2 / 65536
      let p := mergedSlot idx es
      if r.segment != 0 || stateless || !mayCollect s p.what then s
      else startSlot p (takeSlots idx es (timerInput s))

/-- PENDING_SLOT_START (R83, R84): dropped and counted once the meter's next slot has come. -/
def opPendingSlot (idx : Nat) (s : State) : State :=
  match s.meters.waiting.find? fun w => w.idx == idx with
  | none => s
  | some p =>
    let s' := { s with meters := { s.meters with waiting := s.meters.waiting.filter fun w => w.idx != idx } }
    if p.nextSlot ≤ now s then { s' with meters := { s'.meters with droppedSlots := inc64 s'.meters.droppedSlots } }
    else if (sessionOf s idx).isSome || !slotPlace s || !mayCollect s p.what then s
    else openSlot p s'

/-- RETRY_GAP_EXPIRY (R76): the exchange starts again, or is abandoned at or after the meter's next slot. -/
def opRetryGap (idx : Nat) (s : State) : State :=
  match s.meters.retries.find? fun x => x.slot.idx == idx && decide (x.due ≤ s.clk) with
  | none => s
  | some x =>
    let s' := { s with meters := { s.meters with retries := s.meters.retries.erase x } }
    if x.slot.nextSlot ≤ now s then s'
    else if !mayCollect s x.slot.what then s
    else startSlot x.slot (if isActive s then newInput 6 s' else s')

/-- METER_SILENT (R77): once in each silence. -/
def opMeterSilent (idx : Nat) (s : State) : State :=
  match getRec s idx with
  | none => s
  | some r =>
    let since := if r.clock.lastSuccess = 0 then r.clock.admittedAt else r.clock.lastSuccess
    let limit := ((s.led.work.classOf r.cls).map (·.silentLimitS)).getD 0
    if r.segment != 0 || limit = 0 || decide (now s < since + ltSec limit) || s.meters.silent.contains (idx, since) ||
      !inService s then s
    else
      let s := timerInput s
      let contact := (lookupNat idx s.meters.contact).getD r.clock.lastContact
      raiseEv (mkNetEv s 0x0105 (putLe 8 contact) (some (recMh idx r)) r.net.network)
        { s with meters := { s.meters with silent := (s.meters.silent.filter fun x => x.1 != idx) ++ [(idx, since)] } }

/-- DATA of a relay command (R170): RELAY_STATE at completion. -/
def relayData (c : Cmd) (s : State) : Bytes :=
  if c.opcode = 0x0604 || c.opcode = 0x0605 then
    match s.led.work.recOf (c.p 0x20 4) with
    | some (_, r) => putLe 1 r.place.relay.code
    | none => []
  else []

/-- The order of a relay command is placed in its meter's orders area (Table TB.15). -/
def orderPlaced (c : Cmd) (s : State) : Bool :=
  (c.opcode == 0x0604 || c.opcode == 0x0605) &&
    match s.led.work.recOf (c.p 0x20 4) with
    | some (_, r) => r.orders.pending != 0 && r.orders.reason == 1 && r.orders.orderTag == c.tag
    | none => false

/-- COMMAND_DEADLINE_EXPIRY (R84, R170): a field-work command still waiting for its meter or its relay reaches its
DEADLINE. Where its field work never started it leaves no audit record (R487). -/
def opCommandDeadline (ring tag : Nat) (s : State) : State :=
  match inflightOf s (ring, tag) with
  | none => s
  | some f =>
    let fieldWork := [0x0206, 0x0207, 0x0504, 0x0604, 0x0605].contains f.cmd.opcode
    if fieldWork && f.started && f.forwardedTo.isNone && !servesCmd s f.cmd &&
      decide (f.takenAt + secTicks (cmdDeadline f.cmd) ≤ s.clk) then
      if orderPlaced f.cmd s then finishField (ring, tag) (cmdMh f.cmd) [] 0x0601 (relayData f.cmd s) [] s
      else finish f (.refuse 0x0601 (relayData f.cmd s)) s
    else s

/-- The requests of the sessions whose meter's route has become UNREACHABLE end with 0x0603 (R235). -/
def failUnreachable (net : Net) (short : Nat) (s : State) : State :=
  match s.led.work.byShort net short with
  | none => s
  | some (idx, _) =>
    match sessionOf s idx with
    | none => s
    | some x => if x.state == .associating || x.state == .requesting then failSession idx 0x0603 s else s

/-- SCHEDULED_SLOT (R75). -/
def execScheduledSlot (idx entry : Nat) (s : State) : Host.Outcome State Fault Refusal := .next (onTimer (opScheduledSlot idx entry) s)

/-- PENDING_SLOT_START (R83). -/
def execPendingSlotStart (idx : Nat) (s : State) : Host.Outcome State Fault Refusal := .next (onTimer (opPendingSlot idx) s)

/-- RESPONSE_TIMEOUT (R85). -/
def execResponseTimeout (idx : Nat) (s : State) : Host.Outcome State Fault Refusal := .next (onTimer (opResponseTimeout idx) s)

/-- SESSION_DEADLINE (R85). -/
def execSessionDeadline (idx : Nat) (s : State) : Host.Outcome State Fault Refusal := .next (onTimer (opSessionDeadline idx) s)

/-- RETRY_GAP_EXPIRY (R76). -/
def execRetryGapExpiry (idx : Nat) (s : State) : Host.Outcome State Fault Refusal := .next (onTimer (opRetryGap idx) s)

/-- METER_SILENT (R77). -/
def execMeterSilent (idx : Nat) (s : State) : Host.Outcome State Fault Refusal := .next (onTimer (opMeterSilent idx) s)

/-- DLMS_SEGMENT_RECEIVED (R224). -/
def execDlmsSegmentReceived (f : RxFrame) (s : State) : Host.Outcome State Fault Refusal := .next (opDlmsSegment f s)

/-- COMMAND_DEADLINE_EXPIRY (R84). -/
def execCommandDeadlineExpiry (ring tag : Nat) (s : State) : Host.Outcome State Fault Refusal :=
  .next (onTimer (opCommandDeadline ring tag) s)

end Sys2Proof.Machine
end

