-- ==== Sys2Proof/Machine/KeyTree.lean ====
section
/-! DEFINITION. The key tree as the field uses it (R296 to R299, Table KC.4): masters, generations, a meter's keys, the
broadcast key; and the clock sample of an exchange (R281, R282). -/

namespace Sys2Proof.Machine

/-- A key slot. -/
def slotOf (s : State) (n : Nat) : Option Slot := s.keys.slots.find? fun k => k.num == n

/-- The value a slot's operations use (R303); none where the slot holds no usable key. -/
def slotValue (s : State) (n : Nat) : Option Bytes :=
  match slotOf s n with
  | some k =>
    match k.state with
    | .active => some k.key.value
    | .replacing => some k.key.value
    | .pending => some k.key.value
    | .verified => k.pendingKey.map (·.value)
    | .empty => none
    | .unavailable => none
  | none => none

/-- The generation under which a class's meter is sent to (R299): that of its last accepted frame while a previous one is
named, PREV_GEN until one is known. -/
def masterFor (s : State) (idx : Nat) (r : Rec) : Option (Nat × Nat) :=
  match (masterEntries (itemNow s 0x0D02)).find? fun e => e.1 == r.cls with
  | none => none
  | some e =>
    if e.2.2.2.1 = 0 || lookupNat idx s.keys.genSeen == some e.2.2.1 then some (e.2.1, e.2.2.1)
    else some (e.2.2.2.1, e.2.2.2.2)

/-- Length in bytes of a class's DLMS keys (R297). -/
def suiteLen (s : State) (cls : Nat) : Nat :=
  if ((s.led.work.classOf cls).map (·.suite)).getD 0 = 2 then 32 else 16

/-- MK of a meter under a master and generation (Table KC.4). -/
def mkUnder (s : State) (r : Rec) (m g : Nat) : Option Bytes :=
  (slotValue s m).map fun k =>
    Config.derive k ([0x4D, BitVec.ofNat 8 g] ++ (r.identity.drop 8).take 8 ++ r.identity.take 8) 32

/-- MK of a meter with KEYSRC 0 (Table KC.4). -/
def meterKey (s : State) (idx : Nat) (r : Rec) : Option Bytes :=
  match masterFor s idx r with
  | none => none
  | some (m, g) => mkUnder s r m g

/-- The key data of global_key_transfer: K_GUEK and K_AK of GEN, each wrapped under the K_KEK of the generation the meter uses
now; a meter with KEYSRC 1 has no K_KEK (R298, R299). -/
def keyTransfer (s : State) (idx : Nat) (r : Rec) : Bytes :=
  let n := suiteLen s r.cls
  let new := ((masterEntries (itemNow s 0x0D02)).find? fun e => e.1 == r.cls).bind fun e => mkUnder s r e.2.1 e.2.2.1
  match if r.keySrc = 1 then none else meterKey s idx r, new with
  | some old, some mk =>
    let kek := Config.derive old [0x4B, 0x4D] n
    Config.wrap kek (Config.derive mk [0x4B, 0x45] n) ++ Config.wrap kek (Config.derive mk [0x4B, 0x41] n)
  | _, _ => []

/-- The slot on which a meter's keys rest (R297, R298). -/
def keySlot (s : State) (idx : Nat) (r : Rec) : Nat := if r.keySrc = 1 then 8 else ((masterFor s idx r).map (·.1)).getD 0

/-- What a type 5 blob of FORM 0 holds under slot 9 (R298): K_GUEK and K_AK. -/
def unwrapMeter (s : State) (blob : Bytes) : Option Bytes :=
  match slotValue s 9 with
  | some k => Config.unwrap k ((blob.drop 8).take 40)
  | none => none

/-- K_AK of a meter (Table KC.4, R298). -/
def meterAk (s : State) (idx : Nat) (r : Rec) : Option Bytes :=
  if r.keySrc = 1 then (unwrapMeter s r.wrappedKey).map (·.drop 16)
  else (meterKey s idx r).map fun k => Config.derive k [0x4B, 0x41] (suiteLen s r.cls)

/-- NK, the network unicast key (Table KC.4). -/
def meterNk (s : State) (idx : Nat) (r : Rec) : Option Bytes := (meterAk s idx r).map fun k => Config.derive k [0x5A, 0x4E] 16

/-- The broadcast key of an index (Table KC.4). -/
def bcastKey (s : State) (b : Nat) : Option Bytes :=
  (slotValue s (le (itemNow s 0x0D02) 4 1)).map fun k => Config.derive k [0x42, BitVec.ofNat 8 b] 16

/-- BKEY of a JOIN_ACCEPT: the current broadcast key wrapped under the meter's key (Table MS.4). -/
def wrappedBkey (s : State) (idx : Nat) (r : Rec) : Bytes :=
  match meterNk s idx r, bcastKey s (bkeyIndex s) with
  | some nk, some b => Config.wrap nk b
  | _, _ => []

/-! ## Clock samples -/

/-- The offset of a meter's clock at a frame: o = t_m − (T_rx − d), saturating at ±2^31 (R281). -/
def clockSample (tm rx d : Nat) : Int := clampInt (minSigned 32) (maxSigned 32) ((tm : Int) - ((rx : Int) - d))

/-- DRIFT_PPB after a sample (R282): the pair before it, shifted by the clock steps between; the first accepted sample is
taken whole, each later one by a quarter, within ±200,000 (log entry 29). -/
def driftAfter (c : RecClock) (o : Int) (rx : LTime) (steps : Int) : Int :=
  let den := rx - c.offsetAt
  if c.offsetAt = 0 || den < ltSec 3600 then c.driftPpb
  else
    let num := (o - (c.offset + steps)) * 1000000000
    if num > 500000 * (den : Int) || num < -(500000 * (den : Int)) then c.driftPpb
    else if c.driftPpb = 0 then roundDiv num den
    else clampInt (-200000) 200000 (c.driftPpb + roundDiv (num - c.driftPpb * den) (4 * den))

/-- A record with a new clock sample (R281, R282); `fine` is clear where a field had unspecified hundredths. -/
def Rec.sampled (o : Int) (rx : LTime) (fine : Bool) (steps : Int) (r : Rec) : Rec :=
  { r with
    clock := { r.clock with
      driftPpb := if fine then driftAfter r.clock o rx steps else r.clock.driftPpb
      offset := o
      offsetAt := rx } }

/-- The steps of a meter's clock-adjustment records between two instants. -/
def LState.stepsOf (l : LState) (mh : Nat) (a b : LTime) : Int :=
  ((l.clockAdjs.filter fun x => x.2.mh == some mh && decide (a < x.2.at_) && decide (x.2.at_ ≤ b)).map (·.2.step)).sum

/-- The sample of a meter's LTIME in a stateless frame or a WAKE_ACK (R281); none kept in salvage mode (R121). -/
def sampleFrame (idx : Nat) (tm : LTime) (f : RxFrame) (s : State) (r : Rec) : Rec :=
  if inSalvage s then r
  else
    let d := if f.net == .rf && f.msg.cls == 1 then 0 else f.hopDelay
    let fine := !s.meters.coarse.contains idx
    r.sampled (clockSample tm f.rxTime d) f.rxTime fine
      (s.led.work.stepsOf (recMh idx r) r.clock.offsetAt f.rxTime)

/-- A meter's last clock sample had its hundredths; for a sleepy meter, Q of that sample: FLOOD_TTL × FLOOD_WINDOW_MS on a flooded
frame, 0 on a routed exchange (R256). -/
def noteFine (idx : Nat) (fine flooded : Bool) (s : State) : State :=
  let rest := s.meters.coarse.filter (· != idx)
  let q := if flooded then itemVal s 0x0B06 * itemVal s 0x0B07 else 0
  let s := if ((getRec s idx).map (·.sleepy)).getD false then onRendezvous idx (fun v => { v with qKnown := true, qMs := q }) s else s
  { s with meters := { s.meters with coarse := if fine then rest else rest ++ [idx] } }

end Sys2Proof.Machine
end

