-- ==== Sys2Proof/Machine/Joining.lean ====
section
/-! DEFINITION. Joining a field network (R78 to R82), and the stateless LAST_GASP and ALARM (R88, R250, R477). -/

namespace Sys2Proof.Machine

/-! ## Addresses -/

/-- Short addresses in use on a network. -/
def shortsUsed (s : State) (net : Net) : List Nat :=
  (s.led.work.recs.filter fun e => e.2.segment == 0 && e.2.net.network == some net && e.2.net.state != .admitted).map
    (·.2.net.short)

/-- Short addresses in quarantine on a network (R81). -/
def shortsQuarantined (s : State) (net : Net) : List Nat :=
  (s.meters.quarantine.filter fun q => q.net == net).map (·.short)

/-- The lowest address from `a` on, within a count, that a test admits. -/
def lowestFrom (ok : Nat → Bool) : Nat → Nat → Option Nat
  | 0, _ => none
  | n + 1, a => if ok a then some a else lowestFrom ok n (a + 1)

/-- Meters that count against the 4,096 of R81: those joined or joining, and those of stateless-only classes. -/
def fieldMeters (s : State) : Nat :=
  (s.led.work.recs.filter fun e => e.2.segment == 0 &&
    (e.2.net.state != .admitted || ((s.led.work.classOf e.2.cls).map (·.stateless)).getD false)).length

/-- The address a joining meter gets (R81): PREV_SHORT when free, else the lowest free one; none where none is left. -/
def assignShort (s : State) (net : Net) (prev : Nat) (counted : Bool) : Option Nat :=
  let used := shortsUsed s net ++ shortsQuarantined s net
  let free := fun a => !used.contains a
  if !counted && decide (fieldMeters s ≥ 4096) then none
  else if prev ≠ 0 && decide (prev ≤ 0x0FFF) && free prev then some prev
  else lowestFrom free 0x0FFF 1

/-- An address enters quarantine for 600 s (R81). -/
def toQuarantine (net : Net) (short : Nat) (s : State) : State :=
  if short = 0 then s
  else
    { s with
      meters := { s.meters with
        quarantine := (s.meters.quarantine.filter fun q => !(q.net == net && q.short == short)) ++
          [⟨net, short, s.clk + secTicks 600⟩] } }

/-- A class may use a network. -/
def ClassDesc.allows (d : ClassDesc) : Net → Bool
  | .plc => d.plc
  | .rf => d.rf

/-- A network is permitted to a record (R71, R80): its class allows it, and so does the NETWORK of its admission while it
stays ADMITTED (log entry 30). -/
def permitted (s : State) (r : Rec) (net : Net) : Bool :=
  ((s.led.work.classOf r.cls).map fun d => d.allows net && !d.stateless).getD false &&
    !(r.net.state == .admitted && r.net.network == some (otherNet net))

/-! ## Joins -/

/-- The join in progress of a meter. -/
def joinOf (s : State) (idx : Nat) : Option Join := s.meters.joins.find? fun j => j.idx == idx

/-- A join in progress set. -/
def setJoin (j : Join) (s : State) : State :=
  { s with meters := { s.meters with joins := (s.meters.joins.filter fun x => x.idx != j.idx) ++ [j] } }

/-- A join in progress ended. -/
def endJoin (idx : Nat) (s : State) : State :=
  { s with meters := { s.meters with joins := s.meters.joins.filter fun x => x.idx != idx } }

/-- JOIN_ACCEPT with the record's SHORT, NETWORK and JOIN_ID (Table MS.4). -/
def sendAccept (idx : Nat) (s : State) : State :=
  match getRec s idx with
  | none => s
  | some r =>
    match r.net.network with
    | none => s
    | some net =>
      sendEui net (r.identity.take 8) (.joinAccept r.net.short net (bkeyIndex s) (wrappedBkey s idx r) r.net.joinId) s

/-- The next JOIN_ID of a record (log entry 28). -/
def nextJoinId (r : Rec) : Nat := (r.net.joinId + 1) % 2 ^ 32

/-- The way back to a meter through its join proxy (R237): empty when the request was heard directly. -/
def proxyRoute (s : State) (f : RxFrame) : List Nat :=
  match f.proxy with
  | some p => (routeTo s f.net p).hops
  | none => []

/-- A record moves to JOINING on a network with an address (Table MS.5). -/
def toJoining (idx : Nat) (net : Net) (short : Nat) (moved : Bool) (s : State) : State :=
  let s := patchMeter idx (fun r => { r with net := { r.net with
    state := .joining, network := some net, short := short, joinId := nextJoinId r } }) [] s
  sendAccept idx (setJoin ⟨idx, 1, s.clk, moved, false⟩ s)

/-- The meter's session fails because it rejoins (Table MS.7). -/
def failRejoined (idx : Nat) (s : State) : State := if (sessionOf s idx).isSome then failSession idx 0x0601 s else s

/-- The route of an address that left its meter is forgotten. -/
def dropRoute (net : Net) (short : Nat) (s : State) : State :=
  onModem net (fun m => { m with routes := m.routes.filter fun r => r.short != short }) s

/-- JOIN_REFUSE (Table MS.5): 1 network not permitted, 2 no short address. -/
def refuseJoin (r : Rec) (net : Net) (cause : Nat) (s : State) : State := sendEui net (r.identity.take 8) (.joinRefuse cause) s

/-- A JOIN_REQUEST that gets no answer (R477, R486). -/
def joinIgnored (s : State) : State :=
  { s with meters := { s.meters with unansweredJoins := inc64 s.meters.unansweredJoins } }

/-- A JOIN_REQUEST of an identity without a record (R79): counted, the 64 most recent distinct identities kept. -/
def unknownJoin (identity : Bytes) (t : LTime) (s : State) : State :=
  { s with
    meters := { s.meters with
      unknownJoinCount := inc64 s.meters.unknownJoinCount
      unknownJoins := lastN 64 ((s.meters.unknownJoins.filter fun x => x.1 != identity) ++ [(identity, t)]) } }

/-- A request of a record on a network (Table MS.5). -/
def joinRequest (idx : Nat) (r : Rec) (f : RxFrame) (prev : Nat) (s : State) : State :=
  let net := f.net
  match r.net.state with
  | .admitted =>
    if !permitted s r net then refuseJoin r net 1 s
    else match assignShort s net prev false with
      | none => refuseJoin r net 2 s
      | some a => toJoining idx net a false s
  | .joining =>
    let j := (joinOf s idx).getD ⟨idx, 0, s.clk, false, true⟩
    if j.sends < 3 then sendAccept idx (setJoin { j with sends := j.sends + 1, lastSend := s.clk, fromStart := false } s)
    else s
  | .joined =>
    if r.net.network == some net then toJoining idx net r.net.short false (failRejoined idx s)
    else if !permitted s r net then refuseJoin r net 1 s
    else match assignShort s net prev true with
      | none => refuseJoin r net 2 s
      | some a =>
        let s := failRejoined idx s
        let s := match r.net.network with
          | some old => dropRoute old r.net.short (toQuarantine old r.net.short s)
          | none => s
        toJoining idx net a true s

/-- JOIN_REQUEST_RECEIVED (R79, R80, R477, R486). -/
def opJoinRequest (f : RxFrame) (s : State) : State :=
  match f.msg with
  | .joinRequest identity _ prev =>
    if !mayProcess s then s
    else match takeRx f s with
      | none => s
      | some s =>
        match s.led.work.byIdentity identity with
        | none => unknownJoin identity (now s) s
        | some (idx, r) =>
          if inSalvage s || bkeyIndex s == 0 || r.segment != 0 then joinIgnored s
          else
            let s := if f.net == .plc then
                onModem .plc (fun m => { m with proxyRoutes := putEui (identity.take 8) (proxyRoute s f) m.proxyRoutes }) s
              else s
            joinRequest idx r f prev s
  | _ => s

/-- The route a meter has until its first ROUTE_REPORT: its proxy's route plus one hop (R237). -/
def provisionalRoute (s : State) (net : Net) (r : Rec) : Route :=
  let hops := ((lookupEui (r.identity.take 8) (modemOf s net).proxyRoutes).getD []) ++ [r.net.short]
  ⟨r.net.short, hops, .valid, 0, true, none, true, true⟩

/-- JOIN_CONFIRM_RECEIVED (Table MS.5): a matching JOIN_ID makes the record JOINED; another is dropped and counted. -/
def opJoinConfirm (f : RxFrame) (s : State) : State :=
  match f.msg with
  | .joinConfirm id =>
    onFrame f s fun idx r s =>
      if r.net.joinId != id then { s with meters := { s.meters with badConfirms := inc64 s.meters.badConfirms } }
      else if r.net.state != .joining then s
      else
        let moved := ((joinOf s idx).map (·.moved)).getD false
        let ev := if moved then mkNetEv s 0x0103 (zeros 2 ++ putLe 1 f.net.code) (some (recMh idx r)) (some f.net)
          else mkNetEv s 0x0101 (putLe 2 r.net.short ++ putLe 1 f.net.code) (some (recMh idx r)) (some f.net)
        let s := patchMeter idx (fun r => { r with net := { r.net with state := .joined } }) [ev] (endJoin idx s)
        let s := { s with keys := { s.keys with rejoined := s.keys.rejoined.filter (· != idx) ++ [idx] } }
        putRoute f.net (provisionalRoute s f.net r) s
  | _ => s

/-- A record back in ADMITTED, its address in quarantine (Table MS.5). -/
def toAdmitted (idx : Nat) (evs : List EvRec) (s : State) : State :=
  match getRec s idx with
  | none => s
  | some r =>
    let s := match r.net.network with
      | some net => dropRoute net r.net.short (toQuarantine net r.net.short s)
      | none => s
    patchMeter idx (fun r => { r with net := { r.net with state := .admitted, network := none, short := 0 } }) evs (endJoin idx s)

/-- METER_LEAVE_RECEIVED (Table MS.5); dropped in salvage mode (R477). -/
def opMeterLeave (f : RxFrame) (s : State) : State :=
  match f.msg with
  | .leave _ =>
    onFrame f s fun idx r s =>
      if inSalvage s || r.net.state != .joined then s
      else
        toAdmitted idx [mkNetEv s 0x0102 (zeros 2 ++ putLe 1 (((r.net.network).map Net.code).getD 0)) (some (recMh idx r))
          r.net.network] s
  | _ => s

/-- JOIN_ACCEPT_RESEND (R80): 10 s after a send without confirm, three sends at most; none of its own accord for a record
found JOINING at a start. -/
def opJoinResend (idx : Nat) (s : State) : State :=
  match joinOf s idx with
  | none => s
  | some j =>
    if j.fromStart || decide (j.sends ≥ 3) || decide (s.clk < j.lastSend + secTicks 10) || !inService s then s
    else sendAccept idx (setJoin { j with sends := j.sends + 1, lastSend := s.clk } (timerInput s))

/-- JOIN_CONFIRM_WINDOW_EXPIRY (R80): 10 s after the third send. -/
def opJoinWindow (idx : Nat) (s : State) : State :=
  match joinOf s idx with
  | none => s
  | some j =>
    if j.fromStart || decide (j.sends < 3) || decide (s.clk < j.lastSend + secTicks 10) || !inService s then s
    else toAdmitted idx [] (timerInput s)

/-- JOINING_WAIT_AFTER_START (R80): 10 s from the first epoch of the start. -/
def opJoiningWait (idx : Nat) (s : State) : State :=
  match joinOf s idx with
  | none => s
  | some j =>
    if !j.fromStart || decide (s.clk < j.lastSend + secTicks 10) || !inService s then s
    else toAdmitted idx [] (timerInput s)

/-- QUARANTINE_EXPIRY (R81). -/
def opQuarantine (net : Net) (short : Nat) (s : State) : State :=
  { s with
    meters := { s.meters with
      quarantine := s.meters.quarantine.filter fun q => !(q.net == net && q.short == short && decide (q.until_ ≤ s.clk)) } }

/-! ## LAST_GASP and ALARM -/

/-- RECENT_EVENTS with one more meter event, the last 8 kept (Table LG.11); its LTIME is the meter's (log entry 31). -/
def Rec.recentAdd (e : EvRec) (r : Rec) : Rec := { r with recent := lastN 8 (r.recent ++ [e]) }

/-- A pushed event was taken before (Table MS.8): meter, meter's LTIME, event code. -/
def pushSeen (s : State) (idx : Nat) (r : Rec) (tm : LTime) (code : Nat) : Bool :=
  s.meters.seenPushes.contains (idx, tm, code) || r.recent.any fun e => e.ltime == tm && e.code == code

/-- A stateless frame of a sleepy meter opens a reply window of 8 s, in which a session that waits goes on without a wake train
(R255). The window's first 0.5 s is not kept apart (log entry 68). -/
def replyWindow (idx : Nat) (r : Rec) (s : State) : State :=
  if !r.sleepy then s
  else
    let s := onRendezvous idx (fun v => { v with awakeUntil := max v.awakeUntil (s.clk + secTicks 8) }) s
    match sessionOf s idx with
    | some x => if x.state == .pending && mayExchange s then proceed idx s else s
    | none => s

/-- A meter's pushed event: counted where it repeats one, else raised, its clock sampled (R88, R250, R281). -/
def takePush (idx : Nat) (r : Rec) (f : RxFrame) (tm : LTime) (code : Nat) (data : Bytes) (s : State) : State :=
  if pushSeen s idx r tm code then { s with meters := { s.meters with pushRepeats := inc64 s.meters.pushRepeats } }
  else
    let s := { s with meters := { s.meters with seenPushes := lastN 4096 (s.meters.seenPushes ++ [(idx, tm, code)]) } }
    let ev := mkNetEv s code data (some (recMh idx r)) (some f.net)
    replyWindow idx r (noteFine idx true (f.net == .rf) (patchMeter idx (fun r => (sampleFrame idx tm f s r).recentAdd { ev with ltime := tm }) [ev] s))

/-- LAST_GASP_RECEIVED (R250). -/
def opLastGasp (f : RxFrame) (s : State) : State :=
  match f.msg with
  | .lastGasp tm _ => onFrame f s fun idx r s => takePush idx r f tm 0x0106 (putLe 8 tm) s
  | _ => s

/-- ALARM_RECEIVED (R250). -/
def opAlarm (f : RxFrame) (s : State) : State :=
  match f.msg with
  | .alarm tm reg => onFrame f s fun idx r s => takePush idx r f tm 0x0107 (putLe 4 reg) s
  | _ => s

/-- JOIN_REQUEST_RECEIVED (R80). -/
def execJoinRequestReceived (f : RxFrame) (s : State) : Host.Outcome State Fault Refusal := .next (opJoinRequest f s)

/-- JOIN_CONFIRM_RECEIVED (R80). -/
def execJoinConfirmReceived (f : RxFrame) (s : State) : Host.Outcome State Fault Refusal := .next (opJoinConfirm f s)

/-- METER_LEAVE_RECEIVED (R80). -/
def execMeterLeaveReceived (f : RxFrame) (s : State) : Host.Outcome State Fault Refusal := .next (opMeterLeave f s)

/-- JOIN_ACCEPT_RESEND (R80). -/
def execJoinAcceptResend (idx : Nat) (s : State) : Host.Outcome State Fault Refusal := .next (onTimer (opJoinResend idx) s)

/-- JOIN_CONFIRM_WINDOW_EXPIRY (R80). -/
def execJoinConfirmWindowExpiry (idx : Nat) (s : State) : Host.Outcome State Fault Refusal := .next (onTimer (opJoinWindow idx) s)

/-- JOINING_WAIT_AFTER_START (R80). -/
def execJoiningWaitAfterStart (idx : Nat) (s : State) : Host.Outcome State Fault Refusal := .next (onTimer (opJoiningWait idx) s)

/-- QUARANTINE_EXPIRY (R81). -/
def execQuarantineExpiry (net : Net) (short : Nat) (s : State) : Host.Outcome State Fault Refusal :=
  .next (onTimer (opQuarantine net short) s)

/-- LAST_GASP_RECEIVED (R250). -/
def execLastGaspReceived (f : RxFrame) (s : State) : Host.Outcome State Fault Refusal := .next (opLastGasp f s)

/-- ALARM_RECEIVED (R250). -/
def execAlarmReceived (f : RxFrame) (s : State) : Host.Outcome State Fault Refusal := .next (opAlarm f s)

end Sys2Proof.Machine
end

