-- ==== Sys2Proof/Machine/MeterCommands.lean ====
section
/-! DEFINITION. The commands of class 0x02 (04_meters_and_sessions R70 to R74, R470, R471; R9, R95, R117). -/

namespace Sys2Proof.Machine

/-- Highest record index of the chip's role (R70). -/
def maxIndex (s : State) : Nat := if s.boot.headRole then 1048575 else 4095

/-- An index is free (R71, R72): no record, and no release of it still to commit. -/
def indexFree (s : State) (idx : Nat) : Bool :=
  (getRec s idx).isNone && !(s.led.work.releasing.any fun e => e.1 == idx && !committed s e.2)

/-- The lowest free index; none where every one is used. -/
def freeIndex (s : State) : Option Nat :=
  let bound := min (maxIndex s + 1) (s.led.work.recs.length + s.led.work.releasing.length + 1)
  lowestFrom (indexFree s) bound 0

/-- The chip's own meters are at most 4,096 (R2). -/
def ownFull (s : State) : Bool := decide ((s.led.work.recs.filter fun e => e.2.segment == 0).length ≥ 4096)

/-- The group a new record belongs to (R172): the entry of the group table in force whose EUI begins the identity. -/
def groupOf (l : LState) (identity : Bytes) : Nat :=
  match l.tables.groups.now with
  | some t => ((t.members.find? fun m => m.1 == identity.take 8).map (·.2)).getD 0xFFFFFFFF
  | none => 0xFFFFFFFF

/-- An interval of a member does not divide its group's balance interval (R173). -/
def misfits (l : LState) (group intervalMin : Nat) : Bool :=
  match l.tables.groups.now.bind fun t => t.groups.find? fun g => g.ref.group == group with
  | some g => intervalMin = 0 || g.ref.balMin % intervalMin != 0
  | none => false

/-- A balance area with nothing in it, from the instant the membership took effect. -/
def BalArea.fresh (since : LTime) : BalArea :=
  { groupSince := since, peakDay := List.replicate 7 0, peakPos := 0, votePos := 0, votesUsed := 0, everAccepted := false,
    incompatible := false, byCorrelation := false, votes := List.replicate 8 (0, 0), snapId := 0, snapAt := 0,
    snap := List.replicate 4 ⟨0, 0, 0, 0⟩, corr := [0, 0, 0], pairs := 0, secondBranch := 0xFFFFFFFF, sBest := 0,
    sSecond := 0, tamperAt := 0, tamperWeight := 0 }

/-- An orders area with nothing ordered and nothing read (Table TB.15). -/
def Orders.fresh : Orders := ⟨0, 0, 0, 0xFF, 0xFF, 0, 0, 0, 0, 0, 0, 0, 0⟩

/-- A credit account with nothing moved (Table TB.13); STATE is that of BALANCE 0 under the class's policy (log entry 33). -/
def freshCredit (l : LState) (cls : Nat) : Credit :=
  ⟨0, ((l.policyOf cls).map fun p => p.stateOf 0).getD .normal, false, false, false, 0, 0, 0, 0, 0, 0, List.replicate 8 0, 0, 0⟩

/-- A new record (R71, R148): identity, class and what follows from them, admitted now. -/
def newRec (s : State) (idx : Nat) (identity : Bytes) (d : ClassDesc) (net : Option Net) (keySrc : Nat) (blob : Bytes) : Rec :=
  let l := s.led.work
  let t := now s
  { cls := d.cls, gen := l.gen idx, identity := identity, segment := 0, subMh := 0, keySrc := keySrc, sleepy := d.sleepy,
    snapCap := d.snapCap, prepay := d.prepay, hasRelay := d.relay, released := false, seriesIndex := 0, wrappedKey := blob,
    net := ⟨.admitted, net, 0, 0, 0, 0, 0⟩, clock := ⟨t, 0, 0, 0, 0, 0, 0, 0, 0⟩,
    place := ⟨groupOf l identity, 0, 0, 0xFFFFFFFF, 0, l.scheduleNo d.cls t, 0, 0, (if d.relay then .unknown else .none), 0, 0, 0⟩,
    counts := ⟨0, 0, 0, 0, 0, 0⟩, blockA := l.openedAt d.cls t, blockB := PeriodBlock.blank, credit := freshCredit l d.cls,
    orders := Orders.fresh, val := ⟨0, 0, 0, List.replicate 4 ChanBlock.blank⟩, regs := [],
    bal := { BalArea.fresh t with incompatible := misfits l (groupOf l identity) d.intervalMin }, recent := [] }

/-- The network a code of MTR_ADMIT names. -/
def netOfCode : Nat → Option Net
  | 1 => some .plc
  | 2 => some .rf
  | _ => none

/-- MTR_ADMIT (R71, R298): refusals in the order listed. -/
def bodyMtrAdmit (c : Cmd) (s : State) : Answer :=
  let identity := c.pBytes 0x20 16
  let net := c.p 0x32 1
  let src := c.p 0x33 1
  if net > 2 || src > 1 then no 0x0103
  else match s.led.work.classOf (c.p 0x30 2) with
    | none => no 0x0103
    | some d =>
      if !((netOfCode net).map d.allows).getD true then no 0x0103
      else if (s.led.work.byIdentity identity).isSome then no 0x0103
      else match freeIndex s with
        | none => no 0x0301
        | some idx =>
          if ownFull s then no 0x0301
          else if src = 1 && (d.suite == 2 || c.buf.length != 48 || le c.buf 0 1 != 1 || le c.buf 1 1 != 5 || le c.buf 2 1 != 0)
            then no 0x0103
          else if src = 1 && (unwrapMeter s c.buf).isNone then no 0x0402
          else
            let r := newRec s idx identity d (netOfCode net) src (if src = 1 then c.buf else [])
            changeParam c (some (recMh idx r)) [.create idx r] (putLe 4 (recMh idx r)) s

/-- What the run keeps of a meter forgotten (R72). -/
def forgetMeter (idx : Nat) (r : Rec) (s : State) : State :=
  let s := match r.net.network with
    | some net =>
      if r.net.state == NetState.admitted then s
      else
        let s := if r.net.state == NetState.joined then sendTo r (ownPriority (.leave 3)) (.leave 3) s else s
        dropRoute net r.net.short (toQuarantine net r.net.short s)
    | none => s
  let m := s.meters
  { s with
    meters := { m with
      waiting := m.waiting.filter fun x => x.idx != idx
      retries := m.retries.filter fun x => x.slot.idx != idx
      slots := m.slots.filter fun x => x.1.1 != idx
      joins := m.joins.filter fun x => x.idx != idx
      silent := m.silent.filter fun x => x.1 != idx
      lastFailEvent := eraseNat idx m.lastFailEvent
      rejoinAt := eraseNat idx m.rejoinAt
      invTx := eraseNat idx m.invTx
      contact := eraseNat idx m.contact
      coarse := m.coarse.filter (· != idx)
      seenPushes := m.seenPushes.filter fun x => x.1 != idx }
    lyre := { s.lyre with rendezvous := s.lyre.rendezvous.filter fun v => v.idx != idx } }

/-- The items of a release (R72, R154): any SETTLING block closes, the open one closes with REASON 1, the record goes. -/
def releaseItems (idx : Nat) (r : Rec) (s : State) : List Item :=
  let w := ((startWork idx r (now s) s).settle 1 (now s)).closeSettling
  w.extra ++ (w.events ++ closedEvents s w.t w.snaps).map Item.event ++ [.release idx ((r.gen + 1) % 4096) (openNum s)]

/-- MTR_RELEASE (R9, R72). -/
def bodyMtrRelease (c : Cmd) (s : State) : Answer :=
  onOwnMeter c s fun idx r =>
    changeParam c (some (recMh idx r)) (releaseItems idx r s) (putLe 2 ((r.gen + 1) % 4096)) (forgetMeter idx r s)

/-- MTR_LOOKUP (R470): as the last committed epoch holds it. -/
def bodyMtrLookup (c : Cmd) (s : State) : Answer :=
  atEpoch s 0 fun n l =>
    match l.byIdentity (c.pBytes 0x20 16) with
    | none => no 0x0103
    | some (idx, r) =>
      okData n (putLe 4 (recMh idx r) ++ putLe 2 r.net.short ++ putLe 1 ((r.net.network.map Net.code).getD 0) ++
        putLe 1 r.segment) s

/-- MTR_GET_RECORD (R105, R108): a handle stale now, or of no record at the epoch read, gives 0x0202. -/
def bodyMtrGetRecord (c : Cmd) (s : State) : Answer :=
  onMeter c s fun _ _ =>
    atEpoch s (c.p 0x28 8) fun n l =>
      match l.recOf (c.p 0x20 4) with
      | none => no 0x0202
      | some (idx, r) => okOut c n [] (r.bytes idx) s

/-- MTR_LIST (R470). -/
def bodyMtrList (c : Cmd) (s : State) : Answer :=
  let start := c.p 0x20 4
  let count := c.p 0x24 4
  if count = 0 || decide (start > maxIndex s) then no 0x0103
  else atEpoch s 0 fun n l =>
    let all := l.recs.filter fun e => decide (e.1 ≥ start)
    let room := c.bufLen / 4
    let got := all.take (min count room)
    let next := match got.getLast? with
      | some e => if got.length < all.length then e.1 + 1 else 0xFFFFFFFF
      | none => 0xFFFFFFFF
    let cut := decide (room < count) && decide (room < all.length)
    .reply (if cut then 0x0001 else 0) n false (putLe 4 got.length ++ putLe 4 next) (got.flatMap fun e => putLe 4 (recMh e.1 e.2)) s

/-- MTR_READ_NOW (R84, R95, R471). -/
def bodyMtrReadNow (c : Cmd) (s : State) : Answer :=
  onOwnMeter c s fun idx _ => startField c idx (.collect (c.p 0x24 4) (c.p 0x28 8)) 3 s

/-- Transmit priority of a session for which the spec names none. -/
def sessionPriority : Nat := Config.framePriority 0x01 % 4

/-- MTR_DLMS (R84, R86, R95). -/
def bodyMtrDlms (c : Cmd) (s : State) : Answer :=
  if c.p 0x24 1 > 2 then no 0x0103
  else onOwnMeter c s fun idx r =>
    let transfer := c.p 0x24 1 == 2 && c.p 0x25 1 == 2 && c.p 0x26 2 == 64 && c.buf.isEmpty
    let data := if transfer then keyTransfer s idx r else c.buf
    startField c idx (.dlms (c.p 0x24 1) (c.pBytes 0x28 6) (c.p 0x25 1) (c.p 0x26 2) data) sessionPriority s

/-- MTR_SET_SCHEDULE (R74). -/
def bodyMtrSetSchedule (c : Cmd) (s : State) : Answer :=
  let t := s.led.work.tables.sched
  loadTable c s t.version t.raw ((parseSched s c.buf).map fun x v => .sched v c.buf x) none (fun _ => [])
    (fun s => { s with meters := { s.meters with slots := [] } })

/-- MTR_LIST_SEGMENTS (R117): the cut of each segment at the last committed epoch. -/
def bodyMtrListSegments (c : Cmd) (s : State) : Answer :=
  atEpoch s 0 fun n l => okOut c n (putLe 1 l.cuts.length) (Config.segmentList l.cuts) s

/-- MTR_ADMIT (R71). -/
def execMtrAdmit (c : Cmd) (s : State) : Host.Outcome State Fault Refusal := .next (runDcs 0x0201 c bodyMtrAdmit s)

/-- MTR_RELEASE (R72). -/
def execMtrRelease (c : Cmd) (s : State) : Host.Outcome State Fault Refusal := .next (runDcs 0x0202 c bodyMtrRelease s)

/-- MTR_LOOKUP (R470). -/
def execMtrLookup (c : Cmd) (s : State) : Host.Outcome State Fault Refusal := .next (runDcs 0x0203 c bodyMtrLookup s)

/-- MTR_GET_RECORD (R108). -/
def execMtrGetRecord (c : Cmd) (s : State) : Host.Outcome State Fault Refusal := .next (runDcs 0x0204 c bodyMtrGetRecord s)

/-- MTR_LIST (R470). -/
def execMtrList (c : Cmd) (s : State) : Host.Outcome State Fault Refusal := .next (runDcs 0x0205 c bodyMtrList s)

/-- MTR_READ_NOW (R471). -/
def execMtrReadNow (c : Cmd) (s : State) : Host.Outcome State Fault Refusal := .next (runDcs 0x0206 c bodyMtrReadNow s)

/-- MTR_DLMS (R86). -/
def execMtrDlms (c : Cmd) (s : State) : Host.Outcome State Fault Refusal := .next (runDcs 0x0207 c bodyMtrDlms s)

/-- MTR_SET_SCHEDULE (R74). -/
def execMtrSetSchedule (c : Cmd) (s : State) : Host.Outcome State Fault Refusal := .next (runDcs 0x0208 c bodyMtrSetSchedule s)

/-- MTR_LIST_SEGMENTS (R117). -/
def execMtrListSegments (c : Cmd) (s : State) : Host.Outcome State Fault Refusal :=
  .next (runDcs 0x0209 c bodyMtrListSegments s)

end Sys2Proof.Machine
end

