-- ==== Sys2Proof/Machine/Boundaries.lean ====
section
/-! DEFINITION. Boundaries at exact instants (07: R145 to R147, R150, R153 to R155, R165 to R168; R125, R172, R274): which
boundaries are due, their order at one instant (Table TB.10), and what each does. -/

namespace Sys2Proof.Machine

/-! ## Orders that start exchanges (R167, R168, R170) -/

/-- The order a PENDING code stands for (Table TB.15). -/
def orderOf : Nat → Option OrderKind
  | 1 => some .disconnect
  | 2 => some .reconnectArm
  | 3 => some .reconnectClose
  | _ => none

/-- The exchange of a pending order starts at once when its DUE_AT has come and a session place is free (R83, R167, R168);
its deadline is the commands' 300 s. DESIGN CHOICE (log entry 34). -/
def kickOrders (idx : Nat) (s : State) : State :=
  match getRec s idx with
  | none => s
  | some r =>
    match orderOf r.orders.pending with
    | none => s
    | some k =>
      if r.segment != 0 || r.place.relay == .disconnectPending || decide (now s < r.orders.dueAt) ||
        (sessionOf s idx).isSome || decide (s.meters.sessions.length ≥ 1024) || !mayExchange s then s
      else openSession (mkSession s idx (.relay k) 3 (s.clk + secTicks 300) none) s

/-! ## Work of one meter at an instant -/

/-- The chip's own meters (R25). -/
def ownMeters (s : State) : List Nat := (s.led.work.recs.filter fun r => r.2.segment == 0).map (·.1)

/-- Work on a record at a boundary's own instant (R155). -/
def workAt (idx : Nat) (r : Rec) (t : LTime) (s : State) : Work := { startWork idx r 0 s with t := t }

/-- Whether a work has anything to append. -/
def Work.idle (w : Work) : Bool := w.r == w.was && w.events.isEmpty && w.extra.isEmpty

/-- One meter's part of a boundary, as a group of its own when it changes anything; the snapshots it made are gathered. -/
def meterAt (t : LTime) (f : Work → Work) (p : State × List BSnap) (idx : Nat) : State × List BSnap :=
  match getRec p.1 idx with
  | none => p
  | some r =>
    let w := f (workAt idx r t p.1)
    if w.idle then p else (kickOrders idx (append w.items (some (recMh idx r)) p.1), p.2 ++ w.snaps)

/-- A boundary's part of every own meter. -/
def metersAt (t : LTime) (f : Work → Work) (s : State) : State × List BSnap := (ownMeters s).foldl (meterAt t f) (s, [])

/-! ## What each boundary does to a meter -/

/-- Window ends of a schedule within a span, its ends included (R150). -/
def LState.windowEnds (l : LState) (y : TariffSched) (a b : LTime) : List LTime :=
  if y.demandMethod = 0 || y.demandMin = 0 then []
  else
    let len := y.demandMin * 60 * 65536
    ((l.windowStarts (y.demandMin / max 1 y.demandSubs) (a - len) b).map (· + len)).filter fun x =>
      decide (a ≤ x) && decide (x ≤ b)

/-- PROVISIONAL of both blocks at a boundary (R153). -/
def Work.provBlocks (w : Work) : Work :=
  let up : PeriodBlock → PeriodBlock := fun b => { b with provisional := w.provisional b }
  let w1 := w.onRec fun r => r.onOpenBlk up
  if w.r.settling.isSome then w1.onRec fun r => r.onOtherBlk up else w1

/-- Order 1: a demand window of the meter's schedule ends, and its demand enters the maximum (R150). -/
def Work.windowClose (w : Work) : Work :=
  match w.l.schedAt w.r.cls (w.t - 1) with
  | some (_, y) => if (w.l.windowEnds y w.t w.t).isEmpty then w else w.freshBlocks w.series
  | none => w

/-- The instant at which a SETTLING block closes (R154 step 2). -/
def LState.closeAt (l : LState) (b : PeriodBlock) : LTime := b.periodEnd + l.settleS * 65536

/-- Order 2: a SETTLING block whose settling time has passed closes (R154). -/
def Work.settlingClose (w : Work) : Work :=
  match w.r.settling with
  | some b => if w.l.closeAt b ≤ w.t then w.closeSettling else w
  | none => w

/-- The OPEN block becomes SETTLING at the work's instant (R154): later labels go to the new block; with SETTLE_S 0 it closes
at once. -/
def Work.endPeriod (reason : Nat) (w : Work) : Work :=
  let w := ((w.settle reason w.t).movePast w.t).provBlocks
  if w.l.settleS = 0 then w.closeSettling else w

/-- Order 3: the billing period end (R154 step 1). -/
def Work.periodEnd (w : Work) : Work :=
  let e := w.r.openBlk.periodEnd
  if e = 0 || decide (w.t < e) then w else w.endPeriod 0

/-- A class's schedule descriptor with the day profiles it uses (R154, REASON 3). -/
def TariffTable.form (t : TariffTable) (cls : Nat) : Option (TariffSched × List (Option DayProfile)) :=
  (t.schedOf cls).map fun y =>
    (y, y.seasons.flatMap fun e => ([e.weekdayDp, e.saturdayDp, e.sundayDp] ++ e.specialDp).map fun k => t.profiles[k - 1]?)

/-- Whether a class's schedule differs between two tables. A first schedule differs from none. DEDUCED (log entry 35). -/
def formDiffers (old new : Option TariffTable) (cls : Nat) : Bool :=
  match old.bind (·.form cls), new.bind (·.form cls) with
  | some a, some b => a != b
  | _, _ => false

/-- Order 4: a tariff table or calendar took effect at the work's instant; `old` is the tariff table before. The meter's block
settles with REASON 3 where its schedule differs, and not where the instant is itself its period end (R154); the open
block's SCHEDULE and PERIOD_END follow the tables in force. -/
def Work.tablesChanged (old : Option TariffTable) (tariff calendar : Bool) (w : Work) : Work :=
  let w := if tariff && formDiffers old w.l.tables.tariff.now w.r.cls && w.r.openBlk.periodStart != w.t then w.endPeriod 3 else w
  let no := w.l.scheduleNo w.r.cls w.t
  let w := if !tariff then w
    else w.onRec fun r =>
      { (r.onOpenBlk fun b => if b.periodStart == w.t then { b with schedule := no } else b) with
        place := { r.place with tariffSchedule := no } }
  if calendar then w.onRec fun r => r.onOpenBlk fun b => { b with periodEnd := w.l.nextEnd w.t } else w

/-- Order 5: the standing charge of the local day that begins, to the open block (R165). DEDUCED: only where the schedule
computes charges (log entry 36). -/
def Work.standing (w : Work) : Work :=
  match w.l.schedAt w.r.cls w.t with
  | none => w
  | some (_, y) =>
    if !y.computeCharges || y.standing = 0 then w
    else
      let w := w.onRec fun r => r.onOpenBlk fun b => { b with
        charges := satAdd64 b.charges y.standing
        standing := satAdd64 b.standing y.standing }
      (w.onCredit fun c => { c with lastStanding := w.t }).debit y.standing true

/-- Order 6: the credit policy judged again: grace ends and friendly-window edges (R167). -/
def Work.creditEvaluate (w : Work) : Work :=
  match w.l.policyOf w.r.cls with
  | none => w
  | some p =>
    let waits := w.r.place.relay == .disconnectPending ||
      (w.r.place.relay == .unknown && w.r.orders.pending == 1 && w.r.orders.reason == 2)
    if w.r.credit.state != .exhausted then w
    else if waits then
      match w.l.dueAt p w.r.credit.exhaustedAt with
      | none => w
      | some due =>
        (w.onCredit fun c => { c with disconnectDue := decide (c.exhaustedAt + p.graceS * 65536 ≤ w.t) }).onOrders fun o =>
          { o with dueAt := due }
    else w.creditDisconnect p

/-! ## Which boundaries are due -/

/-- Schedules of the tariff table in force, with their table. -/
def LState.scheds (l : LState) : List (TariffTable × TariffSched) :=
  match l.tables.tariff.now with
  | some t => t.scheds.map fun y => (t, y)
  | none => []

/-- A key orders boundaries by instant and by Table TB.10. -/
def boundaryKey (t : LTime) (order : Nat) : Nat := t * 8 + order

/-- The pending instant of effect of a table, if it lies at or before an instant. -/
def Loaded.dueBy {α : Type} (t : Loaded α) (x : LTime) : Option LTime :=
  t.pending.bind fun p => if p.1 ≤ x then some p.1 else none

/-- Rate switches of a schedule within a span, its ends included: a switch to the rate already in force is none. -/
def LState.rateSwitches (l : LState) (p : TariffTable × TariffSched) (a b : LTime) : List LTime :=
  (l.switchTimes p.1 p.2 a b).filter fun x => l.rateIn p.1 p.2 x != l.rateIn p.1 p.2 (x - 1)

/-- Starts of local days within a span, its ends included. -/
def LState.dayStarts (l : LState) (a b : LTime) : List LTime :=
  let d0 := l.localDay a
  (((List.range (l.localDay b + 1 - d0)).map fun k => l.switchInstant (d0 + k) 0).filter fun x =>
    decide (a ≤ x) && decide (x ≤ b))

/-- Edges of friendly windows within a span, and the ends of grace of exhausted accounts. -/
def LState.creditEdges (l : LState) (own : List Rec) (a b : LTime) : List LTime :=
  let d0 := l.localDay a
  let days := (List.range (l.localDay b + 1 - d0)).map (d0 + ·)
  let ws := (l.tables.friendly.now.map (·.windows)).getD []
  let edges := days.flatMap fun d => ws.flatMap fun f =>
    [l.switchInstant d f.startMin, if f.endMin < 1440 then l.switchInstant d f.endMin else l.switchInstant (d + 1) 0]
  let graces := own.filterMap fun r =>
    if r.credit.state == .exhausted then (l.policyOf r.cls).map fun p => r.credit.exhaustedAt + p.graceS * 65536 else none
  (edges ++ graces).filter fun x => decide (a ≤ x) && decide (x ≤ b)

/-- Boundaries of one order that lie within a span, its ends included. -/
def LState.boundariesOf (l : LState) (order : Nat) (a b : LTime) : List LTime :=
  let own := (l.recs.map (·.2)).filter fun r => r.segment == 0
  match order with
  | 1 => l.scheds.flatMap fun p => l.windowEnds p.2 a b
  | 2 => own.filterMap fun r => r.settling.map l.closeAt
  | 3 => (own.map fun r => r.openBlk.periodEnd).filter (· != 0)
  | 4 => (l.tables.tariff.dueBy b).toList ++ (l.tables.calendar.dueBy b).toList ++ l.scheds.flatMap fun p => l.rateSwitches p a b
  | 5 => if own.isEmpty then [] else l.dayStarts a b
  | _ => l.creditEdges own a b

/-- The keys of the boundaries later than the latest one evaluated and not beyond a limit. -/
def LState.dueKeys (l : LState) (limit : Nat) : List Nat :=
  let a := l.lastBoundary / 8
  let b := limit / 8
  (([1, 2, 3, 4, 5, 6].flatMap fun k => (l.boundariesOf k a b).map fun x => boundaryKey x k).filter fun key =>
    decide (l.lastBoundary < key) && decide (key ≤ limit))

/-- The next boundary due, if one is. -/
def LState.nextDue (l : LState) (limit : Nat) : Option Nat := (l.dueKeys limit).foldl (fun a k => match a with
  | some x => some (min x k)
  | none => some k) none

/-! ## Evaluation (R155) -/

/-- The chip's own group of a boundary: that it was evaluated, and its events. -/
def chipPart (key : Nat) (evs : List EvRec) (p : State × List BSnap) : State :=
  append (.boundary key :: (closedEvents p.1 (key / 8) p.2 ++ evs).map .event) none p.1

/-- TARIFF_SWITCHED of the schedules whose rate switches, or whose table takes effect, at an instant (Table TB.10). -/
def switchedEvents (s : State) (old : Option TariffTable) (tariff : Bool) (t : LTime) : List EvRec :=
  let l := s.led.work
  let on := l.scheds.filter fun p => !(l.rateSwitches p t t).isEmpty || (tariff && old.isSome &&
    ((old.bind fun o => o.scheds.find? fun y => y.schedule == p.2.schedule) != some p.2))
  on.map fun p => { mkEv s 0x0402 (putLe 2 p.2.schedule ++ putLe 8 t) none with ltime := t }

/-- Order 4 at an instant: a tariff table and a calendar take effect, then rates switch (R145, R146, R147). -/
def tariffBoundary (key : Nat) (s : State) : State :=
  let t := key / 8
  let old := s.led.work.tables.tariff.now
  let tariff := (s.led.work.tables.tariff.dueBy t).isSome
  let cal := (s.led.work.tables.calendar.dueBy t).isSome
  let items := (if tariff then [Item.effective .tariff t] else []) ++ (if cal then [Item.effective .calendar t] else [])
  let s := if items.isEmpty then s else append items none s
  let p := if items.isEmpty then (s, []) else metersAt t (Work.tablesChanged old tariff cal) s
  chipPart key (switchedEvents p.1 old tariff t) p

/-- One boundary takes effect at its exact instant. -/
def evalAt (key : Nat) (s : State) : State :=
  let t := key / 8
  match key % 8 with
  | 1 => chipPart key [] (metersAt t Work.windowClose s)
  | 2 => chipPart key [] (metersAt t Work.settlingClose s)
  | 3 => chipPart key [] (metersAt t Work.periodEnd s)
  | 4 => tariffBoundary key s
  | 5 => chipPart key [] (metersAt t Work.standing s)
  | _ => chipPart key [] (metersAt t Work.creditEvaluate s)

/-- Every boundary due up to a limit, in instant order; it stops where the ledger takes no group. -/
def evalSteps : Nat → Nat → State → State
  | 0, _, s => s
  | n + 1, limit, s =>
    match s.led.work.nextDue limit with
    | none => s
    | some key =>
      let s := evalAt key s
      if s.led.work.lastBoundary = key then evalSteps n limit s else s

/-- The boundaries due up to a limit; none while UNSET is set (R274). -/
def evalDue (limit : Nat) (s : State) : State :=
  if s.time.unset then s else evalSteps (limit - s.led.work.lastBoundary) limit s

/-- A pending rule table takes effect at its EFFECTIVE instant (R125). -/
def rulesEffective (s : State) : State :=
  match s.led.work.tables.rules.dueBy (now s) with
  | some x => append [.effective .rules x] none s
  | none => s

/-- Boundaries missed while the chip was without supply or in reset, or that a step of chip time passes (R155). -/
def evalMissed (s : State) : State := evalDue (boundaryKey (now s) 7) (rulesEffective s)

/-- A boundary's row: it acts where such a boundary is due on a serving active chip (R349: the active's timer is an input). -/
def boundaryRow (order : Nat) (has : LState → LTime → LTime → Bool) (s : State) : State :=
  let l := s.led.work
  let b := now s
  if !inService s || s.time.unset || !(has l (l.lastBoundary / 8) b) ||
    !((l.dueKeys (boundaryKey b order)).any fun k => k % 8 == order) then s
  else evalDue (boundaryKey b order) (timerInput s)

/-- A schedule of the table in force by its number. -/
def LState.schedNo (l : LState) (n : Nat) : List (TariffTable × TariffSched) := l.scheds.filter fun p => p.2.schedule == n

/-- RULE_TABLE_EFFECTIVE (R125). -/
def opRuleTableEffective (s : State) : State :=
  if !inService s || (s.led.work.tables.rules.dueBy (now s)).isNone then s else rulesEffective (timerInput s)

/-- TARIFF_TABLE_EFFECTIVE (R146). -/
def opTariffTableEffective (s : State) : State := boundaryRow 4 (fun l _ b => (l.tables.tariff.dueBy b).isSome) s

/-- CALENDAR_EFFECTIVE (R147). -/
def opCalendarEffective (s : State) : State := boundaryRow 4 (fun l _ b => (l.tables.calendar.dueBy b).isSome) s

/-- RATE_SWITCH (R145): a schedule's switch is due. -/
def opRateSwitch (schedule : Nat) (s : State) : State :=
  boundaryRow 4 (fun l a b => (l.schedNo schedule).any fun p => !(l.rateSwitches p a b).isEmpty) s

/-- DEMAND_WINDOW_CLOSE (R150): a window of the schedule ends. -/
def opDemandWindowClose (schedule : Nat) (s : State) : State :=
  boundaryRow 1 (fun l a b => (l.schedNo schedule).any fun p => !(l.windowEnds p.2 a b).isEmpty) s

/-- DISCONNECT_DUE (R167): at DUE_AT an exchange starts for the order; a friendly window loaded since then moves DUE_AT. -/
def opDisconnectDue (idx : Nat) (s : State) : State :=
  match getRec s idx with
  | none => s
  | some r =>
    if !inService s || r.segment != 0 || r.orders.pending != 1 || r.orders.reason != 2 || decide (now s < r.orders.dueAt) ||
      !(r.place.relay == .disconnectPending || r.place.relay == .unknown) || (sessionOf s idx).isSome then s
    else
      let s := timerInput s
      let w := workAt idx r (now s) s
      match w.l.outside 1024 w.t with
      | none => s
      | some x =>
        if x > w.t then append (w.onOrders fun o => { o with dueAt := x }).items (some w.mh) s
        else
          let w := w.onCredit fun c => { c with disconnectDue := true }
          let w := if r.place.relay == .disconnectPending then w.setRelay .disconnecting else w
          kickOrders idx (append w.items (some w.mh) s)

/-- RULE_TABLE_EFFECTIVE (R125). -/
def execRuleTableEffective (s : State) : Host.Outcome State Fault Refusal := .next (onTimer opRuleTableEffective s)

/-- TARIFF_TABLE_EFFECTIVE (R146). -/
def execTariffTableEffective (s : State) : Host.Outcome State Fault Refusal := .next (onTimer opTariffTableEffective s)

/-- CALENDAR_EFFECTIVE (R147). -/
def execCalendarEffective (s : State) : Host.Outcome State Fault Refusal := .next (onTimer opCalendarEffective s)

/-- BILLING_PERIOD_END (R154). -/
def execBillingPeriodEnd (s : State) : Host.Outcome State Fault Refusal := .next (onTimer (boundaryRow 3 (fun _ _ _ => true)) s)

/-- SETTLING_CLOSE (R154). -/
def execSettlingClose (s : State) : Host.Outcome State Fault Refusal := .next (onTimer (boundaryRow 2 (fun _ _ _ => true)) s)

/-- RATE_SWITCH (R145). -/
def execRateSwitch (schedule : Nat) (s : State) : Host.Outcome State Fault Refusal := .next (onTimer (opRateSwitch schedule) s)

/-- DEMAND_WINDOW_CLOSE (R150). -/
def execDemandWindowClose (schedule : Nat) (s : State) : Host.Outcome State Fault Refusal :=
  .next (onTimer (opDemandWindowClose schedule) s)

/-- STANDING_CHARGE (R165). -/
def execStandingCharge (s : State) : Host.Outcome State Fault Refusal := .next (onTimer (boundaryRow 5 (fun _ _ _ => true)) s)

/-- CREDIT_POLICY_EVALUATION (R167). -/
def execCreditPolicyEvaluation (s : State) : Host.Outcome State Fault Refusal := .next (onTimer (boundaryRow 6 (fun _ _ _ => true)) s)

/-- DISCONNECT_DUE (R167). -/
def execDisconnectDue (idx : Nat) (s : State) : Host.Outcome State Fault Refusal := .next (onTimer (opDisconnectDue idx) s)

end Sys2Proof.Machine
end

