-- ==== Sys2Proof/Machine/Groups.lean ====
section
/-! DEFINITION. The group table (08_loss_and_theft, Tables LT.1 to LT.5): its form (R171), which table serves an interval
(R172), membership (R180), balance intervals (R173), and the reference energies of the feeder (R174, R200). -/

namespace Sys2Proof.Machine

/-! ## The table's form (R171) -/

/-- A group descriptor from its 128 bytes (Table LT.2). -/
def groupDesc (b : Bytes) : GroupDesc :=
  ⟨⟨le b 0 4, le b 4 1, le b 5 1, le b 6 1, (le b 7 1).testBit 0, (le b 7 1).testBit 1, (le b 7 1).testBit 2,
     (le b 7 1).testBit 3, (b.drop 8).take 8, le b 16 1, le b 17 1, le b 18 1, le b 19 1⟩,
   ⟨le b 20 4, le b 24 4, le b 28 4, le b 32 1, le b 33 1, leInt b 34 2, le b 36 4, le b 40 4, le b 44 2, le b 46 2,
     leInt b 48 8, le b 56 4, le b 60 4, le b 64 4, le b 68 4, le b 72 4, le b 76 1⟩⟩

/-- Ranges of a group descriptor (Table LT.2). -/
def groupOk (b : Bytes) : Bool :=
  let g := groupDesc b
  decide (g.ref.group ≤ 0xFFFFFFFE) && within 1 3 g.ref.refKind && [15, 30, 60].contains g.ref.balMin &&
    decide (le b 7 1 < 16) && (g.ref.refKind == 3 || allZero g.ref.refEui) && decide (g.ref.importCh ≤ 3) &&
    (decide (g.ref.exportCh ≤ 3) || g.ref.exportCh == 0xFF) && (decide (g.ref.voltageCh ≤ 3) || g.ref.voltageCh == 0xFF) &&
    within 50 100 g.ref.minCoverage && within 1 100000000 g.lim.ratedW && decide (g.lim.copperPpm ≤ 100000) &&
    decide (g.lim.techTolPct ≤ 100) && within 1 96 g.lim.persist && decide (-18000 ≤ g.lim.phaseShiftCdeg) &&
    decide (g.lim.phaseShiftCdeg ≤ 17999) && within 1 100000 g.lim.refAccPpm && within 1 100000 g.lim.memberAccPpm &&
    within 1 1000 g.lim.alignTolMs && within 15 1440 g.lim.snapPeriodMin && g.lim.snapPeriodMin % 15 == 0 &&
    decide (0 ≤ g.lim.alertMwh) && within 3600 604800 g.lim.finalAfterS && within 50 100 g.lim.theftConfMin &&
    zeroAt b 77 51

/-- A branch descriptor from its 48 bytes (Table LT.3). -/
def branchDesc (b : Bytes) : BranchDesc :=
  ⟨le b 0 4, le b 4 4, le b 8 1, le b 12 4, chunks b 16 8 (min 4 (le b 9 1))⟩

/-- Ranges of a branch descriptor. -/
def branchOk (b : Bytes) : Bool :=
  decide (le b 0 4 ≤ 0xFFFFFFFD) && within 1 7 (le b 8 1) && within 1 4 (le b 9 1) && zeroAt b 10 2 &&
    zeroAt b (16 + 8 * le b 9 1) (32 - 8 * le b 9 1)

/-- A tamper-map entry from its 16 bytes (Table LT.4). -/
def tamperEntry (b : Bytes) : TamperEntry := ⟨le b 0 2, le b 2 2, (b.drop 4).take 6, le b 10 1⟩

/-- Ranges of a tamper-map entry. -/
def tamperOk (b : Bytes) : Bool := within 1 100 (le b 10 1) && zeroAt b 11 5

/-- A membership entry from its 12 bytes (Table LT.5). -/
def memberEntry (b : Bytes) : Bytes × Nat := (b.take 8, le b 8 4)

/-- The group table (R171); `now` is the table in force. -/
def parseGroups (inForce : Option GroupTable) (b : Bytes) : Option GroupTable :=
  let ng := le b 4 2
  let nb := le b 6 2
  let nm := le b 8 4
  let nt := le b 12 2
  let gs := chunks b 32 128 ng
  let bs := chunks b (32 + 128 * ng) 48 nb
  let ts := chunks b (32 + 128 * ng + 48 * nb) 16 nt
  let ms := chunks b (32 + 128 * ng + 48 * nb + 16 * nt) 12 nm
  let amend := le b 2 1 == 1
  let t : GroupTable :=
    ⟨le b 16 8, amend, gs.map groupDesc, bs.map branchDesc, ts.map tamperEntry, ms.map memberEntry⟩
  let known := if amend then ((inForce.map (·.groups)).getD []).map (·.ref.group) else t.groups.map (·.ref.group)
  if decide (b.length ≥ 32) && b.length == 32 + 128 * ng + 48 * nb + 16 * nt + 12 * nm && le b 0 2 == 1 && decide (le b 2 1 ≤ 1) &&
    zeroAt b 3 1 && zeroAt b 14 2 && zeroAt b 24 8 && decide (ng ≤ 4096) && decide (nb ≤ 8192) && decide (nm ≤ 1048576) &&
    decide (nt ≤ 64) && (!amend || (ng == 0 && nb == 0 && nt == 0 && inForce.isSome)) &&
    gs.all groupOk && bs.all branchOk && ts.all tamperOk &&
    noRepeat (t.groups.map (·.ref.group)) && noRepeat (t.branches.map (·.branch)) && noRepeat (t.members.map (·.1)) &&
    t.branches.all (fun x => known.contains x.group) &&
    t.groups.all (fun g => decide ((t.branches.filter fun x => x.group == g.ref.group).length ≤ 32)) &&
    t.members.all (fun m => m.2 == 0xFFFFFFFF || known.contains m.2) then some t
  else none

/-! ## Groups, intervals, membership -/

/-- The descriptor of a group under the table in force at an instant (R172). -/
def LState.groupAt (l : LState) (group : Nat) (x : LTime) : Option GroupDesc :=
  (l.tables.groups.at x).bind fun t => t.2.groups.find? fun g => g.ref.group == group

/-- Seconds of a group's balance interval. -/
def GroupDesc.sec (g : GroupDesc) : Nat := g.ref.balMin * 60

/-- The instant from which an interval is FINAL (R180). -/
def GroupDesc.finalAt (g : GroupDesc) (start : LTime) : LTime := start + ltSec (g.sec + g.lim.finalAfterS)

/-- The chip evaluates a group (R172): its EVALUATOR is the chip's own segment ID. -/
def GroupDesc.own (g : GroupDesc) (s : State) : Bool := g.ref.evaluator == segmentId s

/-- The feeder point of a group's reference, if it has one. -/
def GroupDesc.point (g : GroupDesc) : Option Nat :=
  if g.ref.refKind = 1 then some 0 else if g.ref.refKind = 2 then some 1 else none

/-- The record of a group's reference meter. -/
def LState.refMeter (l : LState) (g : GroupDesc) : Option (Nat × Rec) :=
  if g.ref.refKind = 3 then l.byEui g.ref.refEui else none

/-- Minutes of a class's interval; none without a descriptor. -/
def LState.classMin (l : LState) (cls : Nat) : Option Nat := (l.classOf cls).map (·.intervalMin)

/-- A member whose class has an interval that does not divide BAL_MIN is incompatible (R173). -/
def LState.incompatible (l : LState) (g : GroupDesc) (cls : Nat) : Bool :=
  match l.classMin cls with
  | some m => m = 0 || g.ref.balMin % m != 0
  | none => true

/-- A member of an interval (R180): its record's index, class, PHASE and PEAK; `until_` is its release within the interval. -/
structure Member where
  idx : Nat
  cls : Nat
  phase : Nat
  peak : Nat
  until_ : Option LTime
  held : Option Rec
  deriving DecidableEq, Repr

/-- A past membership as a member: the record's present PHASE and PEAK where it is still held. -/
def PastMember.member (l : LState) (p : PastMember) : Member :=
  match lookupNat p.idx l.recs with
  | some r =>
    if r.gen = p.gen && !p.released then ⟨p.idx, r.cls, r.place.phase, r.bal.peak, none, some r⟩
    else ⟨p.idx, p.cls, p.phase, p.peak, if p.released then some p.until_ else none, none⟩
  | none => ⟨p.idx, p.cls, p.phase, p.peak, if p.released then some p.until_ else none, none⟩

/-- The members of a group's interval: the records whose membership holds at its start (R180). -/
def LState.membersAt (l : LState) (group : Nat) (start : LTime) : List Member :=
  ((l.recs.filter fun e => e.2.place.group == group && decide (e.2.bal.groupSince ≤ start)).map fun e =>
    (⟨e.1, e.2.cls, e.2.place.phase, e.2.bal.peak, none, some e.2⟩ : Member)) ++
  ((l.past.filter fun p => p.group == group && decide (p.since ≤ start) && decide (start < p.until_)).map
    (PastMember.member l))

/-- The group a record belonged to at an instant, and the groups whose reference it is (R174). -/
def LState.groupsOf (l : LState) (idx : Nat) (r : Rec) (x : LTime) : List Nat :=
  let own := if r.bal.groupSince ≤ x then some r.place.group
    else (l.past.find? fun p => p.idx == idx && p.gen == r.gen && decide (p.since ≤ x) && decide (x < p.until_)).map (·.group)
  let refs := match l.tables.groups.at x with
    | some t => (t.2.groups.filter fun g => g.ref.refKind == 3 && g.ref.refEui == r.identity.take 8).map (·.ref.group)
    | none => []
  ((own.toList.filter (· != 0xFFFFFFFF)) ++ refs).dedup

/-! ## Feeder energy (R174, R200) -/

/-- The sample nearest to an instant: sample n stands for chip time n × 125 µs (R197). -/
def sampleNo (x : LTime) : Nat := (x * 8000 + 32768) / 65536

/-- Net energy of a point block in µWh. -/
def PointMinute.net (p : PointMinute) : Int := (p.phases.map fun x => (x.eImp : Int) - x.eExp).sum

/-- Gross energy of a point block in µWh. -/
def PointMinute.gross (p : PointMinute) : Int := (p.phases.map fun x => (x.eImp : Int) + x.eExp).sum

/-- A point's block of a minute record. -/
def FeederMinute.point (m : FeederMinute) (point : Nat) : PointMinute := if point = 0 then m.point0 else m.point1

/-- The minute records of a span. -/
def LState.minutesIn (l : LState) (a b : LTime) : List FeederMinute :=
  l.minutes.filter fun m => decide (a ≤ m.start) && decide (m.start < b)

/-- Sum of the kept sample energies of a point over sample numbers [a, b), where all of them are kept. -/
def LState.samples (l : LState) (recent : List (Nat × Int × Int)) (point a b : Nat) : Option Int :=
  let within (x : BoundaryRec) : Bool :=
    x.point == point && decide (sampleNo x.at_ ≤ a + 80000) && decide (b ≤ sampleNo x.at_ + 80001)
  match l.bounds.find? within with
  | some x => some (((x.energies.drop (a + 80000 - sampleNo x.at_)).take (b - a)).sum)
  | none =>
    let es := recent.filter fun e => decide (a ≤ e.1) && decide (e.1 < b)
    if es.length = b - a then some ((es.map fun e => if point = 0 then e.2.1 else e.2.2).sum) else none

/-- Energy of a point in µWh from the start of an instant's minute to the instant's sample: from the samples kept around the
minute's start or its end; elsewhere the spec keeps none and the value is free (log entry 38). -/
def LState.edge (l : LState) (recent : List (Nat × Int × Int)) (point : Nat) (x : LTime) : Int :=
  let m := l.slotOf 60 x
  let next := l.slotOf 60 (m + ltSec 90)
  let k := sampleNo x
  if k = sampleNo m then 0
  else match l.samples recent point (sampleNo m) k with
    | some v => v
    | none =>
      match l.samples recent point k (sampleNo next), l.minutes.find? (fun y => y.start == m) with
      | some v, some y => (y.point point).net - v
      | _, _ => Config.edgeEnergy point k

/-- Reference energy of a point over a window, in µWh (R174): the minute records between the edges' minutes, and the edges. -/
def LState.refEnergy (l : LState) (recent : List (Nat × Int × Int)) (point : Nat) (a b : LTime) : Int :=
  ((l.minutesIn (l.slotOf 60 a) (l.slotOf 60 b)).map fun m => (m.point point).net).sum +
    l.edge recent point b - l.edge recent point a

end Sys2Proof.Machine
end

