-- ==== Sys2Proof/Machine/Balance.lean ====
section
/-! DEFINITION. The balance engine (08_loss_and_theft): contributions of interval parts (R174 to R177), the balance and its band
(R178 to R180), runs and their events (R182, R191, R194), evaluation and its rows (R181, R195, R202). -/

namespace Sys2Proof.Machine

/-! ## Contributions (R174 to R177) -/

/-- A value in mWh (R174). -/
def SEntry.mwh (e : SEntry) : Int :=
  if -3 ≤ e.scaler then e.value * 10 ^ (e.scaler + 3).toNat else roundDiv e.value (10 ^ (-e.scaler - 3).toNat)

/-- The part of a slot, fold and channel: the main one or the second of a split. -/
def partAt (series : List SEntry) (start : LTime) (fold channel : Nat) (second : Bool) : Option SEntry :=
  series.find? fun e => e.start == start && e.fold == fold && e.channel == channel && (if second then e.kind == 2 else e.isMain)

/-- The parts a group balances: the import value and, where the group has an export channel, the export value; none where a
part is not there to count (R177). -/
def GroupDesc.parts (g : GroupDesc) (series : List SEntry) (start : LTime) (fold : Nat) (second : Bool) :
    Option (SEntry × Option SEntry) :=
  match partAt series start fold g.ref.importCh second with
  | none => none
  | some i =>
    if !i.billed then none
    else if g.ref.exportCh = 0xFF then some (i, none)
    else match partAt series start fold g.ref.exportCh second with
      | some e => if e.billed then some (i, some e) else none
      | none => none

/-- The offset a part of an exchange is aligned with (R176). -/
def Work.offsetOf (w : Work) (stop : LTime) : Int :=
  w.r.clock.offset - ((w.adjs.filter fun a => decide (stop ≤ a.old)).map (·.step)).sum

/-- The amount of a part on the reference of a feeder point (R174); none where it is unaligned by R175's last condition. -/
def LState.amountOn (l : LState) (recent : List (Nat × Int × Int)) (point : Nat) (v o : Int) (a b : LTime) : Option Int :=
  let ca := ((a : Int) - o).toNat
  let cb := ((b : Int) - o).toNat
  if sampleNo ca = sampleNo a && sampleNo cb = sampleNo b then some v
  else
    let el := l.refEnergy recent point a b
    let ec := l.refEnergy recent point ca cb
    if el * ec ≤ 0 || decide (2 * el.natAbs < ec.natAbs) || decide (2 * ec.natAbs < el.natAbs) then none
    else some (roundDiv (v * el.natAbs) ec.natAbs)

/-- R175's conditions on the offset, the drift and the mark of a part. -/
def Work.misaligned (w : Work) (g : GroupDesc) (measured : Bool) (o : Int) (tx stop : LTime) (marked : Bool) : Bool :=
  !measured || decide (o.natAbs > 655360) || marked ||
    (match w.l.refMeter g with
      | some (_, r) => decide ((o - r.clock.offset).natAbs * 1000 > g.lim.alignTolMs * 65536)
      | none => false) ||
    decide (w.r.clock.driftPpb.natAbs * (tx - stop) * 1000 > g.lim.alignTolMs * 65536 * 1000000000)

/-- The contribution of a part to a group's interval. In an exchange the offset is that of the exchange, `measured` where it
measured one; a later correction keeps the offset of the part's contribution (log entry 40). -/
def Work.contribution (w : Work) (recent : List (Nat × Int × Int)) (exchange measured : Bool) (g : GroupDesc) (start : LTime)
    (i : SEntry) (e : Option SEntry) : Contrib :=
  let (a, b) := partSpan w.series w.sec i
  let old := w.l.contribs.find? fun c =>
    c.idx == w.idx && c.group == g.ref.group && c.label == a && c.fold == i.fold && c.balStart == start
  let o := if exchange then w.offsetOf b else (old.map (·.offset)).getD w.r.clock.offset
  let bad := match exchange, old with
    | false, some c => c.unaligned
    | _, _ => w.misaligned g (if exchange then measured else w.r.clock.offsetAt != 0) o w.tx b i.clockAdj
  let x := (e.map (·.mwh)).getD 0
  let v := i.mwh - x
  let amount := if bad then none else match g.point with
    | some p => w.l.amountOn recent p v o a b
    | none => some v
  { idx := w.idx, group := g.ref.group, estimated := i.state == .estimated || (e.map (·.state)) == some .estimated,
    unaligned := amount.isNone, short := i.short, clockAdj := i.clockAdj, afterFinal := decide (g.finalAt start ≤ w.t),
    phase := w.r.place.phase, offset := o, label := a, fold := i.fold, balStart := start, amount := amount.getD v,
    gross := i.mwh.natAbs + x.natAbs }

/-- The places of the series that a work changed: slot, fold, and whether the second part of a split. -/
def Work.changedParts (w : Work) : List (LTime × Nat × Bool) :=
  ((w.net.filterMap fun d => d.2.orElse fun _ => d.1).map fun e => (e.start, e.fold, e.kind == 2)).dedup

/-- The evaluated groups a slot of a meter counts in, with the start of the interval. -/
def Work.balanced (w : Work) (s : State) (x : LTime) : List (GroupDesc × LTime) :=
  (w.l.groupsOf w.idx w.r x).filterMap fun n =>
    match w.l.groupAt n x with
    | none => none
    | some g =>
      let start := w.l.slotOf g.sec x
      match w.l.groupAt n start with
      | some g => if g.own s && g.ref.evalLoss && !(w.l.incompatible g w.r.cls) && (w.l.groupsOf w.idx w.r start).contains n
          then some (g, start) else none
      | none => none

/-- PEAK_DAY takes the largest |a| (R195). -/
def BalArea.note (c : Contrib) (b : BalArea) : BalArea :=
  if c.unaligned then b
  else { b with peakDay := b.peakDay.modify b.peakPos fun v => max v (min 0xFFFFFFFF c.amount.natAbs) }

/-- One contribution kept in its group's item. -/
def addContrib (c : Contrib) : List (Nat × List Contrib) → List (Nat × List Contrib)
  | [] => [(c.group, [c])]
  | x :: xs => if x.1 = c.group then (x.1, x.2 ++ [c]) :: xs else x :: addContrib c xs

/-- The contributions of what a work changed (R174, R183), and the intervals they touch. -/
def Work.contribute (s : State) (exchange measured : Bool) (w : Work) : Work × List (GroupDesc × LTime) :=
  w.changedParts.foldl (fun p x =>
    (p.1.balanced s x.1).foldl (fun p g =>
      let touched := if p.2.any fun y => y.1.ref.group == g.1.ref.group && y.2 == g.2 then p.2 else p.2 ++ [g]
      match g.1.parts p.1.series x.1 x.2.1 x.2.2 with
      | none => (p.1, touched)
      | some (i, e) =>
        let c := p.1.contribution s.met.recent exchange measured g.1 g.2 i e
        let w := { p.1 with contribs := addContrib c p.1.contribs }
        (w.onRec fun r => { r with bal := r.bal.note c }, touched)) p) (w, [])

/-- Mapped tamper events of an exchange (R194): the time and weight of the last one kept. -/
def Work.tampers (events : List RxEvent) (w : Work) : Work :=
  let useMap := ((w.l.groupAt w.r.place.group w.t).map (·.ref.useTamper)).getD false
  let map := ((w.l.tables.groups.now.map (·.tampers)).getD []).filter fun t => t.cls == w.r.cls || t.cls == 0xFFFF
  if !useMap then w
  else events.foldl (fun w e =>
    match map.find? fun t => t.event == e.code && t.logObis == e.logObis with
    | some t => w.onRec fun r => { r with bal := { r.bal with tamperAt := e.at_, tamperWeight := t.weight } }
    | none => w) w

/-! ## The balance of an interval (R178 to R180, R192, R193) -/

/-- The result of an interval. -/
def LState.resultOf (l : LState) (group : Nat) (start : LTime) : Option BalResult :=
  l.results.find? fun r => r.group == group && r.start == start

/-- A contribution still stands: its part counts in the series, where the record is held. -/
def LState.stands (l : LState) (g : GroupDesc) (m : Member) (c : Contrib) : Bool :=
  match m.held with
  | none => true
  | some r =>
    let series := (lookupNat m.idx l.series).getD []
    let x := l.slotOf (l.slotSec r) c.label
    (g.parts series x c.fold false).isSome

/-- The contributions of a member to an interval. -/
def LState.contribsOf (l : LState) (g : GroupDesc) (start : LTime) (m : Member) : List Contrib :=
  l.contribs.filter fun c => c.idx == m.idx && c.group == g.ref.group && c.balStart == start && !c.afterFinal && l.stands g m c

/-- Missing slots of a member (R173, R175, R177, R180). -/
def LState.missingSlots (l : LState) (g : GroupDesc) (start : LTime) (m : Member) : Nat :=
  if l.incompatible g m.cls then 1
  else
    let sec := 60 * (l.classMin m.cls).getD 60
    let cs := l.contribsOf g start m
    ((List.range (g.sec / sec)).filter fun k =>
      let x := start + ltSec (k * sec)
      let here := cs.filter fun c => l.slotOf sec c.label == x
      let gone := match m.until_ with
        | some u => decide (u < x + ltSec sec)
        | none => false
      !gone && (here.any (·.unaligned) || !(here.any fun c => c.fold == 0 && !c.unaligned))).length

/-- The reference of an interval: whether complete, net, gross, and net per phase, in mWh (R178, R200). -/
structure RefPart where
  ok : Bool
  net : Int
  gross : Int
  phases : List Int
  deriving DecidableEq, Repr

/-- Minute records of an interval. -/
def LState.minutesOf (l : LState) (g : GroupDesc) (start : LTime) : List FeederMinute :=
  l.minutesIn start (start + ltSec g.sec)

/-- The reference of an interval. An absent minute record counts as samples missing. DEDUCED (log entry 41). -/
def LState.refPart (l : LState) (g : GroupDesc) (start : LTime) : RefPart :=
  match g.point with
  | some p =>
    let ms := l.minutesOf g start
    let bs := ms.map fun m => m.point p
    ⟨decide (ms.length ≥ g.ref.balMin) && ms.all (fun m => m.flags % 2 == 0), roundDiv (bs.map (·.net)).sum 1000,
      roundDiv (bs.map (·.gross)).sum 1000,
      (List.range 3).map fun k => roundDiv (bs.map fun b =>
        ((b.phases[k]?).map fun x => (x.eImp : Int) - x.eExp).getD 0).sum 1000⟩
  | none =>
    match l.refMeter g with
    | some (idx, r) =>
      let m : Member := ⟨idx, r.cls, r.place.phase, 0, none, some r⟩
      let cs := (l.contribsOf g start m).filter fun c => !c.unaligned
      ⟨l.missingSlots g start m == 0, (cs.map (·.amount)).sum, (cs.map (·.gross)).sum, [0, 0, 0]⟩
    | none => ⟨false, 0, 0, [0, 0, 0]⟩

/-- L_TECH (R178). -/
def GroupDesc.techLoss (g : GroupDesc) (eRef : Int) : Int :=
  roundDiv (g.lim.noloadW * g.sec * 1000 : Nat) 3600 +
    roundDiv (g.lim.copperPpm * eRef * eRef * 3600) (g.lim.ratedW * g.sec * 1000000000)

/-- A quotient rounded up. -/
def ceilInt (a : Int) (b : Nat) : Int := (a + b - 1) / (b : Int)

/-- The signatures of R192: reversed, bypassed, missing neutral. -/
def LState.signatures (l : LState) (g : GroupDesc) (start : LTime) (ref members : List Int) : Bool × Bool × Bool :=
  match g.point with
  | none => (false, false, false)
  | some p =>
    let ms := l.minutesOf g start
    let n := max 1 ms.length
    let sum (f : FeederMinute → Nat) : Nat := (ms.map f).sum
    let vs := (List.range 3).map fun k => sum fun m => m.vRms.getD k 0
    let lim := g.lim.alertMwh
    ((ref.zip members).any fun x => decide (x.1 * x.2 < 0) && decide ((x.1.natAbs : Int) > lim) && decide ((x.2.natAbs : Int) > lim),
      decide (Nat.sqrt (sum (fun m => (m.point p).iResMs) / n) > g.lim.bypassMa),
      decide (sum (·.vNe) > g.lim.neutralMv * n) &&
        decide ((vs.foldl max 0 - vs.foldl min (vs.headD 0)) * 30 > vs.sum))

/-- A group's interval evaluated on a content at an instant (R178 to R180, R193). What was raised stands while it alerts. -/
def LState.balance (l : LState) (g : GroupDesc) (start t : LTime) : BalResult :=
  let ms := l.membersAt g.ref.group start
  let ref := l.refPart g start
  let cs := ms.map fun m => (m, l.contribsOf g start m, l.missingSlots g start m)
  let used := cs.flatMap fun x => (x.2.1.filter fun c => !c.unaligned).map fun c => (x.1.phase, c)
  let eMem := (used.map (·.2.amount)).sum
  let gMem := (used.map (·.2.gross)).sum
  let est := ((used.filter (·.2.estimated)).map fun c => (c.2.amount.natAbs : Int)).sum
  let estNet := ((used.filter (·.2.estimated)).map (·.2.amount)).sum
  let missing := (cs.filter fun x => x.2.2 != 0).length
  let coverage := if ms.isEmpty then Config.emptyCoverage g.ref.group % 101 else 100 * (ms.length - missing) / ms.length
  let perPhase := (List.range 3).map fun k => ((used.filter fun x => x.1 == k + 1).map (·.2.amount)).sum
  let sig := l.signatures g start ref.phases perPhase
  let fault := sig.1 || sig.2.1 || sig.2.2
  let status : Nat := if !ref.ok then 1 else if fault then 2
    else if coverage < g.ref.minCoverage || cs.any (fun x => x.2.2 != 0 && x.1.peak == 0) then 3
    else if t < g.finalAt start then 4 else 5
  let tech := g.techLoss ref.net
  let loss := ref.net - eMem - tech
  let band := ceilInt (g.lim.refAccPpm * ref.gross) 1000000 + ceilInt (g.lim.memberAccPpm * gMem) 1000000 +
    ceilInt (g.lim.techTolPct * tech) 100 + est + (cs.map fun x => ((x.2.2 * x.1.peak : Nat) : Int)).sum
  let counts := decide (status ≥ 4)
  let alerting := counts && decide (loss - band > g.lim.alertMwh)
  let old := l.resultOf g.ref.group start
  { group := g.ref.group, status := status,
    flags := { alerting := alerting, lossAlert := (old.map (·.flags.lossAlert)).getD false,
               surplus := counts && decide (loss + band < -g.lim.alertMwh), reversed := status == 2 && sig.1,
               bypassed := status == 2 && sig.2.1, missingNeutral := status == 2 && sig.2.2,
               theft := (old.map (·.flags.theft)).getD false },
    start := start, durationS := g.sec, coverage := coverage, run := 0, members := ms.length, missing := missing,
    unaligned := (cs.map fun x => (x.2.1.filter (·.unaligned)).length).sum, eRef := ref.net, eMembers := eMem, lTech := tech,
    loss := if counts then loss else 0, band := if counts then band else 0, estimated := estNet,
    unassigned := (ms.filter fun m => m.phase == 0).length, late := (lookupNat g.ref.group l.late).getD 0,
    suspectBranch := (old.map (·.suspectBranch)).getD 0xFFFFFFFF, suspectConf := (old.map (·.suspectConf)).getD 0,
    phases := ref.phases.zip perPhase, raised := alerting && (old.map (·.raised)).getD false,
    suspects := if alerting then (old.map (·.suspects)).getD [] else [],
    tampers := if alerting then (old.map (·.tampers)).getD [] else [], done := false }

/-! ## Runs and what they raise (R182, R191, R194) -/

/-- Alerting intervals backwards from one. -/
def LState.runBack (l : LState) (group sec : Nat) : Nat → LTime → List LTime
  | 0, _ => []
  | n + 1, x =>
    match l.resultOf group x with
    | some r => if r.flags.alerting then x :: (if x = 0 then [] else l.runBack group sec n (l.slotOf sec (x - 1))) else []
    | none => []

/-- Alerting intervals forwards from one. -/
def LState.runFwd (l : LState) (group sec : Nat) : Nat → LTime → List LTime
  | 0, _ => []
  | n + 1, x =>
    match l.resultOf group x with
    | some r => if r.flags.alerting then x :: l.runFwd group sec n (l.slotOf sec (x + sec * 98304)) else []
    | none => []

/-- The run of alerting intervals that holds an interval, oldest first. -/
def LState.runOf (l : LState) (g : GroupDesc) (start : LTime) : List LTime :=
  let n := l.results.length
  (l.runBack g.ref.group g.sec n start).reverse ++ (l.runFwd g.ref.group g.sec n start).drop 1

/-- An event of the engine at an instant. -/
def evAt (t : LTime) (code : Nat) (data : Bytes) (mh : Option Nat) : EvRec :=
  { ltime := t, code := code, severity := sevOf code, source := srcOf code, mh := mh, data := fitTo 16 data }

/-- An evaluation under way: the content with its results so far, which results changed, and its events. -/
structure Eval where
  l : LState
  t : LTime
  changed : List (Nat × LTime)
  events : List EvRec
  deriving DecidableEq, Repr

/-- A result of an evaluation. -/
def Eval.put (r : BalResult) (x : Eval) : Eval :=
  { x with
    l := (Item.result r).apply 0 0 x.l
    changed := if x.changed.contains (r.group, r.start) then x.changed else x.changed ++ [(r.group, r.start)] }

/-- A result changed. -/
def Eval.on (group : Nat) (start : LTime) (f : BalResult → BalResult) (x : Eval) : Eval :=
  match x.l.resultOf group start with
  | some r => x.put (f r)
  | none => x

/-- An event of an evaluation. -/
def Eval.event (e : EvRec) (x : Eval) : Eval := { x with events := x.events ++ [e] }

/-- Branch confidence (R190). -/
def BranchTrack.conf (b : BranchTrack) : Nat := if b.tested.length < 4 then 0 else (lastN 4 b.tested).sum / 4

/-- The branch of a group with the highest confidence; ties go to the lower BRANCH (R191). -/
def bestBranch (l : LState) (tracks : List BranchTrack) (group : Nat) : Option BranchTrack :=
  let mine := ((l.tables.groups.now.map (·.branches)).getD []).filter fun b => b.group == group
  ((tracks.filter fun t => mine.any fun b => b.branch == t.branch)).foldl (fun a t =>
    match a with
    | none => some t
    | some b => if t.conf > b.conf || (t.conf == b.conf && decide (t.branch < b.branch)) then some t else a) none

/-- THEFT_SUSPECT of a branch for an interval (R191). -/
def Eval.suspect (tracks : List BranchTrack) (g : GroupDesc) (run : List LTime) (start : LTime) (x : Eval) : Eval :=
  match bestBranch x.l tracks g.ref.group, x.l.resultOf g.ref.group start with
  | some b, some r =>
    match b.positive with
    | none => x
    | some (iu, vs) =>
      let eu := iu * vs * g.sec / 3600000
      let named := run.any fun y => ((x.l.resultOf g.ref.group y).map fun q => q.suspects.contains b.branch).getD false
      if !g.ref.branchLocal || decide (b.conf < g.lim.theftConfMin) || named || decide (eu > r.loss + r.band) then x
      else
        (x.on g.ref.group start fun q => { q with
          flags := { q.flags with theft := true }
          suspectBranch := b.branch
          suspectConf := b.conf
          suspects := q.suspects ++ [b.branch] }).event
          (evAt x.t 0x0502 (putLe 4 g.ref.group ++ putLe 4 b.branch ++ putLe 1 b.conf) none)
  | _, _ => x

/-- THEFT_SUSPECT of the members whose mapped tamper event falls within the run (R194): once per member and run. -/
def Eval.tamper (g : GroupDesc) (run : List LTime) (start : LTime) (x : Eval) : Eval :=
  if !g.ref.useTamper then x
  else
    (x.l.recs.filter fun e => e.2.place.group == g.ref.group).foldl (fun x e =>
      let at_ := ((e.2.bal.tamperAt : Int) - e.2.clock.offset).toNat
      let named := run.any fun y => ((x.l.resultOf g.ref.group y).map fun q => q.tampers.contains e.1).getD false
      let inRun := e.2.bal.tamperAt != 0 && run.any fun y => decide (y ≤ at_) && decide (at_ < y + ltSec g.sec)
      if named || !inRun then x
      else
        (x.on g.ref.group start fun q => { q with tampers := q.tampers ++ [e.1] }).event
          (evAt x.t 0x0502 (putLe 4 g.ref.group ++ putLe 4 e.2.place.branch ++ putLe 1 e.2.bal.tamperWeight)
            (some (recMh e.1 e.2)))) x

/-- LOSS_ALERT once for a run, at the interval whose run length first reaches PERSIST (R182), then the findings. -/
def Eval.runs (tracks : List BranchTrack) (g : GroupDesc) (start : LTime) (x : Eval) : Eval :=
  let run := x.l.runOf g start
  let upTo := (run.filter fun y => decide (y ≤ start)).length
  let x := x.on g.ref.group start fun q => { q with run := min 255 upTo }
  if run.length < g.lim.persist then x
  else
    let raised := run.any fun y => ((x.l.resultOf g.ref.group y).map (·.raised)).getD false
    let first := run.getD (g.lim.persist - 1) start
    let x1 := if raised then x
      else
        (x.on g.ref.group first fun q => { q with
          flags := { q.flags with lossAlert := true }
          raised := true
          run := min 255 g.lim.persist }).event
          (evAt x.t 0x0501 (putLe 4 g.ref.group ++ putLe 8 first) none)
    let x2 := if !raised then x1.suspect tracks g run first
      else if upTo ≥ g.lim.persist then x1.suspect tracks g run start
      else x1
    x2.tamper g run start

/-- One interval evaluated. -/
def Eval.interval (tracks : List BranchTrack) (final : Bool) (x : Eval) (p : GroupDesc × LTime) : Eval :=
  let r := x.l.balance p.1 p.2 x.t
  Eval.runs tracks p.1 p.2 (x.put { r with done := final })

/-- The items of an evaluation: the changed results, then the events. -/
def Eval.items (x : Eval) : List Item :=
  (x.changed.filterMap fun k => x.l.resultOf k.1 k.2).map Item.result ++ x.events.map Item.event

/-- Intervals evaluated in ascending order on a content. -/
def evalOn (s : State) (l : LState) (final : Bool) (ps : List (GroupDesc × LTime)) : Eval :=
  (ps.mergeSort fun a b => decide (a.2 ≤ b.2)).foldl (Eval.interval s.balance.branches final) ⟨l, now s, [], []⟩

/-- An interval is re-evaluated while it has a result and is not final (R181). -/
def reopens (l : LState) (t : LTime) (p : GroupDesc × LTime) : Bool :=
  decide (t < p.1.finalAt p.2) && ((l.resultOf p.1.ref.group p.2).map fun r => !r.done).getD false

/-- A content after items of the group being formed. -/
def LState.after (l : LState) (t : LTime) (items : List Item) : LState := items.foldl (fun a i => i.apply 0 t a) l

/-- The results and events that a work's contributions and tamper events bring with them, in the same group (R181, R194). -/
def Work.rebalance (s : State) (touched : List (GroupDesc × LTime)) (w : Work) : Work :=
  let l := s.led.work.after w.t w.items
  let x := evalOn s l false (touched.filter (reopens l w.t))
  let x := if w.r.bal.tamperAt = w.was.bal.tamperAt then x
    else match x.l.groupAt w.r.place.group w.t with
      | none => x
      | some g =>
        let at_ := ((w.r.bal.tamperAt : Int) - w.r.clock.offset).toNat
        let start := x.l.slotOf g.sec at_
        let run := x.l.runOf g start
        if g.own s && decide (run.length ≥ g.lim.persist) then x.tamper g run start else x
  { w with extra := w.extra ++ x.items }

/-- Contributions of an exchange with its offset, and what they change (R174 to R183). -/
def Work.balanceExchange (s : State) (events : List RxEvent) (w : Work) : Work :=
  let measured := w.r.clock.offsetAt != w.was.clock.offsetAt
  let p := ((w.tampers events).contribute s true measured)
  p.1.rebalance s p.2

/-- Contributions of a correction, and what they change. -/
def Work.balanceEdit (s : State) (w : Work) : Work :=
  let p := w.contribute s false false
  p.1.rebalance s p.2

/-! ## Rows -/

/-- An interval a row names: the group's descriptor at its start, where the chip evaluates the group and the start is one. -/
def intervalOf (s : State) (group : Nat) (start : LTime) : Option GroupDesc :=
  match s.led.work.groupAt group start with
  | some g => if g.own s && g.ref.evalLoss && s.led.work.slotOf g.sec start == start then some g else none
  | none => none

/-- An evaluation of one interval in a group of its own; one that the ledger refuses is not retried (R181). -/
def evalRow (g : GroupDesc) (start : LTime) (final : Bool) (s : State) : State :=
  let s := timerInput s
  let items := (evalOn s s.led.work final [(g, start)]).items
  if (appendRefusal items s).isSome then
    { s with balance := { s.balance with tried := s.balance.tried ++ [(g.ref.group, start)] } }
  else append items none s

/-- BALANCE_FIRST_EVALUATION (R181): at S + t + 1 s. -/
def opBalanceFirst (group : Nat) (start : LTime) (s : State) : State :=
  match intervalOf s group start with
  | none => s
  | some g =>
    if !inService s || s.time.unset || decide (now s < start + ltSec (g.sec + 1)) ||
      (s.led.work.resultOf group start).isSome || s.balance.tried.contains (group, start) then s
    else evalRow g start (decide (g.finalAt start ≤ now s)) s

/-- Boundary records whose intervals are all FINAL are released (R202). -/
def releaseBounds (s : State) : State :=
  let t := now s
  let gs := ((s.led.work.tables.groups.inForce.flatMap fun e => e.2.2.groups)).filter fun g => g.own s
  let freed (b : BoundaryRec) : Bool := gs.all fun g =>
    g.point != some b.point || decide (g.finalAt (s.led.work.slotOf g.sec (b.at_ + ltSec 10)) ≤ t)
  onLed (fun l => { l with work := { l.work with bounds := l.work.bounds.filter fun b => !freed b } }) s

/-- BALANCE_FINAL_EVALUATION (R181): the last evaluation, after which the result never changes. -/
def opBalanceFinal (group : Nat) (start : LTime) (s : State) : State :=
  match intervalOf s group start with
  | none => s
  | some g =>
    if !inService s || s.time.unset || decide (now s < g.finalAt start) ||
      ((s.led.work.resultOf group start).map (·.done)).getD (s.balance.tried.contains (group, start)) then s
    else releaseBounds (evalRow g start true s)

/-- The first balance boundary at or after an instant: a multiple of 15 minutes of the UTC count (R172, R173). -/
def balanceBoundary (l : LState) (x : LTime) : LTime :=
  let b := l.slotOf 900 x
  if b = x then x else l.slotOf 900 (x + ltSec 1350)

/-- A record under a group table: its group, the instant its membership took effect, and whether its interval is
incompatible (R172, R173). A full table that does not name a record leaves it in no group. DEDUCED (log entry 42). -/
def Rec.grouped (l : LState) (x : LTime) (r : Rec) : Rec :=
  let g := groupOf l r.identity
  let bad := ((l.groupAt g x).map fun d => l.incompatible d r.cls).getD false
  { r with
    place := { r.place with group := g }
    bal := { r.bal with
      groupSince := if g = r.place.group then r.bal.groupSince else x
      incompatible := bad } }

/-- A record's place under a group table that took effect at an instant, in a group of its own where it changes (R172). -/
def groupMeter (x : LTime) (s : State) (idx : Nat) : State :=
  match getRec s idx with
  | some r => if r.grouped s.led.work x == r then s else patchRec idx (Rec.grouped s.led.work x) [] s
  | none => s

/-- GROUP_TABLE_EFFECTIVE (R172). -/
def opGroupTableEffective (s : State) : State :=
  match s.led.work.tables.groups.pending with
  | none => s
  | some p =>
    let x := balanceBoundary s.led.work p.1
    if !inService s || s.time.unset || decide (now s < x) then s
    else
      let s := append [.effective .groups x] none (timerInput s)
      (s.led.work.recs.map (·.1)).foldl (groupMeter x) s

/-- A daily row's day: the row acts once in each UTC day. `k` numbers the rows (BalanceRun.days). -/
def daily (k : Nat) (f : State → State) (s : State) : State :=
  let d := s.led.work.utcDay (now s)
  if !inService s || s.time.unset || s.balance.days.getD k 0 == d then s
  else f (timerInput { s with balance := { s.balance with days := s.balance.days.set k d } })

/-- A record whose PEAK moves on to the next day's entry, which starts at 0 (R195). -/
def Rec.nextPeakDay (r : Rec) : Rec :=
  let k := (r.bal.peakPos + 1) % 7
  { r with bal := { r.bal with peakPos := k, peakDay := r.bal.peakDay.set k 0 } }

/-- PEAK_DAY_CLEAR (R195): the day's entry is the next one, and starts at 0. -/
def opPeakDayClear (s : State) : State :=
  daily 0 (fun s => (s.led.work.recs.filter fun e => e.2.segment == 0).foldl (fun s e => patchRec e.1 Rec.nextPeakDay [] s) s) s

/-- Past memberships that no interval still open can ask for. -/
def LState.prunePast (l : LState) (t : LTime) : LState :=
  { l with past := l.past.filter fun p => decide (t < p.until_ + ltSec (604800 + 3600)) }

/-- DAILY_RECLAIM (R118): at 00:00 UTC what ended before the ceiling is given back. -/
def opDailyReclaim (s : State) : State :=
  daily 1 (fun s => onLed (fun l => { l with work := l.work.prunePast (now s) }) (reclaimDaily s)) s

/-- BALANCE_FIRST_EVALUATION (R181). -/
def execBalanceFirstEvaluation (group : Nat) (start : LTime) (s : State) : Host.Outcome State Fault Refusal :=
  .next (onTimer (opBalanceFirst group start) s)

/-- BALANCE_FINAL_EVALUATION (R181). -/
def execBalanceFinalEvaluation (group : Nat) (start : LTime) (s : State) : Host.Outcome State Fault Refusal :=
  .next (onTimer (opBalanceFinal group start) s)

/-- GROUP_TABLE_EFFECTIVE (R172). -/
def execGroupTableEffective (s : State) : Host.Outcome State Fault Refusal := .next (onTimer opGroupTableEffective s)

/-- PEAK_DAY_CLEAR (R195). -/
def execPeakDayClear (s : State) : Host.Outcome State Fault Refusal := .next (onTimer opPeakDayClear s)

/-- DAILY_RECLAIM (R118). -/
def execDailyReclaim (s : State) : Host.Outcome State Fault Refusal := .next (onTimer opDailyReclaim s)

end Sys2Proof.Machine
end

