-- ==== Sys2Proof/Machine/Snapshots.lean ====
section
/-! DEFINITION. Coordinated snapshots (R184, R185, R203, R238, R239, R260), phase assignment (R186 to R188), branch inference
(R189) and the voltage-drop test (R190). -/

namespace Sys2Proof.Machine

/-! ## Phase votes (R186, R187) -/

/-- An angle in hundredths of a degree wrapped into −18,000 to 17,999. -/
def wrapAngle (x : Int) : Int := (x + 18000) % 36000 - 18000

/-- The chip's phasor of an input at a snapshot, where present. -/
def LState.ownPhasor (l : LState) (id input : Nat) : Option Phasor :=
  (l.phasors.find? fun p => p.snapshotId == id).bind fun p => (p.inputs[input]?).join

/-- The phase whose voltage stands nearest to an angle, with the magnitude of the difference; the lower phase of equals. -/
def LState.nearest (l : LState) (id : Nat) (shift angle : Int) : Option (Nat × Nat) :=
  ([0, 1, 2].filterMap fun k => (l.ownPhasor id k).map fun p => (k + 1, (wrapAngle (angle - p.angle - shift)).natAbs)).foldl
    (fun a x => match a with
      | some b => if x.2 < b.2 then some x else a
      | none => some x) none

/-- The vote of a reply: phase and confidence. -/
def LState.voteOf (l : LState) (id : Nat) (shift : Int) (ps : List SnapPhase) : Option (Nat × Nat) :=
  let votes := (ps.filterMap fun p => l.nearest id shift p.vAngle).filter fun v => decide (v.2 ≤ 1500)
  match ps, votes with
  | [_], [v] => some (v.1, 100 - v.2 / 60)
  | [_, _, _], [a, b, c] =>
    if a.1 != b.1 && b.1 != c.1 && a.1 != c.1 then
      some (4, min (100 - a.2 / 60) (min (100 - b.2 / 60) (100 - c.2 / 60)))
    else none
  | _, _ => none

/-- The votes kept, newest first. -/
def BalArea.kept (b : BalArea) : List (Nat × Nat) :=
  (List.range b.votesUsed).map fun k => b.votes.getD ((b.votePos + 15 - k) % 8) (0, 0)

/-- PHASE and PHASE_CONF from the kept votes (R186): most votes, of equals that of the most recent vote. -/
def phaseOf (kept : List (Nat × Nat)) : Nat × Nat :=
  let count (p : Nat) : Nat := (kept.filter fun v => v.1 == p).length
  let best := kept.foldl (fun a v => if count v.1 > count a then v.1 else a) ((kept.head?.map (·.1)).getD 0)
  (best, ((kept.filter fun v => v.1 == best).map (·.2)).sum / max 1 kept.length)

/-- A record with one more vote: with 3 or more, the votes assign the phase and replace a correlation. -/
def Rec.vote (v : Nat × Nat) (r : Rec) : Rec :=
  let b := { r.bal with
    votes := r.bal.votes.set r.bal.votePos v
    votePos := (r.bal.votePos + 1) % 8
    votesUsed := min 8 (r.bal.votesUsed + 1) }
  let p := phaseOf b.kept
  if b.votesUsed < 3 then
    if b.byCorrelation then { r with bal := b }
    else { r with bal := b, place := { r.place with phase := 0, phaseConf := p.2 } }
  else
    { r with
      bal := { b with byCorrelation := false }
      place := { r.place with phase := if p.2 ≥ 50 then p.1 else 0, phaseConf := p.2 } }

/-- The SNAP entry of a single-phase meter: that of its PHASE, L1 while unassigned (Table LT.9). -/
def Rec.snapIndex (r : Rec) : Nat := if 1 ≤ r.place.phase ∧ r.place.phase ≤ 3 then r.place.phase - 1 else 0

/-- No phasor. -/
def SnapPhase.blank : SnapPhase := ⟨0, 0, 0, 0⟩

/-- An accepted reply in the record (R185 to R187, Table LT.9). -/
def Rec.snapped (l : LState) (id : Nat) (at_ : LTime) (ps : List (Option SnapPhase)) (r : Rec) : Rec :=
  let present := ps.filterMap fun p => p
  let shift := ((l.groupAt r.place.group at_).map (·.lim.phaseShiftCdeg)).getD 0
  let r := match l.voteOf id shift present with
    | some v => r.vote v
    | none => r
  let snap := match present with
    | [p] => (List.replicate 3 SnapPhase.blank).set r.snapIndex p
    | _ => (List.range 3).map fun k => ((ps[k]?).join).getD SnapPhase.blank
  { r with bal := { r.bal with everAccepted := true, snapId := id, snapAt := at_, snap := snap } }

/-- Intervals of a record's groups that its PHASE or BRANCH can still change (R181). -/
def openIntervals (s : State) (idx : Nat) : List (GroupDesc × LTime) :=
  s.led.work.results.filterMap fun x =>
    match s.led.work.groupAt x.group x.start with
    | some g =>
      if g.own s && !x.done && decide (now s < g.finalAt x.start) &&
        ((s.led.work.membersAt x.group x.start).any fun m => m.idx == idx) then some (g, x.start) else none
    | none => none

/-- A record changed by snapshots, correlation or inference: PHASE_ASSIGNED with a change of PHASE, and the intervals that the
change of PHASE or BRANCH touches, in one group (R181, R188). -/
def placeMeter (idx : Nat) (f : Rec → Rec) (s : State) : State :=
  match getRec s idx with
  | none => s
  | some r =>
    let r' := f r
    if r' == r then s
    else
      let mh := some (recMh idx r)
      let evs := if r'.place.phase = r.place.phase then []
        else [Item.event (mkEv s 0x0503 (putLe 1 r'.place.phase ++ putLe 1 r'.place.phaseConf) mh)]
      let items := Item.patch idx r r' :: evs
      let moved := r'.place.phase != r.place.phase || r'.place.branch != r.place.branch
      let more := if moved then (evalOn s (s.led.work.after (now s) items) false (openIntervals s idx)).items else []
      append (items ++ more) mh s

/-! ## Snapshots -/

/-- Snapshots changed. -/
def onSnapshots (f : List Snapshot → List Snapshot) (s : State) : State :=
  { s with balance := { s.balance with snapshots := f s.balance.snapshots } }

/-- One snapshot changed. -/
def onSnapshot (id : Nat) (f : Snapshot → Snapshot) (s : State) : State := onSnapshots (modifyFirst (fun x => x.id == id) f) s

/-- A snapshot by its identity. -/
def snapshotOf (s : State) (id : Nat) : Option Snapshot := s.balance.snapshots.find? fun x => x.id == id

/-- A snapshot formed (R184): SNAPSHOT_ID rises by 1 and is committed. -/
def formSnapshot (at_ : LTime) (group : Nat) (cmd : Option (Nat × Nat)) (s : State) : State :=
  let id := (s.led.work.snapshotId + 1) % 2 ^ 32
  onSnapshots (· ++ [⟨id, at_, group, [], [], [], [], 0, cmd⟩]) (append [.snapshotId id] none s)

/-- The meters a snapshot selects (R184, R239, R260): the chip's own, snapshot capable, joined and reached, of the group; in
ascending short address. A sleepy meter is never fetched. -/
def selectMeters (s : State) (group : Nat) : List (Nat × Net) :=
  let ms := s.led.work.recs.filter fun e =>
    e.2.segment == 0 && e.2.snapCap && !e.2.sleepy && reachable s e.2 && (group == 0xFFFFFFFF || e.2.place.group == group)
  (ms.mergeSort fun a b => decide (a.2.net.short ≤ b.2.net.short)).filterMap fun e => e.2.net.network.map fun n => (e.1, n)

/-- SNAPSHOT_FETCH to a meter (R239). -/
def sendFetch (id idx : Nat) (net : Net) (sends : Nat) (s : State) : State :=
  match getRec s idx with
  | none => s
  | some r =>
    onSnapshot id (fun x => { x with
      outstanding := (x.outstanding.filter fun o => o.1 != idx) ++ [(idx, net, sends, s.clk + timeoutTicks s r)] })
      (sendTo r 3 (.snapshotFetch id) s)

/-- Fetches started up to 8 outstanding on each network, none after AT + 55 s (R239). -/
def fillFetch (id : Nat) (s : State) : State :=
  match snapshotOf s id with
  | none => s
  | some x =>
    if now s > x.at_ + ltSec 55 then s
    else x.toFetch.foldl (fun s m =>
      match snapshotOf s id with
      | none => s
      | some y =>
        if (y.outstanding.filter fun o => o.2.1 == m.2).length < 8 then
          sendFetch id m.1 m.2 1 (onSnapshot id (fun z => { z with toFetch := z.toFetch.erase m }) s)
        else s) s

/-- Seconds of a group's snapshot period. -/
def GroupDesc.snapSec (g : GroupDesc) : Nat := g.lim.snapPeriodMin * 60

/-- PERIODIC_SNAPSHOT (R184): the snapshot of the group's next periodic instant is formed, from 30 s before it. -/
def opPeriodicSnapshot (group : Nat) (s : State) : State :=
  let l := s.led.work
  let t := now s
  match l.groupAt group t with
  | none => s
  | some g =>
    let x := l.slotOf g.snapSec (t + ltSec g.snapSec - ltSec 450) + ltSec 450
    if !inService s || s.time.unset || !g.own s || !g.ref.periodicSnap || decide (t + ltSec 30 < x) ||
      s.balance.snapshots.any (fun y => y.group == group && y.at_ == x) then s
    else formSnapshot x group none (timerInput s)

/-- SNAPSHOT_ORDER_SEND (R238): broadcast at AT − 20 s and AT − 10 s on each network. -/
def opSnapshotOrder (id : Nat) (s : State) : State :=
  match snapshotOf s id with
  | none => s
  | some x =>
    let due := x.at_ - ltSec (if x.ordersSent = 0 then 20 else 10)
    if x.ordersSent ≥ 2 || decide (now s < due) || decide (x.at_ ≤ now s) then s
    else
      let s := onSnapshot id (fun x => { x with ordersSent := x.ordersSent + 1 }) (timerInput s)
      [Net.plc, Net.rf].foldl (fun s n => broadcast n 3 (floodHops s n) (.snapshotOrder id x.at_) s) s

/-- Whether an input is calibrated (R198, R211): its entry in force is used. -/
def inputUsed (s : State) (n : Nat) : Bool :=
  ((s.led.work.tables.cal.now.bind fun t => t.inputs[n]?).map fun e => e.kind != 0).getD false

/-- SNAPSHOT_LATCH (R203): the chip's own phasors at AT; one whose window holds a missing sample is absent. -/
def opSnapshotLatch (id : Nat) (inputs : List (Option Phasor)) (s : State) : State :=
  match snapshotOf s id with
  | none => s
  | some x =>
    if decide (now s < x.at_) || s.led.work.phasors.any (fun p => p.snapshotId == id) then s
    else
      let ps := (List.range 12).map fun k => if s.d2d.up && inputUsed s k then (inputs[k]?).join else none
      append [.phasors ⟨id, x.at_, ps⟩] none (timerInput s)

/-- SNAPSHOT_FETCH_START (R239): at AT + 1 s. -/
def opSnapshotFetch (id : Nat) (s : State) : State :=
  match snapshotOf s id with
  | none => s
  | some x =>
    if decide (now s < x.at_ + ltSec 1) || !x.selected.isEmpty then s
    else
      let ms := selectMeters s x.group
      fillFetch id (onSnapshot id (fun x => { x with selected := ms, toFetch := ms }) (timerInput s))

/-- SNAPSHOT_FETCH_TIMEOUT (R239): sent a second time, or the meter counts as not latched and the next fetch starts. -/
def opSnapshotTimeout (idx : Nat) (s : State) : State :=
  match s.balance.snapshots.find? fun x => x.outstanding.any fun o => o.1 == idx && decide (o.2.2.2 ≤ s.clk) with
  | none => s
  | some x =>
    match x.outstanding.find? fun o => o.1 == idx with
    | none => s
    | some o =>
      let s := timerInput s
      if o.2.2.1 < 2 && decide (now s ≤ x.at_ + ltSec 55) then sendFetch x.id idx o.2.1 2 s
      else fillFetch x.id (onSnapshot x.id (fun x => { x with outstanding := x.outstanding.filter fun o => o.1 != idx }) s)

/-- SNAPSHOT_REPLY_RECEIVED (R185 to R187, R239, R477): accepted until AT + 60 s with STATUS 0, the fetch's identity and an
uncertainty of 50 µs or less. -/
def opSnapshotReply (f : RxFrame) (s : State) : State :=
  match f.msg with
  | .snapshotReply id st unc ps =>
    onFrame f s fun idx r s =>
      match snapshotOf s id with
      | none => s
      | some x =>
        if inSalvage s || !(x.selected.any fun m => m.1 == idx) || x.latched.contains idx || decide (x.at_ + ltSec 60 ≤ now s) then s
        else
          let ok := st == 0 && decide (unc ≤ 50)
          let s := onSnapshot id (fun x => { x with
            outstanding := x.outstanding.filter fun o => o.1 != idx
            latched := if ok then x.latched ++ [idx] else x.latched }) s
          let v := ((ps.filterMap fun p => p).head?.map (·.vMv)).getD 0
          let s := if !ok then s
            else
              let old := (lookupNat idx s.balance.snapVolts).getD []
              placeMeter idx (Rec.snapped s.led.work id x.at_ ps)
                { s with balance := { s.balance with snapVolts := insertNat idx (old ++ [(id, v)]) s.balance.snapVolts } }
          let _ := r
          fillFetch id s
  | _ => s

/-! ## The voltage-drop test (R190) -/

/-- A branch's seeds that the chip holds a record of. -/
def BranchDesc.held (l : LState) (b : BranchDesc) : List (Nat × Rec) := b.seeds.filterMap fun e => l.byEui e

/-- Meters whose record satisfies a test, of those the chip reaches. -/
def ownWhere (s : State) (f : Rec → Bool) : List Rec := (s.led.work.recs.filter fun e => e.2.segment == 0 && f e.2).map (·.2)

/-- A meter's phasor as last latched. -/
def Rec.phasor (r : Rec) : SnapPhase := r.bal.snap.getD r.snapIndex SnapPhase.blank

/-- In-phase current of a latched phasor, in 10^-6 mA (R190). -/
def SnapPhase.inPhase (p : SnapPhase) : Int := p.iMa * Config.cosMicro (p.iAngle - p.vAngle)

/-- The outcome of a snapshot on a branch: none when it is not tested, else c with I_u and V_s where positive. -/
def dropTest (s : State) (id : Nat) (g : GroupDesc) (b : BranchDesc) : Option (Nat × Option (Int × Int)) :=
  let l := s.led.work
  match b.seeds.head?.bind l.byEui with
  | none => none
  | some (_, seed) =>
    let p := seed.place.phase
    let on := ownWhere s fun r => r.place.branch == b.branch && decide (r.place.branchConf ≥ 50) && r.place.phase == p
    let silent := (on.filter fun r => r.bal.snapId != id).length
    match l.ownPhasor id (p - 1) with
    | none => none
    | some vp =>
      if b.zMohm = 0 || p = 0 || decide (p > 3) || seed.bal.snapId != id || decide (10 * silent > on.length) then none
      else
        let vs : Int := seed.phasor.vMv
        let ib := roundDiv (on.map fun r => r.phasor.inPhase).sum 1000000
        let d := roundDiv (b.zMohm * ib) 1000
        let iu := roundDiv (((vp.mag : Int) - vs - d) * 1000) b.zMohm
        let rest := ownWhere s fun r => r.place.group == g.ref.group && r.place.phase == p &&
          (decide (r.place.branchConf < 50) || r.place.branch == 0xFFFFFFFF)
        let bi := ceilInt (2 * g.lim.vAccMv * 1000 : Nat) b.zMohm + ceilInt (g.lim.memberAccPpm * ib) 1000000 +
          ((rest.map fun r => r.phasor.iMa).sum : Nat)
        if iu - bi > g.lim.iTolMa then some ((100 * (iu - bi) / iu).toNat, some (iu, vs)) else some (0, none)

/-- A branch's track after a tested snapshot. -/
def trackWith (branch c : Nat) (pos : Option (Int × Int)) (ts : List BranchTrack) : List BranchTrack :=
  let old := (ts.find? fun t => t.branch == branch).getD ⟨branch, [], none⟩
  (ts.filter fun t => t.branch != branch) ++ [⟨branch, lastN 4 (old.tested ++ [c]), pos.orElse fun _ => old.positive⟩]

/-- The tests of a snapshot on every active branch of the groups the chip evaluates, where FLAGS [2] asks for branch localisation (R190, log entry 76). -/
def dropTests (id : Nat) (s : State) : State :=
  match s.led.work.tables.groups.now with
  | none => s
  | some t =>
    t.branches.foldl (fun s b =>
      match t.groups.find? fun g => g.ref.group == b.group with
      | none => s
      | some g =>
        if !g.own s || !g.ref.branchLocal || (b.held s.led.work).isEmpty then s
        else match dropTest s id g b with
          | none => s
          | some (c, pos) => { s with balance := { s.balance with branches := trackWith b.branch c pos s.balance.branches } }) s

/-- SNAPSHOT_DONE (R184): at AT + 60 s the command completes, SNAPSHOT_DONE is raised and the drop tests run. -/
def opSnapshotDone (id : Nat) (s : State) : State :=
  match snapshotOf s id with
  | none => s
  | some x =>
    if decide (now s < x.at_ + ltSec 60) then s
    else
      let s := timerInput s
      let data := putLe 4 id ++ putLe 4 x.latched.length
      let ev := Item.event (mkEv s 0x0504 data none)
      let s := dropTests id (onSnapshots (fun l => l.filter fun y => y.id != id) s)
      match x.cmd.bind (inflightOf s) with
      | some f => finish f (.change [ev] (auditParam f.cmd none) 0 data [] 0 s) s
      | none => append [ev] none s

/-! ## Correlation and inference (R188, R189) -/

/-- The pairs of R188 for a meter: (value, chip mean of each phase in µV) of the last 672 aligned VALID slots. -/
def voltagePairs (l : LState) (idx : Nat) (ch : Nat) : List (Int × List Int) :=
  let series := (lookupNat idx l.series).getD []
  let slots := series.filter fun e => e.channel == ch && e.isMain && e.state == .valid && !e.short
  let aligned := slots.filterMap fun e =>
    (l.contribs.find? fun c => c.idx == idx && c.label == e.start && c.fold == e.fold && !c.unaligned).map fun c => (e, c.offset)
  (lastN 672 aligned).filterMap fun x =>
    let a := ((x.1.start : Int) - x.2).toNat
    let ms := l.minutesIn (l.slotOf 60 (a + ltSec 30)) (l.slotOf 60 (a + ltSec (x.1.durationS + 30)))
    if ms.isEmpty then none
    else some (x.1.value, (List.range 3).map fun k => roundDiv ((ms.map fun m => m.vRms.getD k 0).sum * 1000 : Nat) ms.length)

/-- The best of three correlations with its phase, and the second. -/
def bestTwo (rs : List Int) : Nat × Int × Int :=
  let best := (rs.zipIdx).foldl (fun (a : Nat × Int) x => if x.1 > a.2 then (x.2 + 1, x.1) else a) (1, rs.headD 0)
  let second := ((rs.zipIdx).filter fun x => x.2 + 1 != best.1).map (·.1)
  (best.1, best.2, second.foldl max (second.headD 0))

/-- A record after the correlation of its voltages (R188). -/
def Rec.correlated (pairs : List (Int × List Int)) (r : Rec) : Rec :=
  let rs := (List.range 3).map fun k => Config.correlate (pairs.map fun p => (p.1, p.2.getD k 0))
  let (phase, best, second) := bestTwo rs
  let conf := min 80 ((best - second) / 50).toNat
  let ok := decide (best ≥ 6000) && decide (conf ≥ 50)
  { r with
    place := { r.place with phase := if ok then phase else 0, phaseConf := conf }
    bal := { r.bal with corr := rs, pairs := pairs.length, byCorrelation := ok } }

/-- One meter's phase from its voltages (R188): a meter without three votes whose group has a voltage channel and which has 96
pairs or more. -/
def correlateMeter (s : State) (e : Nat × Rec) : State :=
  match s.led.work.groupAt e.2.place.group (now s) with
  | none => s
  | some g =>
    if g.ref.voltageCh = 0xFF || (e.2.snapCap && decide (e.2.bal.votesUsed ≥ 3)) then s
    else
      let ps := voltagePairs s.led.work e.1 g.ref.voltageCh
      if ps.length < 96 then s else placeMeter e.1 (Rec.correlated ps) s

/-- PHASE_CORRELATION (R188): once a day, the chip's own meters. -/
def opPhaseCorrelation (s : State) : State :=
  daily 2 (fun s => (s.led.work.recs.filter fun e => e.2.segment == 0).foldl correlateMeter s) s

/-- p_b of R189: from the least attenuation of a direct link to a seed or a meter of the branch. -/
def plcScore (s : State) (r : Rec) (b : BranchDesc) (before : List (Nat × Rec)) : Option Nat :=
  let ends := ((b.held s.led.work).map (·.2.net.short)) ++
    ((before.filter fun e => e.2.place.branch == b.branch && decide (e.2.place.branchConf ≥ 80)).map (·.2.net.short))
  let me := r.net.short
  let as := (s.zither.links.filter fun k => k.reported &&
    ((k.src == me && ends.contains k.dst) || (k.dst == me && ends.contains k.src))).map (·.attenDb)
  if r.net.network != some .plc || as.isEmpty then none else some (100 - 2 * as.foldl min (as.headD 0))

/-- v_b of R189: from the voltages of the last 16 snapshots that both the meter and seed 0 answered. -/
def voltScore (s : State) (idx : Nat) (b : BranchDesc) : Option Nat :=
  match b.seeds.head?.bind s.led.work.byEui with
  | none => none
  | some (seed, _) =>
    let mine := (lookupNat idx s.balance.snapVolts).getD []
    let its := (lookupNat seed s.balance.snapVolts).getD []
    let ps := lastN 16 (mine.filterMap fun x => (lookupNat x.1 its).map fun v => ((x.2 : Int), (v : Int)))
    if ps.length < 8 then none else some ((Config.correlate ps) / 100).toNat

/-- s_b with whether it rests on both sources. -/
def branchScore (s : State) (idx : Nat) (r : Rec) (before : List (Nat × Rec)) (b : BranchDesc) : Option (Nat × Nat × Bool) :=
  match plcScore s r b before, voltScore s idx b with
  | some p, some v => some (b.branch, (p + v) / 2, true)
  | some p, none => some (b.branch, p, false)
  | none, some v => some (b.branch, v, false)
  | none, none => none

/-- A record after inference with the scores of its candidates (R189). -/
def Rec.inferred (scores : List (Nat × Nat × Bool)) (r : Rec) : Rec :=
  let order := scores.mergeSort fun a b => decide (a.2.1 > b.2.1) || (a.2.1 == b.2.1 && decide (a.1 ≤ b.1))
  match order with
  | [] =>
    { r with
      place := { r.place with branch := 0xFFFFFFFF, branchConf := 0 }
      bal := { r.bal with secondBranch := 0xFFFFFFFF, sBest := 0, sSecond := 0 } }
  | x :: rest =>
    let second := (rest.head?.map (·.2.1)).getD 0
    let conf := min x.2.1 (2 * (x.2.1 - second))
    let conf := if x.2.2 then conf else min 60 conf
    { r with
      place := { r.place with branch := if conf ≥ 50 then x.1 else 0xFFFFFFFF, branchConf := conf }
      bal := { r.bal with
        secondBranch := (rest.head?.map (·.1)).getD 0xFFFFFFFF
        sBest := x.2.1
        sSecond := second } }

/-- A branch serves a meter's phase (R189): any branch for PHASE 0 or 4. -/
def BranchDesc.serves (b : BranchDesc) (phase : Nat) : Bool :=
  phase == 0 || phase == 4 || b.phases.testBit (phase - 1)

/-- One meter's branch (R189), on what the run before left in `s0`: a seed's own branch, else the best of its candidates. -/
def inferMeter (t : GroupTable) (s0 s : State) (e : Nat × Rec) : State :=
  let before := s0.led.work.recs.filter fun e => e.2.segment == 0
  let bs := t.branches.filter fun b => b.group == e.2.place.group && !(b.held s0.led.work).isEmpty
  if bs.isEmpty || !reachable s0 e.2 then s
  else match bs.find? fun b => b.seeds.contains (e.2.identity.take 8) with
    | some b => placeMeter e.1 (fun r => { r with place := { r.place with branch := b.branch, branchConf := 100 } }) s
    | none =>
      let cands := (bs.filter fun b => b.serves e.2.place.phase).filterMap (branchScore s0 e.1 e.2 before)
      placeMeter e.1 (Rec.inferred cands) s

/-- BRANCH_INFERENCE (R189): once a day, on what the run before left. -/
def opBranchInference (s : State) : State :=
  daily 3 (fun s =>
    match s.led.work.tables.groups.now with
    | none => s
    | some t => (s.led.work.recs.filter fun e => e.2.segment == 0).foldl (inferMeter t s) s) s

/-! ## BAL_ commands (Table LT.10) -/

/-- Waiting part of a distributed table's load (R125, R172): the head sends each table on to its subordinates. -/
def distribute (c : Cmd) (s : State) : State :=
  if !s.boot.headRole then s
  else (s.uploadHeads.filter (·.opened)).foldl (fun s u =>
    emit (.forward u.segment { c with param := putLe 4 0xFFFFFFFF ++ c.param.drop 4 }) s) s

/-- BAL_LOAD_GROUPS (R171, R172). -/
def bodyBalLoadGroups (c : Cmd) (s : State) : Answer :=
  let t := s.led.work.tables.groups
  loadTable c s t.version t.raw ((parseGroups t.now c.buf).map fun x v => .groups v c.buf x) none (fun _ => []) (distribute c)

/-- BAL_READ_RESULT: the latest committed result of a group's interval; 0 selects the latest evaluated. -/
def bodyBalReadResult (c : Cmd) (s : State) : Answer :=
  atEpoch s 0 fun n l =>
    let group := c.p 0x20 4
    let x := c.p 0x28 8
    let known := (l.tables.groups.now.map fun t => t.groups.any fun g => g.ref.group == group).getD false
    let bad := x != 0 && match (l.groupAt group x).orElse (fun _ => l.groupAt group (now s)) with
      | some g => l.slotOf g.sec x != x
      | none => true
    let r := if x = 0 then ((l.results.filter fun r => r.group == group).foldl (fun (a : Option BalResult) r =>
        match a with
        | some b => if r.start > b.start then some r else a
        | none => some r) none)
      else l.resultOf group x
    if !known || bad then no 0x0103
    else match r with
      | some r => okOut c n (putLe 1 r.status) r.bytes s
      | none => okOut c n (putLe 1 0) [] s

/-- BAL_SNAPSHOT (R184): formed when it starts, and in progress until AT + 60 s. -/
def bodyBalSnapshot (c : Cmd) (s : State) : Answer :=
  let at_ := c.p 0x20 8
  let t := now s
  let key := (c.ring, c.tag)
  if s.balance.snapshots.any fun x => x.cmd == some key then .hold
  else if at_ < t + ltSec 30 || decide (at_ > t + ltSec 3600) ||
    s.balance.snapshots.any (fun x => decide (((x.at_ : Int) - at_).natAbs ≤ 65536)) ||
    (c.deadline != 0 && decide (t + ltSec c.deadline < at_ + ltSec 60)) then no 0x0103
  else if s.balance.snapshots.length ≥ 4 then no 0x0304
  else match appendRefusal [.snapshotId 0] s with
    | some r => no r
    | none => .wait (formSnapshot at_ (c.p 0x28 4) (some key) s)

/-- BAL_READ_TOPOLOGY: the record's placement at the last committed epoch (R9, R73). -/
def bodyBalReadTopology (c : Cmd) (s : State) : Answer :=
  onMeter c s fun _ _ => atEpoch s 0 fun n l =>
    match l.recOf (c.p 0x20 4) with
    | some (_, r) => okData n (putLe 1 r.place.phase ++ putLe 1 r.place.phaseConf ++ zeros 2 ++ putLe 4 r.place.branch) s
    | none => no 0x0202

/-- BAL_READ_FEEDER: feeder minute records of a span, continued under R106. -/
def bodyBalReadFeeder (c : Cmd) (s : State) : Answer :=
  let a := c.p 0x20 8
  let b := c.p 0x28 8
  if a ≥ b then replyNo 0x0103 s
  else pagedRead c 0 (fun l => (l.minutesIn a b).map FeederMinute.bytes) (putLe 4) s

/-- PERIODIC_SNAPSHOT (R184). -/
def execPeriodicSnapshot (group : Nat) (s : State) : Host.Outcome State Fault Refusal :=
  .next (onTimer (opPeriodicSnapshot group) s)

/-- SNAPSHOT_ORDER_SEND (R238). -/
def execSnapshotOrderSend (id : Nat) (s : State) : Host.Outcome State Fault Refusal := .next (onTimer (opSnapshotOrder id) s)

/-- SNAPSHOT_LATCH (R203). -/
def execSnapshotLatch (id : Nat) (inputs : List (Option Phasor)) (s : State) : Host.Outcome State Fault Refusal :=
  .next (onTimer (opSnapshotLatch id inputs) s)

/-- SNAPSHOT_FETCH_START (R239). -/
def execSnapshotFetchStart (id : Nat) (s : State) : Host.Outcome State Fault Refusal := .next (onTimer (opSnapshotFetch id) s)

/-- SNAPSHOT_FETCH_TIMEOUT (R239). -/
def execSnapshotFetchTimeout (idx : Nat) (s : State) : Host.Outcome State Fault Refusal :=
  .next (onTimer (opSnapshotTimeout idx) s)

/-- SNAPSHOT_REPLY_RECEIVED (R185). -/
def execSnapshotReplyReceived (f : RxFrame) (s : State) : Host.Outcome State Fault Refusal := .next (opSnapshotReply f s)

/-- SNAPSHOT_DONE (R184). -/
def execSnapshotDone (id : Nat) (s : State) : Host.Outcome State Fault Refusal := .next (onTimer (opSnapshotDone id) s)

/-- PHASE_CORRELATION (R188). -/
def execPhaseCorrelation (s : State) : Host.Outcome State Fault Refusal := .next (onTimer opPhaseCorrelation s)

/-- BRANCH_INFERENCE (R189). -/
def execBranchInference (s : State) : Host.Outcome State Fault Refusal := .next (onTimer opBranchInference s)

/-- BAL_LOAD_GROUPS (R171). -/
def execBalLoadGroups (c : Cmd) (s : State) : Host.Outcome State Fault Refusal := .next (runDcs 0x0701 c bodyBalLoadGroups s)

/-- BAL_READ_RESULT (R196). -/
def execBalReadResult (c : Cmd) (s : State) : Host.Outcome State Fault Refusal := .next (runDcs 0x0702 c bodyBalReadResult s)

/-- BAL_SNAPSHOT (R184). -/
def execBalSnapshot (c : Cmd) (s : State) : Host.Outcome State Fault Refusal := .next (runDcs 0x0703 c bodyBalSnapshot s)

/-- BAL_READ_TOPOLOGY (R196). -/
def execBalReadTopology (c : Cmd) (s : State) : Host.Outcome State Fault Refusal := .next (runDcs 0x0704 c bodyBalReadTopology s)

/-- BAL_READ_FEEDER (R196). -/
def execBalReadFeeder (c : Cmd) (s : State) : Host.Outcome State Fault Refusal := .next (runDcs 0x0705 c bodyBalReadFeeder s)

end Sys2Proof.Machine
end

