-- ==== Sys2Proof/Machine/TariffCommands.lean ====
section
/-! DEFINITION. The commands of classes 0x04 to 0x06 but for the own relays: VAL_ (06), TRF_ and PPY_ (07). -/

namespace Sys2Proof.Machine

/-- The relay order that a command's change placed starts its exchange at once (R167, R168). -/
def kickPlaced (c : Cmd) (before after : State) : State :=
  match after.led.work.recOf (c.p 0x20 4) with
  | some (idx, r) =>
    if r.segment == 0 && ((getRec before idx).map (·.orders)) != some r.orders then kickOrders idx after else after
  | none => after

/-! ## VAL_ commands (06) -/

/-- A rule's 32 bytes (Table VA.2). -/
def Rule.bytes (r : Rule) : Bytes :=
  putLe 2 r.cls ++ putLe 1 r.kind ++ putLe 1 r.channels ++ putLe 1 r.action ++ putInt 1 r.scaler ++ putLe 2 r.n ++ putInt 8 r.a ++
    putInt 8 r.b ++ putLe 2 r.factor ++ zeros 6

/-- An estimation descriptor's 16 bytes (Table VA.3). -/
def EstDesc.bytes (e : EstDesc) : Bytes :=
  putLe 2 e.cls ++ putLe 1 (e.method1 + 4 * e.method2) ++ putLe 1 e.maxGap ++ putLe 1 e.historyWeeks ++ putLe 1 e.minHistory ++
    putLe 1 (bit e.scaleToRegister) ++ zeros 9

/-- A rule table's bytes (Table VA.1). -/
def RuleTable.bytes (t : RuleTable) : Bytes :=
  putLe 2 1 ++ putLe 2 t.rules.length ++ putLe 2 t.ests.length ++ zeros 2 ++ putLe 8 t.effective ++
    t.rules.flatMap Rule.bytes ++ t.ests.flatMap EstDesc.bytes

/-- A table's instant of effect is not in the future: it takes effect with the load (R125, R146, R147). -/
def atOnce (k : TableKind) (eff : LTime) (s : State) : List Item :=
  if eff ≤ now s then [.effective k (now s)] else []

/-- VAL_LOAD_RULES (R123, R125). -/
def bodyValLoadRules (c : Cmd) (s : State) : Answer :=
  let t := s.led.work.tables.rules
  match parseRules c.buf with
  | none => no 0x0107
  | some x =>
    loadTable c s t.version t.raw (some fun v => .rules v c.buf x) none (fun _ => atOnce .rules x.effective s) (distribute c)

/-- VAL_READ_RULES: the table in force at the last committed epoch, with its version; nothing before any (log entry 43). -/
def bodyValReadRules (c : Cmd) (s : State) : Answer :=
  atEpoch s 0 fun n l =>
    let t := l.tables.rules
    okOut c n (putLe 4 t.nowVersion) ((t.now.map RuleTable.bytes).getD []) s

/-- The corrections of an edit or a revalidation go on in the same group: billing, then balance (R137). -/
def Work.corrected (s : State) (w : Work) : Work := (w.bill).balanceEdit s

/-- VAL_EDIT (R136). -/
def bodyValEdit (c : Cmd) (s : State) : Answer :=
  onOwnMeter c s fun idx r =>
    let w := startWork idx r (now s) s
    if w.editBad (c.p 0x24 1) (c.p 0x25 1) (c.p 0x28 8) (c.pInt 0x30 8) then no 0x0103
    else
      let w := (w.edit (c.p 0x24 1) (c.p 0x25 1) (c.p 0x28 8) (c.pInt 0x30 8)).corrected s
      changeParam c (some (recMh idx r)) w.items [] s

/-- VAL_REVALIDATE (R137): CHANGED counts the values whose state or value changed. -/
def bodyValRevalidate (c : Cmd) (s : State) : Answer :=
  onOwnMeter c s fun idx r =>
    if c.p 0x28 8 ≥ c.p 0x30 8 then no 0x0103
    else
      let w := (startWork idx r (now s) s).revalidate (c.p 0x28 8) (c.p 0x30 8)
      let n := w.net.length
      changeParam c (some (recMh idx r)) (w.corrected s).items (putLe 4 n) s

/-! ## TRF_ commands (07) -/

/-- The tariff table last loaded: the pending one, else the one in force. -/
def Loaded.latest {α : Type} (t : Loaded α) : Option α :=
  match t.pending with
  | some p => some p.2.2
  | none => t.now

/-- A class's meter-resident form (R162): its schedule with its day profiles, and the special days. -/
def residentForm (l : LState) (cls : Nat) : Option ((TariffSched × List (Option DayProfile)) × List SpecialDay) :=
  (l.tables.tariff.latest.bind fun t => t.form cls).map fun f =>
    (f, (l.tables.calendar.latest.map (·.specials)).getD [])

/-- A push becomes pending where a load changes the meter's schedule (R162, Table TB.15). -/
def Work.pushMark (before after : LState) (eff : LTime) (w : Work) : Work :=
  if (residentForm after w.r.cls).isNone || residentForm before w.r.cls == residentForm after w.r.cls then w
  else w.onOrders fun o => { o with
    pushState := 1
    pushAttempts := 0
    pushVersion := after.tables.tariff.version
    pushEffective := eff }

/-- What a load of a tariff table or a calendar brings with it: its effect at once where EFFECTIVE is not in the future, with
what that does to each own meter (R146, R147, R154), and the pushes (R162). -/
def tariffLoadItems (t : TableLoad) (kind : TableKind) (eff : LTime) (s : State) : List Item :=
  let x := now s
  let imm := decide (eff ≤ x)
  let first := if imm then [Item.effective kind x] else []
  let l := s.led.work
  let l' := l.after x (.table t :: first)
  let s' := onLed (fun d => { d with work := l' }) s
  let tariff := imm && kind == .tariff
  let works := (ownMeters s).filterMap fun idx => (getRec s' idx).map fun r =>
    let w := workAt idx r x s'
    let w := if imm then w.tablesChanged l.tables.tariff.now tariff (kind == .calendar) else w
    w.pushMark l l' (max eff x)
  let works := works.filter fun w => !w.idle
  let evs := closedEvents s x (works.flatMap Work.snaps) ++ (if imm then switchedEvents s' l.tables.tariff.now tariff x else [])
  first ++ works.flatMap Work.items ++ evs.map Item.event

/-- TRF_LOAD_SCHEDULE (R144, R146). -/
def bodyTrfLoadSchedule (c : Cmd) (s : State) : Answer :=
  let t := s.led.work.tables.tariff
  match parseTariff s c.buf with
  | none => no 0x0107
  | some x =>
    loadTable c s t.version t.raw (some fun v => .tariff v c.buf x) none
      (fun v => tariffLoadItems (.tariff v c.buf x) .tariff x.effective s) (distribute c)

/-- TRF_LOAD_CALENDAR (R147). -/
def bodyTrfLoadCalendar (c : Cmd) (s : State) : Answer :=
  let t := s.led.work.tables.calendar
  match parseCalendar c.buf with
  | none => no 0x0107
  | some x =>
    loadTable c s t.version t.raw (some fun v => .calendar v c.buf x) none
      (fun v => tariffLoadItems (.calendar v c.buf x) .calendar x.effective s) (distribute c)

/-- TRF_READ_DETERMINANTS (R153, R154): a period block at the last committed epoch. -/
def bodyTrfReadDeterminants (c : Cmd) (s : State) : Answer :=
  onMeter c s fun _ _ => atEpoch s 0 fun n l =>
    match l.recOf (c.p 0x20 4) with
    | none => no 0x0202
    | some (_, r) =>
      let b := if c.p 0x24 4 = 0 then some r.openBlk else if c.p 0x24 4 = 1 then r.settling else none
      match b with
      | some b => okOut c n (putLe 4 b.provisional) b.bytes s
      | none => no 0x0103

/-- A push made pending by command (R162). -/
def markPush (idx : Nat) (s : State) : State :=
  let t := s.led.work.tables.tariff
  let eff := ((t.pending.map (·.1)).orElse fun _ => t.inForce.head?.map (·.1)).getD 0
  patchMeter idx (fun r => { r with orders := { r.orders with
    pushState := 1, pushAttempts := 0, pushVersion := t.version, pushEffective := eff } }) [] s

/-- A push started for one of every meter's: without a running session and with a place (R83). -/
def startPush (p : State × Nat) (idx : Nat) : State × Nat :=
  let s := markPush idx p.1
  match getRec s idx with
  | none => p
  | some r =>
    if (sessionOf s idx).isSome || decide (s.meters.sessions.length ≥ 1024) || !mayExchange s || !reachable s r then (s, p.2)
    else (openSession (mkSession s idx .push sessionPriority (s.clk + secTicks 300) none) s, p.2 + 1)

/-- TRF_PUSH (R162): one meter, or with ALL 1 every meter with a schedule; SENT counts the meters it started. A meter without
a schedule gives 0x0103. DESIGN CHOICE (log entry 44). -/
def bodyTrfPush (c : Cmd) (s : State) : Answer :=
  let l := s.led.work
  let all := c.p 0x24 1
  if all > 1 then no 0x0103
  else if all = 1 then
    if heldCount s ≥ 2 then no 0x0501
    else
      let own := (l.recs.filter fun e => e.2.segment == 0 && (residentForm l e.2.cls).isSome).map (·.1)
      let p := own.foldl startPush (s, 0)
      changeParam c none [] (putLe 4 p.2) p.1
  else onOwnMeter c s fun idx r =>
    if (residentForm l r.cls).isNone then no 0x0103
    else match startField c idx .push sessionPriority s with
      | .wait _ => startField c idx .push sessionPriority (markPush idx s)
      | a => a

/-! ## PPY_ commands (07) -/

/-- The account with a credit taken (R165). -/
def Credit.credited (amount : Int) (ref : Nat) (t : LTime) (c : Credit) : Credit :=
  { c with
    balance := c.balance + amount
    creditedTotal := satAdd64 c.creditedTotal amount
    lastCreditAt := t
    references := if ref = 0 then c.references else c.references.set c.refPos ref
    refPos := if ref = 0 then c.refPos else (c.refPos + 1) % 8 }

/-- PPY_CREDIT (R165), judged in the order of its sentences. -/
def bodyPpyCredit (c : Cmd) (s : State) : Answer :=
  onOwnMeter c s fun idx r =>
    let amount := c.pInt 0x28 8
    let ref := c.p 0x30 8
    let b := r.credit.balance
    if !r.prepay then no 0x0103
    else if ref != 0 && r.credit.references.contains ref then .refuse 0x0002 (putInt 8 b)
    else if !fits64 (b + amount) then no 0x0103
    else
      let w := ((startWork idx r 0 s).onCredit (Credit.credited amount ref (now s))).judgeAccount
      let mh := some (recMh idx r)
      .change w.items ⟨0, false, false, mh, 0, 0, putInt 8 b, putInt 8 (b + amount) ++ putLe 8 ref⟩ 0
        (putInt 8 (b + amount)) [] c.bufLen s

/-- PPY_READ_ACCOUNT (R164): the account at the last committed epoch. -/
def bodyPpyReadAccount (c : Cmd) (s : State) : Answer :=
  onMeter c s fun _ _ => atEpoch s 0 fun n l =>
    match l.recOf (c.p 0x20 4) with
    | some (_, r) => okOut c n (putInt 8 r.credit.balance) r.credit.bytes s
    | none => no 0x0202

/-- PPY_SET_FRIENDLY (R166). -/
def bodyPpySetFriendly (c : Cmd) (s : State) : Answer :=
  let t := s.led.work.tables.friendly
  loadTable c s t.version t.raw ((parseFriendly s c.buf).map fun x v => .friendly v c.buf x) none (fun _ => []) (distribute c)

/-- A relay command (R170, Table TB.17): `kind` is the order's PENDING code. It waits while the relay moves or its own order
is out; in the target state it gives 0x0002; else its order is placed and an exchange starts for it. -/
def relayCommand (c : Cmd) (kind : Nat) (s : State) : Answer :=
  onOwnMeter c s fun idx r =>
    let st := r.place.relay
    if !r.hasRelay || kind = 0 then no 0x0103
    else if orderPlaced c s || st == .disconnecting || st == .reconnecting then .hold
    else if atTarget kind st then .refuse 0x0002 (putLe 1 st.code)
    else
      let w := startWork idx r 0 s
      let w := if kind != 1 && r.credit.state == .exhausted then w.onCredit fun a => { a with operatorHold := true } else w
      let w := w.order kind 1 c.tag
      let mh := some (recMh idx r)
      if atTarget kind w.r.place.relay then changeParam c mh w.items (putLe 1 w.r.place.relay.code) s
      else match orderOf kind with
        | none => no 0x0103
        | some k =>
          match startField c idx (.relay k) 3 s with
          | .wait _ => startField c idx (.relay k) 3 (append w.items mh s)
          | a => a

/-- PPY_DISCONNECT (R170). -/
def bodyPpyDisconnect (c : Cmd) (s : State) : Answer := relayCommand c 1 s

/-- PPY_RECONNECT (R170): MODE 0 arms, 1 closes. -/
def bodyPpyReconnect (c : Cmd) (s : State) : Answer :=
  relayCommand c (if c.p 0x24 1 = 0 then 2 else if c.p 0x24 1 = 1 then 3 else 0) s

/-- VAL_LOAD_RULES (R123). -/
def execValLoadRules (c : Cmd) (s : State) : Host.Outcome State Fault Refusal := .next (runDcs 0x0401 c bodyValLoadRules s)

/-- VAL_READ_RULES (R125). -/
def execValReadRules (c : Cmd) (s : State) : Host.Outcome State Fault Refusal := .next (runDcs 0x0402 c bodyValReadRules s)

/-- VAL_EDIT (R136). -/
def execValEdit (c : Cmd) (s : State) : Host.Outcome State Fault Refusal :=
  .next (kickPlaced c s (runDcs 0x0403 c bodyValEdit s))

/-- VAL_REVALIDATE (R137). -/
def execValRevalidate (c : Cmd) (s : State) : Host.Outcome State Fault Refusal :=
  .next (kickPlaced c s (runDcs 0x0404 c bodyValRevalidate s))

/-- TRF_LOAD_SCHEDULE (R144). -/
def execTrfLoadSchedule (c : Cmd) (s : State) : Host.Outcome State Fault Refusal :=
  .next (runDcs 0x0501 c bodyTrfLoadSchedule s)

/-- TRF_LOAD_CALENDAR (R147). -/
def execTrfLoadCalendar (c : Cmd) (s : State) : Host.Outcome State Fault Refusal :=
  .next (runDcs 0x0502 c bodyTrfLoadCalendar s)

/-- TRF_READ_DETERMINANTS (R154). -/
def execTrfReadDeterminants (c : Cmd) (s : State) : Host.Outcome State Fault Refusal :=
  .next (runDcs 0x0503 c bodyTrfReadDeterminants s)

/-- TRF_PUSH (R162). -/
def execTrfPush (c : Cmd) (s : State) : Host.Outcome State Fault Refusal := .next (runDcs 0x0504 c bodyTrfPush s)

/-- PPY_CREDIT (R165). -/
def execPpyCredit (c : Cmd) (s : State) : Host.Outcome State Fault Refusal :=
  .next (kickPlaced c s (runDcs 0x0601 c bodyPpyCredit s))

/-- PPY_READ_ACCOUNT (R164). -/
def execPpyReadAccount (c : Cmd) (s : State) : Host.Outcome State Fault Refusal := .next (runDcs 0x0602 c bodyPpyReadAccount s)

/-- PPY_SET_FRIENDLY (R166). -/
def execPpySetFriendly (c : Cmd) (s : State) : Host.Outcome State Fault Refusal := .next (runDcs 0x0603 c bodyPpySetFriendly s)

/-- PPY_DISCONNECT (R170). -/
def execPpyDisconnect (c : Cmd) (s : State) : Host.Outcome State Fault Refusal := .next (runDcs 0x0604 c bodyPpyDisconnect s)

/-- PPY_RECONNECT (R170). -/
def execPpyReconnect (c : Cmd) (s : State) : Host.Outcome State Fault Refusal := .next (runDcs 0x0605 c bodyPpyReconnect s)

end Sys2Proof.Machine
end

