-- ==== Sys2Proof/Machine/Campaign.lean ====
section
/-! DEFINITION. Meter firmware campaigns (18_firmware_updates R417 to R421): their description, their rounds, the step each meter
needs next, and the commands of class 0x0A that run them. -/

namespace Sys2Proof.Machine

/-! ## The image -/

/-- Units of volume 3 read: one that is not mapped reads as zeros (R325). -/
def vol3Read (s : State) (lba n : Nat) : Bytes :=
  (List.range n).flatMap fun k => fitTo 4096 ((lookupNat (lba + k) s.store.vol3).getD [])

/-- The image of a campaign. -/
def Campaign.image (c : Campaign) (s : State) : Bytes := (vol3Read s c.imageLba (ceilDiv c.imageLen 4096)).take c.imageLen

/-- Number of blocks; the last may be short (R419). -/
def Campaign.blocks (c : Campaign) : Nat := ceilDiv c.imageLen c.blockSize

/-- The bytes of a block. -/
def Campaign.block (c : Campaign) (s : State) (n : Nat) : Bytes := ((c.image s).drop (n * c.blockSize)).take c.blockSize

/-- The description of Table FW.6 with the MHs it names; none where it is malformed (R417). -/
def parseCampaign (b : Bytes) : Option (Campaign × List Nat) :=
  let count := le b 0x22 2
  let idLen := le b 0x20 1
  if b.length == 128 + 4 * count && le b 0 2 == 1 && [64, 128, 256, 512].contains (le b 4 2) &&
      within 1 3 (le b 6 1) && within 1 15 (le b 7 1) && within 1 16777216 (le b 0x10 4) &&
      within 60 43200 (le b 0x14 2) && within 50 10000 (le b 0x16 2) && within 1 32 idLen &&
      decide (count ≤ 4096) && zeroAt b 0x24 28 && zeroAt b (0x40 + idLen) (32 - idLen) then
    some ({ num := 0, cls := le b 2 2, blockSize := le b 4 2, networks := le b 6 1, rounds := le b 7 1,
            imageLba := le b 8 8, imageLen := le b 0x10 4, roundGapS := le b 0x14 2, paceMs := le b 0x16 2,
            activateAt := le b 0x18 8, unicastMax := le b 0x21 1, imageId := (b.drop 0x40).take idLen,
            imageDigest := (b.drop 0x60).take 32, targets := [], round := 0, phase := .starting, since := 0,
            toSend := [], nextBlockAt := 0, read := [], missing := [], activating := false, done := false },
          (List.range count).map fun k => le b (0x80 + 4 * k) 4)
  else none

/-! ## Campaigns -/

/-- The running campaigns. -/
def runningCampaigns (s : State) : List Campaign := s.fw.campaigns.filter fun c => !c.done

/-- A running campaign by number. -/
def campaignOf (s : State) (num : Nat) : Option Campaign := s.fw.campaigns.find? fun c => c.num == num && !c.done

/-- A campaign changed. -/
def onCampaign (num : Nat) (f : Campaign → Campaign) (s : State) : State :=
  { s with fw := { s.fw with campaigns := modifyFirst (fun c => c.num == num) f s.fw.campaigns } }

/-- The campaign as it stands goes to the ledger; where it stands within a round is not kept there (log entry 45). -/
def keepCampaign (num : Nat) (s : State) : State :=
  match campaignOf s num with
  | some c => append [.campaign c] none s
  | none => s

/-- Numbers run from 1; those still running are skipped (R417). -/
def nextCampaign (s : State) : Nat :=
  let m := maxNat (s.led.work.campaigns.map (·.num))
  if m < 65535 then m + 1
  else (lowestFrom (fun n => n != 0 && (campaignOf s n).isNone) 65536 0).getD 1

/-- Campaign traffic may start (R421): no hold, fewer than two epochs HELD, not in SALVAGE. -/
def campaignTraffic (s : State) : Bool := mayExchange s && !inSalvage s

/-- State of a target (Table FW.7): FAILED once it is released. -/
def targetState (s : State) (num : Nat) (t : Nat × Nat) : Nat :=
  match getRec s t.1 with
  | some r => if r.gen = t.2 && r.place.campaign == num then r.place.campaignState else 8
  | none => 8

/-- A target's record, while it is one. -/
def targetRec (s : State) (t : Nat × Nat) : Option Rec :=
  match getRec s t.1 with
  | some r => if r.gen = t.2 then some r else none
  | none => none

/-- Targets in a state. -/
def targetsIn (s : State) (c : Campaign) (st : Nat) : Nat := (c.targets.filter fun t => targetState s c.num t == st).length

/-- The networks of a campaign. -/
def Campaign.nets (c : Campaign) : List Net :=
  (if c.networks.testBit 0 then [Net.plc] else []) ++ (if c.networks.testBit 1 then [Net.rf] else [])

/-- CAMPAIGN_DONE with the counts (R420). -/
def campaignDone (s : State) (c : Campaign) : EvRec :=
  mkEv s 0x0D04 (putLe 2 c.num ++ putLe 4 (targetsIn s c 7) ++ putLe 4 (targetsIn s c 8)) none

/-- A campaign ends when no target remains below COMPLETE other than failed or aborted ones (R420). -/
def checkCampaign (num : Nat) (s : State) : State :=
  match campaignOf s num with
  | none => s
  | some c =>
    if c.targets.all fun t => decide (targetState s num t ≥ 7) then
      append [.campaignEnd num, .event (campaignDone s c)] none (onCampaign num (fun c => { c with done := true }) s)
    else s

/-- A record's progress set. -/
def Rec.campaigned (num st : Nat) (r : Rec) : Rec := { r with place := { r.place with campaign := num, campaignState := st } }

/-- Progress of a target, in a group of its own. -/
def setProgress (idx num st : Nat) (s : State) : State := patchRec idx (Rec.campaigned num st) [] s

/-! ## Rounds (R419) -/

/-- Targets that count for the start of a round: those that do not sleep. -/
def awakeTargets (s : State) (c : Campaign) : List (Nat × Nat) :=
  c.targets.filter fun t => ((targetRec s t).map (!·.sleepy)).getD false

/-- A round may start: round 0 once every non-sleepy target has passed TARGETED or ROUND_GAP_S after the start; a later one
once every such TRANSFERRING target has been read, or ROUND_GAP_S after the reading began (log entry 46). -/
def roundReady (s : State) (c : Campaign) : Bool :=
  let late := decide (c.since + secTicks c.roundGapS ≤ s.clk)
  match c.phase with
  | .starting => late || (awakeTargets s c).all fun t => targetState s c.num t != 1
  | .reading =>
    decide (c.round < c.rounds) && c.missing.any (fun m => !m.2.isEmpty) &&
      (late || (awakeTargets s c).all fun t => targetState s c.num t != 3 || c.read.contains t.1)
  | _ => false

/-- Blocks a round broadcasts: every block, or the union of what meters miss more than UNICAST_MAX of. -/
def roundBlocks (s : State) (c : Campaign) : List Nat :=
  if c.phase == .starting then List.range c.blocks
  else
    let wide := c.missing.filter fun m =>
      decide (m.2.length > c.unicastMax) && ((getRec s m.1).map (!·.sleepy)).getD false
    (List.range c.blocks).filter fun b => wide.any fun m => m.2.contains b

/-- A sleepy target misses every block until it has taken them by unicast. -/
def sleepyMissing (s : State) (c : Campaign) : List (Nat × List Nat) :=
  (c.targets.filter fun t => ((targetRec s t).map (·.sleepy)).getD false).map fun t => (t.1, List.range c.blocks)

/-- A round's beginning: its blocks, and where it has none, its end. -/
def Campaign.begin (blocks : List Nat) (sleepy : List (Nat × List Nat)) (clk : Nat) (c : Campaign) : Campaign :=
  { c with
    round := if c.phase == .starting then 0 else c.round + 1
    phase := if blocks.isEmpty then .gap else .sending
    missing := if c.phase == .starting then sleepy else c.missing
    toSend := blocks
    nextBlockAt := clk
    since := clk
    read := [] }

/-- CAMPAIGN_ROUND_START (R419): at round 0 every INITIATED target becomes TRANSFERRING. -/
def opRoundStart (num : Nat) (s : State) : State :=
  match campaignOf s num with
  | none => s
  | some c =>
    if !inService s || !campaignTraffic s || !roundReady s c then s
    else
      let s := timerInput s
      let first := c.targets.filter fun t => c.phase == .starting && targetState s num t == 2
      let s := onCampaign num (Campaign.begin (roundBlocks s c) (sleepyMissing s c) s.clk) s
      keepCampaign num (first.foldl (fun s t => setProgress t.1 num 3 s) s)

/-- CAMPAIGN_BLOCK_PACE (R419): the next block goes on each network; after the last one the gap begins. -/
def opBlockPace (num : Nat) (s : State) : State :=
  match campaignOf s num with
  | none => s
  | some c =>
    match c.toSend with
    | [] => s
    | b :: rest =>
      if c.phase != .sending || !inService s || !campaignTraffic s || decide (s.clk < c.nextBlockAt) then s
      else
        let m : Msg := .imageBlock num b (c.block s b)
        let s := c.nets.foldl (fun s net => broadcast net (ownPriority m) (floodHops s net) m s) (timerInput s)
        onCampaign num (fun c => { c with
          toSend := rest
          nextBlockAt := s.clk + msTicks c.paceMs
          phase := if rest.isEmpty then .gap else .sending
          since := if rest.isEmpty then s.clk else c.since }) s

/-- CAMPAIGN_ROUND_GAP (R419): the missing blocks of each target are read from now on, each at its next exchange. -/
def opRoundGap (num : Nat) (s : State) : State :=
  match campaignOf s num with
  | none => s
  | some c =>
    if c.phase != .gap || !inService s || decide (s.clk < c.since + secTicks c.roundGapS) then s
    else onCampaign num (fun c => { c with phase := .reading, since := s.clk, read := [] }) (timerInput s)

/-- An exchange started to activate a VERIFIED target, where a place is free (R420). -/
def kickActivate (num : Nat) (s : State) (t : Nat × Nat) : State :=
  match targetRec s t with
  | none => s
  | some r =>
    if targetState s num t != 5 || (sessionOf s t.1).isSome || decide (s.meters.sessions.length ≥ 1024) ||
      !campaignTraffic s || !reachable s r then s
    else openSession (mkSession s t.1 (.campaign 4) sessionPriority (s.clk + secTicks 300) none) s

/-- CAMPAIGN_ACTIVATE_AT (R420): activation orders start. -/
def opActivateAt (num : Nat) (s : State) : State :=
  match campaignOf s num with
  | none => s
  | some c =>
    if c.activating || c.activateAt = 0 || !inService s || s.time.unset || decide (now s < c.activateAt) then s
    else
      let s := keepCampaign num (onCampaign num (fun c => { c with activating := true }) (timerInput s))
      c.targets.foldl (kickActivate num) s

/-- Campaigns at a start: a round that was under way begins again (log entry 45). -/
def campaignsAtStart (s : State) : State :=
  { s with fw := { s.fw with
      campaigns := s.led.work.campaigns.map fun c => { c with since := s.clk, nextBlockAt := s.clk } } }

/-! ## A meter's next step (R418) -/

/-- The step that a target needs: 0 a status is read, 1 initiate, 2 a block by unicast, 3 verify, 4 activate. -/
def stepOf (c : Campaign) (idx : Nat) (r : Rec) : Option Nat :=
  let miss := (lookupNat idx c.missing).getD []
  match r.place.campaignState with
  | 1 => if c.phase == .stopped then none else some 1
  | 3 =>
    if c.phase == .starting || c.phase == .stopped then none
    else if r.sleepy then (if miss.isEmpty then some 0 else some 2)
    else if c.phase == .reading then (if c.read.contains idx then none else some 0)
    else if decide (c.round ≥ 1) && decide (miss.length ≤ c.unicastMax) && !miss.isEmpty then some 2
    else none
  | 4 => some 0
  | 5 => if c.activateAt = 0 || c.activating then some 4 else none
  | 6 => some 0
  | _ => none

/-- The campaign step that a meter's exchange takes up. -/
def campaignStep (s : State) (idx : Nat) : Option Nat :=
  match getRec s idx with
  | none => none
  | some r =>
    match campaignOf s r.place.campaign with
    | some c => if campaignTraffic s && (c.targets.contains (idx, r.gen)) then stepOf c idx r else none
    | none => none

/-- What a campaign step's response changes of the record and the campaign. `back` marks the read-back ahead of an order,
which changes nothing but a verification found done or failed. -/
def campaignTakes (op idx : Nat) (back : Bool) (x : RxImage) (c : Campaign) (r : Rec) : Rec × Campaign :=
  let go (st : Nat) : Rec := r.campaigned c.num st
  if back then
    if op = 3 && x.status == 3 then (go 5, c) else if op = 3 && x.status == 4 then (go 8, c) else (r, c)
  else match op with
    | 0 =>
      match r.place.campaignState with
      | 3 =>
        let c' := { c with read := c.read ++ [idx], missing := insertNat idx x.missing c.missing }
        if !x.missing.isEmpty && decide (c.round ≥ c.rounds) && !r.sleepy then (go 8, c') else (r, c')
      | 4 => (if x.status = 3 then go 5 else if x.status = 4 then go 8 else r, c)
      | 6 =>
        ({ (if x.isImage then go 7 else r) with
           place := { (if x.isImage then go 7 else r).place with fwVersion := x.fwVersion } }, c)
      | _ => (r, c)
    | 1 =>
      if x.blockSize != c.blockSize then (go 8, c)
      else (go (if c.phase == .starting then 2 else 3), c)
    | 2 => (r, { c with missing := insertNat idx (((lookupNat idx c.missing).getD []).drop 1) c.missing })
    | _ => (r, c)

/-- After a reading without missing blocks the verification follows in the same exchange. -/
def verifyNext (s : State) (idx : Nat) : Bool :=
  match getRec s idx with
  | none => false
  | some r =>
    match campaignOf s r.place.campaign with
    | some c => r.place.campaignState == 3 && c.read.contains idx && ((lookupNat idx c.missing).getD []).isEmpty &&
        campaignTraffic s && c.phase != .stopped
    | none => false

/-! ## Commands -/

/-- The meters a campaign includes (R417): own, not of stateless classes, not on a network outside NETWORKS, in no other
running campaign. -/
def campaignTargets (c : Campaign) (mhs : List Nat) (s : State) : List (Nat × Rec) :=
  s.led.work.recs.filter fun e =>
    let d := s.led.work.classOf e.2.cls
    e.2.segment == 0 && (if mhs.isEmpty then e.2.cls == c.cls else mhs.contains (recMh e.1 e.2)) &&
      !((d.map (·.stateless)).getD false) && ((e.2.net.network.map c.nets.contains).getD true) &&
      !((runningCampaigns s).any fun x => x.num == e.2.place.campaign && x.targets.contains (e.1, e.2.gen))

/-- FWU_CAMPAIGN_START (R417). -/
def bodyCampaignStart (c : Cmd) (s : State) : Answer :=
  match parseCampaign c.buf with
  | none => no 0x0107
  | some (x, mhs) =>
    if (x.cls == 0xFFFF && mhs.isEmpty) ||
      decide (x.imageLba + ceilDiv x.imageLen 4096 > s.store.vol3Blocks) ||
      Config.sha256 (x.image s) != x.imageDigest then no 0x0103
    else if (runningCampaigns s).length ≥ 4 then no 0x0304
    else if degradedByDips s then no 0x0207
    else
      let ts := campaignTargets x mhs s
      let x := { x with num := nextCampaign s, targets := ts.map (fun e => (e.1, e.2.gen)), since := s.clk, done := ts.isEmpty }
      let items := ts.map fun e => Item.patch e.1 e.2 (e.2.campaigned x.num 1)
      let ends := if ts.isEmpty then [Item.event (campaignDone s x)] else []
      changeParam c none ([Item.campaign x] ++ items ++ ends) (putLe 2 x.num)
        { s with fw := { s.fw with campaigns := s.fw.campaigns ++ [x] } }

/-- A campaign that has run, by number. DESIGN CHOICE (log entry 47): a number never given completes with 0x0103. -/
def bodyCampaignStatus (c : Cmd) (s : State) : Answer :=
  match s.fw.campaigns.find? fun x => x.num == c.p 0x20 2 with
  | none => no 0x0103
  | some x => okData 0 (putLe 4 x.targets.length ++ putLe 4 (targetsIn s x 7) ++ putLe 4 (targetsIn s x 8)) s

/-- FWU_CAMPAIGN_ABORT (R421): no more blocks, and each target below ACTIVATING is ABORTED. -/
def bodyCampaignAbort (c : Cmd) (s : State) : Answer :=
  match campaignOf s (c.p 0x20 2) with
  | none => no 0x0103
  | some x =>
    let s' := onCampaign x.num (fun x => { x with phase := .stopped, toSend := [] }) s
    let low := x.targets.filter fun t => decide (targetState s x.num t < 6)
    let items := low.filterMap fun t => (targetRec s t).map fun r => Item.patch t.1 r (r.campaigned x.num 9)
    let rest := x.targets.any fun t => targetState s x.num t == 6
    let keep := [Item.campaign { x with phase := .stopped, toSend := [] }]
    if rest then changeParam c none (keep ++ items) [] s'
    else changeParam c none (keep ++ items ++ [.campaignEnd x.num, .event (campaignDone s x)]) []
      (onCampaign x.num (fun x => { x with done := true }) s')

/-- FWU_CAMPAIGN_START (R417). -/
def execFwuCampaignStart (c : Cmd) (s : State) : Host.Outcome State Fault Refusal :=
  .next (runDcs 0x0A04 c bodyCampaignStart s)

/-- FWU_CAMPAIGN_STATUS (R417). -/
def execFwuCampaignStatus (c : Cmd) (s : State) : Host.Outcome State Fault Refusal :=
  .next (runDcs 0x0A05 c bodyCampaignStatus s)

/-- FWU_CAMPAIGN_ABORT (R421). -/
def execFwuCampaignAbort (c : Cmd) (s : State) : Host.Outcome State Fault Refusal :=
  .next (runDcs 0x0A06 c bodyCampaignAbort s)

/-- CAMPAIGN_ROUND_START (R419). -/
def execCampaignRoundStart (campaign : Nat) (s : State) : Host.Outcome State Fault Refusal :=
  .next (onTimer (opRoundStart campaign) s)

/-- CAMPAIGN_BLOCK_PACE (R419). -/
def execCampaignBlockPace (campaign : Nat) (s : State) : Host.Outcome State Fault Refusal :=
  .next (onTimer (opBlockPace campaign) s)

/-- CAMPAIGN_ROUND_GAP (R419). -/
def execCampaignRoundGap (campaign : Nat) (s : State) : Host.Outcome State Fault Refusal :=
  .next (onTimer (opRoundGap campaign) s)

/-- CAMPAIGN_ACTIVATE_AT (R420). -/
def execCampaignActivateAt (campaign : Nat) (s : State) : Host.Outcome State Fault Refusal :=
  .next (onTimer (opActivateAt campaign) s)

end Sys2Proof.Machine
end

