-- ==== Sys2Proof/Machine/Exchange.lean ====
section
/-! DEFINITION. The end of a meter's exchange (01 R20 to R22, 04 R85 to R89, 07 R154, R162, R169, Table TB.17, 11 R252): its
response is judged, billed, balanced and appended as one group, and the session goes on or ends. -/

namespace Sys2Proof.Machine

/-! ## What a response brings -/

/-- Work of an exchange: the record with its run-time parts, T_rx and T_x, the response's invocation counter taken (R87). -/
def exchangeWork (s : State) (idx : Nat) (r : Rec) (rsp : Response) (tx : LTime) : Work :=
  let w := { startWork idx (liveRec s idx r) rsp.rxTime s with was := r, tx := tx }
  w.onRec fun r => { r with net := { r.net with invRx := rsp.invCtr } }

/-- The exchange's clock sample (R281, R282): the clock field, at +0.5 s where its hundredths are not specified; none where
its status is invalid or doubtful. -/
def Work.sample (s : State) (rsp : Response) (w : Work) : Work :=
  match rsp.clock with
  | none => w
  | some tm =>
    if !rsp.clockValid then w
    else
      let t := if rsp.hundredths then tm else tm + 32768
      let o := clockSample t rsp.rxTime rsp.hopDelay
      let own := (w.adjs.filter fun a => decide (w.was.clock.offsetAt < a.at_) && decide (a.at_ ≤ rsp.rxTime)).map (·.step)
      let steps := s.led.work.stepsOf w.mh w.was.clock.offsetAt rsp.rxTime + own.sum
      let fine := rsp.hundredths && !s.meters.coarse.contains w.idx
      w.onRec (Rec.sampled o rsp.rxTime fine steps)

/-- An event of the meter's logs that the record does not hold yet is kept among RECENT_EVENTS, with the meter's own code
and LTIME (Tables LG.11, MS.8; log entry 31). -/
def Work.logEvent (s : State) (w : Work) (e : RxEvent) : Work :=
  if pushSeen s w.idx w.r e.at_ e.code then w
  else w.onRec (Rec.recentAdd { ltime := e.at_, code := e.code, severity := 4, source := netSrc w.r.net.network,
                                mh := some w.mh, data := zeros 16 })

/-- A mapped tamper event outside a run is counted as a meter alarm (R194): METER_ALARM. DESIGN CHOICE (log entry 48). -/
def Work.tamperAlarm (w : Work) (before : Work) : Work :=
  let raised := w.extra.any fun i => match i with
    | .event e => e.code == 0x0502 && e.mh == some w.mh
    | _ => false
  if w.r.bal.tamperAt = before.r.bal.tamperAt || raised then w
  else
    { w with events := w.events ++ [{ ltime := w.t, code := 0x0107, severity := sevOf 0x0107,
                                      source := netSrc w.r.net.network, mh := some w.mh,
                                      data := fitTo 16 (putLe 4 w.r.bal.tamperWeight) }] }

/-- A finished exchange counts, and is the meter's latest success (Table LG.10). -/
def Work.tally (w : Work) : Work :=
  w.onRec fun r => { r with
    clock := { r.clock with lastSuccess := w.t }
    counts := { r.counts with exchangesOk := r.counts.exchangesOk + 1 } }

/-- The items of an exchange in salvage mode (R121). -/
def Work.salvageItems (w : Work) : List Item :=
  w.adjs.map Item.clockAdj ++ [.patch w.idx w.was (salvageRec w.was w.r)] ++ w.events.map Item.event

/-! ## Relay feedback (R169, Table TB.17) -/

/-- What a feedback reading means for the order a session carries. -/
inductive RelayOutcome where
  | nothing
  | reached
  | already
  | disagree
  | act
  deriving DecidableEq, Repr

/-- The feedback noted in the orders area (Table TB.15). -/
def Work.noteFeedback (fb : RxFeedback) (w : Work) : Work :=
  w.onOrders fun o => { o with controlState := fb.control, outputState := bit fb.output, readAt := w.t }

/-- The order that waited for a reading of an UNKNOWN relay acts from the state read. -/
def Work.actFrom (w : Work) : Work × RelayOutcome :=
  let o := w.r.orders
  if o.pending = 0 then (w, .nothing)
  else if atTarget o.pending w.r.place.relay then (w.onOrders Orders.done, .already)
  else if o.pending = 1 && o.reason == 2 && decide (w.t < o.dueAt) then (w.setRelay .disconnectPending, .nothing)
  else (w.setRelay (if o.pending = 1 then .disconnecting else .reconnecting), .act)

/-- DISCONNECTED by a credit order sets FLAGS [1]; a balance that has reached RECONNECT_LEVEL meanwhile reconnects (R168). -/
def Work.creditCut (reason : Nat) (w : Work) : Work :=
  if reason != 2 then w
  else
    let w := w.onCredit fun c => { c with disconnectedForCredit := true }
    match w.l.policyOf w.r.cls with
    | some p => w.creditReconnect p
    | none => w

/-- A feedback reading (Table TB.17): the relay's state after it, and what it means for the order. -/
def Work.feedback (fb : RxFeedback) (answered : Bool) (w : Work) : Work × RelayOutcome :=
  let w := w.noteFeedback fb
  let o := w.r.orders
  let miss : RelayOutcome := if answered then .disagree else .act
  match w.r.place.relay with
  | .unknown =>
    match relayOf fb.control with
    | some st => (w.setRelay st).actFrom
    | none => (w, .nothing)
  | .disconnecting =>
    if fb.control = 0 && !fb.output then (((w.setRelay .disconnected).onOrders Orders.done).creditCut o.reason, .reached)
    else (w, miss)
  | .reconnecting =>
    if fb.control = 2 && !fb.output && o.pending == 2 then ((w.setRelay .armed).onOrders Orders.done, .reached)
    else if fb.control = 1 && fb.output then ((w.setRelay .connected).onOrders Orders.done, .reached)
    else (w, miss)
  | .armed => if fb.control = 1 then (w.setRelay .connected, .nothing) else (w, .nothing)
  | _ => (w, .nothing)

/-- RELAY_FAULT of a meter relay. -/
def Work.relayFault (control : Nat) (w : Work) : Work :=
  let w := (w.setRelay .fault).onOrders Orders.done
  { w with events := w.events ++ [{ ltime := w.t, code := 0x0406, severity := sevOf 0x0406, source := 0x0A,
                                    mh := some w.mh, data := fitTo 16 [0xFF, BitVec.ofNat 8 control] }] }

/-- The relay command whose order stands in a record's orders area. -/
def relayCmdOf (s : State) (mh : Nat) : Option (Nat × Nat) :=
  (s.inflight.find? fun f => f.waitCommit.isNone && f.cmd.p 0x20 4 == mh && orderPlaced f.cmd s).map fun f =>
    (f.cmd.ring, f.cmd.tag)

/-! ## Tariff pushes (R162) -/

/-- The name a push gives the meter's calendar: SCHEDULE, then the table version. -/
def pushNameOf (l : LState) (r : Rec) : Nat :=
  (((residentForm l r.cls).map (·.1.1.schedule)).getD r.place.tariffSchedule) + r.orders.pushVersion * 65536

/-- A push confirmed by the name. -/
def Work.pushConfirmed (w : Work) : Work :=
  w.onRec fun r => { r with
    place := { r.place with tariffVersionMeter := r.orders.pushVersion }
    orders := { r.orders with pushState := 3 } }

/-- A push that the meter refused: tried again at a later exchange, up to 7 attempts. -/
def Rec.pushRefused (r : Rec) : Rec :=
  { r with orders := { r.orders with pushState := if r.orders.pushAttempts ≥ 7 then 4 else 1 } }

/-! ## One exchange -/

/-- What is left to do after an exchange's group. -/
inductive NextStep where
  | finished
  | order
  | readBack
  | recheck
  | refused
  deriving DecidableEq, Repr

/-- What an exchange came to: its work, the command's result where it is final, the campaign's change, what follows. -/
structure Exchanged where
  w : Work
  result : Option Nat
  onCampaign : Option Campaign
  next : NextStep

/-- The end of the billing period by the meter's own script (R154, REASON 2). -/
def endsPeriod (p : Purpose) : Bool :=
  match p with
  | .dlms service obis _ _ _ => service == 2 && obis == [0, 0, 10, 0, 1, 255]
  | _ => false

/-- The measurements of an exchange: clock, values, bills, meter events. Salvage mode records none of them (R121). -/
def Work.measure (s : State) (rsp : Response) (w : Work) : Work :=
  let w := w.takeSteps rsp
  if inSalvage s then w
  else
    let w := ((w.sample s rsp).validate rsp).bill
    rsp.events.foldl (Work.logEvent s) w

/-- A relay session's feedback. -/
def relayPart (x : Session) (rsp : Response) (w : Work) : Work × Option Nat × NextStep :=
  let order := match x.purpose with
    | .relay _ => true
    | _ => false
  match rsp.feedback with
  | none => (w, none, if order then .readBack else .finished)
  | some fb =>
    let p := w.feedback fb (x.answered || (order && !x.awaitingReadBack))
    match p.2 with
    | .reached => (p.1, some 0, .finished)
    | .already => (p.1, some 2, .finished)
    | .disagree => (p.1, none, if order then .recheck else .finished)
    | .act => (p.1, none, if order then .order else .finished)
    | .nothing => (p.1, none, .finished)

/-- A push session's confirmation. -/
def pushPart (x : Session) (rsp : Response) (w : Work) : Work × Option Nat × NextStep :=
  let name := pushNameOf w.l w.r
  let sent := x.answered || !x.awaitingReadBack
  match rsp.pushName with
  | some n =>
    if n.1 = name ∨ n.2 = name then (w.pushConfirmed, some 0, .finished)
    else if sent then (w.onRec Rec.pushRefused, some 0x0602, .refused)
    else (w, none, .order)
  | none => (w, none, .readBack)

/-- A campaign session's step. -/
def campaignPart (s : State) (x : Session) (op : Nat) (rsp : Response) (w : Work) : Work × Option Campaign × NextStep :=
  match rsp.image, campaignOf s w.r.place.campaign with
  | some i, some c =>
    let p := campaignTakes op w.idx x.awaitingReadBack i c w.r
    let stays := p.1.place.campaignState == w.r.place.campaignState
    (w.onRec fun _ => p.1, some p.2, if x.awaitingReadBack && stays then .order else .finished)
  | _, _ => (w, none, .finished)

/-- One exchange judged (R20 to R22, R126, R149, R169, R174). -/
def exchanged (s : State) (x : Session) (r : Rec) (rsp : Response) : Exchanged :=
  let w := (((exchangeWork s x.idx r rsp x.firstAt).measure s rsp).tally)
  let p := match x.purpose with
    | .push => pushPart x rsp w
    | _ => relayPart x rsp w
  let q := match x.purpose with
    | .campaign op => campaignPart s x op rsp p.1
    | _ => (p.1, none, p.2.2)
  let w := if endsPeriod x.purpose && !inSalvage s then (q.1.endPeriod 2) else q.1
  let w := if inSalvage s then w else (w.balanceExchange s rsp.events).tamperAlarm (exchangeWork s x.idx r rsp x.firstAt)
  let result := match x.purpose with
    | .collect _ _ => some 0
    | .dlms _ _ _ _ _ => some 0
    | _ => p.2.1
  { w := w, result := result, onCampaign := q.2.1, next := q.2.2 }

/-- Values an exchange appended: the entries written but for kept originals (R471). -/
def Work.appended (w : Work) : Nat := (w.written.filter fun e => e.kind != 3).length

/-- The items of an exchange. -/
def Exchanged.items (s : State) (e : Exchanged) : List Item := if inSalvage s then e.w.salvageItems else e.w.items

/-! ## After the group -/

/-- A session turned to other work of the same meter. -/
def turnSession (idx : Nat) (p : Purpose) (back : Bool) (s : State) : State :=
  sendRequest idx (onSession idx (fun x => { x with
    purpose := p
    scheduled := false
    cmd := none
    attempts := 0
    readTries := 0
    awaitingReadBack := back
    answered := false
    disagreed := false
    response := none }) s)

/-- The relay order of a record that a session may send now (Table TB.17). -/
def dueOrder (s : State) (r : Rec) : Option OrderKind :=
  if r.place.relay == .disconnectPending || decide (now s < r.orders.dueAt) then none else orderOf r.orders.pending

/-- REJOIN_ORDER for the present network after a change of BKEY_INDEX (R299). -/
def rejoinForKey (idx : Nat) (s : State) : State :=
  match getRec s idx with
  | none => s
  | some r =>
    match r.net.network with
    | none => s
    | some net =>
      if s.keys.bkeyChangedAt.isSome && !s.keys.rejoined.contains idx && r.net.state == .joined && !inSalvage s then
        sendEui net (r.identity.take 8) (.rejoinOrder net) s
      else s

/-- What a meter's exchange takes up next: a due relay order, a pending push, a campaign step; else the session ends. -/
def nextWork (idx : Nat) (was : Purpose) (s : State) : State :=
  let isRelay := match was with
    | .relay _ => true
    | _ => false
  match getRec s idx with
  | none => endSession idx s
  | some r =>
    match (if isRelay || !mayExchange s then none else dueOrder s r) with
    | some k => turnSession idx (.relay k) (r.place.relay == .unknown || r.orders.attempts != 0) s
    | none =>
      if was != .push && mayExchange s && r.orders.pushState == 1 && decide (r.orders.pushAttempts < 7) then
        turnSession idx .push (r.orders.pushAttempts != 0) s
      else if verifyNext s idx then turnSession idx (.campaign 3) true s
      else match campaignStep s idx with
        | some op => turnSession idx (.campaign op) (op != 0) s
        | none => rejoinForKey idx (endSession idx s)

/-- The present order or read-back of a session goes on. -/
def goOn (idx : Nat) (back answered : Bool) (s : State) : State :=
  sendRequest idx (onSession idx (fun x => { x with
    attempts := if back then x.attempts else 0
    awaitingReadBack := back
    answered := answered
    response := none }) s)

/-- The feedback disagreed: it is read again 5 s later (Table TB.17). -/
def waitRecheck (idx : Nat) (s : State) : State :=
  onSession idx (fun x => { x with
    state := .requesting
    disagreed := true
    reqDeadline := s.clk + secTicks 5
    response := none }) s

/-- An exchange's group goes to the ledger, its command completing in it where its result is final: OK_NO_CHANGE leaves no
audit record (R487). -/
def appendExchange (x : Session) (key : Option (Nat × Nat)) (mh : Nat) (items : List Item) (result : Option Nat)
    (data out : Bytes) (s : State) : State :=
  match key, result with
  | some k, some 2 => finishKey k (.refuse 2 data) (append items (some mh) s)
  | some k, some n => finishField k (some mh) items n data out (onSession x.idx (fun x => { x with cmd := none }) s)
  | _, _ => append items (some mh) s

/-- The step that follows an exchange. -/
def afterExchange (x : Session) (next : NextStep) (s : State) : State :=
  match next with
  | .finished => nextWork x.idx x.purpose s
  | .refused => endSession x.idx s
  | .order => if x.attempts < 3 then goOn x.idx false false s else failSession x.idx 0x0601 s
  | .readBack => if x.readTries < 3 then goOn x.idx true true s else failSession x.idx 0x0601 s
  | .recheck => waitRecheck x.idx s

/-- A meter answered with a DLMS error (Table MS.7): the counters it moved are committed, a push or a campaign step counts as
refused. -/
def refusedExchange (x : Session) (rsp : Response) (s : State) : State :=
  let s := patchMeter x.idx (fun r =>
    let r := { r with net := { r.net with invRx := rsp.invCtr } }
    match x.purpose with
    | .push => r.pushRefused
    | .campaign _ => { r with place := { r.place with campaignState := 8 } }
    | _ => r) [] s
  let s := failSession x.idx 0x0602 s
  match x.purpose, getRec s x.idx with
  | .campaign _, some r => checkCampaign r.place.campaign s
  | _, _ => s

/-- The campaign's part after the group. -/
def campaignAfter (c : Option Campaign) (s : State) : State :=
  match c with
  | some c => checkCampaign c.num (onCampaign c.num (fun _ => c) s)
  | none => s

/-- A meter that measured its clock with hundredths is fine again (R282). -/
def noteClock (idx : Nat) (rsp : Response) (flooded : Bool) (s : State) : State :=
  if rsp.clock.isSome && rsp.clockValid then noteFine idx rsp.hundredths flooded s else s

/-- APPEND_GROUP_COMPLETE (R22): the exchange whose response was taken is judged and its group completes into the open
epoch. -/
def opAppendGroup (idx : Nat) (s : State) : State :=
  match sessionOf s idx, getRec s idx with
  | some x, some r =>
    match x.state, x.response with
    | .processing, some rsp =>
      let s := resumeInput x.seq s
      if rsp.dlmsResult != 0 then refusedExchange x rsp s
      else
        let e := exchanged s x r rsp
        let key := match x.purpose with
          | .collect _ _ => x.cmd
          | .dlms _ _ _ _ _ => x.cmd
          | .push => x.cmd
          | _ => (relayCmdOf s (recMh idx r)).orElse fun _ => x.cmd
        let x' := { x with appendedValues := x.appendedValues + e.w.appended }
        let data := match x.purpose with
          | .relay _ => putLe 1 e.w.r.place.relay.code
          | _ => x'.data s
        let closed := closedEvents s e.w.t e.w.snaps
        let items := e.items s ++ closed.map Item.event
        let s := appendExchange x' key (recMh idx r) items e.result data rsp.dlmsData s
        let s := campaignAfter e.onCampaign (noteClock idx rsp false s)
        let s := onSession idx (fun y => { y with state := .appended, appendedValues := x'.appendedValues }) s
        afterExchange x' e.next s
    | _, _ => s
  | _, _ => s

/-- RELAY_FEEDBACK_RECHECK (R169): 5 s after the first disagreement the feedback is read again; a second one is a FAULT. -/
def opRelayRecheck (idx : Nat) (fb : RxFeedback) (s : State) : State :=
  match sessionOf s idx, getRec s idx with
  | some x, some r =>
    if !x.disagreed || decide (s.clk < x.reqDeadline) then s
    else
      let s := timerInput s
      let w := { startWork idx (liveRec s idx r) (now s) s with was := r }
      let p := w.feedback fb true
      let (w, result) := if p.2 == .disagree then (p.1.relayFault fb.control, 0x0804) else (p.1, 0)
      let items := if inSalvage s then w.salvageItems else w.items
      let key := (relayCmdOf s (recMh idx r)).orElse fun _ => x.cmd
      let s := appendExchange x key (recMh idx r) items (some result) (putLe 1 w.r.place.relay.code) [] s
      nextWork idx x.purpose s
  | _, _ => s

/-! ## Pushes of stateless-only meters (R252) -/

/-- LAST_INTERVAL_END of a meter as of the last committed epoch. -/
def committedEnd (s : State) (idx : Nat) : LTime :=
  match readAt s 0 with
  | some (_, l) => ((lookupNat idx l.recs).map (·.clock.lastIntervalEnd)).getD 0
  | none => 0

/-- PUSH_ACK (R252): flooded once the group has completed, where it can start within 3 s of the push's time-stamp. -/
def pushAck (idx : Nat) (r : Rec) (f : RxFrame) (s : State) : State :=
  if now s ≤ f.rxTime + ltSec 3 then sendEui f.net (r.identity.take 8) (.pushAck (committedEnd s idx) f.ctr) s else s

/-- DLMS_PUSH_RECEIVED (R252): the push of a stateless-only meter is one exchange in one append group, without a session. In
salvage mode it is dropped without an acknowledgement (R477). -/
def opDlmsPush (f : RxFrame) (authFail : Bool) (rsp : Response) (s : State) : State :=
  match f.msg with
  | .dlmsPush _ =>
    onFrame f s fun idx r s =>
      let stateless := ((s.led.work.classOf r.cls).map (·.stateless)).getD false
      if !stateless || inSalvage s then s
      else if authFail then securityFail idx true (some f.net) s
      else if rsp.invCtr ≤ r.net.invRx then s
      else
        let x := { mkSession s idx (.collect 1 0) 0 0 none with firstAt := f.rxTime }
        let rsp := { rsp with rxTime := f.rxTime, feedback := none }
        let e := exchanged s x r rsp
        let items := e.w.items
        if (appendRefusal items s).isSome then s
        else pushAck idx r f (noteClock idx rsp (f.net == .rf) (append items (some (recMh idx r)) s))
  | _ => s

/-- APPEND_GROUP_COMPLETE (R22). -/
def execAppendGroupComplete (idx : Nat) (s : State) : Host.Outcome State Fault Refusal := .next (opAppendGroup idx s)

/-- RELAY_FEEDBACK_RECHECK (R169). -/
def execRelayFeedbackRecheck (idx : Nat) (fb : RxFeedback) (s : State) : Host.Outcome State Fault Refusal :=
  .next (onTimer (opRelayRecheck idx fb) s)

/-- DLMS_PUSH_RECEIVED (R252). -/
def execDlmsPushReceived (f : RxFrame) (authFail : Bool) (r : Response) (s : State) : Host.Outcome State Fault Refusal :=
  .next (opDlmsPush f authFail r s)

end Sys2Proof.Machine
end

