-- ==== Sys2Proof/Machine/Panel.lean ====
section
/-! DEFINITION. The front panel (19_front_panel, R422 to R439): OLED, annunciators, the placard with its DC-balance accounts
and the keeper's fault code, crack loops, and the PNL_ commands. -/

namespace Sys2Proof.Machine

/-- The panel changed. -/
def onPanel (f : Panel → Panel) (s : State) : State := { s with panel := f s.panel }

/-- The placard changed. -/
def onPlacard (f : Placard → Placard) (s : State) : State := onPanel (fun p => { p with placard := f p.placard }) s

/-- The chip drives its panel through the field die: active or solo, no power-fail hold, die-to-die link up (R27, R435, R437). -/
def panelDrives (s : State) : Bool := inService s && isActive s && !warned s && s.d2d.up

/-! ## Images (R427 to R429) -/

/-- Glyph of a hexadecimal digit (Table FP.3). -/
def glyph (n : Nat) : Nat :=
  [0x3F, 0x06, 0x5B, 0x4F, 0x66, 0x6D, 0x7D, 0x07, 0x7F, 0x6F, 0x77, 0x7C, 0x39, 0x5E, 0x79, 0x71].getD n 0

/-- The keeper's segments, 0 to 27, of a fault code: four digits, most significant first; NONE leaves all white (R428). -/
def codeImage (code : Nat) : BitVec 120 :=
  if code = 0 then 0
  else BitVec.ofNat 120 (glyph (bitsOf code 15 12) + glyph (bitsOf code 11 8) * 2 ^ 7 + glyph (bitsOf code 7 4) * 2 ^ 14 +
    glyph (bitsOf code 3 0) * 2 ^ 21)

/-- Segments of the keeper, the host and the integrity bar (Table FP.2). -/
def keeperMask : BitVec 120 := 0xFFFFFFF

/-- See `keeperMask`. -/
def hostMask : BitVec 120 := 0xFFFFFFFFFFFFFFFFFFFFF0000000

/-- Odd bar segments, which the bar's two appearances differ in (Table FP.2): 113, 115, 117, 119. -/
def barOdd (n : Nat) : Bool := decide (112 ≤ n) && n % 2 == 1

/-- An image with the segments of a mask replaced. -/
def overlay (mask image base : BitVec 120) : BitVec 120 := (base &&& ~~~mask) ||| (image &&& mask)

/-- The image that a request builds on: NEXT where one is held, else TARGET (R429, R434). -/
def Placard.wanted (p : Placard) : BitVec 120 := p.next.getD p.target

/-- A new image for some segments (Table FP.6): while an update runs it becomes NEXT, else the target. -/
def Placard.request (mask image : BitVec 120) (p : Placard) : Placard :=
  let w := overlay mask image p.wanted
  if p.state == .running then { p with next := if w == p.target then none else some w } else { p with target := w }

/-- The keeper shows a code (R377, R428): KPR_HOST_STATUS.FAULT_CODE holds it, and its digits go to the placard; the boot
journal records it (Table CK.9). -/
def showCode (code : Nat) (s : State) : State :=
  let s := { s with keeper := { s.keeper with faultCode := code, codeRaised := s.keeper.codeRaised || code != 0 } }
  onPlacard (Placard.request keeperMask (codeImage code)) (note 0x0A (putLe 2 code) s)

/-! ## A placard update (R430 to R435) -/

/-- Whether a segment is in fall-back (R433). -/
def SegAccount.fallback (a : SegAccount) : Bool := a.invertLeft != 0

/-- Account of a segment. -/
def Placard.account (p : Placard) (n : Nat) : SegAccount := p.accounts.getD n ⟨0, 0⟩

/-- Polarity toward a target: +1 for white, -1 for black (R432). -/
def polarity (image : BitVec 120) (n : Nat) : Int := if image.getLsbD n then -1 else 1

/-- Whether a segment of 0 to 111 belongs to the update set before compensation (R430). -/
def Placard.changes (p : Placard) (n : Nat) : Bool := p.full || p.target.getLsbD n != p.shown.getLsbD n

/-- A' of a segment (R432). -/
def Placard.after (p : Placard) (n : Nat) : Int :=
  (p.account n).balance + if p.changes n then 15 * (p.driveMs : Int) * polarity p.target n else 0

/-- The segments compensated in this update, each with its time and whether it is driven positive (R432). -/
def Placard.compensated (p : Placard) : List (Nat × Nat × Bool) :=
  (List.range 112).filterMap fun n =>
    let a := p.after n
    if (p.account n).fallback || decide (a.natAbs ≤ p.limitVms) then none
    else some (n, min (a.natAbs / 15) (2 * p.driveMs), decide (a < 0))

/-- A segment driven in phase 3: of the update set, or compensated (R430, R432). -/
def Placard.driven (p : Placard) (n : Nat) : Bool := decide (n < 112) && (p.changes n || p.comp.any fun c => c.1 == n)

/-- Duration of a phase in ms (Table FP.4). -/
def Placard.phaseMs (p : Placard) : Nat :=
  match p.phase with
  | 2 => (p.comp.map (·.2.1)).foldl max 0
  | 3 => if (List.range 112).any fun n => p.driven n && (p.account n).fallback then 2 * p.driveMs else p.driveMs
  | _ => p.driveMs

/-- V·ms that a phase has applied to a segment after some ms of it (R430 to R433, R435). The bar turns its odd segments white in
phase 1 and black in phase 4, so that an update leaves each bar segment a net balance of zero (log entry 53). -/
def Placard.applied (p : Placard) (n ms : Nat) : Int :=
  match p.phase with
  | 1 => if barOdd n then 15 * (ms : Int) else 0
  | 2 => ((p.comp.filter fun c => c.1 == n).map fun c => (if c.2.2 then 15 else -15) * (min ms c.2.1 : Int)).sum
  | 3 =>
    if !p.driven n then 0
    else if (p.account n).fallback then
      15 * polarity p.target n * (((ms - p.driveMs : Nat) : Int) - (min ms p.driveMs : Nat))
    else 15 * polarity p.target n * (min ms p.driveMs : Nat)
  | _ => if barOdd n then -15 * (ms : Int) else 0

/-- The accounts as written after some ms of a phase (R431); a segment driven whole through phase 3 in fall-back has one
inversion less left (R433). -/
def Placard.written (p : Placard) (ms : Nat) (ended : Bool) : List SegAccount :=
  (p.accounts.zipIdx).map fun x =>
    ⟨x.1.balance + p.applied x.2 ms, if ended && p.phase == 3 && p.driven x.2 then x.1.invertLeft - 1 else x.1.invertLeft⟩

/-- Image that a phase drives: the bar's appearance, the compensated segments, the target. -/
def Placard.phaseImage (p : Placard) : BitVec 120 :=
  match p.phase with
  | 1 => overlay (0xFF <<< 112) (0x55 <<< 112) p.shown
  | 4 => overlay (0xFF <<< 112) (0xFF <<< 112) p.target
  | _ => overlay (0xFF <<< 112) (0x55 <<< 112) p.target

/-- A phase begins. -/
def beginPhase (k : Nat) (s : State) : State :=
  let s := onPlacard (fun p => { p with phase := k, phaseSince := s.clk }) s
  emit (.placard k s.panel.placard.phaseImage) s

/-- Accounts that fail their check go to fall-back, and PLACARD_ACCOUNT_FAULT is raised (R433). -/
def accountFaults (allBad : Bool) (bad : List Nat) (s : State) : State :=
  let hit (n : Nat) : Bool := allBad || bad.contains n
  let fall (as : List SegAccount) : List SegAccount := (as.zipIdx).map fun x => if hit x.2 then ⟨0, 64⟩ else x.1
  let s := onPlacard (fun p => { p with accounts := fall p.accounts }) s
  if allBad then raiseHw 0x0B03 [0xFF] s
  else (bad.filter fun n => decide (n < 120)).foldl (fun a n => raiseHw 0x0B03 (putLe 1 n) a) s

/-- The keeper may drive the placard: fitted, no hold, VDD_FIELD present (R374, R435). -/
def placardMay (s : State) : Bool :=
  s.panel.placard.fitted && s.keeper.supply.kprOn && !s.keeper.supply.retain && !warned s && !s.keeper.supply.fieldReset

/-- An update is due: the placard is idle and shows another image than the target, or a cut update awaits its repeat. -/
def placardDue (p : Placard) : Bool :=
  p.state == .cut || (p.state == .idle && overlay (keeperMask ||| hostMask) p.target p.shown != p.shown)

/-- An update starts (R430, R432): a cut one is repeated whole as a full refresh (R435). -/
def startPlacard (s : State) : State :=
  if !placardMay s || !placardDue s.panel.placard then s
  else
    let s := onPlacard (fun p =>
      let p : Placard := { p with full := p.state == .cut, state := .running }
      { p with comp := p.compensated }) s
    beginPhase 1 s

/-- PLACARD_UPDATE_START (R430, R433). -/
def opPlacardStart (allBad : Bool) (bad : List Nat) (s : State) : State :=
  if !placardMay s || !placardDue s.panel.placard then s
  else startPlacard (if allBad || !bad.isEmpty then accountFaults allBad bad s else s)

/-- An update ends: the target is shown, and an update to NEXT starts at once (Table FP.6). -/
def endPlacard (s : State) : State :=
  startPlacard (onPlacard (fun p => { p with
    state := .idle
    phase := 0
    full := false
    shown := overlay (0xFF <<< 112) (0xFF <<< 112) p.target
    target := p.wanted
    next := none
    comp := [] }) s)

/-- PLACARD_PHASE_END (R431): the accounts are written and the next phase starts; phase 2 is empty with nothing compensated. -/
def opPlacardPhase (s : State) : State :=
  let p := s.panel.placard
  if p.state != .running || decide (s.clk < p.phaseSince + msTicks p.phaseMs) then s
  else
    let s := onPlacard (fun p => { p with accounts := p.written p.phaseMs true, seq := p.seq + 1 }) s
    if p.phase = 4 then endPlacard s
    else if p.phase = 1 && p.comp.isEmpty then beginPhase 3 s
    else beginPhase (p.phase + 1) s

/-- A warning cuts the update in progress (R435): the accounts are written as they were actually applied. -/
def cutPlacard (s : State) : State :=
  let p := s.panel.placard
  if p.state != .running then s
  else
    let ms := min p.phaseMs ((s.clk - p.phaseSince) / 250000)
    emit (.placard 0 p.shown) (onPlacard (fun p => { p with
      accounts := p.written ms false
      seq := p.seq + 1
      state := .cut
      target := p.wanted
      next := none }) s)

/-! ## OLED and annunciators (R422 to R426) -/

/-- Column sources are off: a hold, a crack or no OLED (R435, R436, Table FP.8). -/
def oledOff (s : State) : Bool := warned s || s.panel.crackOpen.getD 0 false || s.panel.columns == 0

/-- A frame buffer with one pixel set. -/
def setPixel (columns : Nat) (b : Bytes) (x y : Nat) (v : Byte) : Bytes := b.set (y * columns + x) v

/-- A frame buffer with a write applied, row by row (R424). -/
def OledWrite.apply (w : OledWrite) (columns : Nat) (b : Bytes) : Bytes :=
  (w.grey.zipIdx).foldl (fun b p => setPixel columns b (w.x + p.2 % max 1 w.w) (w.y + p.2 / max 1 w.w) (p.1 &&& 0x0F)) b

/-- OLED_FRAME_START (R424): pending writes are applied in the order of their audit records, the buffers swap, and their
commands complete; OLED_PEAK is taken (R423). -/
def opOledFrame (s : State) : State :=
  if !inService s then s
  else
    let ws := s.panel.writes
    let back := ws.foldl (fun b w => w.apply s.panel.columns b) s.panel.back
    let s := onPanel (fun p => { p with shown := back, back := back, writes := [], peak := itemVal s 0x1103 }) s
    let s := ws.foldl (fun a w =>
      match inflightOf a w.cmd with
      | some f => completeOrWait f (mkCompletion f 0 w.epoch f.cmd.bufLen false false [] []) a
      | none => a) s
    if panelDrives s && !oledOff s then emit (.oledFrame s.panel.shown) s else s

/-- A channel changed. -/
def onChannel (n : Nat) (f : Annunciator → Annunciator) (s : State) : State :=
  onPanel (fun p => { p with anns := p.anns.modify n f }) s

/-- Whether a blink state is in its on phase now: 1 Hz or 4 Hz at 50 %, the on phase from each whole second (R425). -/
def blinkOn (s : State) (state : Nat) : Bool :=
  let ns := chipSubNs s.tb
  if state = 3 then decide (ns % 250000000 < 125000000) else decide (ns < 500000000)

/-- Whether a channel is lit. -/
def Annunciator.lit (a : Annunciator) : Bool := a.state == 1 || (decide (2 ≤ a.state) && a.phaseOn)

/-- The channels as they are driven. -/
def emitChannels (before after : List Annunciator) (s : State) : State :=
  ((before.zip after).zipIdx).foldl (fun a x =>
    if x.1.1.lit != x.1.2.lit && panelDrives a then emit (.annunciator x.2 x.1.2.lit) a else a) s

/-- BLINK_PHASE (R425). -/
def opBlink (s : State) : State :=
  if !inService s then s
  else
    let before := s.panel.anns
    let s := onPanel (fun p => { p with anns := p.anns.map fun a => { a with phaseOn := blinkOn s a.state } }) s
    emitChannels before s.panel.anns s

/-- READBACK of a measurement (Table FP.1). -/
def readback (lit : Bool) (currentPct pinMv : Nat) : Nat :=
  if lit then (if currentPct ≥ 80 then 1 else 2) else (if pinMv > 500 then 0 else 3)

/-- A channel after a measurement: two consecutive bad ones put it in fault, two good ones end it (R426). -/
def Annunciator.measured (rb : Nat) (a : Annunciator) : Annunciator :=
  let bad := decide (rb ≥ 2)
  let b := if bad then a.lastBad + 1 else 0
  let g := if bad then 0 else a.lastGood + 1
  { a with
    readback := rb
    lastBad := b
    lastGood := g
    fault := if b ≥ 2 then true else if g ≥ 2 then false else a.fault
    waiting := [] }

/-- ANNUNCIATOR_MEASUREMENT (R426): the waiting command completes with the READBACK; a fault is raised once. -/
def opAnnunciator (n pct mv : Nat) (s : State) : State :=
  match s.panel.anns[n]? with
  | none => s
  | some a =>
    if !panelDrives s then s
    else
      let rb := readback a.lit pct mv
      let a' := a.measured rb
      let s := onChannel n (Annunciator.measured rb) s
      let s := a.waiting.foldl (fun s w =>
        match inflightOf s (w.1, w.2.1) with
        | some f => completeOrWait f (mkCompletion f 0 w.2.2 f.cmd.bufLen false false (putLe 1 rb) []) s
        | none => s) s
      if a'.fault && !a.fault then raiseHw 0x0B02 (putLe 1 n) s else s

/-- At a hold the OLED and the annunciators go dark; at its end they are driven again (R435). -/
def panelDark (s : State) : State :=
  if inService s && isActive s && s.d2d.up then
    ((s.panel.anns.zipIdx).filter fun x => x.1.lit).foldl (fun a x => emit (.annunciator x.2 false) a) s
  else s

/-- See `panelDark`; a chip that claims drives the state it holds (R437). -/
def panelLight (s : State) : State :=
  if panelDrives s then ((s.panel.anns.zipIdx).filter fun x => x.1.lit).foldl (fun a x => emit (.annunciator x.2 true) a) s
  else s

/-! ## Crack loops (R436) -/

/-- CRACK_SAMPLE (R436): open after 3 consecutive open samples, closed after 10 intact ones; a change to open raises
PANEL_CRACK. -/
def opCrack (panel : Nat) (isOpen : Bool) (s : State) : State :=
  if panel > 1 || !s.keeper.supply.kprOn || s.keeper.supply.retain then s
  else
    let was := s.panel.crackRun.getD panel (false, 0)
    let n := if was.1 == isOpen then was.2 + 1 else 1
    let old := s.panel.crackOpen.getD panel false
    let new := if isOpen && decide (n ≥ 3) then true else if !isOpen && decide (n ≥ 10) then false else old
    let s := onPanel (fun p => { p with
      crackRun := p.crackRun.set panel (isOpen, n)
      crackOpen := p.crackOpen.set panel new }) s
    if new && !old then raiseHw 0x0B01 (putLe 1 panel) s else s

/-! ## The PNL_ commands -/

/-- A command whose group is appended now and which completes later: its audit record goes into the open epoch, whose number
the completion will carry. -/
def appendNow (c : Cmd) (s : State) (k : Nat → State → State) : Answer :=
  match inflightOf s (c.ring, c.tag) with
  | none => .hold
  | some f =>
    let items := [Item.audit (auditOf s f (auditParam c none) 0)]
    match appendRefusal items s with
    | some code => no code
    | none =>
      let n := openNum s
      .wait (k n (limitClose (addGroup items none true false s)))

/-- PNL_OLED_WRITE (R424): the write waits for the next frame start. -/
def bodyPnlOled (c : Cmd) (s : State) : Answer :=
  let x := c.p 0x20 1
  let y := c.p 0x21 1
  let w := c.p 0x22 1
  let h := c.p 0x23 1
  if s.panel.writes.any fun p => p.cmd == (c.ring, c.tag) then .hold
  else if c.buf.length != w * h then no 0x0106
  else if w = 0 || h = 0 || decide (x + w > s.panel.columns) || decide (y + h > s.panel.rows) || s.panel.columns == 0 ||
      !(c.buf.all fun b => decide (b.toNat < 16)) then no 0x0103
  else appendNow c s fun n s =>
    onPanel (fun p => { p with writes := p.writes ++ [⟨x, y, w, h, c.buf, (c.ring, c.tag), n⟩] }) s

/-- PNL_ANNUNCIATOR (R425, R426): commands for one channel run in order, and each completes with the first READBACK after its
state takes effect. A standby measures nothing (R437) and completes with the READBACK it holds. -/
def bodyPnlAnnunciator (c : Cmd) (s : State) : Answer :=
  let n := c.p 0x20 1
  let st := c.p 0x21 1
  match s.panel.anns[n]? with
  | none => no 0x0103
  | some a =>
    if st > 3 then no 0x0103
    else if !a.waiting.isEmpty then .hold
    else if st = a.state then .refuse 0x0002 (putLe 1 a.readback)
    else
      let set (w : List (Nat × Nat × Nat)) (s : State) : State :=
        let before := s.panel.anns
        let s := onChannel n (fun a => { a with
          state := st
          phaseOn := blinkOn s st
          waiting := w }) s
        emitChannels before s.panel.anns s
      if isStandby s then changeParam c none [] (putLe 1 a.readback) (set [] s)
      else appendNow c s fun e s => set [(c.ring, c.tag, e)] s

/-- The image of a buffer. -/
def imageOf (b : Bytes) : BitVec 120 := BitVec.ofNat 120 (leNat b)

/-- PNL_PLACARD_WRITE (R429, R434): the keeper takes the image; a standby holds it until it claims (R437). -/
def bodyPnlPlacard (c : Cmd) (s : State) : Answer :=
  let v := leNat c.buf
  let image := imageOf c.buf
  let present := if isStandby s then s.panel.hostImage else s.panel.placard.wanted &&& hostMask
  if c.buf.length != 16 then no 0x0106
  else if v % 2 ^ 28 != 0 || decide (v ≥ 2 ^ 112) || !s.panel.placard.fitted then no 0x0103
  else if image == present then no 0x0002
  else
    let s := onPanel (fun p => { p with hostImage := image }) s
    changeParam c none [] [] (if isStandby s then s else onPlacard (Placard.request hostMask image) s)

/-- BUSY of PNL_STATUS (Table FP.8). -/
def panelBusy (s : State) : Nat :=
  let p := s.panel.placard
  bit (oledOff s) * 2 ^ 17 + bit (p.accounts.any SegAccount.fallback) * 2 ^ 16 +
    (((s.panel.anns.zipIdx).map fun x => bit x.1.fault * 2 ^ x.2).sum) * 2 ^ 8 + 8 * bit (p.state == .cut) +
    4 * bit (!s.panel.writes.isEmpty) + 2 * bit p.next.isSome + bit (p.state == .running)

/-- PNL_STATUS (R438). -/
def bodyPnlStatus (_ : Cmd) (s : State) : Answer :=
  okData 0 (putLe 4 (panelBusy s) ++
    putLe 1 (bit (s.panel.crackOpen.getD 0 false) + 2 * bit (s.panel.crackOpen.getD 1 false))) s

/-- The panel after a MAIN reset (R437): OLED blank, annunciators off, commands gone; the keeper's placard, and what TARGET shows
of the host's image, stay. -/
def Panel.mainReset (p : Panel) : Panel :=
  { p with
    shown := zeros p.shown.length
    back := zeros p.back.length
    writes := []
    anns := List.replicate 8 ⟨0, false, 0, 0, 0, false, []⟩
    hostImage := p.placard.wanted &&& hostMask }

/-- The panel as a start takes its configuration (Table FP.9). -/
def Panel.started (columns rows : Nat) (fitted : Bool) (p : Panel) : Panel :=
  { p with
    columns := columns
    rows := rows
    shown := zeros (columns * rows)
    back := zeros (columns * rows)
    placard := { p.placard with fitted := fitted } }

/-! ## The rows -/

/-- PNL_OLED_WRITE (R424). -/
def execPnlOledWrite (c : Cmd) (s : State) : Host.Outcome State Fault Refusal := .next (runDcs 0x0D01 c bodyPnlOled s)

/-- PNL_ANNUNCIATOR (R425). -/
def execPnlAnnunciator (c : Cmd) (s : State) : Host.Outcome State Fault Refusal := .next (runDcs 0x0D02 c bodyPnlAnnunciator s)

/-- PNL_PLACARD_WRITE (R429). -/
def execPnlPlacardWrite (c : Cmd) (s : State) : Host.Outcome State Fault Refusal := .next (runDcs 0x0D03 c bodyPnlPlacard s)

/-- PNL_STATUS (R438). -/
def execPnlStatus (c : Cmd) (s : State) : Host.Outcome State Fault Refusal := .next (runDcs 0x0D04 c bodyPnlStatus s)

/-- OLED_FRAME_START (R424). -/
def execOledFrameStart (s : State) : Host.Outcome State Fault Refusal := .next (opOledFrame s)

/-- BLINK_PHASE (R425). -/
def execBlinkPhase (s : State) : Host.Outcome State Fault Refusal := .next (opBlink s)

/-- ANNUNCIATOR_MEASUREMENT (R426). -/
def execAnnunciatorMeasurement (channel currentPct pinMv : Nat) (s : State) : Host.Outcome State Fault Refusal :=
  .next (opAnnunciator channel currentPct pinMv s)

/-- PLACARD_UPDATE_START (R430). -/
def execPlacardUpdateStart (allBad : Bool) (bad : List Nat) (s : State) : Host.Outcome State Fault Refusal :=
  .next (opPlacardStart allBad bad s)

/-- PLACARD_PHASE_END (R431). -/
def execPlacardPhaseEnd (s : State) : Host.Outcome State Fault Refusal := .next (opPlacardPhase s)

/-- CRACK_SAMPLE (R436). -/
def execCrackSample (panel : Nat) (open_ : Bool) (s : State) : Host.Outcome State Fault Refusal :=
  .next (opCrack panel open_ s)

end Sys2Proof.Machine
end

