-- ==== Sys2Proof/Machine/Metrology.lean ====
section
/-! DEFINITION. Feeder metrology, pulse inputs and the chip's own relays (09_feeder_metrology_and_relays R197 to R211, R485). -/

namespace Sys2Proof.Machine

/-! ## The calibration table (R211, Table MT.8) -/

/-- An input entry. -/
def calInput (b : Bytes) : CalInput :=
  ⟨le b 1 1, le b 2 1, (le b 3 1).testBit 0, le b 4 4, leInt b 8 4, leInt b 12 4, leInt b 16 4⟩

/-- An input entry's ranges. -/
def calInputOk (n : Nat) (b : Bytes) : Bool :=
  let e := calInput b
  let volt := decide (n < 4)
  le b 0 1 == n && (e.kind == 0 || (if volt then e.kind == 1 else e.kind == 2 || e.kind == 3)) &&
    (if volt then e.pga == 1 else [1, 2, 4, 8, 16].contains e.pga) && decide (le b 3 1 < 2) &&
    decide (-100000 ≤ e.gainPpm) && decide (e.gainPpm ≤ 100000) &&
    (if volt then e.phaseUrad == 0 else decide (-50000 ≤ e.phaseUrad) && decide (e.phaseUrad ≤ 50000)) && zeroAt b 20 12

/-- A pulse entry. -/
def calPulse (b : Bytes) : CalPulse :=
  ⟨(le b 0 1).testBit 0, (le b 0 1).testBit 1, le b 2 2, leInt b 4 1, le b 5 1, le b 8 4⟩

/-- A pulse entry's ranges. -/
def calPulseOk (b : Bytes) : Bool :=
  decide (le b 0 1 < 4) && zeroAt b 1 1 && within 20 10000 (le b 2 2) && zeroAt b 6 2 && zeroAt b 12 4

/-- A relay entry. -/
def calRelay (b : Bytes) : CalRelay := ⟨le b 0 1 == 1, le b 2 2⟩

/-- A relay entry's ranges. -/
def calRelayOk (b : Bytes) : Bool := decide (le b 0 1 ≤ 1) && zeroAt b 1 1 && within 20 200 (le b 2 2) && zeroAt b 4 12

/-- The calibration table; none where it is malformed. -/
def parseCal (b : Bytes) : Option CalTable :=
  let ins := chunks b 16 32 12
  let ps := chunks b 400 16 8
  let rs := chunks b 528 16 2
  if b.length == 560 && le b 0 2 == 1 && zeroAt b 2 14 && (ins.zipIdx).all (fun x => calInputOk x.2 x.1) &&
      ps.all calPulseOk && rs.all calRelayOk then
    some ⟨ins.map calInput, ps.map calPulse, rs.map calRelay⟩
  else none

/-- TST_CALIBRATE (R211): it takes effect at the next whole minute. -/
def bodyTstCalibrate (c : Cmd) (s : State) : Answer :=
  let t := s.led.work.tables.cal
  loadTable c s t.version t.raw ((parseCal c.buf).map fun x v => .cal v c.buf x) none (fun _ => []) id

/-- The relay entry of a relay that the table in force marks fitted (R485). -/
def relayFitted (s : State) (n : Nat) : Option CalRelay :=
  ((s.led.work.tables.cal.now).bind fun t => t.relays[n]?).filter (·.fitted)

/-- A pulse input's entry. -/
def pulseEntry (s : State) (n : Nat) : Option CalPulse := (s.led.work.tables.cal.now).bind fun t => t.pulses[n]?

/-- A relay's item (R210). -/
def relayItem (s : State) (n : Nat) : RelayItem := s.led.work.relays.getD n ⟨2, 3, 0, 0, 0, 0⟩

/-! ## Samples (R197 to R200, R202) -/

/-- Metrology changed. -/
def onMet (f : Metrology → Metrology) (s : State) : State := { s with met := f s.met }

/-- A phase's energy of one sample added (R199). -/
def PhaseMinute.add (e q : Int) (p : PhaseMinute) : PhaseMinute :=
  { p with eImp := p.eImp + e.toNat, eExp := p.eExp + (-e).toNat, qNet := p.qNet + q }

/-- Energies of a point's phases added; a phase whose voltage or current sample is missing adds nothing. -/
def PointMinute.add (first : Nat) (es qs : List Int) (ok : Nat → Bool) (p : PointMinute) : PointMinute :=
  { p with phases := (p.phases.zipIdx).map fun x =>
      if ok x.2 && ok (first + x.2) then x.1.add (es.getD x.2 0) (qs.getD x.2 0) else x.1 }

/-- Net energy of one sample of a point. -/
def sampleNet (first : Nat) (es : List Int) (ok : Nat → Bool) : Int :=
  ((List.range 3).map fun p => if ok p && ok (first + p) then es.getD p 0 else 0).sum

/-- The samples of the last 20 s with one more, those that never came counting as no energy. -/
def keepSample (n : Nat) (e0 e1 : Int) (l : List (Nat × Int × Int)) : List (Nat × Int × Int) :=
  let gap := match l.getLast? with
    | some x => (List.range (min 160001 (n - x.1 - 1))).map fun k => (n - min 160001 (n - x.1 - 1) + k, (0 : Int), (0 : Int))
    | none => []
  lastN 160001 ((l.filter fun x => decide (x.1 < n)) ++ gap ++ [(n, e0, e1)])

/-- Steps, in seconds, at whose multiples a point keeps boundary records (R202): the least INTERVAL_MIN of each group's
compatible members, and its balance interval. -/
def boundarySteps (s : State) (point : Nat) : List Nat :=
  let l := s.led.work
  let gs := ((l.tables.groups.now.map (·.groups)).getD []).filter fun g => g.own s && g.point == some point
  (gs.flatMap fun g =>
    let ms := (l.recs.filter fun e => e.2.place.group == g.ref.group && !(l.incompatible g e.2.cls)).filterMap
      fun e => l.classMin e.2.cls
    let least := minNat ms
    (if ms.isEmpty then [] else [60 * least]) ++ [g.sec]).dedup

/-- The boundary record of a point around an instant. -/
def boundaryRecord (point : Nat) (t : LTime) (recent : List (Nat × Int × Int)) : BoundaryRec :=
  let k := sampleNo t
  let es := (recent.filter fun e => decide (k ≤ e.1 + 80000) && decide (e.1 ≤ k + 80000)).map fun e =>
    if point = 0 then e.2.1 else e.2.2
  ⟨point, t, List.replicate (160001 - es.length) 0 ++ es⟩

/-- Boundary records due at the sample of T + 10 s. -/
def boundaryRecords (x : LTime) (s : State) : State :=
  if x % 65536 != 0 || decide (x < ltSec 10) then s
  else
    let t := x - ltSec 10
    let due := [0, 1].filter fun p => (boundarySteps s p).any fun sec => s.led.work.slotOf sec t == t
    due.foldl (fun s p => append [.boundaryRec (boundaryRecord p t s.met.recent)] none s) s

/-- A 64-bit pulse total moved by the modular difference from the previous accepted count (R206). -/
def pulseTotal (total : BitVec 64) (was now_ : BitVec 32) : BitVec 64 := total + (now_ - was).zeroExtend 64

/-- Pulse counts accepted. -/
def Metrology.takeCounts (counts : List (BitVec 32)) (m : Metrology) : Metrology :=
  { m with
    totals := (m.totals.zipIdx).map fun x => pulseTotal x.1 (m.lastCounts.getD x.2 0) (counts.getD x.2 (m.lastCounts.getD x.2 0))
    lastCounts := (m.lastCounts.zipIdx).map fun x => counts.getD x.2 x.1
    frozen := false }

/-- A metrology frame in the stream (R197 to R199, R206). -/
def takeMetFrame (f : MetFrame) (s : State) : State :=
  let m : Metrology := s.met
  let ovl : List Nat := (m.overload.zipIdx).map fun (x : Nat × Nat) => if f.overload.getD x.2 false then x.1 + 1 else 0
  let ok (n : Nat) : Bool := decide (ovl.getD n 0 ≤ 4) && f.used.getD n false && !m.stepped
  let m : Metrology := { m with
    overload := ovl
    taken := (m.taken.zipIdx).map fun (x : Nat × Nat) => if ok x.2 then x.1 + 1 else x.1
    clipping := m.clipping || f.clipping
    acc0 := m.acc0.add 4 f.energy0 f.quad0 ok
    acc1 := m.acc1.add 8 f.energy1 f.quad1 ok
    recent := keepSample (sampleNo f.sampleTime) (sampleNet 4 f.energy0 ok) (sampleNet 8 f.energy1 ok) m.recent }
  boundaryRecords f.sampleTime (onMet (fun _ => m.takeCounts f.counts) s)

/-- The energy a standby measures itself (R356): E_IMP of each point, over its phases. -/
def ownEnergy (f : MetFrame) (s : State) : State :=
  let add (k : Nat) (es : List Int) (l : List (Nat × Nat)) : List (Nat × Nat) :=
    insertNat k ((lookupNat k l).getD 0 + (es.map Int.toNat).sum) l
  { s with twin := { s.twin with minuteEnergy := add 1 f.energy1 (add 0 f.energy0 s.twin.minuteEnergy) } }

/-- The field die's frame as it crosses the link, with its counters and the calibration in force. -/
def MetFrame.own (s : State) (f : MetFrame) : MetFrame :=
  { f with counts := s.met.fieldCounts, used := (List.range 12).map (inputUsed s) }

/-- METROLOGY_FRAME_RECEIVED (R197): a frame that crosses a trained link. A standby's own frames feed only its comparison. -/
def opMetFrame (f : MetFrame) (s : State) : State :=
  if !inService s || !s.d2d.up then s
  else if isStandby s then ownEnergy (f.own s) s
  else if isActive s then takeMetFrame (f.own s) (newInput 2 s)
  else s

/-! ## Minute records (R201, R356) -/

/-- A point's block with its means. -/
def PointMinute.means (irms : List Nat) (iN iRes : Nat) (p : PointMinute) : PointMinute :=
  { phases := (p.phases.zipIdx).map fun x => { x.1 with iRmsMa := irms.getD x.2 0 }, iNRmsMa := iN, iResMs := iRes }

/-- The record of the minute that ends (Table MT.2). A step of chip time marks every sample of it missing (R197). -/
def Metrology.minute (x : MinuteMeans) (m : Metrology) : FeederMinute :=
  let missing := if m.stepped then 480000 else 480000 - min 480000 (minNat m.taken)
  let a0 := if m.stepped then PointMinute.zero else m.acc0
  let a1 := if m.stepped then PointMinute.zero else m.acc1
  { flags := bit (missing != 0) + 2 * bit m.stepped + 4 * bit m.clipping + 8 * bit m.outage + 16 * bit m.frozenInMinute
    missing := missing
    start := m.minuteStart
    calVersion := x.calVersion
    freqMhz := x.freqMhz
    vRms := x.vRms
    vNe := x.vNe
    vThd := x.vThd
    point0 := a0.means x.iRms0 x.iN0 x.iRes0
    point1 := a1.means x.iRms1 x.iN1 x.iRes1
    pulses := (m.totals.zipIdx).map fun t => (t.1 - m.minuteBase.getD t.2 0).toNat % 2 ^ 32
    pulseLost := ((m.pulseLost.zipIdx).map fun b => bit b.1 * 2 ^ b.2).sum }

/-- Metrology at the start of a minute. -/
def Metrology.nextMinute (start : LTime) (up : Bool) (m : Metrology) : Metrology :=
  { m with
    minuteBase := m.totals
    pulseLost := List.replicate 8 false
    frozenInMinute := m.frozen
    taken := List.replicate 12 0
    stepped := false
    clipping := false
    outage := !up
    minuteStart := start
    acc0 := PointMinute.zero
    acc1 := PointMinute.zero }

/-- TWIN_DIVERGED of kind METROLOGY (R356): the standby's own E_IMP of a point differs from the active's by more than 0.5 % of
the larger and more than 1 Wh. -/
def compareMinute (r : FeederMinute) (s : State) : State :=
  let differs (k : Nat) (p : PointMinute) : Bool :=
    let own := (lookupNat k s.twin.minuteEnergy).getD 0
    let act := (p.phases.map (·.eImp)).sum
    let d := max own act - min own act
    decide (d > 1000000) && decide (200 * d > max own act)
  let bad := !s.twin.minuteEnergy.isEmpty && (differs 0 r.point0 || differs 1 r.point1)
  let s' := { s with twin := { s.twin with minuteEnergy := [] } }
  if isStandby s && bad then raiseHw 0x0802 (putLe 8 (openNum s) ++ putLe 1 2) s' else s'

/-- A whole minute of chip time has ended: its record is appended. -/
def minuteEnds (x : MinuteMeans) (s : State) : State :=
  let start := s.led.work.slotOf 60 (now s)
  if s.met.minuteStart = 0 then onMet (Metrology.nextMinute start s.d2d.up) s
  else if start = s.met.minuteStart then s
  else
    let r := s.met.minute x
    let s := { s with counters := { s.counters with feederMissing := s.counters.feederMissing + r.missing } }
    compareMinute r (onMet (Metrology.nextMinute start s.d2d.up) (append [.minute r] none (timerInput s)))

/-- FEEDER_MINUTE_RECORD (R201). -/
def opFeederMinute (x : MinuteMeans) (s : State) : State :=
  if !inService s then s else minuteEnds { x with calVersion := s.led.work.tables.cal.nowVersion } s

/-! ## Own relays: results (R207, R209, R210) -/

/-- A relay item with its next version. -/
def nextItem (s : State) (n : Nat) (state feedback fault coilMa : Nat) : RelayItem :=
  ⟨state, feedback, fault, coilMa, now s, nextVersion (relayItem s n).version⟩

/-- RELAY_OPERATED or RELAY_FAULT of an own relay, or nothing (R207, R468). -/
def relayEvent (s : State) (n : Nat) (r : RelayItem) : EvRec :=
  let e := if r.fault = 0 then mkEv s 0x0405 (putLe 1 n ++ putLe 1 r.state) none
    else mkEv s 0x0406 (putLe 1 n ++ putLe 1 r.feedback ++ putLe 2 r.coilMa) none
  { e with source := 0x05 }

/-- The result of a relay's sequence is an input of the stream (R349, kind 3). -/
def relayInput (s : State) : State := if isActive s then newInput 3 s else s

/-- FEEDBACK of a contact (R207): 0 open, 1 closed, 2 indeterminate. -/
def contactCode (s : State) (n : Nat) : Nat :=
  match s.met.aux[n]? with
  | some a => if a.known then bit a.closed else 2
  | none => 2

/-- The sequences waiting or running. -/
def dropSeq (q : CoilSeq) (s : State) : State := onMet (fun m => { m with relays := m.relays.filter (· != q) }) s

/-- The first sequence changed. -/
def onHead (f : CoilSeq → CoilSeq) (s : State) : State :=
  onMet (fun m => { m with relays := match m.relays with
    | [] => []
    | q :: rest => f q :: rest }) s

/-- The audit part of PPY_OWN_RELAY (R114): the command itself is gone from view, its PARAM is relay and state. -/
def relayAudit (q : CoilSeq) : AuditPart :=
  ⟨0x0601 + q.relay, false, false, none, 0, 0, [], putLe 1 q.relay ++ putLe 1 (bit q.target) ++ zeros 30⟩

/-- A sequence ends (Table MT.6): the relay item, the audit record and the event go in one group; in salvage mode the item is
outside R121. -/
def relayEnds (q : CoilSeq) (r : RelayItem) (s : State) : State :=
  let s := dropSeq q (relayInput s)
  finishKey q.cmd (.change [.relay q.relay r, .event (relayEvent s q.relay r)] (relayAudit q)
    (if r.fault = 0 then 0 else 0x0804) (putLe 1 r.feedback) [] 0 s) s

/-- A sequence that finds the relay in place completes with OK_NO_CHANGE. -/
def relayInPlace (q : CoilSeq) (s : State) : State :=
  let s := dropSeq q (relayInput s)
  finishKey q.cmd (.refuse 0x0002 (putLe 1 (bit q.target))) s

/-! ## Own relays: the sequence (R207 to R209, Table MT.6) -/

/-- No pulse may start: a warning stands, the keeper holds the relays, the link is down, or a new active still waits (R208,
R209, R360). -/
def coilHeld (s : State) : Bool :=
  warned s || s.keeper.supply.relayHold || !s.d2d.up || !isActive s || s.twin.coilWait.isSome

/-- The gap of 50 ms across both relays and of 500 ms on one relay has passed (R207). -/
def gapPassed (s : State) (n : Nat) : Bool :=
  let since (k ms : Nat) : Bool :=
    let t := s.met.lastPulseEnd.getD k 0
    t = 0 || decide (t + msTicks ms ≤ s.clk)
  since 0 50 && since 1 50 && since n 500

/-- A contact shows a state, stable for 5 ms. -/
def contactShows (s : State) (n : Nat) (closed : Bool) : Bool :=
  match s.met.aux[n]? with
  | some a => a.known && a.closed == closed && decide (a.stableSince + msTicks 5 ≤ s.clk)
  | none => false

/-- The coil is energised in the polarity of the state. -/
def energise (q : CoilSeq) (s : State) : State :=
  emit (.coil q.relay (some q.target)) (onHead (fun q => { q with phase := .pulsing, since := s.clk, pulse := q.pulse + 1 }) s)

/-- The first waiting sequence goes, where nothing holds it: one that finds its relay in place completes; the next follows. -/
def kickCoilN : Nat → State → State
  | 0, s => s
  | n + 1, s =>
    match s.met.relays with
    | [] => s
    | q :: _ =>
      if q.phase != .waiting || coilHeld s then s
      else if q.pulse = 0 && contactShows s q.relay q.target then kickCoilN n (relayInPlace q s)
      else if gapPassed s q.relay then energise q s
      else s

/-- The relays' queue moves on. -/
def kickCoil (s : State) : State := kickCoilN (s.met.relays.length + 1) s

/-- The sequence of a relay that is in a phase, where it stands first. -/
def runningSeq (s : State) (n : Nat) (p : CoilPhase) : Option CoilSeq :=
  match s.met.relays with
  | q :: _ => if q.relay = n && q.phase == p then some q else none
  | [] => none

/-- A coil is de-energised. -/
def coilOff (n : Nat) (s : State) : State :=
  emit (.coil n none) (onMet (fun m => { m with lastPulseEnd := m.lastPulseEnd.set n (max 1 s.clk) }) s)

/-- A sequence faults (Table MT.6): the state stays, but for a contact that is indeterminate, when it is unknown. -/
def relayFaults (q : CoilSeq) (fault feedback coilMa : Nat) (s : State) : State :=
  let st := if feedback = 2 then 2 else (relayItem s q.relay).state
  kickCoil (relayEnds q (nextItem s q.relay st feedback fault coilMa) s)

/-- PPY_OWN_RELAY (R207, R208). -/
def bodyPpyOwnRelay (c : Cmd) (s : State) : Answer :=
  let n := c.p 0x20 1
  let st := c.p 0x21 1
  let key := (c.ring, c.tag)
  if n > 1 || st > 1 || (relayFitted s n).isNone then no 0x0103
  else if s.met.relays.any fun q => q.cmd == key then .hold
  else if isActive s && !s.d2d.up then no 0x0801
  else .wait (kickCoil (onMet (fun m => { m with
    relays := m.relays ++ [⟨key, n, st == 1, .waiting, 0, s.clk, 0⟩] }) s))

/-- OWN_RELAY_CURRENT_CHECK (Table MT.6 step 3): 5 ms into the pulse. -/
def opCurrentCheck (n ma : Nat) (s : State) : State :=
  match runningSeq s n .pulsing with
  | none => s
  | some q =>
    if decide (s.clk < q.since + msTicks 5) then s
    else if ma < 50 then relayFaults q 1 (contactCode s n) (max q.peakMa ma) (coilOff n s)
    else onHead (fun q => { q with peakMa := max q.peakMa ma }) s

/-- COIL_OVERCURRENT (Table MT.6 step 4). -/
def opOvercurrent (n ma : Nat) (s : State) : State :=
  match runningSeq s n .pulsing with
  | none => s
  | some q => if ma ≤ 400 then s else relayFaults q 2 (contactCode s n) (max q.peakMa ma) (coilOff n s)

/-- OWN_RELAY_PULSE_END (R207): after PULSE_MS. -/
def opPulseEnd (n peakMa : Nat) (s : State) : State :=
  match runningSeq s n .pulsing with
  | none => s
  | some q =>
    if decide (s.clk < q.since + msTicks (((relayFitted s n).map (·.pulseMs)).getD 0)) then s
    else onHead (fun q => { q with phase := .settling, since := s.clk, peakMa := max q.peakMa peakMa }) (coilOff n s)

/-- A contact's reading entered. -/
def setAux (n : Nat) (closed : Bool) (s : State) : State :=
  onMet (fun m => { m with aux := m.aux.modify n fun a =>
    { closed := closed, known := true, stableSince := if a.known && a.closed == closed then a.stableSince else s.clk } }) s

/-- OWN_RELAY_AUX_CHECK (Table MT.6 steps 5 to 7): the stable contact is judged 20 ms after the pulse or later. -/
def opAuxCheck (n : Nat) (closed : Bool) (s : State) : State :=
  match runningSeq s n .settling with
  | none => s
  | some q =>
    if decide (s.clk < q.since + msTicks 20) then s
    else
      let s := setAux n closed s
      if closed == q.target then kickCoil (relayEnds q (nextItem s n (bit closed) (bit closed) 0 q.peakMa) s)
      else if q.pulse = 1 then onHead (fun q => { q with phase := .gap, since := s.clk }) s
      else relayFaults q 3 (bit closed) q.peakMa s

/-- OWN_RELAY_REPULSE (Table MT.6 step 6). -/
def opRepulse (n : Nat) (s : State) : State :=
  match runningSeq s n .gap with
  | none => s
  | some q =>
    if !gapPassed s n then s
    else if coilHeld s then onHead (fun q => { q with phase := .waiting }) s
    else energise q s

/-- AUX_UNSTABLE_TIMEOUT (Table MT.6 step 8). -/
def opAuxUnstable (n : Nat) (s : State) : State :=
  match runningSeq s n .settling with
  | none => s
  | some q => if decide (s.clk < q.since + msTicks 100) then s else relayFaults q 4 2 q.peakMa s

/-- RELAY_PULSE_GAP (R207). -/
def opRelayGap (n : Nat) (s : State) : State :=
  match runningSeq s n .waiting with
  | none => s
  | some _ => kickCoil s

/-- The keeper ends a pulse at once (R209): its sequence waits until the hold ends. -/
def holdCoils (s : State) : State :=
  match s.met.relays with
  | q :: _ =>
    if q.phase == .pulsing then onHead (fun q => { q with phase := .waiting, pulse := q.pulse - 1 }) (coilOff q.relay s) else s
  | [] => s

/-- Commands of the relays when the die-to-die link is lost (R208). DESIGN CHOICE (log entry 49): those that wait or run
complete with 0x0801 as well. -/
def failCoils (s : State) : State :=
  s.met.relays.foldl (fun s q => finishKey q.cmd (.refuse 0x0801 (putLe 1 (contactCode s q.relay))) (dropSeq q s))
    (holdCoils s)

/-! ## Contacts (R209, R485) -/

/-- A contact judged with no command running: the first reading of a fitted relay sets the state alone; a later one that
differs from the item is a fault (R209, R485). -/
def judgeContact (n : Nat) (s : State) : State :=
  let r := relayItem s n
  let c := contactCode s n
  let first := !(s.met.relayKnown.getD n false) && r.state == 2
  if (relayFitted s n).isNone || c = 2 then s
  else
    let s' := onMet (fun m => { m with relayKnown := m.relayKnown.set n true }) s
    if first then append [.relay n (nextItem s n c c 0 0)] none (relayInput s')
    else if c = r.state then s'
    else
      let i := nextItem s n c c 5 0
      append [.relay n i, .event (relayEvent s n i)] none (relayInput s')

/-- AUX_CONTACT_CHANGE (R209). -/
def opAuxChange (n : Nat) (closed : Bool) (s : State) : State :=
  let s := setAux n closed s
  let runs := s.met.relays.any fun q => q.relay == n && q.phase != .waiting
  if n > 1 || runs || !inService s || !isActive s || !s.d2d.up then s else judgeContact n s

/-- A relay under a calibration table that took effect (R211, R485): newly fitted it is read, no longer fitted its item reads as
R485 says. `before` says which were fitted. -/
def calRelayAt (before : List Bool) (s : State) (n : Nat) : State :=
  let was := before.getD n false
  let is := (relayFitted s n).isSome
  if is && !was then judgeContact n (onMet (fun m => { m with relayKnown := m.relayKnown.set n false }) s)
  else if was && !is then
    append [.relay n ⟨2, 3, 0, 0, 0, nextVersion (relayItem s n).version⟩] none (relayInput s)
  else s

/-- CALIBRATION_EFFECTIVE (R211, R485): at the first whole minute after the load; a relay newly fitted is read, one no longer
fitted reads as R485 says. -/
def opCalEffective (s : State) : State :=
  match s.led.work.tables.cal.pending with
  | none => s
  | some p =>
    let x := s.led.work.slotOf 60 (now s)
    if !inService s || !isActive s || x ≤ p.1 then s
    else
      let before := [0, 1].map fun n => (relayFitted s n).isSome
      let s := append [.effective .cal x] none s
      [0, 1].foldl (calRelayAt before) s

/-- S0_PULSE (R205): the field die counts an accepted edge of an enabled input. -/
def opS0Pulse (n : Nat) (s : State) : State :=
  if s.keeper.supply.fieldReset || !((pulseEntry s n).map (·.enabled)).getD false then s
  else onMet (fun m => { m with fieldCounts := m.fieldCounts.modify n (· + 1) }) s

/-! ## The die-to-die link (R15, R206, R399) -/

/-- A reset of the field die (R206): its counters are cleared, the pulses since are lost, its drivers stop. -/
def fieldReset (s : State) : State :=
  let lost := (List.range 8).map fun n => ((pulseEntry s n).map (·.enabled)).getD false
  onMet (fun m => { m with
    fieldCounts := List.replicate 8 0
    lastCounts := List.replicate 8 0
    pulseLost := (m.pulseLost.zipIdx).map fun b => b.1 || lost.getD b.2 false }) (holdCoils s)

/-- D2D_LINK_LOST (R15). -/
def opD2dLost (s : State) : State :=
  if !s.d2d.up then s
  else
    let s := { s with
      d2d := { s.d2d with up := false, lostAt := s.clk, retraining := true }
      counters := { s.counters with d2dLosses := s.counters.d2dLosses + 1 } }
    raiseHw 0x0A01 [] (failCoils (onMet (fun m => { m with frozen := true, frozenInMinute := true, outage := true }) s))

/-- D2D_RETRAIN_DONE (R15): service resumes; D2D_LINK_RESTORED carries the outage in ms. -/
def opD2dDone (s : State) : State :=
  if s.d2d.up || !s.d2d.retraining || s.keeper.supply.fieldReset || decide (s.clk > s.d2d.lostAt + msTicks 100) then s
  else
    let ms := min 0xFFFF ((s.clk - s.d2d.lostAt) / 250000)
    let s := { s with
      d2d := { s.d2d with up := true, retraining := false } }
    kickCoil (raiseHw 0x0A02 (putLe 2 ms) s)

/-- D2D_RETRAIN_FAIL (R15): after 100 ms the field die is without service and the keeper shows D2D_DEAD. -/
def opD2dFail (s : State) : State :=
  if s.d2d.up || !s.d2d.retraining || decide (s.clk < s.d2d.lostAt + msTicks 100) then s
  else
    showCode 0x5002 { s with d2d := { s.d2d with retraining := false } }

/-! ## Rows -/

/-- PPY_OWN_RELAY (R207). -/
def execPpyOwnRelay (c : Cmd) (s : State) : Host.Outcome State Fault Refusal := .next (runDcs 0x0606 c bodyPpyOwnRelay s)

/-- TST_CALIBRATE (R211). -/
def execTstCalibrate (c : Cmd) (s : State) : Host.Outcome State Fault Refusal := .next (runDcs 0x0E04 c bodyTstCalibrate s)

/-- METROLOGY_FRAME_RECEIVED (R197). -/
def execMetrologyFrameReceived (m : MetFrame) (s : State) : Host.Outcome State Fault Refusal := .next (opMetFrame m s)

/-- FEEDER_MINUTE_RECORD (R201). -/
def execFeederMinuteRecord (m : MinuteMeans) (s : State) : Host.Outcome State Fault Refusal := .next (onTimer (opFeederMinute m) s)

/-- CALIBRATION_EFFECTIVE (R211). -/
def execCalibrationEffective (s : State) : Host.Outcome State Fault Refusal := .next (opCalEffective s)

/-- S0_PULSE (R205). -/
def execS0Pulse (input : Nat) (s : State) : Host.Outcome State Fault Refusal := .next (opS0Pulse input s)

/-- OWN_RELAY_CURRENT_CHECK (R207). -/
def execOwnRelayCurrentCheck (relay ma : Nat) (s : State) : Host.Outcome State Fault Refusal := .next (opCurrentCheck relay ma s)

/-- COIL_OVERCURRENT (R207). -/
def execCoilOvercurrent (relay ma : Nat) (s : State) : Host.Outcome State Fault Refusal := .next (opOvercurrent relay ma s)

/-- OWN_RELAY_PULSE_END (R207). -/
def execOwnRelayPulseEnd (relay peakMa : Nat) (s : State) : Host.Outcome State Fault Refusal := .next (opPulseEnd relay peakMa s)

/-- OWN_RELAY_AUX_CHECK (R207). -/
def execOwnRelayAuxCheck (relay : Nat) (closed : Bool) (s : State) : Host.Outcome State Fault Refusal :=
  .next (opAuxCheck relay closed s)

/-- OWN_RELAY_REPULSE (R207). -/
def execOwnRelayRepulse (relay : Nat) (s : State) : Host.Outcome State Fault Refusal := .next (opRepulse relay s)

/-- AUX_UNSTABLE_TIMEOUT (R207). -/
def execAuxUnstableTimeout (relay : Nat) (s : State) : Host.Outcome State Fault Refusal := .next (opAuxUnstable relay s)

/-- AUX_CONTACT_CHANGE (R209). -/
def execAuxContactChange (relay : Nat) (closed : Bool) (s : State) : Host.Outcome State Fault Refusal :=
  .next (opAuxChange relay closed s)

/-- RELAY_PULSE_GAP (R207). -/
def execRelayPulseGap (relay : Nat) (s : State) : Host.Outcome State Fault Refusal := .next (opRelayGap relay s)

/-- D2D_LINK_LOST (R15). -/
def execD2dLinkLost (s : State) : Host.Outcome State Fault Refusal := .next (opD2dLost s)

/-- D2D_RETRAIN_DONE (R15). -/
def execD2dRetrainDone (s : State) : Host.Outcome State Fault Refusal := .next (opD2dDone s)

/-- D2D_RETRAIN_FAIL (R15). -/
def execD2dRetrainFail (s : State) : Host.Outcome State Fault Refusal := .next (opD2dFail s)

end Sys2Proof.Machine
end

