-- ==== Sys2Proof/Machine/Time.lean ====
section
/-! DEFINITION. Chip time (12_time: R263 to R284): the timebase registers, steps, the servo with PTP and 1PPS, leap seconds, the
keeper's RTC, time beacons, the transparent clock and the TIM_ commands. -/

namespace Sys2Proof.Machine

/-! ## The timebase (R263 to R265) -/

/-- RATE written: T0 takes T(C) and C0 takes C first, so that chip time does not move (R264). -/
def Timebase.setRate (r : Int) (t : Timebase) : Timebase := { t with t0 := chipT t, c0 := t.c, rate := r }

/-- A signed 32-bit value from its word. -/
def signed32 (w : Nat) : Int := (BitVec.ofNat 32 w).toInt

/-- The step of TS_STEP_NS and TS_STEP_SEC, in 2^-16 ns (Table TM.1). -/
def Timebase.stepUnits (t : Timebase) : Int :=
  let ns : Int := ((t.stepSec * 1000000000 + bitsOf t.stepNs.toNat 29 0) * 65536 : Nat)
  if t.stepNs.getLsbD 31 then -ns else ns

/-- TS_RATE_WRITE (R264). -/
def opTsRate (v : Nat) (s : State) : State := if mainRuns s then { s with tb := s.tb.setRate (signed32 v) } else s

/-- TS_STEP (R264): the signed step is added to T0. -/
def opTsStep (s : State) : State :=
  if mainRuns s then { s with tb := { s.tb with t0 := s.tb.t0 + s.tb.stepUnits } } else s

/-- TS_COUNT_LO_READ (R265). -/
def opTsCountLo (s : State) : State :=
  if mainRuns s then emit (.read (s.tb.c % 2 ^ 32)) { s with tb := { s.tb with countHi := s.tb.c / 2 ^ 32 % 2 ^ 32 } } else s

/-- TS_NOW_NS_READ (R265). -/
def opTsNowNs (s : State) : State :=
  if mainRuns s then emit (.read (chipSubNs s.tb)) { s with tb := { s.tb with secLatch := chipSec s.tb } } else s

/-- TS_PPS_IN_READ (Table TM.1): the capture is returned and VALID cleared. -/
def opTsPpsIn (s : State) : State :=
  if mainRuns s then
    emit (.read (bit s.tb.ppsValid * 2 ^ 31 + s.tb.ppsNs)) { s with tb := { s.tb with ppsValid := false } }
  else s

/-! ## Steps of chip time (R272) -/

/-- The time run-time state changed. -/
def onTime (f : TimeRun → TimeRun) (s : State) : State := { s with time := f s.time }

/-- T0 moved by a step of whole LTIME units, 10^9 of 2^-16 ns each (R264, R272). -/
def stepT (units : Int) (s : State) : State := { s with tb := { s.tb with t0 := s.tb.t0 + units * 1000000000 } }

/-- The clock-adjustment record of a step, appended just after it (R113, R272), and TIME_STEPPED. Chip steps have a sequence of
their own, from 1. -/
def stepItems (units : Int) (kind : Nat) (s : State) : List Item :=
  let t := now s
  let seq := (s.led.work.clockAdjs.filter fun x => x.2.mh.isNone).length + 1
  [.clockAdj { at_ := t, mh := none, seq := seq % 65536, kind := kind, beyond := false, foldBegun := false,
               backward := decide (units < 0), old := ((t : Int) - units).toNat, new := t, step := units, limitS := 0, fold := 0 },
   .event (mkEv s 0x0603 (putInt 8 units) none)]

/-- The epoch boundaries passed since the latest one judged: the epoch closes at this instant (R97). -/
def closePassed (s : State) : State :=
  if (openEpoch s).isSome && boundaryDue s then
    closeEpoch 0 (onTime (fun t => { t with lastUtcCount := s.led.work.utc (now s) }) s)
  else s

/-- Boundaries that U skips take effect at this instant, in their own order (R155, R267). -/
def crossed (s : State) : State := if inService s then evalMissed (closePassed s) else s

/-- Whether a snapshot is cancelled by a step to an instant: AT within [step - 1 s, step + 20 s] (R272). -/
def Snapshot.cancelledBy (t : LTime) (x : Snapshot) : Bool :=
  decide (t ≤ x.at_ + ltSec 1) && decide (x.at_ ≤ t + ltSec 20)

/-- A cancelled snapshot: no fetch is sent, and its command completes with LATCHED 0 (R272). -/
def cancelSnapshot (x : Snapshot) (s : State) : State :=
  let s := onSnapshots (fun l => l.filter fun y => y.id != x.id) s
  match x.cmd.bind (inflightOf s) with
  | some f => finish f (.change [] (auditParam f.cmd none) 0 (putLe 4 x.id ++ putLe 4 0) [] 0 s) s
  | none => s

/-- What follows a step once it is applied and recorded (R272, R274): the minute is marked, boundaries are evaluated, UNSET is
cleared, snapshots near the step are cancelled. A beacon not yet on air stays to be sent with a new counter and time. -/
def afterStep (units : Int) (s : State) : State :=
  let wasUnset := s.time.unset
  let s := onTime (fun t => { t with unset := false, lastStep := some s.clk }) s
  let s := onMet (fun m => { m with stepped := true }) s
  let s := if units ≥ 0 then closePassed s
    else onTime (fun t => { t with lastUtcCount := s.led.work.utc (now s) }) s
  let s := if decide (units > 0) || wasUnset then evalMissed s else s
  (s.balance.snapshots.filter (Snapshot.cancelledBy (now s))).foldl (fun a x => cancelSnapshot x a) s

/-- A step that the servo takes; a standby takes it from the active's stream (R280). -/
def servoStep (units : Int) (s : State) : State :=
  if units = 0 then s
  else
    let s := stepT units s
    afterStep units (append (stepItems units 3 s) none s)

/-! ## The TIM_ commands -/

/-- TIM_GET (R270): chip time, TAI-UTC and PTP_STATE. -/
def bodyTimGet (_ : Cmd) (s : State) : Answer :=
  okData 0 (putLe 8 (now s) ++ putInt 2 s.led.work.taiUtc ++ putLe 1 (ptpState s)) s

/-- TIM_SET (R273). -/
def bodyTimSet (c : Cmd) (s : State) : Answer :=
  let step := (c.p 0x20 8 : Int) - now s
  if ptpLocked s then no 0x0208
  else if step = 0 then .refuse 0x0002 (putInt 8 0)
  else
    let s' := stepT step s
    changeParam c none (stepItems step 2 s') (putInt 8 step) s'

/-- TIM_SET whole: once its group has completed, what follows the step (R272, R274). -/
def opTimSet (c : Cmd) (s : State) : State :=
  let s1 := runDcs 0x0802 c bodyTimSet s
  if s1.tb.t0 = s.tb.t0 then s1 else afterStep ((s1.tb.t0 - s.tb.t0) / 1000000000) s1

/-- An entry of the local-time rules (R269). -/
def zoneEntry (b : Bytes) : ZoneEntry := ⟨le b 0 8, leInt b 8 2, le b 10 1 == 1⟩

/-- Whether FROM ascends strictly. -/
def ascends : List ZoneEntry → Bool
  | a :: b :: l => decide (a.from_ < b.from_) && ascends (b :: l)
  | _ => true

/-- The local-time rules of a buffer (R269); none where the form is broken. -/
def parseZone (b : Bytes) : Option (List ZoneEntry) :=
  let n := le b 2 2
  let raw := (List.range n).map fun k => (b.drop (16 + 16 * k)).take 16
  let es := raw.map zoneEntry
  if b.length != 16 + 16 * n || le b 0 2 != 1 || !within 1 256 n || !zeroAt b 4 12 then none
  else if !(es.all fun e => decide (-720 ≤ e.offsetMin) && decide (e.offsetMin ≤ 840)) then none
  else if !(raw.all fun r => decide (le r 10 1 ≤ 1) && zeroAt r 11 5) then none
  else if ((es.head?.map (·.from_)).getD 1) != 0 || !ascends es then none
  else some es

/-- TIM_LOAD_ZONE (R269). -/
def bodyTimLoadZone (c : Cmd) (s : State) : Answer :=
  let t := s.led.work.tables.zone
  loadTable c s t.version t.raw ((parseZone c.buf).map fun x v => .zone v c.buf x) none (fun _ => []) id

/-- The PTP settings of a buffer (R276); none where a field is outside its range or the profile lacks the transport. -/
def parsePtp (b : Bytes) : Option PtpCfg :=
  let c : PtpCfg :=
    { profile := le b 2 1, transport := le b 3 1, domain := le b 4 1, ports := le b 5 1, tcEnable := le b 6 1 == 1,
      announceTimeout := le b 7 1, lockNs := le b 8 4, stepNs := le b 12 4,
      adjNs := (List.range 4).map fun k => leInt b (16 + 2 * k) 2, ppsMode := le b 0x18 1, ppsCableNs := le b 0x1A 2,
      holdoverS := le b 0x1C 4 }
  if b.length = 32 && le b 0 2 == 1 && decide (c.profile ≤ 2) && within 1 3 c.transport &&
      (c.profile != 2 || c.transport == 1) && (c.profile == 2 || decide (c.domain ≤ 127)) && decide (c.ports ≤ 3) &&
      decide (le b 6 1 ≤ 1) && within 2 10 c.announceTimeout && within 50 100000 c.lockNs && within 100000 1000000000 c.stepNs &&
      decide (c.ppsMode ≤ 2) && zeroAt b 0x19 1 && decide (c.ppsCableNs ≤ 10000) && within 60 604800 c.holdoverS then some c
  else none

/-- TIM_PTP_CONFIG (R276). -/
def bodyTimPtpConfig (c : Cmd) (s : State) : Answer :=
  let t := s.led.work.tables.ptp
  loadTable c s t.version t.raw ((parsePtp c.buf).map fun x v => .ptp v c.buf x) none (fun _ => []) id

/-- SYS_SET_CONFIG whole: a new TAI_UTC moves U, and boundaries that U skips take effect at once (R267). -/
def opSysSetConfig (c : Cmd) (s : State) : State :=
  let s1 := runDcs 0x0104 c bodySysSetConfig s
  if s1.led.work.taiUtc = s.led.work.taiUtc then s1 else crossed s1

/-! ## The servo (R270, R271, R275, R279) -/

/-- The PTP settings in force (Table TM.5). -/
def ptpCfg (s : State) : PtpCfg := (s.led.work.tables.ptp.now).getD PtpCfg.default

/-- A PTP message that the servo takes: of its profile, domain, transport, on an enabled port whose link is up; a standby
disregards PTP (R275, R280). -/
def ptpTakes (s : State) (port domain transport : Nat) : Bool :=
  let c := ptpCfg s
  inService s && isActive s && c.profile != 0 && decide (port < 2) && bitOf c.ports port && s.ethLinks.getD port false &&
    domain == c.domain && transport == c.transport

/-- The servo turns to a source, ACQUIRING (R271). -/
def acquire (src : TimeSource) (s : State) : State :=
  onTime (fun t => { t with servo := .acquiring, source := src, goodRun := 0, badRun := 0 }) s

/-- Loss of the source (R271): HOLDOVER with the last RATE, and PTP_HOLDOVER. -/
def loseSource (s : State) : State :=
  raiseHw 0x0602 [] (onTime (fun t => { t with servo := .holdover, source := .none, holdoverSince := s.clk, goodRun := 0, badRun := 0 }) s)

/-- RATE as the servo slews: a free value within its range (log entry 3; R271 bounds its change, no rule gives its law). -/
def slew (s : State) : State := draw { s with tb := s.tb.setRate (signed32 (Config.freeNat s.fresh)) }

/-- The servo's step for an offset in ns, rounded to whole LTIME units (R272). -/
def stepFor (ns : Int) : Int := roundDiv (-ns * 65536) 1000000000

/-- Runs of good and bad measurements after one more (R271). -/
def countRuns (lockNs : Nat) (ns : Int) (t : TimeRun) : TimeRun :=
  if ns.natAbs ≤ lockNs then { t with goodRun := t.goodRun + 1, badRun := 0 }
  else { t with goodRun := 0, badRun := if ns.natAbs > 4 * lockNs then t.badRun + 1 else 0 }

/-- A measurement of the servo's source (R271): lock, loss of lock, step or slew. -/
def measure (ns : Int) (s : State) : State :=
  let c := ptpCfg s
  let s := onTime (countRuns c.lockNs ns) s
  let s :=
    if s.time.servo == .acquiring && decide (s.time.goodRun ≥ 16) then
      raiseHw 0x0601 (if s.time.source == .ptp then s.time.grandmaster.getD [] else [])
        (onTime (fun t => { t with servo := .locked }) s)
    else if s.time.servo == .locked && decide (s.time.badRun ≥ 4) then
      onTime (fun t => { t with servo := .acquiring, badRun := 0 }) s
    else s
  if ns.natAbs ≥ c.stepNs then servoStep (stepFor ns) (timerInput s) else slew s

/-- What the grandmaster says of UTC while the servo is LOCKED to PTP (R268); a leap flag taken this way applies at the end of
the UTC day. -/
def takeUtc (offset : Int) (leap : Nat) (s : State) : State :=
  let l := s.led.work
  let newOff : List Item := if offset = l.taiUtc then [] else
    .config 0x0C02 (nextVersion (l.itemVersion 0x0C02)) (putInt 2 offset) :: offsetItems l (now s) offset
  let newLeap : List Item := if leap = itemVal s 0x0C03 then [] else
    [.config 0x0C03 (nextVersion (l.itemVersion 0x0C03)) (putLe 1 leap)]
  if newOff.isEmpty && newLeap.isEmpty then s
  else
    let s := onTime (fun t => { t with leapAtDayEnd := if newLeap.isEmpty then t.leapAtDayEnd else leap != 0 }) s
    let s := append (newOff ++ newLeap) none s
    if newOff.isEmpty then s else crossed s

/-- The code of the leap that an Announce says. -/
def leapCode (leap61 leap59 : Bool) : Nat := if leap61 then 1 else if leap59 then 2 else 0

/-- An Announce (R275, R271, R268): the best master gives the PTP port; a change of grandmaster returns the servo to ACQUIRING. -/
def opAnnounce (port : Nat) (gm : Bytes) (better : Bool) (intervalMs : Nat) (utcValid : Bool) (offset : Int) (leap : Nat)
    (s : State) : State :=
  let same := s.time.grandmaster == some gm
  if !same && !better && s.time.grandmaster.isSome then s
  else
    let keep := same && port != 0 && s.ethLinks.getD s.time.gmPort false
    let s := onTime (fun t => { t with
      grandmaster := some gm
      gmPort := if keep then t.gmPort else port
      announceAt := s.clk
      announceIntervalTicks := msTicks intervalMs
      ptpGood := if same then t.ptpGood else 0
      utcOffsetValid := utcValid }) s
    let s := if s.time.source == .none || (s.time.source == .ptp && !same) then acquire .ptp s else s
    if ptpLocked s && utcValid then takeUtc offset leap (timerInput s) else s

/-- An offset measured against the grandmaster. With 1PPS as the source it gives the time of day alone, by whole seconds, and in
PPS_MODE 1 sixteen good ones make PTP the source again. DESIGN CHOICE (log entry 52). -/
def opOffset (port : Nat) (ns : Int) (s : State) : State :=
  if s.time.grandmaster.isNone || port != s.time.gmPort then s
  else if s.time.source == .ptp then measure ns s
  else if s.time.source == .pps then
    let sec := roundDiv ns 1000000000
    let s := if sec = 0 then s else servoStep (-sec * 65536) (timerInput s)
    let good := if ns.natAbs ≤ (ptpCfg s).lockNs then s.time.ptpGood + 1 else 0
    let s := onTime (fun t => { t with ptpGood := good }) s
    if (ptpCfg s).ppsMode = 1 && good ≥ 16 then
      raiseHw 0x0601 (s.time.grandmaster.getD []) (onTime (fun t => { t with servo := .locked, source := .ptp, badRun := 0 }) s)
    else s
  else s

/-- PTP_MESSAGE_RECEIVED (R271, R275). -/
def opPtp (m : PtpMsg) (s : State) : State :=
  match m with
  | .announce port domain transport gm better ms utcValid offset l61 l59 =>
    if ptpTakes s port domain transport then opAnnounce port gm better ms utcValid offset (leapCode l61 l59) s else s
  | .offset port domain transport ns => if ptpTakes s port domain transport then opOffset port ns s else s

/-- PTP_ANNOUNCE_TIMEOUT (R275): ANNOUNCE_TIMEOUT announce intervals without Announce is loss of the source. -/
def opAnnounceTimeout (s : State) : State :=
  let c := ptpCfg s
  if s.time.grandmaster.isNone || decide (s.clk < s.time.announceAt + c.announceTimeout * s.time.announceIntervalTicks) then s
  else
    let s := onTime (fun t => { t with grandmaster := none, utcOffsetValid := false, ptpGood := 0 }) s
    if s.time.source == .ptp then loseSource s else s

/-- HOLDOVER_TIMEOUT (R271). -/
def opHoldover (s : State) : State :=
  if s.time.servo == .holdover && decide (s.time.holdoverSince + secTicks (ptpCfg s).holdoverS ≤ s.clk) then
    onTime (fun t => { t with servo := .freeRun }) s
  else s

/-- Whether 1PPS may be the source (Table TM.5, PPS_MODE). -/
def ppsUsed (s : State) : Bool :=
  isActive s && ((ptpCfg s).ppsMode == 2 || ((ptpCfg s).ppsMode == 1 && !ptpLocked s))

/-- PPS_EDGE (R279): the edge, less PPS_CABLE_NS, is captured and taken as the nearest whole second; beyond 200 ms it is
discarded and counted. -/
def opPpsEdge (s : State) : State :=
  if !inService s || !s.tb.inEn then s
  else
    let t := chipNs s.tb - (ptpCfg s).ppsCableNs
    let sub : Int := (t % 1000000000 : Nat)
    let off := if sub ≤ 500000000 then sub else sub - 1000000000
    let s := { s with tb := { s.tb with ppsValid := true, ppsNs := t % 1000000000, ppsSec := t / 1000000000 } }
    if off.natAbs > 200000000 then onTime (fun t => { t with ppsDiscarded := t.ppsDiscarded + 1 }) s
    else
      let s := onTime (fun t => { t with lastPps := s.clk }) s
      if !ppsUsed s then s
      else measure off (if s.time.source == .pps then s else acquire .pps s)

/-- PPS_LOSS (R279): no accepted edge for 1.5 s. -/
def opPpsLoss (s : State) : State :=
  if s.time.source == .pps && decide (s.time.lastPps + msTicks 1500 ≤ s.clk) then loseSource s else s

/-- PPS_OUT_PULSE (R279): TS_PPS_OUT is high for WIDTH_MS from each whole second; a standby holds it at high impedance (R280). -/
def opPpsOut (s : State) : State :=
  let high := mainRuns s && !isStandby s && s.tb.outEn && decide (chipSubNs s.tb < s.tb.widthMs * 1000000)
  if high = s.tb.ppsOutHigh then s
  else
    let s := { s with tb := { s.tb with ppsOutHigh := high } }
    if mainRuns s && !isStandby s && s.tb.outEn then emit (.pin "TS_PPS_OUT" high) s else s

/-- DELAY_REQ_TIMER (R275): the slave sends Delay_Req (1), or Pdelay_Req (2) under POWER_UTILITY; a standby sends none (R280). -/
def opDelayReq (s : State) : State :=
  let c := ptpCfg s
  if !inService s || !isActive s || c.profile = 0 then s
  else if c.profile = 2 then
    ([0, 1].filter fun p => bitOf c.ports p && s.ethLinks.getD p false).foldl (fun a p => emit (.ptp p 2 0) a) s
  else if s.time.grandmaster.isSome then emit (.ptp s.time.gmPort 1 0) s
  else s

/-! ## The transparent clock (R277) -/

/-- Message types of IEEE 1588: Sync 0, Delay_Req 1, Follow_Up 8; the Pdelay messages 2, 3 and 10. -/
def isPdelay (typ : Nat) : Bool := [2, 3, 10].contains typ

/-- The correctionField, in 2^-16 ns, as the message leaves: residence time on Delay_Req, on a Sync of one step and on the
Follow_Up of one of two; under POWER_UTILITY the ingress port's meanLinkDelay goes with it. -/
def tcCorrection (profile : Nat) (m : TcMsg) : Int :=
  let link : Int := if profile = 2 then m.linkDelayNs else 0
  if m.typ = 1 then m.correction + m.residenceNs * 65536
  else if (m.typ = 0 && !m.twoStep) || m.typ = 8 then m.correction + (m.residenceNs + link) * 65536
  else m.correction

/-- TRANSPARENT_CLOCK_FORWARD (R277). -/
def opTransparent (m : TcMsg) (s : State) : State :=
  let c := ptpCfg s
  if !inService s || !isActive s || !c.tcEnable || c.profile = 0 || !(s.ethLinks.getD 0 false && s.ethLinks.getD 1 false) ||
    decide (m.port > 1) || m.domain != c.domain || m.transport != c.transport || isPdelay m.typ then s
  else
    emit (.ptp (1 - m.port) m.typ (tcCorrection c.profile m)) s

/-! ## Leap seconds and the RTC (R267, R274) -/

/-- Whether a UTC day number begins a month. -/
def beginsMonth (day : Nat) : Bool := (civil day).2.2 == 1

/-- Whether the UTC day that ends before a day number is one at whose end LEAP applies (Table TM.2, R268). -/
def leapDay (s : State) (next : Nat) : Bool := s.time.leapAtDayEnd || beginsMonth next

/-- The leap second now due: 1 inserted once 23:59:59 has ended, 2 deleted in place of 23:59:59. -/
def leapDue (s : State) : Option Int :=
  let u := s.led.work.utc (now s)
  let v := itemVal s 0x0C03
  if v = 1 && u % 86400 == 0 && leapDay s (u / 86400).toNat then some 1
  else if v = 2 && (u + 1) % 86400 == 0 && leapDay s ((u + 1) / 86400).toNat then some (-1)
  else none

/-- LEAP_SECOND (R267): TAI_UTC moves by one, the change enters LEAP_HISTORY, LEAP is cleared, and the boundaries affected are
taken. -/
def opLeapSecond (s : State) : State :=
  match if inService s then leapDue s else none with
  | none => s
  | some d =>
    let s := timerInput s
    let l := s.led.work
    let off := l.taiUtc + d
    let at_ := now s / 65536 * 65536
    crossed (append
      (.config 0x0C02 (nextVersion (l.itemVersion 0x0C02)) (putInt 2 off) ::
        .config 0x0C03 (nextVersion (l.itemVersion 0x0C03)) [0] :: offsetItems l at_ off) none
      (onTime (fun t => { t with leapAtDayEnd := false }) s))

/-- RTC_TRIM (R274): the RTC takes chip time at its resolution of 1/32,768 s. While UNSET stands it stays invalid. -/
def opRtcTrim (s : State) : State :=
  if !mainRuns s || !s.keeper.supply.kprOn then s
  else { s with keeper := { s.keeper with rtc := now s / 2 * 2, rtcValid := !s.time.unset } }

/-! ## Time beacons (R283, R284) -/

/-- Transmit time still in Lyre's rolling 3,600 s (R245). -/
def dutySpent (s : State) : Nat :=
  ((s.lyre.duty.spent.filter fun e => decide (s.clk < e.1 + secTicks 3600)).map (·.2)).sum

/-- Whether the budget of DUTY_PERMIL admits an airtime in ticks (R245). -/
def dutyAdmits (s : State) (airtime : Nat) : Bool :=
  decide ((dutySpent s + airtime) * 1000 ≤ itemVal s 0x0B08 * secTicks 3600)

/-- An airtime spent now; what has left the 3,600 s is forgotten. -/
def dutySpend (airtime : Nat) (s : State) : State :=
  let kept := s.lyre.duty.spent.filter fun e => decide (s.clk < e.1 + secTicks 3600)
  { s with lyre := { s.lyre with duty := { s.lyre.duty with spent := kept ++ [(s.clk, airtime)] } } }

/-- Instants of a snapshot's burst that have come within 200 ms. -/
def burstInstants (s : State) : List LTime :=
  let t := now s
  (s.balance.snapshots.flatMap fun x => [8, 6, 4, 2].map fun k => x.at_ - ltSec k).filter fun y =>
    decide (y ≤ t) && decide (t ≤ y + 13107)

/-- The beacon due on a network: its instant, and whether it belongs to a burst (R283). -/
def beaconDue (s : State) (net : Net) : Option (LTime × Bool) :=
  let t := now s
  let l := s.led.work
  let last := ((s.time.beaconLast.find? fun e => e.1 == net).map (·.2)).getD 0
  let second := t / 65536 * 65536
  let regular := if l.utc t % (itemVal s 0x0C01 : Int) == 0 && !l.inLeap t && decide (t ≤ second + 1310) then [second] else []
  let new := (burstInstants s).filter (fun y => y != last)
  match new.getLast? with
  | some y => some (y, true)
  | none => (regular.filter (· != last)).head?.map fun y => (y, false)

/-- FLAGS of a beacon (Table TM.8). -/
def beaconFlags (s : State) (burst : Bool) : Nat :=
  let u := s.led.work.utc (now s)
  let ends := leapDay s ((u / 86400).toNat + 1)
  bit (s.time.servo == .locked) + 2 * bit (s.time.servo == .holdover) + 4 * bit s.time.unset +
    8 * bit (match s.time.lastStep with
      | some t => decide (s.clk ≤ t + secTicks 60)
      | none => false) +
    16 * bit (itemVal s 0x0C03 == 1 && ends) + 32 * bit (itemVal s 0x0C03 == 2 && ends) + 64 * bit burst

/-- A beacon goes on air with the time of its start (R284). -/
def beaconOnAir (net : Net) (burst : Bool) (airtime : Nat) (s : State) : State :=
  match takeCtr net s with
  | none => s
  | some (ctr, s) =>
    let m : Msg := .timeBeacon (chipSec s.tb - 946684800) (chipSubNs s.tb) (beaconFlags s burst) 0 s.led.work.taiUtc
      (s.time.beaconSeq % 65536)
    let f : TxFrame := ⟨net, 3, .short 0xFFFF, true, castIndex s, some 0, [], none, m⟩
    let s := airFrame f ctr 0xFFFF 1 s
    let s := onMac net (fun c => { c with txFrames := inc64 c.txFrames }) s
    if net == .rf then dutySpend airtime s else s

/-- Span in LTIME units within which a beacon must be on air (R284): 20 ms, or 200 ms in a burst. -/
def beaconSpan (burst : Bool) : LTime := if burst then 13107 else 1310

/-- A beacon newly due is noted, with its SEQ: the same on both networks for one instant. -/
def scheduleBeacon (net : Net) (s : State) : State :=
  match beaconDue s net with
  | none => s
  | some (at_, burst) =>
    onTime (fun t => { t with
      beaconLast := (t.beaconLast.filter fun e => e.1 != net) ++ [(net, at_)]
      beaconSeq := if t.beaconSeqAt = at_ then t.beaconSeq else t.beaconSeq + 1
      beaconSeqAt := at_
      beacons := (t.beacons.filter fun e => e.1 != net) ++ [(net, at_, burst)] }) s

/-- TIME_BEACON_SEND (R283, R284): a beacon due is scheduled, and goes on air unless the channel is busy or, on Lyre, the duty
budget does not allow it; then it waits to be sent with a new counter and time. -/
def opBeacon (net : Net) (busy : Bool) (airtime : Nat) (s : State) : State :=
  if !inService s || !mayTransmit s net || bkeyIndex s == 0 then s
  else
    let s := scheduleBeacon net s
    match s.time.beacons.find? fun e => e.1 == net with
    | none => s
    | some (_, at_, burst) =>
      if busy || decide (now s > at_ + beaconSpan burst) || (net == .rf && !dutyAdmits s airtime) then s
      else beaconOnAir net burst airtime (onTime (fun t => { t with beacons := t.beacons.filter fun e => e.1 != net }) s)

/-- BEACON_DROP_TIMEOUT (R284). -/
def opBeaconDrop (net : Net) (s : State) : State :=
  onTime (fun t => { t with beacons := t.beacons.filter fun e =>
    !(e.1 == net && decide (e.2.1 + beaconSpan e.2.2 < now s)) }) s

/-! ## The previous broadcast key (R299) -/

/-- Meters joined at the change of the broadcast key that have not yet rejoined. -/
def rejoinLeft (s : State) : Nat :=
  (s.led.work.recs.filter fun e => e.2.segment == 0 && e.2.net.state == .joined && !s.keys.rejoined.contains e.1).length

/-- PREV_BKEY_EXPIRY (R299): seven days after the change, or once every joined meter has rejoined, the previous key is no
longer used. -/
def opPrevBkey (s : State) : State :=
  match s.keys.bkeyChangedAt with
  | none => s
  | some t =>
    if decide (t + secTicks 604800 ≤ s.clk) || rejoinLeft s == 0 then
      let s := timerInput s
      { s with keys := { s.keys with bkeyChangedAt := none, rejoined := [] } }
    else s

/-! ## The rows -/

/-- SYS_SET_CONFIG (R42, R51, R267). -/
def execSysSetConfig (c : Cmd) (s : State) : Host.Outcome State Fault Refusal := .next (opSysSetConfig c s)

/-- TIM_GET (R270). -/
def execTimGet (c : Cmd) (s : State) : Host.Outcome State Fault Refusal := .next (runDcs 0x0801 c bodyTimGet s)

/-- TIM_SET (R273). -/
def execTimSet (c : Cmd) (s : State) : Host.Outcome State Fault Refusal := .next (opTimSet c s)

/-- TIM_LOAD_ZONE (R269). -/
def execTimLoadZone (c : Cmd) (s : State) : Host.Outcome State Fault Refusal := .next (runDcs 0x0803 c bodyTimLoadZone s)

/-- TIM_PTP_CONFIG (R276). -/
def execTimPtpConfig (c : Cmd) (s : State) : Host.Outcome State Fault Refusal := .next (runDcs 0x0804 c bodyTimPtpConfig s)

/-- PTP_MESSAGE_RECEIVED (R271). -/
def execPtpMessageReceived (m : PtpMsg) (s : State) : Host.Outcome State Fault Refusal := .next (opPtp m s)

/-- TRANSPARENT_CLOCK_FORWARD (R277). -/
def execTransparentClockForward (m : TcMsg) (s : State) : Host.Outcome State Fault Refusal := .next (opTransparent m s)

/-- PTP_ANNOUNCE_TIMEOUT (R275). -/
def execPtpAnnounceTimeout (s : State) : Host.Outcome State Fault Refusal := .next (opAnnounceTimeout s)

/-- HOLDOVER_TIMEOUT (R271). -/
def execHoldoverTimeout (s : State) : Host.Outcome State Fault Refusal := .next (opHoldover s)

/-- PPS_EDGE (R279). -/
def execPpsEdge (s : State) : Host.Outcome State Fault Refusal := .next (opPpsEdge s)

/-- PPS_LOSS (R279). -/
def execPpsLoss (s : State) : Host.Outcome State Fault Refusal := .next (opPpsLoss s)

/-- PPS_OUT_PULSE (R279). -/
def execPpsOutPulse (s : State) : Host.Outcome State Fault Refusal := .next (opPpsOut s)

/-- TS_RATE_WRITE (R264). -/
def execTsRateWrite (value : Nat) (s : State) : Host.Outcome State Fault Refusal := .next (opTsRate value s)

/-- TS_STEP (R264). -/
def execTsStep (s : State) : Host.Outcome State Fault Refusal := .next (opTsStep s)

/-- TS_COUNT_LO_READ (R265). -/
def execTsCountLoRead (s : State) : Host.Outcome State Fault Refusal := .next (opTsCountLo s)

/-- TS_NOW_NS_READ (R265). -/
def execTsNowNsRead (s : State) : Host.Outcome State Fault Refusal := .next (opTsNowNs s)

/-- TS_PPS_IN_READ (R265). -/
def execTsPpsInRead (s : State) : Host.Outcome State Fault Refusal := .next (opTsPpsIn s)

/-- LEAP_SECOND (R267). -/
def execLeapSecond (s : State) : Host.Outcome State Fault Refusal := .next (onTimer opLeapSecond s)

/-- RTC_TRIM (R274). -/
def execRtcTrim (s : State) : Host.Outcome State Fault Refusal := .next (opRtcTrim s)

/-- TIME_BEACON_SEND (R283). -/
def execTimeBeaconSend (net : Net) (channelBusy : Bool) (airtime : Nat) (s : State) : Host.Outcome State Fault Refusal :=
  .next (opBeacon net channelBusy airtime s)

/-- BEACON_DROP_TIMEOUT (R284). -/
def execBeaconDropTimeout (net : Net) (s : State) : Host.Outcome State Fault Refusal := .next (opBeaconDrop net s)

/-- PREV_BKEY_EXPIRY (R299). -/
def execPrevBkeyExpiry (s : State) : Host.Outcome State Fault Refusal := .next (onTimer opPrevBkey s)

/-- DELAY_REQ_TIMER (R275). -/
def execDelayReqTimer (s : State) : Host.Outcome State Fault Refusal := .next (opDelayReq s)

end Sys2Proof.Machine
end

