-- ==== Sys2Proof/Machine/Keys.lean ====
section
/-! DEFINITION. Key store, derivation and life cycle (13_keys_and_cipher, R288 to R311): slots and their attributes, the KEY_
commands, replacement, zeroisation, results of cipher and public-key jobs. -/

namespace Sys2Proof.Machine

/-! ## Slots and attributes (R290 to R292) -/

/-- The key store changed. -/
def onKeys (f : Keys → Keys) (s : State) : State := { s with keys := f s.keys }

/-- Slots the device loads itself (Table KC.1). -/
def deviceSlot (n : Nat) : Bool := [0, 1, 2, 5, 9, 10, 11, 32, 33].contains n

/-- Slots that commands may load or erase as masters or general keys. -/
def generalSlot (n : Nat) : Bool := within 16 31 n || within 48 127 n

/-- TYPE of an attribute word. -/
def attrType (a : BitVec 32) : Nat := bitsOf a.toNat 19 16

/-- DEPTH of an attribute word. -/
def attrDepth (a : BitVec 32) : Nat := bitsOf a.toNat 31 29

/-- An attribute word with a depth. -/
def withDepth (d : Nat) (a : BitVec 32) : BitVec 32 := (a &&& 0x1FFFFFFF) ||| BitVec.ofNat 32 (d * 2 ^ 29)

/-- The attribute word of a device slot: TYPE, masters and usage of Table KC.1, every life-cycle state but DECOMMISSIONED. -/
def deviceAttr (type_ masters usage depth : Nat) : BitVec 32 :=
  BitVec.ofNat 32 (masters + usage + type_ * 2 ^ 16 + 0x7830 + depth * 2 ^ 29)

/-- Bits of Table KC.2 that the checks name. -/
def bitApp : Nat := 0
def bitEngine : Nat := 2
def bitHost : Nat := 3
def bitOperator : Nat := 5
def bitDerive : Nat := 21
def bitWrap : Nat := 22
def bitSign : Nat := 23

/-- Bit of the present life-cycle state (Table KC.2). -/
def bitLife (s : State) : Nat := 11 + s.keys.lifecycle.code

/-- The half of a slot that encryption uses (R302, R303). -/
def Slot.used (k : Slot) : KeyVal := if k.state == .verified then k.pendingKey.getD k.key else k.key

/-- The check of a use requested by command (R292): the result that refuses it, if one does. -/
def useRefusal (s : State) (n usage : Nat) : Option Nat :=
  match slotOf s n with
  | none => some 0x0404
  | some k =>
    let a := k.used.attr
    if !a.getLsbD bitHost || !a.getLsbD bitOperator || !a.getLsbD usage then some 0x0401
    else if !a.getLsbD (bitLife s) || k.state == .unavailable then some 0x0206
    else if k.state == .empty then some 0x0404
    else none

/-- Length in bytes of a key of a TYPE (R293). -/
def keyBytes (type_ : Nat) : Nat :=
  match type_ with
  | 1 => 16
  | 3 => 40
  | 4 => 56
  | _ => 32

/-- A slot put in its place. -/
def putSlot (k : Slot) (s : State) : State :=
  onKeys (fun x => { x with slots := (x.slots.filter fun y => y.num != k.num) ++ [k] }) s

/-- A slot emptied, with both halves. -/
def dropSlot (n : Nat) (s : State) : State := onKeys (fun x => { x with slots := x.slots.filter fun y => y.num != n }) s

/-- Whether a slot is kept across starts (R304). -/
def Slot.persists (k : Slot) : Bool := k.key.attr.getLsbD 28

/-- The persistent blobs follow the slots (R304); ZKEY is drawn when it is first needed, 32 free bytes. -/
def savePersistent (s : State) : State :=
  let ps := s.keys.slots.filter Slot.persists
  let s := if s.keys.zkey.isNone && !ps.isEmpty then
      draw (onKeys (fun x => { x with zkey := some (Config.freeBytes s.fresh) }) s)
    else s
  onKeys (fun x => { x with persistent := ps }) s

/-- A derived key of a device slot (Table KC.3). -/
def deviceKey (parent : Bytes) (label : String) (a : BitVec 32) : KeyVal :=
  let v := Config.derive parent (label.toUTF8.toList.map fun b => BitVec.ofNat 8 b.toNat) (keyBytes (attrType a))
  ⟨a, v, Config.kcv v⟩

/-- The slots that derive from slot 8 (Table KC.3): 9, 10 and 11, while slot 8 holds a usable key. -/
def pairSlots (s : State) : List Slot :=
  match slotOf s 8 with
  | none => []
  | some k =>
    if k.state == .unavailable || k.state == .empty then []
    else
      let v := k.used.value
      let d := attrDepth k.used.attr + 1
      [⟨9, .active, deviceKey v "PAIR RECORD KEK" (deviceAttr 2 4 (2 ^ 22) d), none⟩,
        ⟨10, .active, deviceKey v "PAIR CLIENT P256" (deviceAttr 3 1 (2 ^ 23) d), none⟩,
        ⟨11, .active, deviceKey v "PAIR CLIENT P384" (deviceAttr 4 1 (2 ^ 23) d), none⟩]

/-- Slots 9 to 11 formed again from slot 8 (R303, R305). -/
def derivePair (s : State) : State :=
  let ks := pairSlots s
  onKeys (fun x => { x with slots := (x.slots.filter fun y => !within 9 11 y.num) ++ ks }) s

/-! ## Derivation and import (R295, R300, R301) -/

/-- Whether a slot may take a key: EMPTY, or open for replacement (R295, R301). -/
def slotOpen (s : State) (n : Nat) : Bool :=
  match slotOf s n with
  | none => true
  | some k => k.state == .replacing

/-- A key loaded: into an EMPTY slot, or as the pending key of one that is REPLACING (R302). -/
def loadKey (n : Nat) (k : KeyVal) (verified : Bool) (s : State) : State :=
  match slotOf s n with
  | none => savePersistent (putSlot ⟨n, .active, k, none⟩ s)
  | some old =>
    savePersistent (putSlot { old with state := if verified then .verified else .pending, pendingKey := some k } s)

/-- The bits of ATTR that a child may have only if its parent grants them: requesters, worlds, life-cycle states (R295). -/
def grantMask : BitVec 32 := 0xF83F

/-- ATTR of a command. -/
def cmdAttr (c : Cmd) : BitVec 32 := BitVec.ofNat 32 (c.p 0x24 4)

/-- KEY_DERIVE (R293 to R295). -/
def bodyKeyDerive (c : Cmd) (s : State) : Answer :=
  let parent := c.p 0x20 1
  let target := c.p 0x21 1
  let len := c.p 0x22 1
  let a := cmdAttr c
  let t := attrType a
  let pk := slotOf s parent
  let pa := (pk.map fun k => k.used.attr).getD 0
  let badArgs := !(parent == 8 || generalSlot parent) || !generalSlot target || target == parent || !within 1 32 len ||
    len != c.buf.length || t == 0 || t == 5 || decide (t > 5) ||
    (pk.isSome && (decide (attrDepth pa + 1 > 6) || (attrType pa == 1 && decide (keyBytes t > 16))))
  if badArgs then no 0x0103
  else match useRefusal s parent bitDerive, pk with
    | some r, _ => no r
    | none, none => no 0x0404
    | none, some k =>
      if (a &&& grantMask) &&& ~~~pa != 0 then no 0x0401
      else if !slotOpen s target then no 0x0303
      else
        let v := Config.derive k.used.value c.buf (keyBytes t)
        changeParam c none [] [] (loadKey target ⟨withDepth (attrDepth pa + 1) a, v, Config.kcv v⟩ true s)

/-- The wrapping key of a FORM 1 blob: the shared secret of EPHEMERAL with slot 2, and the UID (R300). -/
def importKey (s : State) (ephemeral : Bytes) : Bytes :=
  Config.derive ((slotValue s 2).getD []) (ephemeral ++ ("CS8840 IMPORT ".toUTF8.toList.map fun b => BitVec.ofNat 8 b.toNat) ++
    s.fuse.uid) 32

/-- Wrapped bytes of a blob (Table KC.6). -/
def blobWrapped (b : Bytes) : Bytes :=
  (b.drop (if le b 2 1 = 1 then 0x6C else 8)).take (if le b 1 1 = 1 then 24 else 40)

/-- The value of a blob's key (R300, R301): what the unwrap gives, if its integrity and its KCV hold. -/
def blobValue (s : State) (b : Bytes) (wrapSlot : Nat) : Option Bytes :=
  let key := if le b 2 1 = 1 then importKey s ((b.drop 8).take 97) else (slotValue s wrapSlot).getD []
  (Config.unwrap key (blobWrapped b)).bind fun v =>
    let k := Config.kcv (if le b 1 1 = 5 then v.take 16 else v)
    if le b 4 4 = 0 || le b 4 4 == k then some v else none

/-- Slot 2 lacks ENGINE or SIGN_AGREE (R301). -/
def importBarred (s : State) : Bool :=
  match slotOf s 2 with
  | some k => !k.key.attr.getLsbD bitEngine || !k.key.attr.getLsbD bitSign
  | none => true

/-- KEY_IMPORT_WRAPPED (R300, R301). Slots 4 and 8 are persistent (Table KC.1). -/
def bodyKeyImport (c : Cmd) (s : State) : Answer :=
  let target := c.p 0x21 1
  let b := c.buf
  let form := le b 2 1
  let a := if target = 4 || target = 8 then cmdAttr c ||| 0x10000000 else cmdAttr c
  let badArgs := !(target == 4 || target == 8 || generalSlot target) || le b 0 1 != 1 || decide (form > 1) ||
    b.length != (if form = 1 then 148 else 48) || !([1, 2, 5].contains (le b 1 1)) || attrType a != le b 1 1 ||
    (target == 4 && form == 0)
  if badArgs then no 0x0103
  else if form = 1 && !(s.keys.lifecycle == .blank || s.keys.lifecycle == .provisioned || s.keys.lifecycle == .returned) then
    no 0x0206
  else match if form = 1 then (if importBarred s then some 0x0401 else none) else useRefusal s (c.p 0x20 1) bitWrap with
    | some r => no r
    | none =>
      match blobValue s b (c.p 0x20 1) with
      | none => no 0x0402
      | some v =>
        if !slotOpen s target then no 0x0303
        else changeParam c none [] [] (loadKey target ⟨withDepth 1 a, v, Config.kcv v⟩ (le b 4 4 != 0) s)

/-! ## Replacement and erasure (R302, R303, R305) -/

/-- KEY_REPLACE (Table KC.7): BEGIN 0, COMMIT 1, ABANDON 2. -/
def bodyKeyReplace (c : Cmd) (s : State) : Answer :=
  let n := c.p 0x20 1
  let step := c.p 0x21 1
  let st (k : SlotState) : Bytes := putLe 1 k.code
  if deviceSlot n || decide (n ≥ 128) || decide (step > 2) then no 0x0103
  else match slotOf s n with
    | none => .refuse 0x0404 (st .empty)
    | some k =>
      match k.state with
      | .empty => .refuse 0x0404 (st .empty)
      | .unavailable => .refuse 0x0404 (st .unavailable)
      | .active =>
        if step = 0 then changeParam c none [] (st .replacing) (savePersistent (putSlot { k with state := .replacing } s))
        else .refuse 0x0002 (st .active)
      | .verified =>
        if step = 0 then .refuse 0x0002 (st .verified)
        else if step = 1 then
          let s := putSlot { k with state := .active, key := k.used, pendingKey := none } s
          let s := savePersistent (if n = 8 then derivePair s else s)
          changeParam c none [.event (mkEv s 0x0C01 (putLe 1 n) none)] (st .active) s
        else
          changeParam c none [] (st .active) (savePersistent (putSlot { k with state := .active, pendingKey := none } s))
      | x =>
        if step = 0 then .refuse 0x0002 (st x)
        else if step = 1 then .refuse (if x == .replacing then 0x0404 else 0x0402) (st x)
        else
          changeParam c none [] (st .active) (savePersistent (putSlot { k with state := .active, pendingKey := none } s))

/-- KEY_ERASE (R305): erasing slot 8 empties slots 9 to 11 with it. -/
def bodyKeyErase (c : Cmd) (s : State) : Answer :=
  let n := c.p 0x20 1
  if !(n == 4 || n == 8 || generalSlot n) then no 0x0103
  else match slotOf s n with
    | none => no 0x0002
    | some k =>
      if !k.used.attr.getLsbD bitHost then no 0x0401
      else
        let s := dropSlot n s
        changeParam c none [] [] (savePersistent (if n = 8 then derivePair s else s))

/-- A broadcast slot, 32 or 33, as METER_MASTERS has it (R297, R486). -/
def broadcastSlot (s : State) (n : Nat) : Option KeyVal :=
  let b := le (itemNow s 0x0D02) (if n = 32 then 5 else 6) 1
  if b = 0 then none else (bcastKey s b).map fun v => ⟨deviceAttr 1 4 (2 ^ 20) 2, v, Config.kcv v⟩

/-- KEY_GET_ATTR (R291, R302): the attributes of the key that encryption would use, and the slot's state. -/
def bodyKeyGetAttr (c : Cmd) (s : State) : Answer :=
  let n := c.p 0x20 1
  if n ≥ 128 then no 0x0103
  else
    let r : BitVec 32 × SlotState :=
      if n = 32 || n = 33 then
        match broadcastSlot s n with
        | some k => (k.attr, .active)
        | none => (0, .empty)
      else match slotOf s n with
        | some k => (k.used.attr, k.state)
        | none => (0, .empty)
    okData 0 (putLe 4 r.1.toNat ++ putLe 1 r.2.code) s

/-- KCV_DIGEST (R345): the KCVs of slots 8, 16 to 31, 32 and 33, an empty slot as zero. -/
def kcvDigest (s : State) : Bytes :=
  let slotKcv (n : Nat) : Nat := ((slotOf s n).map fun k => k.used.kcv).getD 0
  let cast (n : Nat) : Nat := ((broadcastSlot s n).map (·.kcv)).getD 0
  Config.sha256 (putLe 4 (slotKcv 8) ++ (List.range 16).flatMap (fun k => putLe 4 (slotKcv (16 + k))) ++ putLe 4 (cast 32) ++
    putLe 4 (cast 33))

/-! ## Zeroisation and life cycle (R306, R307) -/

/-- Every slot emptied and ZKEY overwritten; persistent blobs can never be unwrapped again (R306). -/
def zeroise (s : State) : State := onKeys (fun x => { x with slots := [], persistent := [], zkey := none }) s

/-- The party that may sign a transition (Table KC.9): 0 Foresh, 1 the operator. -/
def transitionSigner (a b : LifeCycle) : Option Nat :=
  match a, b with
  | .blank, .provisioned => some 0
  | .provisioned, .deployed => some 1
  | .deployed, .returned => some 1
  | .returned, .provisioned => some 0
  | .blank, .decommissioned => some 0
  | .returned, .decommissioned => some 0
  | .provisioned, .decommissioned => some 1
  | .deployed, .decommissioned => some 1
  | _, _ => none

/-- The state of a code. -/
def lifeOf : Nat → Option LifeCycle
  | 0 => some .blank
  | 1 => some .provisioned
  | 2 => some .deployed
  | 3 => some .returned
  | 4 => some .decommissioned
  | _ => none

/-- Slots after a transition (Table KC.9). -/
def lifeKeys (b : LifeCycle) (a : LifeCycle) (k : Keys) : Keys :=
  let k := { k with lifecycle := b, lcCounter := k.lcCounter + 1 }
  match a, b with
  | .deployed, .returned =>
    { k with slots := k.slots.map fun x => if x.used.attr.getLsbD 14 then x else { x with state := .unavailable } }
  | .returned, .provisioned =>
    { k with
      slots := k.slots.filter fun x => !(x.num == 4 || within 8 11 x.num || generalSlot x.num)
      operatorAuthority := [] }
  | _, .decommissioned => { k with slots := [], persistent := [], zkey := none, pufPresent := false }
  | _, _ => k

/-- Leaving DEPLOYED ends the pair with cause 4, and TWL_INHIBIT_N stands low in every other state (Table TW.2, Table TW.8). -/
def lifeTwin (a b : LifeCycle) (s : State) : State :=
  if b == .deployed then
    { emit (.pin "TWL_INHIBIT_N" true) s with
      twin := { s.twin with lines := { s.twin.lines with inhibitLow := false } } }
  else
    let ends := a == .deployed && s.twin.partner != .absent
    { (if s.twin.lines.inhibitLow then s else emit (.pin "TWL_INHIBIT_N" false) s) with
      twin := { s.twin with
        lines := { s.twin.lines with inhibitLow := true }
        partner := if ends then .failed else s.twin.partner
        cause := if ends then 4 else s.twin.cause } }

/-- KEY_SET_LIFECYCLE (R307). -/
def bodyKeyLifecycle (c : Cmd) (s : State) : Answer :=
  let b := c.buf
  let a := s.keys.lifecycle
  let signer := le b 0x18 1
  let key := if signer = 0 then Config.lifecycleKey else s.keys.operatorAuthority
  let valid := b.length == 128 && le b 0 2 == 1 && le b 2 1 == a.code && le b 4 4 == s.keys.lcCounter + 1 &&
    (b.drop 8).take 16 == fitTo 16 s.fuse.uid && decide (signer ≤ 1) && !(signer == 1 && s.keys.operatorAuthority.isEmpty) &&
    zeroAt b 0x19 7 && Config.verify key (b.take 32) (b.drop 32)
  if !valid then no 0x0403
  else match lifeOf (le b 3 1) with
    | none => no 0x0206
    | some to_ =>
      if c.p 0x20 1 != to_.code then no 0x0103
      else if transitionSigner a to_ != some signer then no 0x0206
      else if to_ == .deployed && !(((slotOf s 8).map (·.state)) == some .active && !s.keys.operatorAuthority.isEmpty) then no 0x0206
      else
        let ev := mkEv s 0x0C02 (putLe 1 a.code ++ putLe 1 to_.code) none
        let s := lifeTwin a to_ (onKeys (lifeKeys to_ a) s)
        let s := if to_ == .decommissioned || a == .returned then savePersistent s else s
        let s := if s.keeper.faultCode = 0x3001 then showCode 0 s else s
        changeParam c none [.event ev] (putLe 1 to_.code) s

/-! ## Job results and frames under a pending key (R302, R303, R309 to R311) -/

/-- The first authenticated use that passes under a pending key verifies it (Table KC.7). -/
def passPending (n : Nat) (s : State) : State :=
  match slotOf s n with
  | some k => if k.state == .pending then savePersistent (putSlot { k with state := .verified } s) else s
  | none => s

/-- A result of an engine kept for its submitter, the last 16. -/
def noteResult (j : JobResult) (s : State) : State := onKeys (fun x => { x with jobResults := lastN 16 (x.jobResults ++ [j]) }) s

/-- CIPHER_JOB_COMPLETE whole (R20, R303, R309): a session's payload that passed under a pending key verifies that key. -/
def opCipherJob (d : CipherDone) (s : State) : State :=
  let s := noteResult d.job s
  let s := match getRec s d.idx with
    | some r => if d.job.keyPending && !d.job.authFail then passPending (keySlot s d.idx r) s else s
    | none => s
  opCipherDone d s

/-- The generation of a frame that a meter's record accepted (R299), and a pending key it verified. -/
def noteKeys (f : RxFrame) (s : State) : State :=
  match sourceOf s f with
  | none => s
  | some (idx, r) =>
    let e := (masterEntries (itemNow s 0x0D02)).find? fun e => e.1 == r.cls
    let s := match e with
      | some e => onKeys (fun x => { x with genSeen := insertNat idx (if f.prevGen then e.2.2.2.2 else e.2.2.1) x.genSeen }) s
      | none => s
    if f.newKey then passPending (keySlot s idx r) s else s

/-- A frame that passed R18 is taken. -/
def acceptFrame (f : RxFrame) (s : State) : State := noteKeys f (passFrame f s)

/-- PUBLIC_KEY_JOB_COMPLETE (R311). -/
def opPublicKey (j : JobResult) (s : State) : State := if mainRuns s then noteResult j s else s

/-! ## The rows -/

/-- KEY_DERIVE (R295). -/
def execKeyDerive (c : Cmd) (s : State) : Host.Outcome State Fault Refusal := .next (runDcs 0x0901 c bodyKeyDerive s)

/-- KEY_IMPORT_WRAPPED (R301). -/
def execKeyImportWrapped (c : Cmd) (s : State) : Host.Outcome State Fault Refusal := .next (runDcs 0x0902 c bodyKeyImport s)

/-- KEY_REPLACE (R302). -/
def execKeyReplace (c : Cmd) (s : State) : Host.Outcome State Fault Refusal := .next (runDcs 0x0903 c bodyKeyReplace s)

/-- KEY_ERASE (R305). -/
def execKeyErase (c : Cmd) (s : State) : Host.Outcome State Fault Refusal := .next (runDcs 0x0904 c bodyKeyErase s)

/-- KEY_GET_ATTR (R291). -/
def execKeyGetAttr (c : Cmd) (s : State) : Host.Outcome State Fault Refusal := .next (runDcs 0x0905 c bodyKeyGetAttr s)

/-- KEY_SET_LIFECYCLE (R307). -/
def execKeySetLifecycle (c : Cmd) (s : State) : Host.Outcome State Fault Refusal := .next (runDcs 0x0906 c bodyKeyLifecycle s)

/-- CIPHER_JOB_COMPLETE (R20). -/
def execCipherJobComplete (d : CipherDone) (s : State) : Host.Outcome State Fault Refusal := .next (opCipherJob d s)

/-- PUBLIC_KEY_JOB_COMPLETE (R311). -/
def execPublicKeyJobComplete (j : JobResult) (s : State) : Host.Outcome State Fault Refusal := .next (opPublicKey j s)

end Sys2Proof.Machine
end

