-- ==== Sys2Proof/Machine/Firmware.lean ====
section
/-! DEFINITION. The device's own firmware (18_firmware_updates, R405 to R416): packages, volume 2's areas, the FWU_ commands
of the service world, the choice of an image at S4, trials, and the recovery loader. -/

namespace Sys2Proof.Machine

/-- The firmware state changed. -/
def onFw (f : Firmware → Firmware) (s : State) : State := { s with fw := f s.fw }

/-- Largest package (R405). -/
def packageMax : Nat := 335544320

/-! ## Packages (R405 to R407, R410) -/

/-- An entry of PART: kind, offset, length. -/
def packagePart (b : Bytes) (k : Nat) : Nat × Nat × Nat :=
  (le b (0x80 + 16 * k) 1, le b (0x80 + 16 * k + 4) 4, le b (0x80 + 16 * k + 8) 4)

/-- The parts of a package. -/
def packageParts (b : Bytes) : List (Nat × Nat × Nat) := (List.range (le b 0x21 1)).map (packagePart b)

/-- Parts in ascending order without overlap, from an offset on. -/
def partsAscend : Nat → List (Nat × Nat × Nat) → Bool
  | _, [] => true
  | at_, p :: ps => decide (at_ ≤ p.2.1) && partsAscend (p.2.1 + p.2.2) ps

/-- The layout that R405 gives a package whose stored bytes are TOTAL long. -/
def layoutOk (b : Bytes) (total : Nat) : Bool :=
  let ps := packageParts b
  let count (k : Nat) := (ps.filter fun p => p.1 == k).length
  decide (384 ≤ b.length) && b.length == total && b.take 4 == [0x43, 0x53, 0x49, 0x4D] && le b 4 2 == 1 &&
    within 4 8 (le b 0x21 1) && le b 0x24 4 == total && decide (total ≤ packageMax) &&
    (List.range 4).all (fun k => count (k + 1) == 1) && ps.all (fun p => within 1 5 p.1) && partsAscend 384 ps &&
    ps.all (fun p => decide (p.2.1 + p.2.2 ≤ total)) && ps.all fun p => p.1 != 2 || decide (p.2.2 ≤ 131072)

/-- FLAGS [0] and [1] of a package. -/
def packageEncrypted (b : Bytes) : Bool := bitOf (le b 0x20 1) 0

/-- See `packageEncrypted`. -/
def packageHead (b : Bytes) : Bool := bitOf (le b 0x20 1) 1

/-- VERSION and ROLLBACK of a package. -/
def packageVersion (b : Bytes) : Nat := le b 8 4

/-- See `packageVersion`. -/
def packageRollback (b : Bytes) : Nat := le b 0x0C 4

/-- Where a package is judged (Table FW.2): the service world, the recovery loader, or a start, which judges a slot's phase
no second time (log entry 56). -/
inductive FwPhase where
  | service
  | recovery
  | start
  deriving DecidableEq, Repr

/-- ENCRYPTED as Table FW.2 requires it. -/
def encryptionOk (ph : FwPhase) (s : State) (b : Bytes) : Bool :=
  match ph with
  | .start => true
  | .recovery => packageEncrypted b
  | .service => s.keys.lifecycle == .deployed || packageEncrypted b

/-- UID as Table FW.2 requires it. -/
def uidOk (ph : FwPhase) (s : State) (b : Bytes) : Bool :=
  let u := (b.drop 0x10).take 16
  u == fitTo 16 s.fuse.uid || (allZero u && !(ph == .service && s.keys.lifecycle == .returned))

/-- What the signature covers: the header bytes before it with FLAGS [0], IV and TAG as zero, then the plaintext (R405). -/
def signedBytes (b plain : Bytes) : Bytes :=
  b.take 0x20 ++ [BitVec.ofNat 8 (le b 0x20 1 / 2 * 2)] ++ (b.drop 0x21).take 7 ++ zeros 28 ++ (b.drop 0x44).take 0xBC ++ plain

/-- The plaintext of a package's parts (R405): as they lie, or decrypted under slot 4. -/
def packagePlain (s : State) (b : Bytes) : Option Bytes :=
  if packageEncrypted b then Config.gcmOpen ((slotValue s 4).getD []) b else some (b.drop 384)

/-- Slot 4 can decrypt. -/
def slot4Usable (s : State) : Bool :=
  match slotOf s 4 with
  | some k => k.state != .unavailable && k.state != .empty
  | none => false

/-- The checks of R410 on stored bytes, each with its result: 0x0000 when all pass. -/
def packageResult (ph : FwPhase) (b : Bytes) (total : Nat) (s : State) : Nat :=
  if !layoutOk b total then 0x0103
  else if s.keys.lifecycle == .decommissioned || !encryptionOk ph s b then 0x0206
  else if packageEncrypted b && !slot4Usable s then 0x0404
  else match packagePlain s b with
    | none => 0x0402
    | some plain =>
      if Config.verify Config.imageKey (signedBytes b plain) ((b.drop 0x100).take 96) && le b 6 2 == 0x8840 && uidOk ph s b &&
        !(s.boot.headRole && !packageHead b) && decide (s.keys.minRollback ≤ packageRollback b) then 0
      else 0x0403

/-! ## Areas and the slot directory (R408, R409, R413) -/

/-- The directory written again (R408): SEQ rises. -/
def dirWrite (f : Firmware → Firmware) (s : State) : State := onFw (fun x => { f x with dirSeq := x.dirSeq + 1 }) s

/-- A slot's area: 0 slot A, 1 slot B. -/
def Firmware.slot (x : Firmware) (n : Nat) : Area := if n = 0 then x.slotA else x.slotB

/-- A slot's area replaced. -/
def Firmware.setSlot (n : Nat) (a : Area) (x : Firmware) : Firmware :=
  if n = 0 then { x with slotA := a } else { x with slotB := a }

/-- The slot that receives a copy: the one other than CURRENT (R411, R412); slot A while CURRENT names none (log entry 54). -/
def Firmware.other (x : Firmware) : Nat := if x.current = some 0 then 1 else 0

/-- The staging area of `total` bytes begun anew (R409). -/
def stagingNew (total : Nat) : Area := { Area.blank with state := .receiving, total := total }

/-- Bytes written at RECEIVED; the area becomes STAGED at TOTAL, with VERSION and ROLLBACK from the header (R409). -/
def Area.write (a : Area) (b : Bytes) : Area :=
  let bytes := a.bytes ++ b
  if bytes.length = a.total then
    { a with
      bytes := bytes
      received := bytes.length
      state := .staged
      version := packageVersion bytes
      rollback := packageRollback bytes }
  else { a with bytes := bytes, received := bytes.length }

/-- The running start is a trial that has not passed S8 (R413). -/
def inTrial (s : State) : Bool :=
  match s.fw.running with
  | some n => (s.fw.slot n).state == .trial
  | none => false

/-- FWU_STAGE (R409). -/
def bodyFwuStage (c : Cmd) (s : State) : Answer :=
  let off := c.p 0x20 4
  let total := c.p 0x24 4
  let st := s.fw.staging
  if total > packageMax || off + c.buf.length > total || (off != 0 && (off != st.received || total != st.total || st.state != .receiving))
  then no 0x0103
  else if inTrial s then no 0x0209
  else
    let a := (if off = 0 then stagingNew total else st).write c.buf
    changeParam c none [] (putLe 4 a.received) (dirWrite (fun x => { x with staging := a }) s)

/-- FWU_STAGE whole: FW_STAGED follows the command once RECEIVED has reached TOTAL (R409); it is an event of the chip's own. -/
def opFwuStage (c : Cmd) (s : State) : State :=
  let s1 := runDcs 0x0A01 c bodyFwuStage s
  if s1.fw.dirSeq ≠ s.fw.dirSeq && s1.fw.staging.state == .staged then raiseHw 0x0D01 (putLe 4 s1.fw.staging.version) s1 else s1

/-- The staging area judged (R410): VERIFIED, or STAGED again after a failure other than 0x0103. -/
def verifyStaging (ph : FwPhase) (s : State) : Nat × State :=
  let st := s.fw.staging
  if st.state != .staged && st.state != .verified then (0x0103, s)
  else
    let r := packageResult ph st.bytes st.total s
    if r = 0 then (0, dirWrite (fun x => { x with staging := { st with state := .verified } }) s)
    else if r = 0x0103 then (r, s)
    else (r, dirWrite (fun x => { x with staging := { st with state := .staged } }) s)

/-- FWU_VERIFY (R410). -/
def bodyFwuVerify (_ : Cmd) (s : State) : Answer :=
  let r := verifyStaging .service s
  .reply r.1 0 false (if r.1 = 0 then putLe 4 s.fw.staging.version else []) [] r.2

/-- FWU_ACTIVATE (R411). -/
def bodyFwuActivate (c : Cmd) (s : State) : Answer :=
  if s.fw.staging.state != .verified then no 0x0103
  else if degradedByDips s then no 0x0207
  else
    changeParam c none [] (putLe 1 s.fw.other)
      (dirWrite (fun x => { x with staging := { x.staging with state := .pendingCopy } }) s)

/-! ## S4 and trials (R412, R413) -/

/-- An area BAD; NEXT then names none (R413). -/
def fwBad (n : Nat) (s : State) : State :=
  dirWrite (fun x => { x.setSlot n { x.slot n with state := .bad } with next := none }) s

/-- The copy of S4 (R412): the failure code, if it fails. -/
def fwCopy (copyOk : Bool) (s : State) : Option Nat × State :=
  let st := s.fw.staging
  if st.state != .pendingCopy then (none, s)
  else
    let t := s.fw.other
    if !copyOk then (some 0x40, s)
    else if packageResult .start st.bytes st.total s != 0 then (some 0x41, s)
    else
      (none, dirWrite (fun x => { x.setSlot t { st with state := .trial, tries := 0 } with
        next := some t
        staging := Area.blank }) s)

/-- The slot of S4 run (R412): verified in full first; a trial counts its try. -/
def fwRun (n : Nat) (slotOk : Bool) (s : State) : Option Nat × State :=
  let a := s.fw.slot n
  let s := if a.state == .trial then dirWrite (fun x => x.setSlot n { a with tries := a.tries + 1 }) s else s
  if !slotOk || packageResult .start a.bytes a.total s != 0 then (some 0x41, onFw (fun x => { x with running := some n }) s)
  else
    (none, onFw (fun x => { x with running := some n, runningVersion := a.version }) s)

/-- S4 (R412): ALT [0] leaves the copy out, empties the staging area and has FW_FALLBACK raised. -/
def fwChoose (alt0 copyOk slotOk : Bool) (s : State) : Option Nat × State :=
  let s := if alt0 && s.fw.staging.state == .pendingCopy then dirWrite (fun x => { x with staging := Area.blank }) s else s
  let r := if alt0 then (none, s) else fwCopy copyOk s
  match r.1 with
  | some code => (some code, r.2)
  | none =>
    let s := r.2
    match s.fw.next.filter fun n => (s.fw.slot n).state == .trial && !alt0 with
    | some n => fwRun n slotOk s
    | none =>
      match s.fw.current.filter fun n => (s.fw.slot n).state == .good with
      | some n => fwRun n slotOk s
      | none => (some 0x42, s)

/-- MIN_ROLLBACK after a slot became GOOD (R407): a slot whose ROLLBACK lies below it becomes BAD. -/
def raiseRollback (n : Nat) (s : State) : State :=
  let m := max s.keys.minRollback (s.fw.slot n).rollback
  let s := onKeys (fun k => { k with minRollback := m }) s
  (List.range 2).foldl (fun (a : State) k =>
    let x := a.fw.slot k
    if (x.state == .good || x.state == .trial) && decide (x.rollback < m) then fwBad k a else a) s

/-- A trial passes S8 (R413): GOOD, CURRENT, FW_ACTIVATED. -/
def trialGood (s : State) : State :=
  match s.fw.running with
  | none => s
  | some n =>
    if (s.fw.slot n).state != .trial then s
    else
      let s := dirWrite (fun x => { x.setSlot n { x.slot n with state := .good } with
        current := some n
        next := none }) s
      raiseHw 0x0D02 (putLe 4 s.fw.runningVersion ++ putLe 1 n) (raiseRollback n s)

/-- A start ends before S8 passes (R413): by power failure a trial is repeated up to a third try, by anything else the slot
becomes BAD at once. The next start then raises FW_FALLBACK. -/
def trialEnds (power : Bool) (s : State) : State :=
  match s.fw.running with
  | none => s
  | some n =>
    if (s.fw.slot n).state != .trial || (power && decide ((s.fw.slot n).tries < 3)) then s
    else fwBad n s

/-- A slot became BAD and no start has raised FW_FALLBACK since (R413): its TRIES, at least 1 in a slot that ran, return to 0 with
the report. -/
def owesFallback (s : State) : Bool := (List.range 2).any fun n => (s.fw.slot n).state == .bad && (s.fw.slot n).tries != 0

/-- FW_FALLBACK is owed no more. -/
def fallbackDone (s : State) : State :=
  onFw (fun x =>
    let clear (a : Area) : Area := if a.state == .bad then { a with tries := 0 } else a
    { x with
      slotA := clear x.slotA
      slotB := clear x.slotB }) s

/-- The keeper image follows the slot just made GOOD (R414). -/
def keeperFollows (s : State) : State :=
  if s.fw.keeperVersion = s.fw.runningVersion then s
  else onFw (fun x => { x with keeperVersion := x.runningVersion, keeperImageOk := true }) s

/-! ## The recovery loader (R415, R416) -/

/-- The loader runs and waits. -/
def loaderRuns (s : State) : Bool := s.boot.phase == .recovery && s.fw.loaderResetAt.isNone

/-- A loader message, on the transports in use. -/
def loaderSend (typ : Nat) (body : Bytes) (s : State) : State := emit (.loader typ body) s

/-- ANNOUNCE's body (Table FW.5). -/
def announceBody (s : State) : Bytes :=
  fitTo 16 s.fuse.uid ++ putLe 1 s.keys.lifecycle.code ++ putLe 1 s.boot.journal.recovery ++ putLe 1 (bit s.fw.loaderCannotStore) ++
    putLe 1 s.boot.journal.failedStage ++ putLe 1 s.boot.journal.lastCode ++ zeros 3 ++ putLe 4 s.keys.minRollback

/-- ACK's body. -/
def loaderAck (result : Nat) (s : State) : State := loaderSend 0x04 (putLe 4 s.fw.staging.received ++ putLe 2 result) s

/-- DONE's body. -/
def loaderDone (result version : Nat) (s : State) : State := loaderSend 0x06 (putLe 2 result ++ putLe 4 version) s

/-- LOADER_ANNOUNCE_TIMER (R416): every 1 s until an OFFER arrives. -/
def opLoaderAnnounce (s : State) : State :=
  if !loaderRuns s || s.fw.loaderOffer.isSome || decide (s.clk < s.fw.loaderAnnounceDue) then s
  else loaderSend 0x01 (announceBody s) (onFw (fun x => { x with loaderAnnounceDue := s.clk + secTicks 1 }) s)

/-- The loader listens to a transport: the UART always, Ethernet once a link was found; while an offer stands, only to the
transport that made it. -/
def loaderHears (ethernet : Bool) (s : State) : Bool :=
  loaderRuns s && (!ethernet || s.fw.loaderLink) && (s.fw.loaderOffer.all fun o => o.1 == ethernet)

/-- LOADER_OFFER (R416): restarts the staging area. An OFFER is acknowledged by ACK (log entry 55). -/
def opLoaderOffer (ethernet : Bool) (total : Nat) (s : State) : State :=
  if !loaderHears ethernet s then s
  else if s.fw.loaderCannotStore then loaderDone 0x0501 0 s
  else if total > packageMax then loaderAck 0x0103 s
  else
    let s := dirWrite (fun x => { x with staging := stagingNew total }) s
    loaderAck 0 (onFw (fun x => { x with loaderOffer := some (ethernet, total), loaderLast := s.clk }) s)

/-- LOADER_DATA (R416). A message beyond its transport's length is no DATA and is dropped. -/
def opLoaderData (ethernet : Bool) (off : Nat) (b : Bytes) (s : State) : State :=
  if !loaderHears ethernet s || s.fw.loaderOffer.isNone || decide (b.length > if ethernet then 1456 else 1024) then s
  else
    let s := onFw (fun x => { x with loaderLast := s.clk }) s
    let st := s.fw.staging
    if off < st.received then loaderAck 0 s
    else if off > st.received || off + b.length > st.total || st.state != .receiving then loaderAck 0x0103 s
    else loaderAck 0 (dirWrite (fun x => { x with staging := st.write b }) s)

/-- LOADER_FINISH (R416): the package is verified in the recovery phase; passed, it waits for its copy and the reset is 100 ms
away. -/
def opLoaderFinish (ethernet : Bool) (s : State) : State :=
  if !loaderHears ethernet s || s.fw.loaderOffer.isNone then s
  else
    let r := verifyStaging .recovery (onFw (fun x => { x with loaderLast := s.clk }) s)
    let s := r.2
    if r.1 = 0 then
      let s := dirWrite (fun x => { x with staging := { x.staging with state := .pendingCopy } }) s
      loaderDone 0 s.fw.staging.version (onFw (fun x => { x with loaderResetAt := some (s.clk + msTicks 100) }) s)
    else loaderDone r.1 0 s

/-- LOADER_OFFER_ABANDON (R416): 60 s without traffic. -/
def opLoaderAbandon (s : State) : State :=
  if !loaderRuns s || s.fw.loaderOffer.isNone || decide (s.clk < s.fw.loaderLast + secTicks 60) then s
  else onFw (fun x => { x with loaderOffer := none, loaderAnnounceDue := s.clk }) s

/-- LOADER_LINK_SEARCH (R415): 1000BASE-X and then SGMII on each port, 2 s each. -/
def opLoaderSearch (found : Bool) (s : State) : State :=
  if !loaderRuns s || s.fw.loaderLink then s
  else if found then onFw (fun x => { x with loaderLink := true }) s
  else if s.clk < s.fw.loaderTryAt + secTicks 2 then s
  else
    onFw (fun x => { x with
      loaderMode := 1 - x.loaderMode
      loaderPort := if x.loaderMode = 1 then 1 - x.loaderPort else x.loaderPort
      loaderTryAt := s.clk }) s

/-! ## The rows -/

/-- FWU_STAGE (R409). -/
def execFwuStage (c : Cmd) (s : State) : Host.Outcome State Fault Refusal := .next (opFwuStage c s)

/-- FWU_VERIFY (R410). -/
def execFwuVerify (c : Cmd) (s : State) : Host.Outcome State Fault Refusal := .next (runDcs 0x0A02 c bodyFwuVerify s)

/-- FWU_ACTIVATE (R411). -/
def execFwuActivate (c : Cmd) (s : State) : Host.Outcome State Fault Refusal := .next (runDcs 0x0A03 c bodyFwuActivate s)

/-- LOADER_ANNOUNCE_TIMER (R416). -/
def execLoaderAnnounceTimer (s : State) : Host.Outcome State Fault Refusal := .next (opLoaderAnnounce s)

/-- LOADER_OFFER (R416). -/
def execLoaderOffer (ethernet : Bool) (total : Nat) (s : State) : Host.Outcome State Fault Refusal :=
  .next (opLoaderOffer ethernet total s)

/-- LOADER_DATA (R416). -/
def execLoaderData (ethernet : Bool) (offset : Nat) (bytes : Bytes) (s : State) : Host.Outcome State Fault Refusal :=
  .next (opLoaderData ethernet offset bytes s)

/-- LOADER_FINISH (R416). -/
def execLoaderFinish (ethernet : Bool) (s : State) : Host.Outcome State Fault Refusal := .next (opLoaderFinish ethernet s)

/-- LOADER_OFFER_ABANDON (R416). -/
def execLoaderOfferAbandon (s : State) : Host.Outcome State Fault Refusal := .next (opLoaderAbandon s)

/-- LOADER_LINK_SEARCH (R415). -/
def execLoaderLinkSearch (found : Bool) (s : State) : Host.Outcome State Fault Refusal := .next (opLoaderSearch found s)

end Sys2Proof.Machine
end

