-- ==== Sys2Proof/Machine/SelfTest.lean ====
section
/-! DEFINITION. Self-test and diagnostics (20_self_test_and_diagnostics, R440 to R446): runs and their queue, partition
outcomes, and the counters record. -/

namespace Sys2Proof.Machine

/-- The self-test state changed. -/
def onTest (f : SelfTest → SelfTest) (s : State) : State := { s with selfTest := f s.selfTest }

/-- Bits of PARTITIONS that Table ST.1 lists. -/
def partitionBits : List Nat := [0, 1, 2, 3, 4, 5, 6, 8, 9, 10, 12, 13, 14, 15, 16, 17]

/-- The arbitration set: bits 0 to 6 (R440). -/
def arbitrationSet : Nat := 0x7F

/-- The partitions a mask requests, in bit order. -/
def requestedBits (mask : Nat) : List Nat := partitionBits.filter fun n => mask.testBit n

/-- A mask names only listed bits. -/
def maskListed (mask : Nat) : Bool := mask == ((requestedBits mask).map fun n => 2 ^ n).sum

/-- The partition in progress: the first without a result. -/
def TestRun.inProgress (r : TestRun) : Option Nat := (requestedBits r.requested)[r.results.length]?

/-- Partitions of a run that ended in an outcome. -/
def TestRun.mask (o : PartOutcome) (r : TestRun) : Nat :=
  ((r.results.filter fun p => p.outcome == o).map fun p => 2 ^ p.bitNo).sum

/-- Run signature (R442): SHA-256 over the partition signatures, zero for one SKIPPED or ABANDONED. -/
def TestRun.signature (r : TestRun) : Bytes :=
  Config.sha256 (r.results.flatMap fun p =>
    if p.outcome == .skipped || p.outcome == .abandoned then zeros 32 else fitTo 32 p.signature)

/-- The expected run signature of a mask (R442). -/
def expectedSignature (mask : Nat) : Bytes := Config.sha256 ((requestedBits mask).flatMap Config.goldenSignature)

/-- A new run. -/
def newRun (arbitration : Bool) (mask : Nat) (s : State) : TestRun := ⟨s.selfTest.nextId, arbitration, mask, [], now s, none⟩

/-- Arbitration runs (R357, R445). -/
def arbitrating (s : State) : Bool := s.twin.arbitration.isSome

/-- The next queued run starts, unless arbitration runs (R443, R445). -/
def startQueued (s : State) : State :=
  if s.selfTest.current.isSome || arbitrating s then s
  else match s.selfTest.queue with
    | [] => s
    | r :: rest => onTest (fun t => { t with current := some { r with started := now s }, queue := rest }) s

/-- A run has ended (R444): its results are among the last 16, SELF_TEST_DONE is raised. -/
def endRun (r : TestRun) (s : State) : State :=
  let r := { r with ended := some (now s) }
  let s := onTest (fun t => { t with current := none, finished := lastN 16 (t.finished ++ [r]) }) s
  let failed := r.mask .fail
  let e := { mkEv s 0x0A05 (putLe 4 (r.id % 2 ^ 32) ++ putLe 4 failed) none with severity := if failed = 0 then 1 else 4 }
  let s := if isStandby s then emit (.twill 0x14 e.bytes) s else raiseEv e (newInput 8 s)
  startQueued s

/-- The run in progress ends with its unfinished partitions ABANDONED (R443, R445). -/
def abandonRun (s : State) : State :=
  match s.selfTest.current with
  | none => s
  | some r =>
    let left := (requestedBits r.requested).drop r.results.length
    endRun { r with results := r.results ++ left.map fun n => ⟨n, .abandoned, 0, 0, 0, zeros 32⟩ } s

/-- Clock domain of a partition, as Table CK.2 numbers it. -/
def partitionDomain (n : Nat) : Nat :=
  if n ≤ 2 || n = 4 || n = 5 || n = 6 then 0
  else if n = 8 then 4
  else if n = 10 then 3
  else if n = 13 then 9
  else if n = 14 || n = 12 then 7
  else if n = 15 then 8
  else 1

/-- A domain stops (R443): the run whose partition in progress needs it ends. -/
def testClockLost (domain : Nat) (s : State) : State :=
  match s.selfTest.current.bind TestRun.inProgress with
  | some n => if partitionDomain n = domain then abandonRun s else s
  | none => s

/-- TST_RUN (R440, R443). -/
def bodyTstRun (c : Cmd) (s : State) : Answer :=
  let mask := c.p 0x20 4
  if mask = 0 || !maskListed mask then no 0x0103
  else if s.selfTest.queue.length ≥ 4 then no 0x0304
  else if degradedByDips s then no 0x0207
  else if arbitrating s then no 0x0702
  else
    let r := newRun false mask s
    changeParam c none [] (putLe 4 r.id) (onTest (fun t => { t with nextId := t.nextId + 1, queue := t.queue ++ [r] }) s)

/-- TST_RUN whole: the run starts when none runs. -/
def opTstRun (c : Cmd) (s : State) : State := startQueued (runDcs 0x0E01 c bodyTstRun s)

/-- A partition cannot run (R441). -/
def partSkipped (n : Nat) (s : State) : Bool :=
  (within 12 17 n && !s.d2d.up) || (n == 14 && !s.zither.enabled) || (n == 15 && !s.rf.enabled) ||
    (n == 17 && !s.panel.placard.fitted)

/-- RELAY_SENSE and PLACARD_SUPPLY wait (R441). -/
def partWaits (n : Nat) (s : State) : Bool :=
  (n == 16 && (!s.met.relays.isEmpty || warned s || s.keeper.supply.relayHold)) || (n == 17 && s.panel.placard.state == .running)

/-- A partition's result as the run holds it: SKIPPED by R441, else PASS exactly where the signature is the expected one. -/
def partResult (p : PartResult) (s : State) : PartResult :=
  if partSkipped p.bitNo s || p.outcome == .skipped then { p with outcome := .skipped, signature := zeros 32, measure := 0 }
  else { p with outcome := if p.signature == Config.goldenSignature p.bitNo then .pass else .fail }

/-- A partition ends (R441); the run ends with its last. -/
def partEnds (p : PartResult) (s : State) : State :=
  match s.selfTest.current with
  | none => s
  | some r =>
    if r.inProgress != some p.bitNo || (partWaits p.bitNo s && !partSkipped p.bitNo s) then s
    else
      let r := { r with results := r.results ++ [partResult p s] }
      if r.inProgress.isNone then endRun r s else onTest (fun t => { t with current := some r }) s

/-- A partition's entry (Table ST.2). -/
def PartResult.bytes (p : PartResult) : Bytes :=
  putLe 1 p.bitNo ++ putLe 1 p.outcome.code ++ zeros 2 ++ putLe 4 p.durationUs ++ putLe 4 p.unit ++ putInt 4 p.measure ++
    fitTo 32 p.signature

/-- The run result (Table ST.2). -/
def TestRun.bytes (r : TestRun) : Bytes :=
  putLe 4 r.id ++ putLe 1 (bit r.arbitration) ++ zeros 3 ++ putLe 4 r.requested ++ putLe 4 (r.mask .pass) ++ putLe 4 (r.mask .fail) ++
    putLe 4 (r.mask .skipped) ++ putLe 4 (r.mask .abandoned) ++ zeros 4 ++ putLe 8 r.started ++ putLe 8 (r.ended.getD 0) ++
    fitTo 32 r.signature ++ r.results.flatMap PartResult.bytes

/-- TST_RESULT (R444). -/
def bodyTstResult (c : Cmd) (s : State) : Answer :=
  match s.selfTest.finished.find? fun r => r.id == c.p 0x20 4 with
  | none => no 0x0103
  | some r => okOut c 0 (putLe 4 (r.mask .pass) ++ putLe 4 (r.mask .fail)) r.bytes s

/-! ## The counters record (R446) -/

/-- A count of 64 bits that saturates. -/
def count8 (n : Nat) : Bytes := putLe 8 (min n (2 ^ 64 - 1))

/-- A neighbour entry (Table PL.8). -/
def Neighbour.bytes (n : Neighbour) : Bytes :=
  let st := match n.state with
    | .none => 0
    | .requested => 1
    | .valid => 2
  putLe 2 n.short ++ putLe 1 st ++ putLe 1 n.mod ++ putLe 9 n.toneMap ++ putLe 1 n.attenDb ++ putLe 1 n.lqi ++ putLe 1 n.lqiRef ++
    putLe 4 n.cap ++ putLe 2 n.txFail ++ putLe 2 n.limited ++ putLe 8 n.tmAt

/-- One queue's entry of QUEUES (Table ST.3): STATUS, CREDIT and the counts with those already read. -/
def queueEntry (s : State) (n : Nat) : Bytes :=
  let q := queueOf s n
  let t := errTaken s n
  let c (v : Nat) : Bytes := putLe 2 (min v 65535)
  putLe 4 q.statusWord ++ putLe 4 q.creditWord ++ c (t.1 + q.mismatches) ++ c (t.2.1 + q.poisoned) ++ c (t.2.2 + q.oversize) ++ zeros 2

/-- An INSTALL_BEACONS entry. -/
def InstallSender.bytes (i : InstallSender) : Bytes :=
  fitTo 8 i.eui ++ putLe 2 i.caps ++ putInt 1 i.rssiReported ++ putInt 1 i.rssiMeasured ++ zeros 4 ++ putLe 8 i.ltime ++
    putLe 4 i.count ++ zeros 4

/-- MAC counters of one network (Table ST.4). -/
def MacCounters.bytes (m : MacCounters) : Bytes :=
  ([m.rxFrames, m.rxFcs, m.rxForm, m.rxSecurity, m.rxDuplicate, m.rxFloodCopy, m.rxOverflow, m.txFrames, m.txRetries, m.txFailed,
    m.txLimited, m.txHeld, m.neighbourRefused, m.routeFailures, m.rendezvousFailed].flatMap count8) ++ zeros 8

/-- The counters record (Table ST.3). -/
def countersRecord (s : State) : Bytes :=
  let x := s.counters
  putLe 2 1 ++ zeros 6 ++ putLe 8 (now s) ++ putLe 8 x.since ++ zeros 232 ++
    fitTo 2048 ((List.range 128).flatMap (queueEntry s)) ++ fitTo 16384 (s.zither.neighbours.flatMap Neighbour.bytes) ++
    fitTo 16384 (s.rf.neighbours.flatMap Neighbour.bytes) ++
    fitTo 1536 (s.meters.unknownJoins.flatMap fun u => fitTo 16 u.1 ++ putLe 8 u.2) ++
    fitTo 2048 (s.lyre.install.flatMap InstallSender.bytes) ++ s.zither.counters.bytes ++ s.rf.counters.bytes ++
    ([x.dramCorrected, x.dramUncorrectable, s.twin.link.discarded, s.twin.link.retransmitted, s.twin.link.missing,
      x.bridgeTotal + s.keeper.bridgeTimeouts, x.d2dLosses, x.subordinateDiscards, x.announceIgnored,
      x.feederMissing].flatMap count8) ++ zeros 176

/-- TST_COUNTERS (R446). -/
def bodyTstCounters (c : Cmd) (s : State) : Answer := okOut c 0 [] (countersRecord s) s

/-! ## The rows -/

/-- TST_RUN (R443). -/
def execTstRun (c : Cmd) (s : State) : Host.Outcome State Fault Refusal := .next (opTstRun c s)

/-- TST_RESULT (R444). -/
def execTstResult (c : Cmd) (s : State) : Host.Outcome State Fault Refusal := .next (runDcs 0x0E02 c bodyTstResult s)

/-- TST_COUNTERS (R446). -/
def execTstCounters (c : Cmd) (s : State) : Host.Outcome State Fault Refusal := .next (runDcs 0x0E03 c bodyTstCounters s)

end Sys2Proof.Machine
end

