-- ==== Sys2Proof/Machine/Keeper.lean ====
section
/-! DEFINITION. The keeper and the supply (16_keeper_and_supply_events), the resets (R393 to R395), failed stages and recovery
mode (R401 to R404), the keeper window's actions (R53) and the keeper's registers that clear on reading. -/

namespace Sys2Proof.Machine

/-- The keeper changed. -/
def onKeeper (f : Keeper → Keeper) (s : State) : State := { s with keeper := f s.keeper }

/-- The supply supervisor changed. -/
def onSupply (f : Supply → Supply) (s : State) : State := onKeeper (fun k => { k with supply := f k.supply }) s

/-- The start-up state changed. -/
def onBoot (f : Boot → Boot) (s : State) : State := { s with boot := f s.boot }

/-- The boot journal changed. -/
def onJournal (f : Journal → Journal) (s : State) : State := onBoot (fun b => { b with journal := f b.journal }) s

/-- The twin state changed. -/
def onTwin (f : Twin → Twin) (s : State) : State := { s with twin := f s.twin }

/-- The keeper core runs: VDD_KPR present and the state RUN (R372). -/
def keeperRuns (s : State) : Bool := s.boot.phase != .off && s.keeper.supply.kprOn && !s.keeper.supply.retain

/-- An event of the chip's own hardware as it stands: the active appends it as an input of kind 8, a standby sends it to the
active, and without an open epoch it is owed to the next start (R349, R382). -/
def raiseOwn (e : EvRec) (s : State) : State :=
  if isStandby s then emit (.twill 0x14 e.bytes) s else raiseEv e (newInput 8 s)

/-- An event the keeper owes to the first epoch of the next start of the main domains (Table KP.3, R378, R382). -/
def owe (e : EvRec) (s : State) : State := onBoot (fun b => { b with owed := b.owed ++ [e] }) s

/-- An event at the keeper's own time: its RTC stamps it while no chip time runs. -/
def keeperEv (s : State) (code : Nat) (data : Bytes) : EvRec :=
  let e := mkEv s code data none
  if inService s then e else { e with ltime := if s.keeper.rtcValid then s.keeper.rtc else 0 }

/-! ## Discrete lines and step-down (R358, Table TW.10) -/

/-- TWL_INHIBIT_N pulled low or released by the keeper. -/
def setInhibit (low : Bool) (s : State) : State :=
  if s.twin.lines.inhibitLow == low then s
  else emit (.pin "TWL_INHIBIT_N" !low) (onTwin (fun t => { t with lines := { t.lines with inhibitLow := low } }) s)

/-- The TWL_ROLE latch set or cleared. -/
def setRoleLine (low : Bool) (s : State) : State :=
  if s.twin.lines.roleLatch == low then s
  else emit (.pin "TWL_ROLE" !low) (onTwin (fun t => { t with lines := { t.lines with roleLatch := low } }) s)

/-- TWL_ALIVE pulled low or released by the application cluster. -/
def setAlive (low : Bool) (s : State) : State :=
  if s.twin.lines.aliveLow == low then s
  else emit (.pin "TWL_ALIVE" !low) (onTwin (fun t => { t with lines := { t.lines with aliveLow := low } }) s)

/-- The relays are held by the keeper (Table KP.2): the coil current is cut. -/
def holdRelays (s : State) : State := holdCoils (onSupply (fun u => { u with relayHold := true }) s)

/-- Step-down orders 1 to 4 (Table TW.10), with the cause recorded. -/
def stepDownOrders (cause : Nat) (s : State) : State :=
  let s := holdRelays (setInhibit true s)
  let s := setAlive false (setRoleLine false s)
  let s := { s with
    zither := { s.zither with stopped := true }
    rf := { s.rf with stopped := true } }
  note 0x06 (putLe 1 cause) s

/-- An active chip of a pair. -/
def inPair (s : State) : Bool := isActive s && !isSolo s

/-! ## Resets (R393, R394) -/

/-- Events of the keeper that a reset of the main domains leaves owed: SUPPLY_DIP, POWER_FAIL, TAMPER, WATCHDOG_RESET and those of degraded mode. -/
def keeperOwed (e : EvRec) : Bool := [0x0002, 0x0003, 0x0901, 0x0902, 0x0903, 0x0904].contains e.code

/-- The store as a MAIN reset leaves it: what the NAND holds stays, work in progress is gone (R330, R338). -/
def Store.dropped (x : Store) : Store := { x with collection := none, refreshQueue := [] }

/-- Metrology after a MAIN reset: the field die keeps counting, and the counts last accepted stay the base of the next
difference (R206, log entry 57). -/
def Metrology.dropped (m : Metrology) : Metrology :=
  { Metrology.blank with
    fieldCounts := m.fieldCounts
    lastCounts := m.lastCounts
    totals := m.totals
    minuteBase := m.minuteBase
    pulseLost := m.pulseLost
    lastPulseEnd := m.lastPulseEnd
    frozen := true }

/-- A modem after a MAIN reset: its reservation in keeper MRAM stays (R223). -/
def Modem.dropped (m : Modem) : Modem := { Modem.reset with reservedEnd := m.reservedEnd, usableEnd := m.reservedEnd }

/-- Counts after a MAIN reset (R446), with the instant of the reset. -/
def resetInstant (s : State) : LTime := if inService s then now s else if s.keeper.rtcValid then s.keeper.rtc else 0

/-- BAR0 after a reset of the main domains (R30, R394): rings and event ring at their reset state, as at a detach. -/
def Bar0.dropped (b : Bar0) : Bar0 := { b with attached := false, rings := List.replicate 16 Ring.reset, ev := EvRing.reset }

/-- A delayed reset that a reset of some scope satisfies is dropped (R395): scope 1 MAIN, 2 FIELD, 3 both. -/
def Keeper.satisfied (scope : Nat) (k : Keeper) : Keeper :=
  match k.delayedReset with
  | some d => if scope = 3 || d.2 = scope then { k with delayedReset := none } else k
  | none => k

/-- Everything that a MAIN reset returns to its reset state (R394). -/
def dropMain (s : State) : State :=
  let since := resetInstant s
  let s := setInhibit true (setAlive false (setRoleLine false (holdRelays s)))
  let s := loseEpochs s
  { s with
    bar0 := s.bar0.dropped
    inflight := []
    remotes := []
    uploadSub := UploadSub.reset
    uploadHeads := []
    fabric := List.replicate 128 Queue.reset
    meters := Meters.blank
    balance := BalanceRun.blank
    met := s.met.dropped
    zither := s.zither.dropped
    rf := s.rf.dropped
    lyre := Lyre.reset
    tb := Timebase.reset
    time := TimeRun.blank
    keys := { s.keys with slots := [], jobResults := [], genSeen := [], bkeyChangedAt := none, rejoined := [] }
    store := s.store.dropped
    twin := { Twin.blank with lines := { Twin.blank.lines with
      partnerRoleLow := s.twin.lines.partnerRoleLow
      partnerInhibitLow := s.twin.lines.partnerInhibitLow } }
    twinBuffer := []
    keeper := { s.keeper with
      appArmed := false
      appKicks := []
      appPeriodMs := 10000
      resetWanted := none
      clockLost := s.keeper.clockLost ||| (s.keeper.clockRunning &&& 0x5DF)
      clockRunning := s.keeper.clockRunning &&& 0x220 }
    boot := { s.boot with
      phase := .held
      passed8 := false
      openedFirst := false
      debug := false
      releaseAt := s.clk + msTicks 10
      owed := s.boot.owed.filter keeperOwed }
    fw := { s.fw with
      running := none
      loaderOffer := none
      loaderResetAt := none
      loaderLink := false
      loaderPort := 0
      loaderMode := 0 }
    panel := s.panel.mainReset
    selfTest := SelfTest.blank
    counters := { Counters.zero with since := since }
    d2d := { s.d2d with up := false, retraining := false }
    ethLinks := [false, false] }

/-- Recovery mode ends with a MAIN reset (R404): FAIL_RUN, ALT and RECOVERY are clear for its start. -/
def leaveRecovery (s : State) : State :=
  if s.boot.phase == .recovery then
    onJournal (fun j => { j with failRun := List.replicate 9 0, alt := 0, recovery := 0 }) s
  else s

/-- A start that ends without a failed stage leaves none in the journal header (Table CK.6). -/
def startEnds (power : Bool) (s : State) : State :=
  if s.boot.phase == .running && !s.boot.passed8 then
    trialEnds power (onJournal (fun j => { j with failedStage := 0xF, lastCode := 0 }) s)
  else s

/-- A MAIN reset from a source of Table CK.3. An active of a pair steps down first (R358, cause 6). -/
def mainReset (source : Nat) (s : State) : State :=
  let s := if inPair s && source != 0x06 then stepDownOrders 6 s else s
  let s := leaveRecovery (note 0x04 (putLe 1 source) s)
  emit (.reset source 1) (dropMain (onKeeper (Keeper.satisfied 1) s))

/-- A FIELD reset: the field die's counters are cleared, its drivers and its ±15 V generator stop, and the core die runs on
under R15 (R394). -/
def fieldDieReset (source : Nat) (s : State) : State :=
  let s := cutPlacard (fieldReset (onKeeper (Keeper.satisfied 2) s))
  let s := emit (.reset source 2) s
  if s.boot.phase == .running then opD2dLost s else s

/-- MAIN and FIELD together (R393): recorded once, with the wider scope. -/
def bothReset (source : Nat) (s : State) : State :=
  mainReset source (cutPlacard (fieldReset (onKeeper (Keeper.satisfied 3) s)))

/-- A step-down with reset (Table TW.10 orders 1 to 5). -/
def stepDown (cause : Nat) (s : State) : State := mainReset 0x06 (startEnds false (stepDownOrders cause s))

/-! ## Recovery mode (R403, R404, R415) -/

/-- The slots of S1 and S2 (R288, R289, R304, Table KC.3): slot 0 from the PUF, device slots derived, persistent slots
unwrapped; under debug or where a slot's ATTR withholds the life-cycle state it is UNAVAILABLE. -/
def bootKeys (s : State) : State :=
  let root := if s.boot.debug then zeros 32 else Config.pufSecret
  let k0 : KeyVal := ⟨deviceAttr 2 4 (2 ^ 21) 0, root, Config.kcv root⟩
  let dev (n : Nat) (label : String) (a : BitVec 32) : Slot := ⟨n, .active, deviceKey root label a, none⟩
  let usable (k : Slot) : Bool := !s.boot.debug && k.key.attr.getLsbD (11 + s.keys.lifecycle.code)
  let kept := s.keys.persistent.map fun k => if usable k then k else { k with state := SlotState.unavailable }
  derivePair (onKeys (fun x => { x with
    pufPresent := true
    slots := [⟨0, .active, k0, none⟩, dev 1 "CS8840 STORAGE" (deviceAttr 2 4 (2 ^ 21 + 2 ^ 22) 1),
      dev 2 "CS8840 IDENTITY P384" (deviceAttr 4 5 (2 ^ 23) 1), dev 5 "CS8840 FLASH VOLUME" (deviceAttr 2 4 (2 ^ 20) 1)] ++ kept }) s)

/-- Helper data are there, or this is the first start of a BLANK device (R288). -/
def pufUsable (s : State) : Bool :=
  s.keys.lifecycle != .decommissioned && (s.keys.pufPresent || s.keys.lifecycle == .blank)

/-- The loader begins (R414, R415): its S1, S2 and mount of volume 2 may fail, which the model leaves free (log entry 59); a keeper
image found invalid is restored from the CURRENT slot, and the main domains are reset. -/
def loaderBegins (s : State) : State :=
  let fails := !pufUsable s || Config.freeBool s.fresh
  let s := draw s
  let s := if pufUsable s then bootKeys s else s
  let s := onFw (fun x => { x with
    loaderCannotStore := fails
    loaderAnnounceDue := s.clk
    loaderTryAt := s.clk }) s
  match s.fw.current.filter fun n => (s.fw.slot n).state == .good && !s.fw.keeperImageOk && !fails with
  | some n => mainReset 0x09 (onFw (fun x => { x with keeperImageOk := true, keeperVersion := (x.slot n).version }) s)
  | none => s

/-- Recovery mode is entered (R403, R404): the code shown is that of the failed stage, or RECOVERY. -/
def enterRecovery (cause : Nat) (s : State) : State :=
  let stage := s.boot.journal.failedStage
  let s := mainReset 0x0B (if cause = 1 then s else startEnds false s)
  let s := note 0x0B (putLe 1 cause) (onJournal (fun j => { j with recovery := cause }) s)
  let s := showCode (if cause = 1 then 0x1000 + stage else 0x5001) s
  let s := onKeeper (fun k => { k with clockRunning := k.clockRunning ||| 0x04A }) s
  loaderBegins (onBoot (fun b => { b with phase := .recovery, stage := 0 }) s)

/-! ## Failed stages (R401 to R403) -/

/-- Codes marked "recovery at once" (Table CK.8). -/
def recoveryAtOnce (code : Nat) : Bool := [0x01, 0x11, 0x42].contains code

/-- The alternative a failure takes (Tables CK.8, CK.10), by ALT bit. For a hang at S6 with the link trained, which network's start
was running is free. -/
def altBit (stage code : Nat) (s : State) : Option Nat :=
  match code with
  | 0x40 => some 0
  | 0x41 => some 0
  | 0x60 => some 2
  | 0x61 => some 3
  | 0x62 => some 4
  | 0xF0 =>
    match stage with
    | 4 => some 0
    | 5 => some 1
    | 6 => if s.d2d.up then some (if Config.freeBool s.fresh then 2 else 3) else some 4
    | 7 => some 5
    | _ => none
  | _ => none

/-- What a failed stage leaves in the journal (R401 to R403): FAILED_STAGE, LAST_CODE, ALT, FAIL_RUN, RECOVERY. -/
def failMarks (code : Nat) (s : State) : State :=
  let stage := s.boot.stage
  let alt := altBit stage code s
  let applied := (alt.map fun b => s.boot.altApplied.testBit b).getD false
  let counted := !recoveryAtOnce code && stage != 6 && (alt.isNone || applied)
  let set := (alt.map fun b => if applied && stage != 6 then 0 else 2 ^ b).getD 0
  let s := draw s
  let s := journal 0x02 stage code (bit counted + 2 * bit applied) (putLe 1 set) s
  let run := (s.boot.journal.failRun.getD stage 0) + bit counted
  let s := onJournal (fun j => { j with
    failedStage := stage
    lastCode := code
    alt := set
    failRun := j.failRun.set stage (min run 255)
    recovery := if recoveryAtOnce code || decide (run ≥ 3) then 1 else j.recovery }) s
  onBoot (fun b => { b with unreported := b.unreported ++ [(stage, code)] }) s

/-- A stage fails (R401): with debug enabled the start stays where it is; otherwise the main domains are reset and the next start
is 1 s away, or 10 s once FAIL_RUN of the stage is not 0. -/
def failStage (source code : Nat) (s : State) : State :=
  if s.boot.phase != .running || s.boot.passed8 then s
  else if s.boot.debug then
    let s := journal 0x02 s.boot.stage code 0 (putLe 1 0) s
    let s := onJournal (fun j => { j with failedStage := s.boot.stage, lastCode := code }) s
    onBoot (fun b => { b with phase := .held }) s
  else
    let stage := s.boot.stage
    let s := mainReset source (trialEnds false (failMarks code s))
    let wait := if s.boot.journal.failRun.getD stage 0 = 0 then 1 else 10
    onBoot (fun b => { b with releaseAt := s.clk + secTicks wait }) s

/-- STAGE_FAILURE (R401). The code belongs to the stage that runs (Table CK.8). -/
def opStageFailure (code : Nat) (s : State) : State :=
  if code / 16 = s.boot.stage || (s.boot.stage = 0 && code = 0x01) then failStage 0x0A code s else s

/-- Limit of a stage in ms (Table CK.4). -/
def stageLimitMs (s : State) : Nat :=
  match s.boot.stage with
  | 0 => 500
  | 1 => 100
  | 2 => 100
  | 3 => 90000
  | 4 => 20000
  | 5 => 60000
  | 6 => 10000
  | 7 => 5000
  | _ => (openPeriod s + 60) * 1000

/-- STAGE_LIMIT_EXPIRY (R396): a hold stops the stage timer. -/
def opStageLimit (s : State) : State :=
  if s.boot.phase != .running || s.boot.passed8 || warned s || decide (s.clk < s.boot.stageAt + msTicks (stageLimitMs s)) then s
  else failStage 0x0A 0xF0 s

/-! ## Degraded mode (R381) -/

/-- A cause of degraded mode is taken up: journal, event, and 0x4001 for supply dips. -/
def degrade (cause : Nat) (s : State) : State :=
  if s.keeper.degraded.contains cause then s
  else
    let s := note 0x0F (putLe 1 1 ++ putLe 2 cause) (onKeeper (fun k => { k with degraded := k.degraded ++ [cause] }) s)
    let s := raiseOwn (keeperEv s 0x0002 (putLe 2 cause)) s
    if cause = 1 then showCode 0x4001 s else s

/-- A cause ends: its code is cleared if still shown, and DEGRADED_LEAVE is raised once none is left. -/
def degradeEnd (cause : Nat) (s : State) : State :=
  if !s.keeper.degraded.contains cause then s
  else
    let s := note 0x0F (putLe 1 0 ++ putLe 2 cause) (onKeeper (fun k => { k with degraded := k.degraded.filter (· != cause) }) s)
    let s := if cause = 1 && s.keeper.faultCode = 0x4001 then showCode 0 s else s
    if s.keeper.degraded.isEmpty then raiseOwn (keeperEv s 0x0003 []) s else s

/-- DEGRADED_CAUSE_END (R381): 600 s without a dip. -/
def opDegradedEnd (s : State) : State :=
  if s.boot.phase == .off || decide (s.clk < s.keeper.lastDip + secTicks 600) then s else degradeEnd 1 s

/-! ## Dips (R380 to R383) -/

/-- The lowest voltages seen: of the dip, and of KPR_DIP_MIN. -/
def noteVolts (rail mv : Nat) (u : Supply) : Supply :=
  { u with
    dipMin := u.dipMin.modify rail (min mv)
    mainMin := if rail = 0 then min mv u.mainMin else u.mainMin
    fieldMin := if rail = 1 then min mv u.fieldMin else u.fieldMin }

/-- The epoch that waits for arbitration roots UNCOMPARED when a warning ends it (R357). -/
def warnArbitration (s : State) : State :=
  if s.twin.arbitration.isNone || !isActive s then s
  else
    let mark (e : Epoch) : Epoch := if e.state == .arbitrating then { e with state := .rooting, uncompared := true } else e
    onLed (fun l => { l with epochs := l.epochs.map mark }) (onTwin (fun t => { t with
      arbitration := none
      mirror := false
      partner := if t.partner == .standby then .present else t.partner }) s)

/-- A dip begins (R380, R381): the hold, the epoch's close, the count of dips. -/
def dipBegins (rail mv : Nat) (s : State) : State :=
  let recent := (s.keeper.supply.dips.filter fun t => decide (s.clk ≤ t + secTicks 60)) ++ [s.clk]
  let s := onKeeper (fun k => { k with
    lastDip := s.clk
    supply := { k.supply with
      hold := true
      holdSince := s.clk
      warnLtime := now s
      dipped := [rail]
      dips := recent
      mainMin := if rail = 0 then mv else 0xFFFF
      fieldMin := if rail = 1 then mv else 0xFFFF } }) s
  let s := cutPlacard (panelDark (holdCoils s))
  let s := abandonRun (warnArbitration s)
  let s := if isActive s then closeEpoch 2 (newInput 7 s) else s
  if recent.length ≥ 9 then degrade 1 s else s

/-- POWER_FAIL_WARNING (R380): a rail, 0 VDDIO_33 or 1 VDD_FIELD, falls below its warning threshold. -/
def opPowerWarning (rail mv : Nat) (s : State) : State :=
  let u := s.keeper.supply
  if rail > 1 || !keeperRuns s || u.fieldReset && rail = 1 then s
  else
    let s := onSupply (fun u => { noteVolts rail mv u with
      mainWarn := u.mainWarn || rail == 0
      fieldWarn := u.fieldWarn || rail == 1 }) s
    if u.hold then
      onSupply (fun u => { u with dipped := if u.dipped.contains rail then u.dipped else u.dipped ++ [rail] }) s
    else dipBegins rail mv s

/-- SUPPLY_DIP of a rail, with the LTIME of the warning (R380), and the journal's record. -/
def dipEvent (rail : Nat) (s : State) : State :=
  let u := s.keeper.supply
  let mv := if rail = 0 then u.mainMin else u.fieldMin
  raiseOwn { mkEv s 0x0901 (putLe 1 rail ++ putLe 2 mv) none with ltime := u.warnLtime }
    (note 0x07 (putLe 1 rail ++ putLe 2 mv) s)

/-- The hold is over: drivers resume, the timer of a start goes on (R380, R396). -/
def holdEnds (s : State) : State :=
  let held := s.clk - s.keeper.supply.holdSince
  let s := onSupply (fun u => { u with hold := false, mainWarn := false, fieldWarn := u.fieldReset }) s
  let s := if s.boot.phase == .running then onBoot (fun b => { b with stageAt := b.stageAt + held }) s else s
  startPlacard (panelLight (kickCoil s))

/-- DIP_HOLD_END (R380): every rail that dipped has been stable for 2 ms. `minMv` are the lowest voltages of the two rails. -/
def opDipEnd (minMv : List Nat) (s : State) : State :=
  let u := s.keeper.supply
  if !u.hold || !keeperRuns s then s
  else
    let rails := u.dipped.filter fun r => !(r == 1 && u.fieldReset)
    let s := onSupply (fun u => (u.dipped.foldl (fun a r => noteVolts r (minMv.getD r 0xFFFF) a) u)) s
    let s := if isActive s then newInput 7 s else s
    let s := holdEnds s
    let s := rails.foldl (fun a r => dipEvent r a) s
    onSupply (fun u => { u with dipped := u.dipped.filter fun r => r == 1 && u.fieldReset }) s

/-- MAIN_SUPPLY_RESET (R382): MAIN and FIELD are reset, POWER_FAIL is recorded and owed, and the keeper enters RETAIN. -/
def opMainSupplyReset (mainMv fieldMv : Nat) (s : State) : State :=
  if !keeperRuns s then s
  else
    let epoch := s.led.lastCommitted
    let data := putLe 8 epoch
    let warnAt := if s.keeper.supply.hold then s.keeper.supply.warnLtime else now s
    let s := onSupply (fun u => noteVolts 1 fieldMv (noteVolts 0 mainMv u)) s
    let s := note 0x08 (data ++ putLe 2 s.keeper.supply.mainMin ++ putLe 2 s.keeper.supply.fieldMin) s
    let s := onJournal (fun j => { j with powerFailEpoch := epoch }) s
    let s := owe { mkEv s 0x0902 data none with ltime := warnAt } s
    let s := bothReset 0x02 (startEnds true s)
    onSupply (fun u => { u with retain := true, hold := false, dipped := [], mainWarn := true }) s

/-- FIELD_SUPPLY_RESET (R383): the field die is reset and held; without a warning on VDDIO_33 the main domains leave the hold. -/
def opFieldSupplyReset (mv : Nat) (s : State) : State :=
  if !keeperRuns s || s.keeper.supply.fieldReset then s
  else
    let s := onSupply (fun u => noteVolts 1 mv u) s
    let s := onSupply (fun u => { u with
      fieldReset := true
      fieldWarn := true
      dipped := if u.dipped.contains 1 then u.dipped else u.dipped ++ [1] }) s
    let s := fieldDieReset 0x03 (note 0x04 (putLe 1 0x03) s)
    let s := { s with d2d := { s.d2d with retraining := false } }
    if s.keeper.supply.hold && !s.keeper.supply.mainWarn then holdEnds s else s

/-- FIELD_DIE_RELEASE (R383): the field die leaves reset, the link retrains, the dip is appended. -/
def opFieldRelease (s : State) : State :=
  if !keeperRuns s || !s.keeper.supply.fieldReset then s
  else
    let s := onSupply (fun u => { u with fieldReset := false, fieldWarn := false }) s
    let s := if s.boot.phase == .running && decide (s.boot.stage ≥ 7) && !s.boot.altApplied.testBit 4 then
        { s with d2d := { s.d2d with retraining := true, lostAt := s.clk } }
      else s
    let s := dipEvent 1 s
    startPlacard (onSupply (fun u => { u with dipped := u.dipped.filter (· != 1) }) s)

/-- KEEPER_POWER_ON (R393): every scope is reset; the RTC stays valid only where VDD_KPR was kept. -/
def opKeeperPowerOn (rtcKept : Bool) (s : State) : State :=
  if s.boot.phase != .off then s
  else
    let s := onKeeper (fun k => { k with
      supply := { Supply.reset with kprOn := true }
      rtcValid := k.rtcValid && rtcKept }) s
    let s := onBoot (fun b => { b with phase := .held }) s
    bothReset 0x01 s

/-- KEEPER_SUPPLY_LOSS (R458): the keeper is in reset and the device drives no output; MRAM stays. -/
def opKeeperLoss (s : State) : State :=
  if s.boot.phase == .off then s
  else
    let s := fieldReset (cutPlacard (startEnds true s))
    let s := dropMain s
    let s := onKeeper (fun k => { k with
      supply := { Supply.reset with kprOn := false }
      rtcValid := false
      appPeriodMs := 10000
      twinKick := 0
      tamperActive := 0
      watchdogTimes := []
      delayedReset := none
      bridgeTimeouts := 0
      clockLost := 0
      clockRunning := 0
      unlockUntil := none }) s
    onBoot (fun b => { b with phase := .off }) { s with bar0 := { Bar0.reset with dcsMinor := s.bar0.dcsMinor } }

/-- SYS_RESET_N_LOW (R393). -/
def opSysResetN (s : State) : State :=
  if !keeperRuns s then s else bothReset 0x04 (startEnds false s)

/-- A reset by the scope of SYS_RESET (R395). -/
def scopeReset (source scope : Nat) (s : State) : State :=
  if scope = 2 then fieldDieReset source (note 0x04 (putLe 1 source) s)
  else if scope = 3 then bothReset source (startEnds false s)
  else mainReset source (startEnds false s)

/-- DELAYED_RESET (R395). -/
def opDelayedReset (s : State) : State :=
  match s.keeper.delayedReset with
  | some d =>
    if !keeperRuns s || decide (s.clk < d.1) then s
    else scopeReset 0x07 d.2 (onKeeper (fun k => { k with delayedReset := none }) s)
  | none => s

/-! ## Tamper (R378, R306) -/

/-- Configuration byte of a tamper input. -/
def tamperByte (s : State) (n : Nat) : Nat := s.keeper.tamperCfg / 256 ^ n % 256

/-- TAMPER_ACCEPTED (R378): an enabled input is latched and recorded; with zeroise set the keys go (R306) and 0x3001 is shown. -/
def opTamper (n : Nat) (s : State) : State :=
  let c := tamperByte s n
  if n > 3 || s.boot.phase == .off || !bitOf c 0 || s.keeper.tamperLatched.testBit n then s
  else
    let zero := bitOf c 2
    let s := onKeeper (fun k => { k with
      tamperLatched := k.tamperLatched ||| 2 ^ n
      tamperActive := k.tamperActive ||| 2 ^ n }) s
    let s := note 0x09 (putLe 1 n ++ putLe 1 (bit zero)) s
    let s := if zero then showCode 0x3001 (zeroise s) else s
    if keeperRuns s && inService s then raiseHw 0x0903 (putLe 1 n) s
    else owe (keeperEv s 0x0903 (putLe 1 n)) s

/-! ## Watchdogs (R376) -/

/-- WATCHDOG_RESET, with the LTIME of the expiry, owed to the next start; and the journal's record (Table KP.3). -/
def watchdogNoted (which : Nat) (s : State) : State :=
  owe (keeperEv s 0x0904 (putLe 1 which)) (note 0x05 (putLe 1 which ++ putLe 2 s.keeper.clockRunning) s)

/-- A core has not serviced the application watchdog within its period. -/
def appOverdue (s : State) : Bool :=
  s.keeper.appArmed && s.keeper.appKicks.any fun t => decide (t + msTicks s.keeper.appPeriodMs ≤ s.clk)

/-- APP_WATCHDOG_EXPIRY (R376): three within 3,600 s show WATCHDOG_LOOP; a start it ends has failed at its stage (R401). -/
def opAppWatchdog (s : State) : State :=
  if !keeperRuns s || s.boot.phase != .running || !appOverdue s then s
  else
    let times := (s.keeper.watchdogTimes.filter fun t => decide (s.clk ≤ t + secTicks 3600)) ++ [s.clk]
    let s := watchdogNoted 0 (onKeeper (fun k => { k with watchdogTimes := times }) s)
    let s := if times.length ≥ 3 then showCode 0x2001 s else s
    if s.boot.passed8 then mainReset 0x05 s else failStage 0x05 0xF0 s

/-- TWIN_WATCHDOG_EXPIRY (R358): the active of a pair has not serviced it for 20 ms. -/
def opTwinWatchdog (s : State) : State :=
  if !keeperRuns s || s.boot.phase != .running || !inPair s || decide (s.clk < s.keeper.twinKick + msTicks 20) then s
  else stepDown 1 (watchdogNoted 1 s)

/-- KEEPER_WATCHDOG_EXPIRY (R376, R393): the keeper core restarts; nothing else changes. -/
def opKeeperWatchdog (s : State) : State :=
  if !keeperRuns s then s
  else onKeeper (fun k => { k with unlockUntil := none }) (watchdogNoted 2 (note 0x04 (putLe 1 0x0C) s))

/-- KPR_WDT_KICK written: CORE [3:0] and TWIN (Table KP.8). -/
def opWdtKick (v : Nat) (s : State) : State :=
  if !keeperRuns s then s
  else onKeeper (fun k => { k with
    appKicks := (k.appKicks.zipIdx).map fun x => if v.testBit x.2 then s.clk else x.1
    twinKick := if v.testBit 4 then s.clk else k.twinKick }) s

/-! ## Bridges and clocks (R375, R387, R392) -/

/-- BRIDGE_TIMEOUT (R375): counted and recorded; at step-down order 3 Zither's fall-back is a reset of the field die. -/
def opBridgeTimeout (domain : Nat) (atStepDown : Bool) (s : State) : State :=
  if !keeperRuns s || domain > 10 then s
  else
    let s := note 0x0D (putLe 1 domain) (onKeeper (fun k => { k with bridgeTimeouts := satInc 65535 k.bridgeTimeouts }) s)
    if atStepDown && domain = 7 then fieldDieReset 0x0E (note 0x04 (putLe 1 0x0E) s) else s

/-- CLOCK_STOPPED (R387): RUNNING is cleared and LOST set; a self-test partition of the domain ends its run (R443). -/
def opClockStopped (domain : Nat) (s : State) : State :=
  if !keeperRuns s || domain > 10 then s
  else
    testClockLost domain (onKeeper (fun k => { k with
      clockLost := k.clockLost ||| 2 ^ domain
      clockRunning := k.clockRunning &&& (2047 - 2 ^ domain) }) s)

/-- CLOCK_RETURN (R392). -/
def opClockReturn (domain : Nat) (s : State) : State :=
  if !keeperRuns s || domain > 10 then s
  else onKeeper (fun k => { k with clockRunning := k.clockRunning ||| 2 ^ domain }) s

/-! ## The keeper's registers and the keeper window (R53, R385) -/

/-- Codes of Table KP.4. -/
def faultCodeOk (code : Nat) : Bool :=
  within 0x1000 0x1008 code || [0, 0x2001, 0x2002, 0x3001, 0x4001, 0x5001, 0x5002].contains code

/-- KPR_REQUEST with ACTION 3 (R377). -/
def opShowCode (code : Nat) (s : State) : State :=
  if !keeperRuns s || s.boot.phase != .running || !faultCodeOk code then s else showCode code s

/-- KPR_DIP_MIN read: the lowest voltages since the last read. -/
def opDipMinRead (s : State) : State :=
  let d := s.keeper.supply.dipMin
  emit (.read (d.getD 1 0xFFFF * 2 ^ 16 + d.getD 0 0xFFFF)) (onSupply (fun u => { u with dipMin := [0xFFFF, 0xFFFF] }) s)

/-- KPR_BRIDGE read; the count goes on in the counters record (R446). -/
def opBridgeRead (s : State) : State :=
  let n := s.keeper.bridgeTimeouts
  let s := { s with counters := { s.counters with bridgeTotal := s.counters.bridgeTotal + n } }
  emit (.read n) (onKeeper (fun k => { k with bridgeTimeouts := 0 }) s)

/-- KPR_CLOCK_STATUS read. -/
def opClockStatusRead (s : State) : State := emit (.read (kprClockStatus s)) (onKeeper (fun k => { k with clockLost := 0 }) s)

/-- KPR_HOST_UNLOCK written (R53): 0xC0DE opens 10 ms for one action. Any other value is no key, and is recorded. -/
def opHostUnlock (v : Nat) (s : State) : State :=
  if !s.bar0.linkUp || !keeperRuns s then s
  else if v % 65536 = 0xC0DE then onKeeper (fun k => { k with unlockUntil := some (s.clk + msTicks 10) }) s
  else note 0x0C (putLe 2 (v % 65536)) s

/-- An action of the keeper window: within the window once, otherwise recorded as refused (R53). -/
def hostAction (n : Nat) (f : State → State) (s : State) : State :=
  if !s.bar0.linkUp || !keeperRuns s then s
  else if (s.keeper.unlockUntil.map fun t => decide (s.clk ≤ t)).getD false then
    f (onKeeper (fun k => { k with unlockUntil := none }) s)
  else note 0x0C (putLe 2 n) s

/-- The boot journal on the UART (R400): the header, then every record, oldest first. -/
def dumpJournal (s : State) : State :=
  let j := s.boot.journal
  emitAll (.uart (hexLine j.headerBytes) :: j.recs.map fun r => .uart (hexLine r.bytes)) s

/-- LOADER_RESET (R416): 100 ms after DONE. CK.3 names no source for it; the model records REQUEST (log entry 60). -/
def opLoaderReset (s : State) : State :=
  match s.fw.loaderResetAt with
  | some t => if s.boot.phase != .recovery || decide (s.clk < t) then s else mainReset 0x09 s
  | none => s

/-- RECOVERY_ENTRY (R403): a pending recovery is entered at a start in place of S1. -/
def opRecoveryEntry (s : State) : State :=
  if s.boot.phase == .running && s.boot.stage = 0 && s.boot.journal.recovery = 1 then enterRecovery 1 s else s

/-! ## The rows -/

/-- POWER_FAIL_WARNING (R380). -/
def execPowerFailWarning (rail mv : Nat) (s : State) : Host.Outcome State Fault Refusal := .next (opPowerWarning rail mv s)

/-- DIP_HOLD_END (R380). -/
def execDipHoldEnd (minMv : List Nat) (s : State) : Host.Outcome State Fault Refusal := .next (opDipEnd minMv s)

/-- DEGRADED_CAUSE_END (R381). -/
def execDegradedCauseEnd (s : State) : Host.Outcome State Fault Refusal := .next (opDegradedEnd s)

/-- MAIN_SUPPLY_RESET (R382). -/
def execMainSupplyReset (mainMv fieldMv : Nat) (s : State) : Host.Outcome State Fault Refusal :=
  .next (opMainSupplyReset mainMv fieldMv s)

/-- FIELD_SUPPLY_RESET (R383). -/
def execFieldSupplyReset (mv : Nat) (s : State) : Host.Outcome State Fault Refusal := .next (opFieldSupplyReset mv s)

/-- FIELD_DIE_RELEASE (R383). -/
def execFieldDieRelease (s : State) : Host.Outcome State Fault Refusal := .next (opFieldRelease s)

/-- KEEPER_POWER_ON (R393). -/
def execKeeperPowerOn (rtcKept : Bool) (s : State) : Host.Outcome State Fault Refusal := .next (opKeeperPowerOn rtcKept s)

/-- KEEPER_SUPPLY_LOSS (R458). -/
def execKeeperSupplyLoss (s : State) : Host.Outcome State Fault Refusal := .next (opKeeperLoss s)

/-- SYS_RESET_N_LOW (R393). -/
def execSysResetNLow (s : State) : Host.Outcome State Fault Refusal := .next (opSysResetN s)

/-- DELAYED_RESET (R395). -/
def execDelayedReset (s : State) : Host.Outcome State Fault Refusal := .next (opDelayedReset s)

/-- TAMPER_ACCEPTED (R378). -/
def execTamperAccepted (input : Nat) (s : State) : Host.Outcome State Fault Refusal := .next (opTamper input s)

/-- APP_WATCHDOG_EXPIRY (R376). -/
def execAppWatchdogExpiry (s : State) : Host.Outcome State Fault Refusal := .next (opAppWatchdog s)

/-- TWIN_WATCHDOG_EXPIRY (R358). -/
def execTwinWatchdogExpiry (s : State) : Host.Outcome State Fault Refusal := .next (opTwinWatchdog s)

/-- KEEPER_WATCHDOG_EXPIRY (R376). -/
def execKeeperWatchdogExpiry (s : State) : Host.Outcome State Fault Refusal := .next (opKeeperWatchdog s)

/-- BRIDGE_TIMEOUT (R375). -/
def execBridgeTimeout (domain : Nat) (stepDown : Bool) (s : State) : Host.Outcome State Fault Refusal :=
  .next (opBridgeTimeout domain stepDown s)

/-- CLOCK_STOPPED (R387). -/
def execClockStopped (domain : Nat) (s : State) : Host.Outcome State Fault Refusal := .next (opClockStopped domain s)

/-- CLOCK_RETURN (R392). -/
def execClockReturn (domain : Nat) (s : State) : Host.Outcome State Fault Refusal := .next (opClockReturn domain s)

/-- KPR_WDT_KICK_WRITE (R376). -/
def execKprWdtKickWrite (value : Nat) (s : State) : Host.Outcome State Fault Refusal := .next (opWdtKick value s)

/-- KPR_REQUEST_RESET (R385). -/
def execKprRequestReset (s : State) : Host.Outcome State Fault Refusal :=
  .next (if keeperRuns s && s.boot.phase == .running then mainReset 0x09 (startEnds false s) else s)

/-- KPR_REQUEST_RECOVERY (R404). -/
def execKprRequestRecovery (s : State) : Host.Outcome State Fault Refusal :=
  .next (if keeperRuns s && s.boot.phase == .running then enterRecovery 3 s else s)

/-- KPR_REQUEST_FAULT_CODE (R377). -/
def execKprRequestFaultCode (code : Nat) (s : State) : Host.Outcome State Fault Refusal := .next (opShowCode code s)

/-- KPR_REQUEST_STEP_DOWN (R363): orders 1 to 4, without reset. -/
def execKprRequestStepDown (s : State) : Host.Outcome State Fault Refusal :=
  .next (if keeperRuns s && s.boot.phase == .running && isActive s then stepDownOrders 3 s else s)

/-- KPR_DIP_MIN_READ (R385). -/
def execKprDipMinRead (s : State) : Host.Outcome State Fault Refusal := .next (opDipMinRead s)

/-- KPR_BRIDGE_READ (R375). -/
def execKprBridgeRead (s : State) : Host.Outcome State Fault Refusal := .next (opBridgeRead s)

/-- KPR_CLOCK_STATUS_READ (R392). -/
def execKprClockStatusRead (s : State) : Host.Outcome State Fault Refusal := .next (opClockStatusRead s)

/-- KPR_HOST_UNLOCK_WRITE (R53). -/
def execKprHostUnlockWrite (value : Nat) (s : State) : Host.Outcome State Fault Refusal := .next (opHostUnlock value s)

/-- HOST_ACTION_RESET (R53). -/
def execHostActionReset (s : State) : Host.Outcome State Fault Refusal :=
  .next (hostAction 1 (fun s => mainReset 0x08 (startEnds false s)) s)

/-- HOST_ACTION_RECOVERY (R404). -/
def execHostActionRecovery (s : State) : Host.Outcome State Fault Refusal := .next (hostAction 2 (enterRecovery 2) s)

/-- HOST_ACTION_DUMP_JOURNAL (R400). -/
def execHostActionDumpJournal (s : State) : Host.Outcome State Fault Refusal := .next (hostAction 3 dumpJournal s)

/-- STAGE_FAILURE (R401). -/
def execStageFailure (code : Nat) (s : State) : Host.Outcome State Fault Refusal := .next (opStageFailure code s)

/-- STAGE_LIMIT_EXPIRY (R396). -/
def execStageLimitExpiry (s : State) : Host.Outcome State Fault Refusal := .next (opStageLimit s)

/-- RECOVERY_ENTRY (R404). -/
def execRecoveryEntry (s : State) : Host.Outcome State Fault Refusal := .next (opRecoveryEntry s)

/-- LOADER_RESET (R416). -/
def execLoaderReset (s : State) : Host.Outcome State Fault Refusal := .next (opLoaderReset s)

end Sys2Proof.Machine
end

