-- ==== Sys2Proof/Machine/Store.lean ====
section
/-! DEFINITION. The flash store (14_flash_store): retirement and capacity, programs, erases and reads, collection and wear
levelling, the stages and the request for space (R119), and the STO_ commands. -/

namespace Sys2Proof.Machine

/-- The store changed. -/
def onStore (f : Store → Store) (s : State) : State := { s with store := f s.store }

/-- The figures changed. -/
def onFig (f : StoreFigures → StoreFigures) (s : State) : State := onStore (fun x => { x with fig := f x.fig }) s

/-- The counts changed. -/
def onCnt (f : StoreCounts → StoreCounts) (s : State) : State := onStore (fun x => { x with cnt := f x.cnt }) s

/-- The store is formed and the application cluster runs. -/
def storeRuns (s : State) : Bool := s.store.formed && s.boot.phase == .running

/-! ## Figures -/

/-- Entries the relocation table holds at most (R322). -/
def relocLimit : Nat := 16777216

/-- LEDGER_FREE_PERMIL (R334). -/
def ledgerFreePermil (f : StoreFigures) : Nat := 1000 * (f.ledgerExported - f.ledgerUsed) / f.ledgerExported

/-- FREE (R334). -/
def freeUnits (f : StoreFigures) : Nat := f.dataUnits - f.valid - f.retained - f.emergency

/-- HEADROOM_PERMIL (R334). -/
def headroomPermil (f : StoreFigures) : Nat := 1000 * freeUnits f / f.dataUnits

/-- X, the exported total, from D (R318). -/
def exportedOf (d : Nat) : Nat := 72 * d / 100

/-- Units of volume 2, always held whole (Table FS.3). -/
def firmwareUnits : Nat := 262144

/-- Spare reserve left, percent of its size at format (Table FS.7). -/
def sparePct (s : State) : Nat := 100 * s.store.fig.spare / s.store.fig.spareAtFormat

/-- Targets in use. -/
def targetsActive (s : State) : Nat := (s.store.targets.filter fun t => t.active).length

/-- Erase counts of the active TLC blocks; a block never named has been erased 0 times. -/
def tlcErases (s : State) : List Nat :=
  let tracked := (s.store.blocks.filter fun b => !b.pslc && !b.retired).map (·.erases)
  if tracked.length < s.store.fig.dataUnits / s.store.blockUnits then 0 :: tracked else tracked

/-- Lowest of a list, 0 for none. -/
def lowest (l : List Nat) : Nat := (l.foldl (fun a x => some (min x (a.getD x))) none).getD 0

/-- TLC_PE_MIN (Table FS.7). -/
def peMin (s : State) : Nat := lowest (tlcErases s)

/-- TLC_PE_MAX. -/
def peMax (s : State) : Nat := (tlcErases s).foldl max 0

/-- PSLC_PE_MAX. -/
def pslcPeMax (s : State) : Nat := ((s.store.blocks.filter fun b => b.pslc).map (·.erases)).foldl max 0

/-- Health record, 128 bytes (Table FS.7). -/
def healthRecord (s : State) : Bytes :=
  let x := s.store
  let f := x.fig
  let c := x.cnt
  let flags := bit x.reduced + 2 * bit x.parity + 4 * bit x.rebuilding + 8 * bit (decide (f.relocEntries * 4 ≥ relocLimit * 3))
  putLe 2 1 ++ putLe 1 x.stage.code ++ putLe 1 flags ++ putLe 1 x.targetsFound ++ putLe 1 (targetsActive s) ++
    putLe 1 (if x.parity then x.luns else 0) ++ putLe 1 (sparePct s) ++ putLe 8 f.exported ++ putLe 8 f.valid ++
    putLe 8 f.retained ++ putLe 8 (freeUnits f) ++ putLe 8 f.emergency ++ putLe 2 (headroomPermil f) ++
    putLe 2 (ledgerFreePermil f) ++ putLe 4 f.relocEntries ++ putLe 4 (peMin s) ++ putLe 4 (peMax s) ++ putLe 4 c.peRated ++
    putLe 4 (pslcPeMax s) ++ putLe 4 c.blocksRetired ++ putLe 4 c.programFails ++ putLe 4 c.eraseFails ++
    putLe 4 c.uncorrectable ++ putLe 8 c.softDecodes ++ putLe 8 c.parityRebuilds ++ putLe 8 c.rewrites ++
    putLe 8 c.hostUnits ++ putLe 8 c.nandUnits

/-! ## The request for space (R119) -/

/-- The end of the oldest interval segment. -/
def oldestSegment (s : State) : Option LTime :=
  let ends := s.led.work.series.flatMap fun e => e.2.map fun x => segmentEnd (s.led.work.spanOf e.1) x.start
  ends.foldl (fun (a : Option Nat) x => some (min x (a.getD x))) none

/-- The start of the oldest interval kept; 0 where none is. -/
def oldestKept (s : State) : LTime := lowest (s.led.work.series.flatMap fun e => e.2.map (·.start))

/-- The instant before which interval segments may go: the floor (item 0x0301) before now. -/
def floorInstant (s : State) : LTime := daysBefore (now s) (itemVal s 0x0301)

/-- Nothing is left of steps 2 and 3 of R119. -/
def spaceSpent (s : State) : Bool :=
  s.led.work.pins.isEmpty && ((oldestSegment s).map fun e => decide (e > floorInstant s)).getD true

/-- The ledger frees the next space it may (R119): the oldest pin, then one day of interval segments, after which
INTERVAL_RECLAIMED is raised. -/
def spaceStep (s : State) : State :=
  match s.led.work.pins with
  | p :: rest => append [.unpin (rest.foldl min p)] none s
  | [] =>
    match oldestSegment s with
    | some e =>
      if e > floorInstant s then s
      else
        let day := 86400 * 65536
        let before := min (floorInstant s) ((e + day - 1) / day * day)
        let s := onLed (fun l => { l with work := l.work.reclaim before }) s
        raise 0x0204 (putLe 8 (oldestKept s)) s
    | none => s

/-- The store asks for space: an input of the active's stream; a standby's ledger frees with the active's. -/
def askSpace (s : State) : State :=
  if isActive s && !spaceSpent s && (openEpoch s).isSome then spaceStep (newInput 6 s) else s

/-! ## Stages -/

/-- A stage entered by the store's space, with what follows from it: HELD epochs that are accepted again flush on. -/
def changeStage (st : Stage) (s : State) : State :=
  if s.store.stage == st then s else retryHeld (enterStage st s)

/-- The emergency pool, once spent, leaves EXHAUSTED (Table FS.5). -/
def poolSpent (s : State) : State :=
  if s.store.stage == .salvage && s.store.fig.emergency = 0 then changeStage .exhausted s else s

/-- The pool is whole and nothing is owed (R479). -/
def poolWhole (f : StoreFigures) : Bool := f.owed == 0 && decide (f.emergency ≥ f.emergencyFull)

/-- The exit of RECLAIMING is met (Table FS.5). -/
def reclaimExit (f : StoreFigures) : Bool :=
  decide (ledgerFreePermil f ≥ 30) && decide (headroomPermil f ≥ 220) && decide (f.relocEntries * 4 < relocLimit * 3)

/-- The next stage by Table FS.5. -/
def nextStage (st : Stage) (f : StoreFigures) (spent : Bool) : Stage :=
  let lf := ledgerFreePermil f
  let hr := headroomPermil f
  match st with
  | .normal =>
    if hr < 100 then .full
    else if decide (lf < 20) || decide (hr < 200) || decide (f.relocEntries ≥ relocLimit) then .reclaiming
    else .normal
  | .reclaiming =>
    if decide (hr < 100) || (spent && (decide (lf < 5) || decide (hr < 160))) then .full
    else if reclaimExit f then .normal
    else .reclaiming
  | .full => if decide (lf ≥ 10) && decide (hr ≥ 180) then .reclaiming else .full
  | .salvage => if f.emergency = 0 then .exhausted else if poolWhole f && reclaimExit f then .reclaiming else .salvage
  | .exhausted => if poolWhole f && reclaimExit f then .reclaiming else .exhausted

/-- The store's own bookkeeping over figures measured anew: units freed since pay what is owed, then refill the pool, and only then
count in FREE (R334, R479). -/
def StoreFigures.measured (old f : StoreFigures) : StoreFigures :=
  let freed := old.valid + old.retained - (f.valid + f.retained)
  let pay := min freed old.owed
  let fill := min (freed - pay) (old.emergencyFull - old.emergency)
  { old with
    valid := f.valid
    retained := f.retained
    ledgerUsed := f.ledgerUsed
    journalUsed := f.journalUsed
    freeSuper := f.freeSuper
    relocEntries := f.relocEntries
    owed := old.owed - pay
    emergency := old.emergency + fill }

/-- STORE_STAGE_CHANGE (R334): the figures are taken, the stage follows, and from RECLAIMING on the ledger is asked for space.
`stepsSpent` says that no page unreferenced by a readable epoch is left (step 1 of R119). -/
def opStoreStage (f : StoreFigures) (stepsSpent : Bool) (s : State) : State :=
  if !storeRuns s then s
  else
    let s := onStore (fun x => { x with
      fig := x.fig.measured f
      reloc := lastN f.relocEntries x.reloc
      stepsSpent := stepsSpent && spaceSpent s }) s
    let s := changeStage (nextStage s.store.stage s.store.fig s.store.stepsSpent) s
    if s.store.stage == .normal then s else askSpace s

/-- SALVAGE_TIMER (R334): FULL has held for SALVAGE_AFTER_S. -/
def opSalvageTimer (s : State) : State :=
  if storeRuns s && s.store.stage == .full && decide (s.store.fullSince + secTicks (itemVal s 0x0E05) ≤ s.clk) then
    poolSpent (changeStage .salvage s)
  else s

/-! ## Capacity and retirement (R333, R335, R479) -/

/-- Unmapped units at the top of volume 3. -/
def vol3Top (s : State) : Nat :=
  let used := ((s.store.vol3.map (·.1)) ++ s.store.lost3).foldl (fun a x => max a (x + 1)) 0
  s.store.vol3Blocks - used

/-- D has fallen with no spare left (R335): X follows, the excess is withdrawn from volume 3's unmapped top, from volume 0's unused
allowance and from space the ledger frees, how much of which the spec leaves to the ledger's pages (log entry 61); a shortfall goes
out of the emergency pool, and beyond it is owed (R479). -/
def withdraw (s : State) : State :=
  let f := s.store.fig
  let excess := f.exported - exportedOf f.dataUnits
  let a := min excess (vol3Top s)
  let b := min (excess - a) (f.ledgerExported - f.ledgerUsed)
  let left := excess - a - b
  let c := if left = 0 || (s.store.stepsSpent && spaceSpent s) then 0 else min left (Config.freeNat s.fresh)
  let short := left - c
  let s := if left = 0 then s else askSpace (draw s)
  let s := onStore (fun x => { x with
    reduced := x.reduced || excess != 0
    vol3Blocks := x.vol3Blocks - a
    fig := { x.fig with
      exported := f.exported - excess
      ledgerExported := x.fig.ledgerExported - b - c
      emergency := x.fig.emergency - short
      owed := x.fig.owed + (short - x.fig.emergency) } }) s
  if short = 0 then s
  else
    let s := if s.store.stage.code < 3 then changeStage .salvage s else s
    poolSpent s

/-- The place of a unit's block. -/
def UnitAt.place (u : UnitAt) : Nat × Nat × Nat := (u.channel, u.enable, u.block)

/-- A block named by its place. -/
def Block.place (b : Block) : Nat × Nat × Nat := (b.channel, b.enable, b.block)

/-- A block of the store as it stands; one not named before is fresh. -/
def blockAt (p : Nat × Nat × Nat) (s : State) : Block :=
  (s.store.blocks.find? fun b => b.place == p).getD ⟨p.1, p.2.1, p.2.2, 0, false, false, false, 0, 0⟩

/-- A block changed. -/
def onBlock (p : Nat × Nat × Nat) (f : Block → Block) (s : State) : State :=
  let b := f (blockAt p s)
  onStore (fun x => { x with blocks := (x.blocks.filter fun y => y.place != p) ++ [b] }) s

/-- The working map's units in a block. -/
def unitsIn (p : Nat × Nat × Nat) (s : State) : List UnitAt := s.store.map.filter fun u => u.place == p

/-- A target changed. -/
def onTarget (ch en : Nat) (f : Target → Target) (s : State) : State :=
  onStore (fun x => { x with targets := modifyFirst (fun t => t.channel == ch && t.enable == en) f x.targets }) s

/-- Units of volume 3 lost: a read of them fails from now on (R327). -/
def loseUnits (lbas : List Nat) (s : State) : State :=
  onStore (fun x => { x with
    vol3 := x.vol3.filter fun u => !lbas.contains u.1
    lost3 := x.lost3 ++ lbas.filter fun n => !x.lost3.contains n }) s

/-- A target retires (R333): its capacity leaves D; with parity its units are rebuilt, without parity they are lost. -/
def retireTarget (ch en : Nat) (s : State) : State :=
  if !(s.store.targets.any fun t => t.channel == ch && t.enable == en && t.active) then s
  else
    let n := targetsActive s
    let mine := s.store.map.filter fun u => u.channel == ch && u.enable == en
    let s := onTarget ch en (fun t => { t with active := false }) s
    let s := onStore (fun x => { x with
      fig := { x.fig with dataUnits := x.fig.dataUnits - x.fig.dataUnits / n }
      luns := x.luns - x.luns / n }) s
    let s := if s.store.parity then onStore (fun x => { x with rebuilding := x.rebuilding || !mine.isEmpty }) s
      else
        let s := onStore (fun x => { x with map := x.map.filter fun u => !(u.channel == ch && u.enable == en) }) s
        let s := onCnt (fun c => { c with uncorrectable := c.uncorrectable + mine.length }) s
        loseUnits ((mine.filter fun u => u.volume == 3).map (·.lba)) s
    let s := raiseHw 0x0703 (putLe 1 ch ++ putLe 1 en) s
    if s.store.fig.spare = 0 then withdraw s else s

/-- A block retires (R333): a spare replaces it, or with none left D falls by its units; BLOCK_RETIRED is raised, and the
sixteenth of its target within 24 h retires the target. -/
def retireBlock (p : Nat × Nat × Nat) (s : State) : State :=
  if (blockAt p s).retired then s
  else
    let s := onBlock p (fun b => { b with retired := true }) s
    let s := onStore (fun x => { x with refreshQueue := x.refreshQueue.filter (· != p) }) s
    let s := onCnt (fun c => { c with blocksRetired := c.blocksRetired + 1 }) s
    let s := onTarget p.1 p.2.1 (fun t => { t with
      retiredAt := (t.retiredAt.filter fun x => decide (s.clk ≤ x + secTicks 86400)) ++ [s.clk] }) s
    let s := raiseHw 0x0702 (putLe 1 p.1 ++ putLe 1 p.2.1 ++ putLe 4 p.2.2) s
    let s :=
      if s.store.fig.spare > 0 then onFig (fun f => { f with spare := f.spare - 1 }) s
      else withdraw (onFig (fun f => { f with dataUnits := f.dataUnits - s.store.blockUnits }) s)
    if s.store.targets.any fun t => t.channel == p.1 && t.enable == p.2.1 && decide (t.retiredAt.length ≥ 16) then
      retireTarget p.1 p.2.1 s
    else s

/-- Blocks that wait for their last valid unit to move retire once it has (R332); a rebuild ends with the last unit moved from
retired targets. -/
def settleBlocks (s : State) : State :=
  let due := (s.store.blocks.filter fun b => b.failed && !b.retired && (unitsIn b.place s).isEmpty).map Block.place
  let s := due.foldl (fun a p => retireBlock p a) s
  let gone := s.store.targets.filter fun t => !t.active
  if s.store.rebuilding &&
      !(s.store.map.any fun u => gone.any fun t => t.channel == u.channel && t.enable == u.enable) then
    onStore (fun x => { x with rebuilding := false }) s
  else s

/-- A block is to be emptied and retired (R332). -/
def condemn (p : Nat × Nat × Nat) (s : State) : State := settleBlocks (onBlock p (fun b => { b with failed := true }) s)

/-! ## Programs and erases -/

/-- SEQ taken for some units; blocks of 2^24 are reserved in keeper MRAM (R316). -/
def takeSeq (n : Nat) (s : State) : State :=
  onStore (fun x =>
    let next := x.seqNext + n
    { x with
      seqNext := next
      seqReserved := if next ≤ x.seqReserved then x.seqReserved
        else x.seqReserved + ceilDiv (next - x.seqReserved) (2 ^ 24) * 2 ^ 24 }) s

/-- A unit's map entry set to its place. A unit of volume 3 discarded meanwhile stays unmapped (R326). -/
def mapUnit (u : UnitAt) (s : State) : State :=
  if u.volume > 3 || (u.volume == 3 && !(s.store.vol3.any fun x => x.1 == u.lba)) then s
  else onStore (fun x => { x with map := (x.map.filter fun y => !(y.volume == u.volume && y.lba == u.lba)) ++ [u] }) s

/-- A target has answered. -/
def answered (ch en : Nat) (s : State) : State := onTarget ch en (fun t => { t with noAnswer := 0 }) s

/-- NAND_PROGRAM_COMPLETE (R324): the units of a word line are durable and take their places. -/
def opProgramComplete (us : List UnitAt) (s : State) : State :=
  if !storeRuns s then s
  else
    let s := takeSeq us.length (onCnt (fun c => { c with nandUnits := c.nandUnits + us.length }) s)
    settleBlocks (us.foldl (fun a u => answered u.channel u.enable (mapUnit u
      (onBlock u.place (fun b => { b with pslc := b.pslc || u.volume == 0xFF }) a))) s)

/-- NAND_PROGRAM_FAIL (R332): counted; the units go to the next position in a new superblock, and the block retires once its other
valid units have moved. -/
def opProgramFail (stream : Nat) (u : UnitAt) (s : State) : State :=
  if !storeRuns s || stream > 2 then s
  else condemn u.place (onCnt (fun c => { c with programFails := c.programFails + 1 }) s)

/-- NAND_ERASE_FAIL (R332): the block retires at once. -/
def opEraseFail (ch en block : Nat) (s : State) : State :=
  if !storeRuns s then s
  else retireBlock (ch, en, block) (onCnt (fun c => { c with eraseFails := c.eraseFails + 1 }) s)

/-- NAND_ERASE_COMPLETE (R330): a block from which every unit was moved returns to the free blocks. -/
def opEraseComplete (ch en block : Nat) (s : State) : State :=
  let p := (ch, en, block)
  if !storeRuns s || !(unitsIn p s).isEmpty || (blockAt p s).retired then s
  else
    let s := onBlock p (fun b => { b with erases := b.erases + 1, reads := 0, erasedAt := s.clk }) s
    onStore (fun x => { x with refreshQueue := x.refreshQueue.filter (· != p) }) (answered ch en s)

/-! ## Reads (R327, R328) -/

/-- The ladder step at which a read ended: step 4 needs the pSLC mirror or parity (Table FS.4). -/
def ladderStep (u : UnitAt) (o : ReadOutcome) (s : State) : Nat :=
  if o.step = 4 && !s.store.parity && !(blockAt u.place s).pslc then 5 else min 5 (max 1 o.step)

/-- A unit is lost: its entry is 0xFFFFFFFF in the working map, or "lost" in the relocation table. -/
def loseUnit (u : UnitAt) (s : State) : State :=
  let s := onCnt (fun c => { c with uncorrectable := c.uncorrectable + 1 }) s
  if s.store.map.any fun y => y.volume == u.volume && y.lba == u.lba && y.ppa == u.ppa then
    let s := onStore (fun x => { x with
      map := x.map.filter fun y => !(y.volume == u.volume && y.lba == u.lba) }) s
    settleBlocks (if u.volume = 3 then loseUnits [u.lba] s else s)
  else onStore (fun x => { x with reloc := (x.reloc.filter fun e => e.1 != u.ppa) ++ [(u.ppa, 0xFFFFFFFF)] }) s

/-- A read of a block calls for its refresh (R328): many bits corrected, a later step, or many reads since its erase. -/
def wantsRefresh (u : UnitAt) (step bits : Nat) (s : State) : Bool :=
  let b := blockAt u.place s
  (step == 1 && decide (bits > itemVal s 0x0E03 * 300 / 100)) || (decide (2 ≤ step) && decide (step ≤ 4)) ||
    decide (b.reads ≥ if b.pslc then 500000 else 50000)

/-- A block to be refreshed; within 24 h of its last erase it is retired instead. -/
def refreshBlock (p : Nat × Nat × Nat) (s : State) : State :=
  let b := blockAt p s
  if b.retired then s
  else
    let s := onStore (fun x => { x with
      refreshQueue := if x.refreshQueue.contains p then x.refreshQueue else x.refreshQueue ++ [p] }) s
    if b.erases != 0 && decide (s.clk < b.erasedAt + secTicks 86400) then condemn p s else s

/-- NAND_READ (R327, R328). -/
def opNandRead (u : UnitAt) (o : ReadOutcome) (s : State) : State :=
  if !storeRuns s then s
  else
    let step := ladderStep u o s
    let s := answered u.channel u.enable (onBlock u.place (fun b => { b with reads := b.reads + 1 }) s)
    let s := onCnt (fun c => { c with
      softDecodes := c.softDecodes + bit (decide (step ≥ 3))
      parityRebuilds := c.parityRebuilds + bit (step == 4) }) s
    let s := if step = 5 then loseUnit u s else s
    if wantsRefresh u step o.bits s then refreshBlock u.place s else s

/-- PATROL_READ (R328): none starts while a power-fail warning stands (R337). -/
def opPatrolRead (u : UnitAt) (o : ReadOutcome) (s : State) : State := if warned s then s else opNandRead u o s

/-! ## Collection and wear levelling (R329 to R331) -/

/-- A move may start: none runs and no power-fail warning stands (R337). -/
def mayMove (s : State) : Bool := storeRuns s && s.store.collection.isNone && !warned s

/-- A move of a superblock's units begins; units of blocks that wait for a refresh make it one. -/
def startMove (victim : Nat) (us : List UnitAt) (s : State) : State :=
  onStore (fun x => { x with
    collection := if us.isEmpty then none else some ⟨victim, us, us.any fun u => x.refreshQueue.contains u.place⟩ }) s

/-- COLLECTION_START (R330): free superblocks are below 4 %, or a block waits for its refresh (R328) or its retirement; a full
relocation table admits no victim with retained units (R322). From RECLAIMING on the ledger is asked for space. -/
def opCollectionStart (victim : Nat) (us : List UnitAt) (s : State) : State :=
  let f := s.store.fig
  let needs := us.any fun u => !(s.store.map.any fun y => y.ppa == u.ppa)
  let forced := us.any fun u => s.store.refreshQueue.contains u.place || (blockAt u.place s).failed ||
    !(s.store.targets.any fun t => t.channel == u.channel && t.enable == u.enable && t.active)
  if !mayMove s || !(decide (f.freeSuper * 25 < f.totalSuper) || forced) ||
      (needs && decide (f.relocEntries ≥ relocLimit)) then s
  else startMove victim us (if s.store.stage == .normal then s else askSpace s)

/-- WEAR_LEVEL_MOVE (R329): the erase counts spread by more than 150. -/
def opWearMove (victim : Nat) (us : List UnitAt) (s : State) : State :=
  if mayMove s && decide (peMax s > peMin s + 150) then startMove victim us s else s

/-- COLLECTION_COPY_VERIFIED (R330, R326, R322): the map entry changes only where it still holds the source; a unit that only
readable epochs reference gets a relocation entry. -/
def opCopyVerified (src dest : UnitAt) (onlyRetained : Bool) (s : State) : State :=
  match s.store.collection with
  | none => s
  | some c =>
    if !storeRuns s || !c.left.contains src then s
    else
      let s := takeSeq 1 (onCnt (fun x => { x with
        nandUnits := x.nandUnits + 1
        rewrites := x.rewrites + bit c.refresh }) s)
      let to_ : UnitAt := { dest with volume := src.volume, lba := src.lba }
      let s :=
        if onlyRetained then
          onStore (fun x => { x with
            reloc := x.reloc ++ [(src.ppa, dest.ppa)]
            fig := { x.fig with relocEntries := min relocLimit (x.fig.relocEntries + 1) } }) s
        else onStore (fun x => { x with
          map := modifyFirst (fun y => y.volume == src.volume && y.lba == src.lba && y.ppa == src.ppa) (fun _ => to_) x.map }) s
      let left := c.left.filter (· != src)
      settleBlocks (onStore (fun x => { x with
        collection := if left.isEmpty then none else some { c with left := left } }) s)

/-- COLLECTION_TARGET_FAIL (R331): the block retires; what was to be copied stays at its source, and the units verified there move
out as readable data. -/
def opTargetFail (ch en block : Nat) (s : State) : State :=
  let p := (ch, en, block)
  if !storeRuns s then s
  else
    let s := retireBlock p (onCnt (fun c => { c with programFails := c.programFails + 1 }) s)
    if (unitsIn p s).isEmpty then s
    else onStore (fun x => { x with refreshQueue := x.refreshQueue ++ [p] }) s

/-- TARGET_NO_ANSWER (R333): the third running failure retires the target. -/
def opNoAnswer (ch en : Nat) (s : State) : State :=
  if !storeRuns s then s
  else
    let s := onTarget ch en (fun t => { t with noAnswer := t.noAnswer + 1 }) s
    if s.store.targets.any fun t => t.channel == ch && t.enable == en && decide (t.noAnswer ≥ 3) then retireTarget ch en s else s

/-! ## STO_ commands (Table FS.7a) -/

/-- STO_HEALTH. -/
def bodyStoHealth (c : Cmd) (s : State) : Answer :=
  okOut c 0 (putLe 1 s.store.stage.code ++ putLe 1 (sparePct s)) (healthRecord s) s

/-- Units of a volume exported, and mapped in the working map. -/
def volumeUnits (v : Nat) (s : State) : Option (Nat × Nat) :=
  match v with
  | 0 => some (s.store.fig.ledgerExported, s.store.fig.ledgerUsed)
  | 1 => some (journalUnits, s.store.fig.journalUsed)
  | 2 => some (firmwareUnits, firmwareUnits)
  | 3 => some (s.store.vol3Blocks, s.store.vol3.length)
  | _ => none

/-- STO_VOLUME_INFO. -/
def bodyStoVolumeInfo (c : Cmd) (s : State) : Answer :=
  match volumeUnits (c.p 0x20 1) s with
  | some (x, u) => okData 0 (putLe 8 x ++ putLe 8 u) s
  | none => no 0x0103

/-- A range of volume 3 that STO_READ and STO_WRITE take: 1 to 4,096 units, 1 to 16 on a remote session. -/
def rangeOk (c : Cmd) (s : State) : Bool :=
  within 1 (if (ringOf s c.ring).remote then 16 else 4096) (c.p 0x28 4) && decide (c.p 0x20 8 + c.p 0x28 4 ≤ s.store.vol3Blocks)

/-- A unit of volume 3 as it reads: zeros where unmapped. -/
def unit3 (s : State) (lba : Nat) : Bytes := (lookupNat lba s.store.vol3).getD (zeros 4096)

/-- STO_READ: the first lost unit ends it. -/
def bodyStoRead (c : Cmd) (s : State) : Answer :=
  if !rangeOk c s then no 0x0103
  else
    let lbas := (List.range (c.p 0x28 4)).map (c.p 0x20 8 + ·)
    let good := lbas.takeWhile fun n => !s.store.lost3.contains n
    .reply (if good.length = lbas.length then 0 else 0x0502) 0 false [] (good.flatMap (unit3 s)) s

/-- STO_WRITE: judged whole before its first unit, durable before it completes (R324, R336). -/
def bodyStoWrite (c : Cmd) (s : State) : Answer :=
  if !rangeOk c s then no 0x0103
  else match s.store.stage with
    | .full => no 0x0501
    | .exhausted => no 0x0501
    | .salvage => no 0x0503
    | _ =>
      let n := c.p 0x28 4
      let lbas := (List.range n).map (c.p 0x20 8 + ·)
      let put (x : Store) : Store := { x with
        vol3 := ((List.range n).foldl (fun a k => insertNat (c.p 0x20 8 + k) ((c.buf.drop (4096 * k)).take 4096) a) x.vol3)
        lost3 := x.lost3.filter fun m => !lbas.contains m }
      changeParam c none [] [] (countUnits n (onStore put s))

/-- STO_DISCARD (R325). -/
def bodyStoDiscard (c : Cmd) (s : State) : Answer :=
  let lo := c.p 0x20 8
  let hi := lo + c.p 0x28 4
  if c.p 0x28 4 = 0 || hi > s.store.vol3Blocks then no 0x0103
  else
    let out (n : Nat) : Bool := !(decide (lo ≤ n) && decide (n < hi))
    changeParam c none [] [] (onStore (fun x => { x with
      vol3 := x.vol3.filter fun u => out u.1
      lost3 := x.lost3.filter out
      map := x.map.filter fun u => u.volume != 3 || out u.lba }) s)

/-- STO_SET_THRESHOLD: REWRITE_PERCENT, item 0x0E03. -/
def bodyStoSetThreshold (c : Cmd) (s : State) : Answer :=
  let v := c.p 0x20 1
  if !within 1 100 v then no 0x0103
  else
    setting c s (c.p 0x24 4) (s.led.work.itemVersion 0x0E03) (itemNow s 0x0E03) (putLe 1 v) 0x0E03
      (fun n => [.config 0x0E03 n (putLe 1 v)]) (fun _ => []) (fun _ t => t)

/-! ## The rows -/

/-- STO_HEALTH (R339). -/
def execStoHealth (c : Cmd) (s : State) : Host.Outcome State Fault Refusal := .next (runDcs 0x0C01 c bodyStoHealth s)

/-- STO_VOLUME_INFO (R339). -/
def execStoVolumeInfo (c : Cmd) (s : State) : Host.Outcome State Fault Refusal := .next (runDcs 0x0C02 c bodyStoVolumeInfo s)

/-- STO_READ (R339). -/
def execStoRead (c : Cmd) (s : State) : Host.Outcome State Fault Refusal := .next (runDcs 0x0C03 c bodyStoRead s)

/-- STO_WRITE (R324). -/
def execStoWrite (c : Cmd) (s : State) : Host.Outcome State Fault Refusal := .next (runDcs 0x0C04 c bodyStoWrite s)

/-- STO_DISCARD (R325): blocks it empties that wait to retire do so. -/
def execStoDiscard (c : Cmd) (s : State) : Host.Outcome State Fault Refusal :=
  .next (settleBlocks (runDcs 0x0C05 c bodyStoDiscard s))

/-- STO_SET_THRESHOLD (R339). -/
def execStoSetThreshold (c : Cmd) (s : State) : Host.Outcome State Fault Refusal :=
  .next (runDcs 0x0C06 c bodyStoSetThreshold s)

/-- NAND_PROGRAM_COMPLETE (R324). -/
def execNandProgramComplete (us : List UnitAt) (s : State) : Host.Outcome State Fault Refusal := .next (opProgramComplete us s)

/-- NAND_PROGRAM_FAIL (R332). -/
def execNandProgramFail (stream : Nat) (u : UnitAt) (s : State) : Host.Outcome State Fault Refusal :=
  .next (opProgramFail stream u s)

/-- NAND_ERASE_FAIL (R332). -/
def execNandEraseFail (channel enable block : Nat) (s : State) : Host.Outcome State Fault Refusal :=
  .next (opEraseFail channel enable block s)

/-- NAND_ERASE_COMPLETE (R330). -/
def execNandEraseComplete (channel enable block : Nat) (s : State) : Host.Outcome State Fault Refusal :=
  .next (opEraseComplete channel enable block s)

/-- NAND_READ (R327). -/
def execNandRead (u : UnitAt) (o : ReadOutcome) (s : State) : Host.Outcome State Fault Refusal := .next (opNandRead u o s)

/-- PATROL_READ (R328). -/
def execPatrolRead (u : UnitAt) (o : ReadOutcome) (s : State) : Host.Outcome State Fault Refusal := .next (opPatrolRead u o s)

/-- COLLECTION_START (R330). -/
def execCollectionStart (victim : Nat) (us : List UnitAt) (s : State) : Host.Outcome State Fault Refusal :=
  .next (opCollectionStart victim us s)

/-- COLLECTION_COPY_VERIFIED (R330). -/
def execCollectionCopyVerified (source dest : UnitAt) (onlyRetained : Bool) (s : State) : Host.Outcome State Fault Refusal :=
  .next (opCopyVerified source dest onlyRetained s)

/-- COLLECTION_TARGET_FAIL (R331). -/
def execCollectionTargetFail (channel enable block : Nat) (s : State) : Host.Outcome State Fault Refusal :=
  .next (opTargetFail channel enable block s)

/-- WEAR_LEVEL_MOVE (R329). -/
def execWearLevelMove (victim : Nat) (us : List UnitAt) (s : State) : Host.Outcome State Fault Refusal :=
  .next (opWearMove victim us s)

/-- TARGET_NO_ANSWER (R333). -/
def execTargetNoAnswer (channel enable : Nat) (s : State) : Host.Outcome State Fault Refusal := .next (opNoAnswer channel enable s)

/-- SALVAGE_TIMER (R334). -/
def execSalvageTimer (s : State) : Host.Outcome State Fault Refusal := .next (opSalvageTimer s)

end Sys2Proof.Machine
end

