-- ==== Sys2Proof/Machine/Upload.lean ====
section
/-! DEFINITION. The upload channel between a head and its subordinates (04_meters_and_sessions R90 to R95, 01_architecture R24,
05_damask_ledger R116): announcements, admission, epochs taken by the head, forwarded commands; and Ethernet links. -/

namespace Sys2Proof.Machine

/-- The session number of a subordinate's own upload channel; a head's channel to segment n has this number plus n. Its messages of
types 0x01 to 0x04 are those of R49 (log entry 62). -/
def uploadSession : Nat := 0x100

/-- The subordinate's side changed. -/
def onSub (f : UploadSub → UploadSub) (s : State) : State := { s with uploadSub := f s.uploadSub }

/-- A head's channel to a segment changed. -/
def onHeadSide (seg : Nat) (f : UploadHead → UploadHead) (s : State) : State :=
  { s with uploadHeads := modifyFirst (fun u => u.segment == seg) f s.uploadHeads }

/-- A head's open channel to a segment. -/
def headChannel (s : State) (seg : Nat) : Option UploadHead := s.uploadHeads.find? fun u => u.segment == seg && u.opened

/-- A message from the subordinate came in on a head's channel. -/
def heardSub (seg : Nat) (s : State) : State := onHeadSide seg (fun u => { u with lastTraffic := s.clk, lastHeard := s.clk }) s

/-- A message from the head came in on the subordinate's channel. -/
def heardHead (s : State) : State := onSub (fun u => { u with lastTraffic := s.clk, lastHeard := s.clk }) s

/-- A message sent on a head's channel. -/
def toSub (seg typ : Nat) (body : Bytes) (s : State) : State :=
  onHeadSide seg (fun u => { u with lastTraffic := s.clk }) (emit (.uploadHead seg typ body) s)

/-- A message sent on the subordinate's channel. -/
def toHead (typ : Nat) (body : Bytes) (s : State) : State :=
  onSub (fun u => { u with lastTraffic := s.clk }) (emit (.uploadSub typ body) s)

/-! ## Announcement and connection (R90, R91) -/

/-- ANNOUNCEMENT_TIMER (R90): on every port with a link; a head announces nothing, nor does a standby (R27). -/
def opAnnounceTimer (s : State) : State :=
  if s.boot.headRole || !served s || decide (s.clk < s.uploadSub.announceDue) then s
  else
    let ports := s.ethLinks.filter (· == true)
    let a := Output.announcement (segmentId s) s.led.lastCommitted (itemVal s 0x0106)
    onSub (fun u => { u with announceDue := s.clk + secTicks (if u.connected then 60 else 10) }) (emitAll (ports.map fun _ => a) s)

/-- The highest epoch of a segment that a content has cut (R117). -/
def LState.cutOf (l : LState) (seg : Nat) : Nat := (lookupNat seg l.cuts).getD 0

/-- The last committed content. -/
def committedContent (s : State) : LState := ((s.led.readable.getLast?).map (·.2)).getD LState.fresh

/-- ANNOUNCEMENT_RECEIVED (R91): a head opens the channel to a subordinate of its table and sends ADMIT, with LAST_ACCEPTED of its
last committed epoch (R116); any other is counted. HEAD_RING is the head's choice: a free value. -/
def opAnnouncement (a : Announcement) (s : State) : State :=
  if !s.boot.headRole || !served s || !a.formOk then s
  else match boundTo ((s.led.work.itemRaw 0x0108).getD []) a.keyId with
    | none => { s with counters := { s.counters with announceIgnored := s.counters.announceIgnored + 1 } }
    | some seg =>
      if (headChannel s seg).isSome then s
      else
        let ring := Config.freeNat s.fresh % 16
        let s := draw s
        let u : UploadHead := ⟨seg, a.keyId, true, false, s.clk, s.clk, 0⟩
        let s := { s with uploadHeads := (s.uploadHeads.filter fun x => x.segment != seg) ++ [u] }
        toSub seg 0x10 (putLe 1 seg ++ putLe 1 ring ++ zeros 6 ++ putLe 8 ((committedContent s).cutOf seg)) s

/-- UPLOAD_CHANNEL_CONNECT (R91): the handshake is completed only for a key identifier of HEAD_BINDING; the channel counts as one
of the 8 sessions (R93). -/
def opUploadConnect (keyId : Bytes) (s : State) : State :=
  let b := itemNow s 0x0109
  let known := keyId == b.take 20 || (keyId == (b.drop 20).take 20 && !allZero ((b.drop 20).take 20))
  if !served s || s.boot.headRole || !known || allZero keyId || (!s.uploadSub.connected && decide (sessionsOpen s ≥ 8)) then
    emit (.tlsClose uploadSession 49) s
  else onSub (fun u => { u with
    connected := true
    headKeyId := keyId
    refused := none
    lastTraffic := s.clk
    lastHeard := s.clk }) s

/-! ## Admission (R93) -/

/-- The audit part of the segment ID that a head gave: a change distributed by the head (R54). -/
def segmentAudit (s : State) (old new : Bytes) : Audit :=
  { opcode := 0, ring := 0xFF, origin := 2, item := 0, tag := 0, keyId := s.uploadSub.headKeyId, segment := 0, isTable := false,
    digestValues := false, result := 0, mh := none, oldVersion := s.led.work.itemVersion segmentItem,
    newVersion := nextVersion (s.led.work.itemVersion segmentItem), frameDigest := [], old := auditValue old,
    new := auditValue new, sub := false }

/-- ADMIT_RECEIVED (R93): the segment ID is taken and recorded, HEAD_RING reserved, ADMIT_ACK sent; committed epochs no longer held
are announced by one EPOCH_GAP, and the rest are sent. A segment ID of 0 or a ring above 15 is answered with 0x0103. -/
def opAdmit (seg ring lastAccepted : Nat) (s : State) : State :=
  if !s.uploadSub.connected then s
  else
    let s := heardHead s
    let oldest := (s.led.contents.head?.map (·.num)).getD 0
    if !within 1 255 seg || ring > 15 then toHead 0x11 (putLe 2 0x0103 ++ zeros 6 ++ putLe 8 oldest) s
    else
      let new := putLe 1 seg ++ putLe 1 ring
      let old := (s.led.work.itemRaw segmentItem).getD (zeros 2)
      let s := if old == new then s
        else append [.config segmentItem (nextVersion (s.led.work.itemVersion segmentItem)) new, .audit (segmentAudit s old new)]
          none (newInput 5 s)
      let s := rebindRings (onSub (fun u => { u with headRing := some ring }) s)
      let s := toHead 0x11 (zeros 8 ++ putLe 8 oldest) s
      let gone := s.led.contents.length ≥ 4096 && decide (lastAccepted + 1 < oldest)
      let s := if gone then toHead 0x14 (putLe 8 (lastAccepted + 1) ++ putLe 8 (oldest - 1)) s else s
      let from_ := if gone then oldest - 1 else lastAccepted
      uploadMore (onSub (fun u => { u with acked := from_, sent := from_, refused := none }) s)

/-- The tables a head distributes, as they were last loaded (R125, R146, R165, R172). -/
def tablesToSend (t : Tables) : List (Nat × Bytes) :=
  [(0x0401, t.rules.version, t.rules.raw), (0x0501, t.tariff.version, t.tariff.raw),
    (0x0502, t.calendar.version, t.calendar.raw), (0x0603, t.friendly.version, t.friendly.raw),
    (0x0701, t.groups.version, t.groups.raw)].filterMap fun x => if x.2.1 = 0 then none else some (x.1, x.2.2)

/-- A table's load as a COMMAND with EXPECT_VERSION 0xFFFFFFFF; its tag is the head's choice: a free value. -/
def tableCommand (tag : Nat) (t : Nat × Bytes) : Cmd :=
  { ring := 0, opcode := t.1, fence := false, waitCommit := false, bufOut := false, deadline := 0, tag := tag, bufAddr := 0,
    bufLen := t.2.length, param := putLe 4 0xFFFFFFFF ++ zeros 28, buf := t.2 }

/-- ADMIT_ACK_RECEIVED (R93): RESULT 0x0000 raises SUBORDINATE_JOINED, and the tables go to the subordinate (R125). -/
def opAdmitAck (seg result : Nat) (s : State) : State :=
  if (headChannel s seg).isNone then s
  else
    let s := heardSub seg s
    if result != 0 then s
    else
      let s := raiseHw 0x0108 (putLe 1 seg) (onHeadSide seg (fun u => { u with joined := true }) s)
      (tablesToSend s.led.work.tables).foldl (fun a t =>
        emit (.forward seg (tableCommand (Config.freeNat a.fresh % 2 ^ 64) t)) (draw a)) s

/-! ## Epochs at the head (R24, R94, R116) -/

/-- What taking a subordinate epoch has made so far: the content with the items applied, the items, no record free. -/
structure SubTake where
  s : State
  items : List Item
  full : Bool

/-- One more item taken. -/
def SubTake.put (i : Item) (t : SubTake) : SubTake :=
  { t with
    s := onLed (fun l => { l with work := i.apply (openNum t.s) (now t.s) l.work }) t.s
    items := t.items ++ [i] }

/-- The head's record of a subordinate's meter. -/
def headRec (seg subMh : Nat) (s : State) : Option (Nat × Rec) :=
  s.led.work.recs.find? fun e => e.2.segment == seg && e.2.subMh == subMh

/-- The head's record of a subordinate's record index. -/
def headRecAt (seg subIdx : Nat) (s : State) : Option (Nat × Rec) :=
  s.led.work.recs.find? fun e => e.2.segment == seg && mhIdx e.2.subMh == subIdx && !e.2.released

/-- The head MH of a subordinate MH. -/
def headMh (seg subMh : Nat) (s : State) : Option Nat := (headRec seg subMh s).map fun e => recMh e.1 e.2

/-- A subordinate's record as the head holds it: a meter named for the first time gets a head MH, one known from elsewhere keeps its
own (R94, R116). -/
def SubTake.meter (seg subIdx : Nat) (r : Rec) (t : SubTake) : SubTake :=
  let subMh := recMh subIdx r
  match (headRec seg subMh t.s).orElse fun _ => t.s.led.work.byIdentity r.identity with
  | some (h, old) => t.put (.patch h old { r with gen := old.gen, segment := seg, subMh := subMh })
  | none =>
    match freeIndex t.s with
    | some h => t.put (.create h { r with gen := t.s.led.work.gen h, segment := seg, subMh := subMh })
    | none => { t with full := true }

/-- An item that concerns the subordinate itself is kept as uploaded. -/
def SubTake.keep (seg : Nat) (i : Item) (t : SubTake) : SubTake :=
  if i.parts.isEmpty then t else t.put (.foreign seg i.parts)

/-- One item of a subordinate epoch, with subordinate MHs replaced by head MHs (R116). A meter released there keeps its head MH. -/
def SubTake.item (seg : Nat) (i : Item) (t : SubTake) : SubTake :=
  match i with
  | .patch idx _ r => t.meter seg idx r
  | .create idx r => t.meter seg idx r
  | .release idx _ _ =>
    match headRecAt seg idx t.s with
    | some (h, r) => t.put (.patch h r { r with released := true })
    | none => t
  | .series idx es =>
    match headRecAt seg idx t.s with
    | some (h, _) => t.put (.series h es)
    | none => t.keep seg i
  | .billing b =>
    match headMh seg b.mh t.s with
    | some m => t.put (.billing { b with mh := m, segment := seg })
    | none => t.keep seg i
  | .clockAdj a => t.put (.clockAdj { a with mh := a.mh.bind fun m => headMh seg m t.s })
  | .audit a => t.put (.audit { a with mh := a.mh.bind fun m => headMh seg m t.s, sub := true })
  | .event e => t.put (.event { e with mh := e.mh.bind fun m => headMh seg m t.s })
  | .contrib g cs =>
    t.put (.contrib g (cs.filterMap fun c => (headRecAt seg c.idx t.s).map fun e => { c with idx := e.1 }))
  | .result r => t.put (.result r)
  | _ => t.keep seg i

/-- The items of a subordinate epoch as the head appends them, HEAD_CUT last; none when no head record is free. -/
def subItems (seg : Nat) (c : Content) (s : State) : Option (List Item) :=
  let t := (c.groups.flatMap (·.items)).foldl (fun t i => SubTake.item seg i t) ⟨s, [], false⟩
  if t.full then none else some (t.items ++ [.headCut seg c.epoch c.digest])

/-- A forwarded command whose result a head epoch now holds completes, with that epoch as EPOCH (R95). -/
def finishForward (f : InFlight) (c : Completion) (epoch : Nat) (s : State) : State :=
  let s := { s with
    inflight := modifyFirst (fun g => g.seq == f.seq) (fun g => { g with forwardedTo := none, waitCommit := none }) s.inflight }
  completeOrWait { f with forwardedTo := none, waitCommit := none } { c with ring := f.cmd.ring, epoch := epoch, replayed := false } s

/-- The forwarded commands of a segment that waited for an epoch now accepted. -/
def finishForwards (seg subEpoch : Nat) (s : State) : State :=
  (s.inflight.filter fun f => f.forwardedTo == some seg).foldl (fun a f => match f.waitCommit with
    | some c => if c.epoch ≤ subEpoch then finishForward f c (openNum a) a else a
    | none => a) s

/-- A subordinate epoch's group appended (R116), as an input of the stream (R349, kind 5). -/
def takeEpoch (seg : Nat) (c : Content) (items : List Item) (s : State) : State :=
  finishForwards seg c.epoch (addGroup items none false true s)

/-- SUBORDINATE_LOST: the channel closed or fell silent (R93). -/
def loseSub (seg : Nat) (s : State) : State :=
  raiseHw 0x0109 (putLe 1 seg) { s with uploadHeads := s.uploadHeads.filter fun u => u.segment != seg }

/-- EPOCH_ACK (Table MS.10). -/
def epochAck (seg epoch result headEpoch : Nat) (s : State) : State :=
  toSub seg 0x13 (putLe 8 epoch ++ putLe 2 result ++ zeros 6 ++ putLe 8 headEpoch) s

/-- The last epoch accepted from a segment (R24, R93). -/
def lastAccepted (u : UploadHead) (s : State) : Nat := max (s.led.work.cutOf u.segment) u.gapTo

/-- EPOCH_DATA_RECEIVED (R24, R94): taken whole or not at all. While the ledger admits no group (R99, R121) it is not taken and not
answered, and the subordinate keeps it. -/
def opEpochData (seg : Nat) (c : Content) (s : State) : State :=
  match headChannel s seg with
  | none => s
  | some u =>
    let s := heardSub seg s
    if !c.digestOk then loseSub seg (epochAck seg c.epoch 0x0402 0 s)
    else if c.epoch ≤ lastAccepted u s then
      let s := { s with counters := { s.counters with subordinateDiscards := s.counters.subordinateDiscards + 1 } }
      epochAck seg c.epoch 0x0002 0 (raiseHw 0x010A (putLe 1 seg ++ putLe 8 c.epoch) s)
    else match subItems seg c s with
      | none => epochAck seg c.epoch 0x0301 0 s
      | some items =>
        if (openEpoch s).isNone || (appendRefusal items s).isSome then s
        else
          let s := newInput 5 s
          let n := openNum s
          epochAck seg c.epoch 0 n (takeEpoch seg c items s)

/-- EPOCH_GAP_RECEIVED (R93). -/
def opEpochGap (seg from_ to_ : Nat) (s : State) : State :=
  match headChannel s seg with
  | none => s
  | some u =>
    let s := heardSub seg s
    if to_ < from_ || to_ ≤ lastAccepted u s then s
    else
      let s := onHeadSide seg (fun u => { u with gapTo := to_ }) s
      raiseHw 0x010B (putLe 1 seg ++ putLe 8 from_ ++ putLe 4 (min 0xFFFFFFFF (to_ - from_ + 1))) s

/-! ## The subordinate's window (R93, R94) -/

/-- EPOCH_ACK_RECEIVED (R94): 0x0000 and 0x0002 move the window on; at 0x0301 nothing beyond the epoch is sent, and it is sent again
every 60 s. -/
def opEpochAck (epoch result : Nat) (s : State) : State :=
  if !s.uploadSub.connected then s
  else
    let s := heardHead s
    if result = 0x0301 then onSub (fun u => { u with refused := some epoch, resendDue := s.clk + secTicks 60 }) s
    else if result = 0 || result = 0x0002 then
      uploadMore (onSub (fun u => { u with
        acked := max u.acked epoch
        refused := if u.refused == some epoch then none else u.refused
        sent := if u.refused == some epoch then epoch else max u.sent epoch }) s)
    else s

/-- UPLOAD_EPOCH_RESEND (R94). -/
def opEpochResend (s : State) : State :=
  match s.uploadSub.refused with
  | some n =>
    if !s.uploadSub.connected || isStandby s || decide (s.clk < s.uploadSub.resendDue) then s
    else match s.led.contents.find? fun h => h.num == n with
      | some h => onSub (fun u => { u with resendDue := s.clk + secTicks 60, lastTraffic := s.clk }) (emit (.epochData h) s)
      | none => s
  | none => s

/-- UPLOAD_CHANNEL_SILENT (R93): closed, or silent for 90 s, on the subordinate (none) or on the head (the segment). -/
def opChannelSilent (seg : Option Nat) (closed : Bool) (s : State) : State :=
  match seg with
  | none =>
    if s.uploadSub.connected && (closed || decide (s.uploadSub.lastHeard + secTicks 90 ≤ s.clk)) then
      onSub (fun u => { u with connected := false, refused := none, announceDue := s.clk + secTicks 10 }) s
    else s
  | some n =>
    match headChannel s n with
    | some u => if closed || decide (u.lastHeard + secTicks 90 ≤ s.clk) then loseSub n s else s
    | none => s

/-! ## Forwarded commands (R95) and the messages of R49 -/

/-- The head epoch that holds the cut of a subordinate epoch: the first whose HEAD_CUT reaches it. -/
def headEpochOf (seg subEpoch : Nat) (s : State) : Option Nat :=
  let has (gs : List Group) : Bool := gs.any fun g => g.items.any fun i => match i with
    | .headCut x e _ => x == seg && decide (e ≥ subEpoch)
    | _ => false
  ((s.led.contents.find? fun h => has h.groups).map (·.num)).orElse fun _ =>
    (s.led.epochs.find? fun e => has e.groups).map (·.num)

/-- A forwarded completion (R95): it goes out at once where it names no epoch or a head epoch holds its upload already, else with
the upload. -/
def takeForwarded (seg : Nat) (c : Completion) (s : State) : State :=
  match s.inflight.find? fun f => f.forwardedTo == some seg && f.cmd.tag == c.tag && f.cmd.opcode == c.opcode && f.waitCommit.isNone with
  | none => s
  | some f =>
    if c.epoch = 0 then finishForward f c 0 s
    else match headEpochOf seg c.epoch s with
      | some n => finishForward f c n s
      | none =>
        { s with
          inflight := modifyFirst (fun g => g.seq == f.seq) (fun g => { g with waitCommit := some c }) s.inflight }

/-- FORWARDED_COMPLETION_RECEIVED (R95): an input of the stream (R349, kind 5). -/
def opForwarded (seg : Nat) (c : Completion) (s : State) : State :=
  if (headChannel s seg).isNone then s else takeForwarded seg c (newInput 5 (heardSub seg s))

/-- A message of types 0x01 to 0x04 on the subordinate's channel: a COMMAND is taken on HEAD_RING; a bad header or an unknown TYPE
closes the channel (R92). -/
def subMessage (header body : Bytes) (s : State) : State :=
  let s := heardHead s
  let shut (s : State) : State := emit (.tlsClose uploadSession 1)
    (onSub (fun u => { u with connected := false, refused := none, announceDue := s.clk + secTicks 10 }) s)
  let typ := le header 0 1
  if header.length != 8 || !zeroAt header 1 3 || le header 4 4 != body.length || typ = 0 || decide (typ > 4) then shut s
  else if typ != 1 then s
  else
    let frame := body.take 64
    let want := if bitOf (le frame 2 1) 2 then 0 else le frame 0x18 4
    if body.length != 64 + want then shut s
    else match s.uploadSub.headRing with
      | some ring => takeFrame ring frame (body.drop 64) true .upload none s
      | none => s

/-- REMOTE_MESSAGE (R49, R92): on a remote session, or on the upload channel. -/
def opAnyMessage (id : Nat) (header body : Bytes) (s : State) : State :=
  if id < uploadSession then opRemoteMessage id header body s
  else if id = uploadSession then (if s.uploadSub.connected then subMessage header body s else s)
  else
    let seg := id - uploadSession
    if (headChannel s seg).isNone then s
    else if header.length != 8 || !zeroAt header 1 3 || le header 4 4 != body.length || !within 2 4 (le header 0 1) then loseSub seg s
    else heardSub seg s

/-- REMOTE_KEEPALIVE_TIMER (R49, R92): 30 s without traffic. -/
def opAnyKeepalive (id : Nat) (s : State) : State :=
  if id < uploadSession then opRemoteKeepalive id s
  else if id = uploadSession then
    if s.uploadSub.connected && decide (s.uploadSub.lastTraffic + secTicks 30 ≤ s.clk) then toHead 0x04 [] s else s
  else match headChannel s (id - uploadSession) with
    | some u => if u.lastTraffic + secTicks 30 ≤ s.clk then toSub u.segment 0x04 [] s else s
    | none => s

/-- ETHERNET_LINK_CHANGE (R90). -/
def opEthLink (port : Nat) (up : Bool) (s : State) : State :=
  if s.boot.phase == .running then { s with ethLinks := s.ethLinks.set port up } else s

/-! ## The rows -/

/-- ANNOUNCEMENT_TIMER (R90). -/
def execAnnouncementTimer (s : State) : Host.Outcome State Fault Refusal := .next (opAnnounceTimer s)

/-- ANNOUNCEMENT_RECEIVED (R91). -/
def execAnnouncementReceived (a : Announcement) (s : State) : Host.Outcome State Fault Refusal := .next (opAnnouncement a s)

/-- UPLOAD_CHANNEL_CONNECT (R91). -/
def execUploadChannelConnect (keyId : Bytes) (s : State) : Host.Outcome State Fault Refusal := .next (opUploadConnect keyId s)

/-- ADMIT_RECEIVED (R93). -/
def execAdmitReceived (segment headRing lastAccepted : Nat) (s : State) : Host.Outcome State Fault Refusal :=
  .next (opAdmit segment headRing lastAccepted s)

/-- ADMIT_ACK_RECEIVED (R93). -/
def execAdmitAckReceived (segment result _oldestHeld : Nat) (s : State) : Host.Outcome State Fault Refusal :=
  .next (opAdmitAck segment result s)

/-- EPOCH_DATA_RECEIVED (R94). -/
def execEpochDataReceived (segment : Nat) (c : Content) (s : State) : Host.Outcome State Fault Refusal :=
  .next (opEpochData segment c s)

/-- EPOCH_ACK_RECEIVED (R94). -/
def execEpochAckReceived (epoch result _headEpoch : Nat) (s : State) : Host.Outcome State Fault Refusal :=
  .next (opEpochAck epoch result s)

/-- EPOCH_GAP_RECEIVED (R93). -/
def execEpochGapReceived (segment fromEpoch toEpoch : Nat) (s : State) : Host.Outcome State Fault Refusal :=
  .next (opEpochGap segment fromEpoch toEpoch s)

/-- UPLOAD_EPOCH_RESEND (R94). -/
def execUploadEpochResend (s : State) : Host.Outcome State Fault Refusal := .next (opEpochResend s)

/-- UPLOAD_CHANNEL_SILENT (R93). -/
def execUploadChannelSilent (segment : Option Nat) (closed : Bool) (s : State) : Host.Outcome State Fault Refusal :=
  .next (opChannelSilent segment closed s)

/-- FORWARDED_COMPLETION_RECEIVED (R95). -/
def execForwardedCompletionReceived (segment : Nat) (c : Completion) (s : State) : Host.Outcome State Fault Refusal :=
  .next (opForwarded segment c s)

/-- REMOTE_MESSAGE (R49). -/
def execRemoteMessage (session : Nat) (header body : Bytes) (s : State) : Host.Outcome State Fault Refusal :=
  .next (opAnyMessage session header body s)

/-- REMOTE_KEEPALIVE_TIMER (R49). -/
def execRemoteKeepaliveTimer (session : Nat) (s : State) : Host.Outcome State Fault Refusal :=
  .next (opAnyKeepalive session s)

/-- ETHERNET_LINK_CHANGE (R90). -/
def execEthernetLinkChange (port : Nat) (up : Bool) (s : State) : Host.Outcome State Fault Refusal := .next (opEthLink port up s)

end Sys2Proof.Machine
end

