-- ==== Sys2Proof/Machine/Zither.lean ====
section
/-! DEFINITION. The Zither power-line modem (10_zither_plc, R212 to R239): receiving, sending and retrying frames, tone maps,
neighbours; and, for both networks, reports, ROUTE_SET, ROUTE_ERROR and the repair of routes (R232 to R235, R253). -/

namespace Sys2Proof.Machine

/-! ## What both networks share -/

/-- A network's receiver runs: its stage S6 has passed and it is enabled (R399, R481), on Zither with the die-to-die link up. -/
def netRuns (s : State) (net : Net) : Bool :=
  s.boot.phase == .running && decide (s.boot.stage ≥ 7) && (modemOf s net).enabled && (net == .rf || s.d2d.up)

/-- The chip acknowledges MAC frames (R219, R481): not a standby (R27), not stopped; a hold stops Zither's acknowledgements (R231) and
not Lyre's (R261). A chip still STARTING acknowledges from S6 on (log entry 65). -/
def mayAck (s : State) (net : Net) : Bool :=
  netRuns s net && !isStandby s && !(modemOf s net).stopped && (net == .rf || !warned s)

/-- A frame's form (R220): the types of Table RF.4 belong to Lyre. -/
def formGood (f : RxFrame) : Bool :=
  f.formOk && (f.net == .rf || !([0x16, 0x17, 0x18, 0x19, 0x26, 0x27, 0x28].contains f.msg.typ))

/-- A frame from 0x0000 (R236, R361): copies of the chip's own frames are dropped without count; an active that finds a newer chip's
counter beyond its own reserved block steps down. A standby remembers the highest counter seen (R223). -/
def ownOrigin (f : RxFrame) (s : State) : State :=
  if !f.micOk then s
  else
    let s := onModem f.net (fun m => { m with heardChipCtr := max m.heardChipCtr f.ctr }) s
    if isActive s && decide (f.ctr > (modemOf s f.net).reservedEnd) then stepDown 5 s else s

/-- A checked frame (R18, R79): one that passes is accepted; one without a record is counted, and a JOIN_REQUEST goes on to its
row. A standby takes its frames from the active's stream alone (R349); the time beacons of meters are dropped after the check and
counted (R284). Answers the state and whether the frame passed. -/
def judgeFrame (f : RxFrame) (s : State) : State × Bool :=
  match checkFrame s f with
  | .unknown =>
    let s := onMac f.net (fun c => { c with unknownSource := inc64 c.unknownSource }) s
    if isStandby s || !f.micOk || f.msg.typ != 0x10 then (s, false)
    else (queueRx f (if isActive s then newInput 1 s else s), true)
  | .badMic => (failFrame f true s, false)
  | .badCtr => (failFrame f false s, false)
  | .pass =>
    if isStandby s then (s, true)
    else if f.msg.typ = 0x24 then
      (onMac f.net (fun c => { c with beaconsDropped := inc64 c.beaconsDropped })
        (onModem f.net (Modem.accept (((sourceOf s f).map fun e => e.2.identity.take 8).getD []) f.ctr) s), true)
    else (acceptFrame f s, true)

/-- What every received frame meets before its check: FCS, acknowledgement, form; and whether it goes on. -/
def receiveMac (f : RxFrame) (s : State) : State × Bool :=
  if !f.fcsOk then (onMac f.net (fun c => { c with rxFcs := inc64 c.rxFcs }) s, false)
  else
    let s := onMac f.net (fun c => { c with rxFrames := inc64 c.rxFrames }) s
    let s := if f.unicast && mayAck s f.net then emit (.macAck f.net f.fromShort) s else s
    if !formGood f then (onMac f.net (fun c => { c with rxForm := inc64 c.rxForm }) s, false)
    else (s, true)

/-- The frame as it is sent now: its route, and the proxy that delivers to an extended address (R234, R237). -/
def routedFrame (f : TxFrame) (s : State) : TxFrame :=
  if f.floods then f
  else
    let hops := routeNow s f
    let proxy := match f.dest with
      | .short _ => none
      | .eui _ => hops.getLast?
    { f with route := hops, proxy := proxy }

/-- First hop of a frame: 0xFFFF for a MAC broadcast, 0 for the extended address of a station heard directly. -/
def firstHop (f : TxFrame) : Nat := if f.floods then 0xFFFF else f.route.headD 0

/-- A frame's first transmission under a new counter; a frame that asks for an acknowledgement stays on air until it comes. -/
def sendFirst (f : TxFrame) (s : State) : Option State :=
  match takeCtr f.net s with
  | none => none
  | some (ctr, s) =>
    let g := routedFrame f s
    let hop := firstHop g
    let s := onMac f.net (fun c => { c with txFrames := inc64 c.txFrames }) (airFrame g ctr hop 1 s)
    some (if g.floods then s else onModem f.net (fun m => { m with onAir := m.onAir ++ [⟨g, ctr, hop, 1⟩] }) s)

/-- The frames at the head of the queues whose meters cannot be reached are not sent (R235). -/
def dropLost (net : Net) (s : State) : State :=
  let lost := (modemOf s net).queues.flatten.filter (frameLost s)
  lost.foldl (fun a f => onMac net (fun c => { c with txFailed := inc64 c.txFailed }) (dequeue f a)) s

/-- The frame on air toward a first hop. -/
def onAirTo (s : State) (net : Net) (hop : Nat) : Option OnAir := (modemOf s net).onAir.find? fun o => o.firstHop == hop

/-- The last transmission went unanswered (R218, R244): the frame is given up and its first hop fails. -/
def giveUp (o : OnAir) (s : State) : State :=
  let net := o.frame.net
  let s := onModem net (fun m => { m with onAir := m.onAir.filter (· != o) }) s
  let s := onNeighbour net o.firstHop (fun n => { n with txFail := min 65535 (n.txFail + 1) }) s
  let s := onMac net (fun c => { c with txFailed := inc64 c.txFailed }) s
  if o.firstHop = 0 then s else failEdge net 0 o.firstHop (timerInput s)

/-- A frame goes on air again under its own counter. -/
def resend (o : OnAir) (s : State) : State :=
  let net := o.frame.net
  let s := onModem net (fun m => { m with onAir := m.onAir.map fun x => if x == o then { o with sends := o.sends + 1 } else x }) s
  let s := onNeighbour net o.firstHop (fun n => { n with txFail := min 65535 (n.txFail + 1) }) s
  let s := onMac net (fun c => { c with txRetries := inc64 c.txRetries }) s
  airFrame o.frame o.ctr o.firstHop (o.sends + 1) s

/-! ## Zither's frames (R217 to R219, R230) -/

/-- ZITHER_FRAME_RECEIVED (R219, R18, R224). -/
def opZitherFrame (f : RxFrame) (s : State) : State :=
  if f.net != .plc || !netRuns s .plc then s
  else
    let p := receiveMac f s
    if !p.2 then p.1
    else if f.orig == .short 0 then ownOrigin f p.1
    else (judgeFrame f p.1).1

/-- The current limit was engaged in over 25 % of a frame's symbols (R230): later frames go 3 dB lower, 12 dB at most. -/
def frameLimited (hop : Nat) (s : State) : State :=
  let s := onMac .plc (fun c => { c with txLimited := inc64 c.txLimited }) s
  let s := onNeighbour .plc hop (fun n => { n with limited := min 65535 (n.limited + 1) }) s
  onModem .plc (fun m => { m with attenExtra := min 12 (m.attenExtra + 3), lastLimited := s.clk }) s

/-- The tone map request that a frame carries: a LINK_PROBE always one, another frame one that is owed (R228). -/
def carryRequest (f : TxFrame) (hop : Nat) (s : State) : State :=
  if f.msg == .linkProbe then emit (.toneMapRequest hop) s else rideRequest hop s

/-- ZITHER_TRANSMIT (R217): the frame on air before was acknowledged; the next goes out. -/
def opZitherTransmit (limited : Bool) (s : State) : State :=
  if !mayTransmit s .plc then s
  else
    let s := dropLost .plc (airDone .plc s)
    match nextFrame s .plc with
    | none => s
    | some f =>
      match sendFirst f s with
      | none => s
      | some s =>
        let hop := firstHop (routedFrame f s)
        let s := carryRequest f hop (dequeue f s)
        if limited then frameLimited hop s else s

/-- ZITHER_ACK_TIMEOUT (R218): at most 5 transmissions in all; none while a hold lasts (R231). -/
def opZitherAck (hop : Nat) (s : State) : State :=
  match if mayTransmit s .plc then onAirTo s .plc hop else none with
  | none => s
  | some o => if o.sends < 5 then resend o s else giveUp o s

/-- CURRENT_LIMIT_RESTORE (R230): 60 s without a limited frame. -/
def opLimitRestore (s : State) : State :=
  if s.zither.attenExtra = 0 || decide (s.clk < s.zither.lastLimited + secTicks 60) then s
  else onModem .plc (fun m => { m with attenExtra := m.attenExtra - 1, lastLimited := s.clk }) s

/-! ## Tone maps (R227, R228, Table PL.9) -/

/-- SNR in dB that a modulation needs for 10 % frame errors (Table PL.2). -/
def snrNeeded : Nat → Int
  | 0 => -1
  | 1 => 3
  | 2 => 6
  | 3 => 10
  | 4 => 1
  | 5 => 4
  | _ => 8

/-- Carriers of the mask whose SNR meets a modulation's figure and 3 dB (R227). -/
def goodCarriers (mask : Nat) (snr : List Int) (mod : Nat) : List Nat :=
  (List.range 72).filter fun n => mask.testBit n && (match snr[n]? with
    | some v => decide (v ≥ snrNeeded mod + 3)
    | none => false)

/-- The tone map that the chip answers (R227): the fastest modulation of the receiving ladder met on at least 12 unmasked carriers,
on those carriers; else ROBO on every carrier of the mask. -/
def buildMap (ladder : List Nat) (mask : Nat) (snr : List Int) : Nat × Nat :=
  match ladder.find? fun m => decide ((goodCarriers mask snr m).length ≥ 12) with
  | some m => (m, ((goodCarriers mask snr m).map (2 ^ ·)).sum)
  | none => (0, mask)

/-- TONE_MAP_REQUEST_RECEIVED (R227). Which ladder of Table PL.2 the receiver uses is free (log entry 66). A standby answers
nothing. -/
def opToneRequest (short : Nat) (snr : List Int) (s : State) : State :=
  if !netRuns s .plc || !mayTransmit s .plc then s
  else
    let ladder := if Config.freeBool s.fresh then [6, 5, 4, 0] else [3, 2, 1, 0]
    let m := buildMap ladder (itemVal s 0x0A02) snr
    emit (.toneMapResponse short m.1 m.2) (draw s)

/-- An edge shows that it works again (R235). -/
def Modem.mend (a b : Nat) (m : Modem) : Modem :=
  let on := fun (k : Link) => (k.src == a && k.dst == b) || (k.src == b && k.dst == a)
  { m with links := (m.links.filter fun k => k.reported || !on k).map fun k => if on k then { k with failedUntil := 0 } else k }

/-- TONE_MAP_RESPONSE_RECEIVED (R228): a requested map becomes VALID, and routes are computed again (R233). -/
def opToneResponse (short mod map cap lqi atten : Nat) (s : State) : State :=
  match if netRuns s .plc then neighbourOf s .plc short else none with
  | none => s
  | some n =>
    if n.state != .requested then s
    else
      let s := onNeighbour .plc short (fun n => { n with
        state := .valid
        mod := mod
        toneMap := map &&& itemVal s 0x0A02
        cap := cap
        lqi := lqi
        lqiRef := lqi
        attenDb := atten
        tmAt := now s
        requests := 0
        probeDue := none
        moreRobust := false
        lastHeard := s.clk }) s
      recompute .plc (onModem .plc (Modem.mend 0 short) s)

/-- TONE_MAP_REQUEST_TIMEOUT (R228): 5 s without a response; after the third request the map is NONE for 60 s. -/
def opToneTimeout (short : Nat) (s : State) : State :=
  match neighbourOf s .plc short with
  | none => s
  | some n =>
    if n.state != .requested || n.probeDue.isSome || decide (s.clk < n.requestAt + secTicks 5) then s
    else if n.requests < 3 then onNeighbour .plc short (Neighbour.ask s.clk) s
    else
      recompute .plc (onNeighbour .plc short (fun n => { n with
        state := .none
        mod := 0
        toneMap := 0
        cap := 0
        requests := 0
        moreRobust := false
        holdoffUntil := s.clk + secTicks 60 }) s)

/-- TONE_MAP_HOLDOFF_EXPIRY (R228). -/
def opToneHoldoff (short : Nat) (s : State) : State :=
  match neighbourOf s .plc short with
  | none => s
  | some n =>
    if n.state != .none || n.holdoffUntil = 0 || decide (s.clk < n.holdoffUntil) then s
    else onNeighbour .plc short (fun n => { n.ask s.clk with holdoffUntil := 0 }) s

/-- TONE_MAP_REFRESH (R228): TM_AT + REFRESH_S has come. -/
def opToneRefresh (short : Nat) (s : State) : State :=
  match neighbourOf s .plc short with
  | none => s
  | some n =>
    if n.state != .valid || decide (now s < n.tmAt + itemVal s 0x0A04 * 65536) then s
    else onNeighbour .plc short (fun n => { n.ask s.clk with requests := 0 }) s

/-- A LINK_PROBE is queued for a neighbour, with the request that it carries. -/
def probe (short : Nat) (s : State) : State :=
  let s := onNeighbour .plc short (fun n => { n with requests := n.requests + 1, requestAt := s.clk, probeDue := none }) s
  sendShort .plc short (ownPriority .linkProbe) .linkProbe s

/-- LINK_PROBE (R228): no frame carried the request within 100 ms. -/
def opLinkProbe (short : Nat) (s : State) : State :=
  match if mayTransmit s .plc && inService s then neighbourOf s .plc short else none with
  | none => s
  | some n =>
    match n.probeDue with
    | some t => if decide (s.clk < t) then s else probe short (timerInput s)
    | none => s

/-! ## Neighbours, links and routes of both networks (R225, R232 to R235, R253) -/

/-- NEIGHBOUR_EXPIRY (R225): unheard for 3,600 s. -/
def opNeighbourExpiry (net : Net) (short : Nat) (s : State) : State :=
  match neighbourOf s net short with
  | none => s
  | some n =>
    if decide (s.clk < n.lastHeard + secTicks 3600) then s
    else onModem net (fun m => { m with neighbours := m.neighbours.filter fun n => n.short != short }) (timerInput s)

/-- A meter's report replaces its links (R232); what it lists works again (R235). -/
def Modem.report (reporter : Nat) (ls : List (Nat × Nat × Nat × Nat)) (m : Modem) : Modem :=
  let m := ls.foldl (fun a l => a.mend l.1 reporter) m
  let fresh : List Link := ls.map fun l => ⟨l.1, reporter, l.2.1, l.2.2.1, l.2.2.2, 0, true⟩
  { m with
    links := ((m.links.filter fun k => !(k.reported && k.dst == reporter)) ++ fresh).take 65536
    routes := m.routes.map fun r => if r.short == reporter then { r with provisional := false } else r }

/-- ROUTE_REPORT_RECEIVED (R232, R233). -/
def opRouteReport (f : RxFrame) (s : State) : State :=
  match f.msg, f.orig with
  | .routeReport ls, .short a => onFrame f s fun _ _ s => recompute f.net (onModem f.net (Modem.report a (ls.take 16)) s)
  | _, _ => s

/-- The upstream list of ROUTE_SET: from the meter's first hop to 0x0000 (Table PL.10). -/
def upstream (hops : List Nat) : List Nat := hops.dropLast.reverse ++ [0]

/-- ROUTE_SET may go to a meter: its route changed, and 60 s have passed since the last or the old route failed (R234); a sleepy meter
must be listening (R255). -/
def routeSetDue (s : State) (net : Net) (r : Route) : Bool :=
  let listens := match s.led.work.byShort net r.short with
    | some (idx, x) => !x.sleepy || awake s idx
    | none => false
  r.state == .valid && r.setPending && listens && (r.urgent || (match r.setAt with
    | some t => decide (t + secTicks 60 ≤ s.clk)
    | none => true))

/-- ROUTE_SET goes to a meter (R234). -/
def sendRouteSet (net : Net) (r : Route) (s : State) : State :=
  let s := putRoute net { r with setPending := false, urgent := false, setAt := some s.clk } s
  let m : Msg := .routeSet (maxHops s net) (itemVal s 0x0A08) (upstream r.hops)
  sendShort net r.short (ownPriority m) m s

/-- ROUTE_SET (R234). -/
def opRouteSet (net : Net) (short : Nat) (s : State) : State :=
  let r := routeTo s net short
  if !inService s || !routeSetDue s net r then s else sendRouteSet net r (timerInput s)

/-- ROUTE_ERROR_RECEIVED (R235): the link from the relay that reports to FAILED_NEXT fails. -/
def opRouteError (f : RxFrame) (s : State) : State :=
  match f.msg, f.orig with
  | .routeError failedNext _ _, .short relay => onFrame f s fun _ _ s => failEdge f.net relay failedNext s
  | _, _ => s

/-- A route under repair ends (R235): a usable path makes it VALID, else it is UNREACHABLE, its meter's requests end with 0x0603. -/
def endRepair (net : Net) (r : Route) (s : State) : State :=
  match bestRoute (pathsNow s net) r.short with
  | some h => putRoute net (r.to h true) s
  | none => failUnreachable net r.short (putRoute net { r with state := .unreachable } s)

/-- ROUTE_REPAIR_TIMEOUT (R235): 30 s of REPAIRING. -/
def opRouteRepair (net : Net) (short : Nat) (s : State) : State :=
  let r := routeTo s net short
  if r.state != .repairing || decide (s.clk < r.repairDue) || !inService s then s else endRepair net r (timerInput s)

/-- LINK_FAIL_EXPIRY (R235): 600 s since the failure. -/
def opLinkFail (net : Net) (src dst : Nat) (s : State) : State :=
  let over_ := fun (k : Link) => k.src == src && k.dst == dst && k.failedUntil != 0 && decide (k.failedUntil ≤ s.clk)
  if (modemOf s net).links.any over_ then
    onModem net (fun m => { m with
      links := (m.links.filter fun k => k.reported || !over_ k).map fun k => if over_ k then { k with failedUntil := 0 } else k })
      (timerInput s)
  else s

/-! ## The rows -/

/-- ZITHER_FRAME_RECEIVED (R219). -/
def execZitherFrameReceived (f : RxFrame) (s : State) : Host.Outcome State Fault Refusal := .next (opZitherFrame f s)

/-- ZITHER_TRANSMIT (R217). -/
def execZitherTransmit (limited : Bool) (s : State) : Host.Outcome State Fault Refusal := .next (opZitherTransmit limited s)

/-- ZITHER_ACK_TIMEOUT (R218). -/
def execZitherAckTimeout (hop : Nat) (s : State) : Host.Outcome State Fault Refusal := .next (opZitherAck hop s)

/-- TONE_MAP_REQUEST_RECEIVED (R227). -/
def execToneMapRequestReceived (short : Nat) (snrDb : List Int) (s : State) : Host.Outcome State Fault Refusal :=
  .next (opToneRequest short snrDb s)

/-- TONE_MAP_RESPONSE_RECEIVED (R228). -/
def execToneMapResponseReceived (short mod map cap lqi attenDb : Nat) (s : State) : Host.Outcome State Fault Refusal :=
  .next (opToneResponse short mod map cap lqi attenDb s)

/-- TONE_MAP_REQUEST_TIMEOUT (R228). -/
def execToneMapRequestTimeout (short : Nat) (s : State) : Host.Outcome State Fault Refusal := .next (opToneTimeout short s)

/-- TONE_MAP_HOLDOFF_EXPIRY (R228). -/
def execToneMapHoldoffExpiry (short : Nat) (s : State) : Host.Outcome State Fault Refusal := .next (opToneHoldoff short s)

/-- TONE_MAP_REFRESH (R228). -/
def execToneMapRefresh (short : Nat) (s : State) : Host.Outcome State Fault Refusal := .next (opToneRefresh short s)

/-- LINK_PROBE (R228). -/
def execLinkProbe (short : Nat) (s : State) : Host.Outcome State Fault Refusal := .next (onTimer (opLinkProbe short) s)

/-- NEIGHBOUR_EXPIRY (R225). -/
def execNeighbourExpiry (net : Net) (short : Nat) (s : State) : Host.Outcome State Fault Refusal :=
  .next (onTimer (opNeighbourExpiry net short) s)

/-- ROUTE_REPORT_RECEIVED (R232). -/
def execRouteReportReceived (f : RxFrame) (s : State) : Host.Outcome State Fault Refusal := .next (opRouteReport f s)

/-- ROUTE_SET (R234). -/
def execRouteSet (net : Net) (short : Nat) (s : State) : Host.Outcome State Fault Refusal := .next (onTimer (opRouteSet net short) s)

/-- ROUTE_ERROR_RECEIVED (R235). -/
def execRouteErrorReceived (f : RxFrame) (s : State) : Host.Outcome State Fault Refusal := .next (opRouteError f s)

/-- ROUTE_REPAIR_TIMEOUT (R235). -/
def execRouteRepairTimeout (net : Net) (short : Nat) (s : State) : Host.Outcome State Fault Refusal :=
  .next (onTimer (opRouteRepair net short) s)

/-- LINK_FAIL_EXPIRY (R235). -/
def execLinkFailExpiry (net : Net) (src dst : Nat) (s : State) : Host.Outcome State Fault Refusal :=
  .next (onTimer (opLinkFail net src dst) s)

/-- CURRENT_LIMIT_RESTORE (R230). -/
def execCurrentLimitRestore (s : State) : Host.Outcome State Fault Refusal := .next (opLimitRestore s)

end Sys2Proof.Machine
end

