-- ==== Sys2Proof/Machine/Lyre.lean ====
section
/-! DEFINITION. The Lyre radio mesh (11_lyre_rf, R240 to R262): receiving with the seen cache, sending under the duty budget, beacons,
and rendezvous with meters that sleep. -/

namespace Sys2Proof.Machine

/-- Lyre's own state changed. -/
def onLyre (f : Lyre → Lyre) (s : State) : State := { s with lyre := f s.lyre }

/-- Airtime in ticks of a frame of some octets at MODE (R254, log entry 16). -/
def lyreAirtime (s : State) (octets : Nat) : Nat := usTicks (airtimeUs (startVal s 0x0B02) octets)

/-- Octets of a MAC acknowledgement and of the chip's beacon, with their PHY headers. PRESUMED: IEEE 802.15.4 (log entry 67). -/
def ackOctets : Nat := 19

/-- See `ackOctets`. -/
def beaconOctets : Nat := 46

/-! ## The seen cache (R249) -/

/-- A frame that floods: CLASS 1, or BROADCAST set. -/
def RxFrame.floods (f : RxFrame) : Bool := f.broadcast || f.msg.cls == 1

/-- The seen cache holds a frame's originator and counter. -/
def seenBefore (s : State) (f : RxFrame) : Bool :=
  s.lyre.seen.any fun e => e.orig == f.orig && e.ctr == f.ctr && decide (s.clk < e.until_)

/-- A frame that passed enters the cache of 8,192 entries for 60 s; the oldest leaves first. -/
def enterSeen (f : RxFrame) (s : State) : State :=
  onLyre (fun l => { l with seen := lastN 8192 (l.seen ++ [⟨f.orig, f.ctr, s.clk + secTicks 60⟩]) }) s

/-! ## Rendezvous: prediction and ladder (R255 to R258) -/

/-- phase_ms (R255): E is the low 16 bits of the EUI-64. -/
def phaseMs (eui : Bytes) (wakePeriodS : Nat) : Nat :=
  let e := (eui.getD 6 0).toNat * 256 + (eui.getD 7 0).toNat
  e * 40503 % 65536 * wakePeriodS * 1000 / 65536

/-- t_pred of a listen instant M of meter time (R256), solved for the drift that runs to it. -/
def predict (c : RecClock) (m : LTime) : LTime :=
  ((((m : Int) - c.offset) * 1000000000 + c.driftPpb * c.offsetAt) / (1000000000 + c.driftPpb)).toNat

/-- U in whole ms, rounded up (R256). -/
def uncertainty (qMs : Nat) (c : RecClock) (t : LTime) : Nat :=
  5 + qMs + ceilDiv (max 8000 c.driftPpb.natAbs * (t - c.offsetAt)) (4 * 65536 * 1000000)

/-- Least step of the ladder for an uncertainty (R258). -/
def trainStep (guardMs u : Nat) : Nat := ((List.range 32).find? fun j => decide (guardMs * 2 ^ j ≥ u)).getD 31

/-- A planned train: START, the step and H in ms it uses, its end. -/
structure TrainPlan where
  start : LTime
  step : Nat
  halfMs : Nat
  ends : LTime
  deriving DecidableEq, Repr

/-- LTIME units in a count of ms, rounded up. -/
def ltMs (n : Nat) : LTime := ceilDiv (n * 65536) 1000

/-- The train for one listen instant M (R257, R258). -/
def trainFor (v : Rendezvous) (p : SleepProfile) (c : RecClock) (q : Nat) (m : LTime) : TrainPlan :=
  let t := predict c m
  let step := max v.step (trainStep p.guardMs (uncertainty q c t))
  let h := min (p.guardMs * 2 ^ step) (p.wakePeriodS * 500)
  ⟨t - ltMs h, step, h, t + ltMs (h + p.listenMs)⟩

/-- A meter's rendezvous state. -/
def rendezvousOf (s : State) (idx : Nat) : Rendezvous :=
  (s.lyre.rendezvous.find? fun v => v.idx == idx).getD (Rendezvous.blank idx)

/-- Q now (R256): after a start it counts as FLOOD_TTL × FLOOD_WINDOW_MS until it is measured. -/
def qNow (s : State) (v : Rendezvous) : Nat := if v.qKnown then v.qMs else itemVal s 0x0B06 * itemVal s 0x0B07

/-- The first train whose START is at or after an instant. -/
def planTrain (s : State) (idx : Nat) (r : Rec) (p : SleepProfile) (base : LTime) : Option TrainPlan :=
  let v := rendezvousOf s idx
  let base := max base v.window
  let period := p.wakePeriodS * 1000
  let meterMs := (((base : Int) + r.clock.offset).toNat * 1000) / 65536
  let n0 := (meterMs - phaseMs (r.identity.take 8) p.wakePeriodS) / period
  ((List.range 5).map fun k =>
    trainFor v p r.clock (qNow s v) (ltMs (phaseMs (r.identity.take 8) p.wakePeriodS + (n0 + k) * period))).find? fun x =>
      decide (x.start ≥ base)

/-- The parent of a sleepy meter (R253): none where it is the chip. -/
def parentOf (s : State) (r : Rec) : Option Nat := (routeTo s .rf r.net.short).hops.dropLast.getLast?

/-- The session of a sleepy meter that waits for a rendezvous, with its record and profile: its meter joined on Lyre with a usable
route, asleep, not LOST, no train of it under way. -/
def awaiting (s : State) (idx : Nat) : Option (Session × Rec × SleepProfile) :=
  match sessionOf s idx, getRec s idx with
  | some x, some r =>
    match profileOf s r.cls with
    | some p =>
      let v := rendezvousOf s idx
      if x.state == .pending && r.sleepy && r.net.network == some .rf && r.net.state == .joined && !awake s idx && !v.lost &&
        v.trainStart.isNone && (routeTo s .rf r.net.short).state == .valid && mayExchange s then some (x, r, p) else none
    | none => none
  | _, _ => none

/-- A train of the chip's own is on air (R257); a hold ends it at the next frame boundary (R261). -/
def trainOnAir (s : State) : Bool :=
  !warned s && s.lyre.rendezvous.any fun v =>
    v.orderDue.isNone && (match v.trainStart with
      | some t => decide (t ≤ s.clk) && decide (s.clk < v.trainEnd)
      | none => false)

/-- The tick of an instant of chip time, seen from now. -/
def tickAt (s : State) (t : LTime) : Nat := if t ≥ now s then s.clk + ltTicks (t - now s) else s.clk - ltTicks (now s - t)

/-- Two spans meet. -/
def spansMeet (a b c d : Nat) : Bool := decide (a ≤ d) && decide (c ≤ b)

/-- A train that would overlap on one transmitter (R259): one under way there, or one whose session started first. -/
def overlaps (s : State) (x : Session) (parent : Option Nat) (t : TrainPlan) : Bool :=
  let a := tickAt s t.start
  let b := tickAt s t.ends
  let under := s.lyre.rendezvous.any fun v => v.idx != x.idx && (match v.trainStart, getRec s v.idx with
    | some c, some r => parentOf s r == parent && spansMeet a b c v.trainEnd
    | _, _ => false)
  let first := s.meters.sessions.any fun y => y.idx != x.idx && decide (y.startedAt < x.startedAt) && (match awaiting s y.idx with
    | some (_, r, p) => parentOf s r == parent && (match planTrain s y.idx r p (now s) with
      | some u => spansMeet t.start t.ends u.start u.ends
      | none => false)
    | none => false)
  under || first

/-- The meter's next listen instant is sought after this train's START (R258, R259). -/
def nextInstant (idx : Nat) (t : TrainPlan) (s : State) : State := onRendezvous idx (fun v => { v with window := t.start + 1 }) s

/-- A train is under way: which, from when to when. -/
def trainBegins (idx : Nat) (t : TrainPlan) (ordered : Option Nat) (s : State) : State :=
  onRendezvous idx (fun v => { v with
    step := t.step
    halfMs := t.halfMs
    orderDue := ordered
    trainStart := some (tickAt s t.start)
    trainEnd := tickAt s t.ends
    window := t.start + 1 }) s

/-! ## Rendezvous: the rows -/

/-- RENDEZVOUS_ORDER_SEND (R257): at least 2 s before START the meter parent is ordered to send the train. -/
def opRendezvousOrder (idx : Nat) (s : State) : State :=
  match awaiting s idx with
  | none => s
  | some (x, r, p) =>
    match parentOf s r, planTrain s idx r p (now s + ltSec 2) with
    | some parent, some t =>
      if overlaps s x (some parent) t then nextInstant idx t (timerInput s)
      else
        let s := trainBegins idx t (some t.start) (timerInput s)
        let m : Msg := .rendezvousOrder r.net.short t.start t.halfMs p.listenMs
        sendShort .rf parent (ownPriority m) m s
    | _, _ => s

/-- RENDEZVOUS_TRAIN_START (R257): START of the chip's own train has come. A train that overlaps, or that the duty budget does not
cover, moves to the next listen instant (R259). -/
def opTrainStart (idx : Nat) (s : State) : State :=
  match awaiting s idx with
  | none => s
  | some (x, r, p) =>
    match parentOf s r, planTrain s idx r p (now s - ltMs 1) with
    | none, some t =>
      let air := ltTicks (t.ends - t.start)
      if t.start > now s then s
      else if overlaps s x none t || (isActive s && (!dutyAdmits s air || !mayTransmit s .rf)) then nextInstant idx t (timerInput s)
      else
        let s := trainBegins idx t none (timerInput s)
        if isActive s then dutySpend air (emit (.wakeTrain idx t.halfMs p.listenMs) s) else s
    | _, _ => s

/-- A train is over. -/
def trainOver (v : Rendezvous) : Rendezvous := { v with trainStart := none, orderDue := none }

/-- A meter listens for a while; a session that waits for it goes on. -/
def meterAwake (idx ms : Nat) (s : State) : State :=
  let s := onRendezvous idx (fun v => { v with awakeUntil := max v.awakeUntil (s.clk + msTicks ms) }) s
  match sessionOf s idx with
  | some x => if x.state == .pending && mayExchange s then proceed idx s else s
  | none => s

/-- WAKE_ACK_RECEIVED (R257, R258): a new offset, the ladder back to U, and the meter's session opens. -/
def opWakeAck (f : RxFrame) (s : State) : State :=
  match f.msg with
  | .wakeAck tm =>
    onFrame f s fun idx r s =>
      let s := noteFine idx true false (patchMeter idx (sampleFrame idx tm f s) [] s)
      let s := onRendezvous idx (fun v => { trainOver v with step := 0, fullFails := 0, lost := false }) s
      meterAwake idx (((profileOf s r.cls).map (·.awakeMs)).getD 0) s
  | _ => s

/-- RENDEZVOUS_TRAIN_FAILED (R257, R258): no WAKE_ACK by the train's end and 50 ms, or the class's response timeout with a meter
parent. The step rises by one; after two failures at full coverage the rendezvous is LOST. -/
def opTrainFailed (idx : Nat) (s : State) : State :=
  let v := rendezvousOf s idx
  match v.trainStart, getRec s idx with
  | some _, some r =>
    let wait := if v.orderDue.isSome then timeoutTicks s r else msTicks 50
    if decide (s.clk < v.trainEnd + wait) then s
    else
      let full := match profileOf s r.cls with
        | some p => decide (v.halfMs ≥ p.wakePeriodS * 500)
        | none => false
      let s := timerInput s
      let s := onMac .rf (fun c => { c with rendezvousFailed := inc64 c.rendezvousFailed }) s
      onRendezvous idx (fun v => { trainOver v with
        step := v.step + 1
        fullFails := v.fullFails + bit full
        lost := decide (v.fullFails + bit full ≥ 2) }) s
  | _, _ => s

/-- CHECK_IN_RECEIVED (R255): the frame gives a clock offset and opens a reply window. -/
def opCheckIn (f : RxFrame) (s : State) : State :=
  match f.msg with
  | .checkIn tm _ =>
    onFrame f s fun idx r s =>
      replyWindow idx r (noteFine idx true true (patchMeter idx (sampleFrame idx tm f s) [] s))
  | _ => s

/-- INSTALL_BEACON_RECEIVED (R247): the 64 most recent distinct senders are kept; it gets no answer. -/
def opInstallBeacon (f : RxFrame) (measured : Int) (s : State) : State :=
  match f.msg with
  | .installBeacon caps rssi =>
    onFrame f s fun idx r s =>
      let eui := r.identity.take 8
      let n := ((s.lyre.install.find? fun i => i.eui == eui).map (·.count)).getD 0
      let entry : InstallSender := ⟨eui, caps, rssi, measured, f.rxTime, min (n + 1) 0xFFFFFFFF⟩
      replyWindow idx r (onLyre (fun l => { l with install := lastN 64 ((l.install.filter fun i => i.eui != eui) ++ [entry]) }) s)
  | _ => s

/-! ## Lyre's frames (R244, R245, R249) -/

/-- The checks of R249 after the MAC's: the seen cache, R18, and the cache's entry. -/
def lyreCheck (f : RxFrame) (s : State) : State :=
  if f.floods && seenBefore s f then onMac .rf (fun c => { c with rxFloodCopy := inc64 c.rxFloodCopy }) s
  else
    let p := judgeFrame f s
    if p.2 then enterSeen f p.1 else p.1

/-- LYRE_FRAME_RECEIVED (R249). An acknowledgement counts against the budget (R245); nothing is received while the chip's own train
is on air (R257). -/
def opLyreFrame (f : RxFrame) (s : State) : State :=
  if f.net != .rf || !netRuns s .rf || trainOnAir s then s
  else
    let acks := f.fcsOk && f.unicast && mayAck s .rf
    let p := receiveMac f s
    let s' := if acks then dutySpend (lyreAirtime s ackOctets) p.1 else p.1
    if !p.2 then s'
    else if f.orig == .short 0 then ownOrigin f s'
    else lyreCheck f s'

/-- A frame goes out and its airtime is spent. -/
def lyreSend (f : TxFrame) (airtime : Nat) (s : State) : Option State := (sendFirst f s).map (dutySpend airtime)

/-- LYRE_TRANSMIT (R244, R245): the frame on air before was acknowledged; the next goes out, or is held where the budget does not allow
it. -/
def opLyreTransmit (airtime : Nat) (s : State) : State :=
  if !mayTransmit s .rf || trainOnAir s then s
  else
    let s := dropLost .rf (airDone .rf s)
    match nextFrame s .rf with
    | none => s
    | some f =>
      if dutyAdmits s airtime then
        match lyreSend f airtime s with
        | some s' => dequeue f s'
        | none => s
      else
        onMac .rf (fun c => { c with txHeld := inc64 c.txHeld })
          (onLyre (fun l => { l with duty := { l.duty with held := l.duty.held ++ [(f, airtime)] } }) (dequeue f s))

/-- LYRE_ACK_TIMEOUT (R244): at most 4 transmissions in all; a repeat waits for the budget (R245). -/
def opLyreAck (hop airtime : Nat) (s : State) : State :=
  match if mayTransmit s .rf && !trainOnAir s then onAirTo s .rf hop else none with
  | none => s
  | some o =>
    if o.sends ≥ 4 then giveUp o s
    else if dutyAdmits s airtime then dutySpend airtime (resend o s)
    else s

/-- DUTY_BUDGET_RELEASE (R245): a held frame goes once the budget admits it. -/
def opDutyRelease (s : State) : State :=
  if !mayTransmit s .rf || trainOnAir s then s
  else match s.lyre.duty.held.find? fun h => dutyAdmits s h.2 with
    | none => s
    | some h =>
      match lyreSend h.1 h.2 s with
      | some s' => onLyre (fun l => { l with duty := { l.duty with held := l.duty.held.erase h } }) s'
      | none => s

/-- LYRE_BEACON_TIMER (R246): the enhanced beacon, every BEACON_S. -/
def opLyreBeacon (s : State) : State :=
  let air := lyreAirtime s beaconOctets
  if !netRuns s .rf || !mayTransmit s .rf || trainOnAir s || decide (s.clk < s.lyre.beaconDue) || !dutyAdmits s air then s
  else
    let o : Output := .rfBeacon (itemVal s 0x0B06) (leInt (itemNow s 0x0B04) 0 1) (itemVal s 0x0B07) (bkeyIndex s)
    onLyre (fun l => { l with beaconDue := s.clk + secTicks (itemVal s 0x0B0E) }) (dutySpend air (emit o s))

/-- SEEN_CACHE_EXPIRY (R249). -/
def opSeenExpiry (orig : Addr) (ctr : Nat) (s : State) : State :=
  onLyre (fun l => { l with seen := l.seen.filter fun e => !(e.orig == orig && e.ctr == ctr && decide (e.until_ ≤ s.clk)) }) s

/-! ## The rows -/

/-- LYRE_FRAME_RECEIVED (R249). -/
def execLyreFrameReceived (f : RxFrame) (s : State) : Host.Outcome State Fault Refusal := .next (opLyreFrame f s)

/-- LYRE_TRANSMIT (R244). -/
def execLyreTransmit (airtime : Nat) (s : State) : Host.Outcome State Fault Refusal := .next (opLyreTransmit airtime s)

/-- LYRE_ACK_TIMEOUT (R244). -/
def execLyreAckTimeout (hop airtime : Nat) (s : State) : Host.Outcome State Fault Refusal := .next (opLyreAck hop airtime s)

/-- DUTY_BUDGET_RELEASE (R245). -/
def execDutyBudgetRelease (s : State) : Host.Outcome State Fault Refusal := .next (opDutyRelease s)

/-- LYRE_BEACON_TIMER (R246). -/
def execLyreBeaconTimer (s : State) : Host.Outcome State Fault Refusal := .next (opLyreBeacon s)

/-- SEEN_CACHE_EXPIRY (R249). -/
def execSeenCacheExpiry (orig : Addr) (ctr : Nat) (s : State) : Host.Outcome State Fault Refusal := .next (opSeenExpiry orig ctr s)

/-- CHECK_IN_RECEIVED (R255). -/
def execCheckInReceived (f : RxFrame) (s : State) : Host.Outcome State Fault Refusal := .next (opCheckIn f s)

/-- INSTALL_BEACON_RECEIVED (R247). -/
def execInstallBeaconReceived (f : RxFrame) (measured : Int) (s : State) : Host.Outcome State Fault Refusal :=
  .next (opInstallBeacon f measured s)

/-- RENDEZVOUS_ORDER_SEND (R257). -/
def execRendezvousOrderSend (idx : Nat) (s : State) : Host.Outcome State Fault Refusal := .next (onTimer (opRendezvousOrder idx) s)

/-- RENDEZVOUS_TRAIN_START (R257). -/
def execRendezvousTrainStart (idx : Nat) (s : State) : Host.Outcome State Fault Refusal := .next (onTimer (opTrainStart idx) s)

/-- WAKE_ACK_RECEIVED (R257). -/
def execWakeAckReceived (f : RxFrame) (s : State) : Host.Outcome State Fault Refusal := .next (opWakeAck f s)

/-- RENDEZVOUS_TRAIN_FAILED (R258). -/
def execRendezvousTrainFailed (idx : Nat) (s : State) : Host.Outcome State Fault Refusal := .next (onTimer (opTrainFailed idx) s)

end Sys2Proof.Machine
end

