-- ==== Sys2Proof/Machine/Stream.lean ====
section
/-! DEFINITION. The input stream as the standby takes it (15_twill_twin R349 to R352, R367): each input of the active is processed
at its ARRIVAL, in INPUT_SEQ order, up to WATERMARK. -/

namespace Sys2Proof.Machine

/-! ## The instant of an input -/

/-- The timebase that reads exactly an LTIME. -/
def tbAt (s : State) (l : LTime) : Timebase :=
  { s.tb with
    c0 := s.tb.c
    t0 := ((ceilDiv (l * 1000000000) 65536 + 946684800 * 1000000000 : Nat) : Int) * 65536
    rate := 0 }

/-- Work done at the instant of an input: chip time reads its ARRIVAL and the clock the tick of it. A step of chip time that the
work makes stays (R280). -/
def asAt (arrival : LTime) (slack : Nat) (f : State → State) (s : State) : State :=
  let tb := tbAt s arrival
  let s' := f { s with
    tb := tb
    clk := tickAt s arrival + slack }
  { s' with
    clk := s.clk
    tb := { s.tb with t0 := s.tb.t0 + (s'.tb.t0 - tb.t0) } }

/-- What a timer's instant allows for rounding of ARRIVAL to LTIME: 1 ms (DESIGN CHOICE, log entry 70). -/
def timerSlack : Nat := msTicks 1

/-! ## Commands (R352) -/

/-- The bodies of the changing commands whose row is their body alone. -/
def changingBodies : List (Nat × (Cmd → State → Answer)) := [
  (0x0105, bodySysSetRole), (0x0201, bodyMtrAdmit), (0x0202, bodyMtrRelease), (0x0206, bodyMtrReadNow),
  (0x0207, bodyMtrDlms), (0x0208, bodyMtrSetSchedule), (0x0301, bodyLdgPin), (0x0302, bodyLdgUnpin),
  (0x0303, bodyLdgName), (0x0304, bodyLdgDropName), (0x0309, bodyLdgSetPeriod), (0x0401, bodyValLoadRules),
  (0x0403, bodyValEdit), (0x0404, bodyValRevalidate), (0x0501, bodyTrfLoadSchedule), (0x0502, bodyTrfLoadCalendar),
  (0x0504, bodyTrfPush), (0x0601, bodyPpyCredit), (0x0603, bodyPpySetFriendly), (0x0604, bodyPpyDisconnect),
  (0x0605, bodyPpyReconnect), (0x0606, bodyPpyOwnRelay), (0x0701, bodyBalLoadGroups), (0x0703, bodyBalSnapshot),
  (0x0803, bodyTimLoadZone), (0x0804, bodyTimPtpConfig), (0x0901, bodyKeyDerive), (0x0902, bodyKeyImport),
  (0x0903, bodyKeyReplace), (0x0904, bodyKeyErase), (0x0A04, bodyCampaignStart), (0x0A06, bodyCampaignAbort),
  (0x0C04, bodyStoWrite), (0x0C05, bodyStoDiscard), (0x0C06, bodyStoSetThreshold), (0x0D01, bodyPnlOled),
  (0x0D02, bodyPnlAnnunciator), (0x0D03, bodyPnlPlacard)]

/-- The chip-local commands (Table TW.8). -/
def chipLocal (op : Nat) : Bool := [0x0106, 0x0906, 0x0A01, 0x0A02, 0x0A03, 0x0B01, 0x0B02, 0x0B03, 0x0B04, 0x0E01, 0x0E04].contains op

/-- A changing command runs as its row on the active does. -/
def runChanging (c : Cmd) (s : State) : State :=
  if c.opcode = 0x0104 then opSysSetConfig c s
  else if c.opcode = 0x0308 then opLdgCloseEpoch c s
  else if c.opcode = 0x0802 then opTimSet c s
  else match changingBodies.find? fun b => b.1 == c.opcode with
    | some b => runDcs c.opcode c b.2 s
    | none => s

/-- A command of the stream (R352): computed and cached without being posted; of a chip-local one only the active's audit record. -/
def takeCommand (c : Cmd) (frame : Bytes) (audit : Option Audit) (s : State) : State :=
  if chipLocal c.opcode then
    match audit with
    | some a => limitClose (addGroup [.audit a] none true false s)
    | none => s
  else
    let known := s.inflight.any fun f => f.cmd == c && f.waitCommit.isNone
    let s := if known then s else { s with
      inflight := s.inflight ++ [⟨s.nextSeq, c, frame, [.dropped], none, true, none, none, s.clk⟩]
      nextSeq := s.nextSeq + 1 }
    runChanging c s

/-! ## Timers (R349, kind 6) -/

/-- Timers of the ledger, the boundaries and the balance. -/
def ledgerTimer (t : TwinTimer) (s : State) : State :=
  match t with
  | .epochBoundary => onTime (fun x => { x with lastUtcCount := s.led.work.utc (now s) }) s
  | .boundary k => evalDue (boundaryKey (now s) k) s
  | .rulesEffective => rulesEffective s
  | .groupsEffective => opGroupTableEffective s
  | .dailyReclaim => opDailyReclaim s
  | .spaceRequest => spaceStep s
  | .disconnectDue i => opDisconnectDue i s
  | .balanceFirst g x => opBalanceFirst g x s
  | .balanceFinal g x => opBalanceFinal g x s
  | .periodicSnapshot g => opPeriodicSnapshot g s
  | .snapshotOrder i => opSnapshotOrder i s
  | .snapshotLatch i ps => opSnapshotLatch i ps s
  | .snapshotFetch i => opSnapshotFetch i s
  | .snapshotTimeout i => opSnapshotTimeout i s
  | .snapshotDone i => opSnapshotDone i s
  | .phaseCorrelation => opPhaseCorrelation s
  | .branchInference => opBranchInference s
  | .peakDayClear => opPeakDayClear s
  | .feederMinute m => opFeederMinute m s
  | .leapSecond => opLeapSecond s
  | .timeStep units kind => afterStep units (append (stepItems units kind (stepT units s)) none (stepT units s))
  | .utcTaken o l => takeUtc o l s
  | _ => s

/-- Timers of the meters and the field networks. -/
def fieldTimer (t : TwinTimer) (s : State) : State :=
  match t with
  | .scheduledSlot i e => opScheduledSlot i e s
  | .pendingSlot i => opPendingSlot i s
  | .retryGap i => opRetryGap i s
  | .responseTimeout i => opResponseTimeout i s
  | .sessionDeadline i => opSessionDeadline i s
  | .commandDeadline r tag => opCommandDeadline r tag s
  | .relayRecheck i fb => opRelayRecheck i fb s
  | .meterSilent i => opMeterSilent i s
  | .joinResend i => opJoinResend i s
  | .joinWindow i => opJoinWindow i s
  | .joiningWait i => opJoiningWait i s
  | .quarantine n a => opQuarantine n a s
  | .routeRepair n a => opRouteRepair n a s
  | .campaignRound k => opRoundStart k s
  | .campaignBlock k => opBlockPace k s
  | .campaignGap k => opRoundGap k s
  | .campaignActivate k => opActivateAt k s
  | .rendezvousOrder i => opRendezvousOrder i s
  | .prevBkey => opPrevBkey s
  | .neighbourExpiry n a => opNeighbourExpiry n a s
  | .routeSet n a => opRouteSet n a s
  | .linkFail n a b => failEdge n a b s
  | .linkExpiry n a b => opLinkFail n a b s
  | .linkProbe a => probe a s
  | .trainStart i => opTrainStart i s
  | .trainFailed i => opTrainFailed i s
  | _ => s

/-- A timer at its instant. -/
def takeTimer (t : TwinTimer) (s : State) : State := fieldTimer t (ledgerTimer t s)

/-! ## Inputs -/

/-- A relay-sequence result, or a contact's reading (kind 3). -/
def takeRelay (n : Nat) (r : RelayItem) (already : Bool) (s : State) : State :=
  match s.met.relays.find? fun q => q.relay == n with
  | some q => if already then relayInPlace q s else relayEnds q r s
  | none => append (.relay n r :: if r.fault = 0 then [] else [.event (relayEvent s n r)]) none s

/-- A field frame of the stream (kind 1). -/
def takeRxInput (f : RxFrame) (s : State) : State := if (sourceOf s f).isNone then queueRx f s else acceptFrame f s

/-- One input's processing, by its kind (R349). -/
def processInput (i : TwinInput) (s : State) : State :=
  match i with
  | .frame f => takeRxInput f s
  | .metrology m => takeMetFrame m s
  | .relayResult n r already => takeRelay n r already s
  | .command c frame audit => takeCommand c frame audit s
  | .delivery seg c =>
    match subItems seg c s with
    | some items => takeEpoch seg c items s
    | none => s
  | .forwarded seg c => takeForwarded seg c s
  | .timer t => takeTimer t s
  | .warning _ _ => onTwin (fun x => { x with activeHold := true }) s
  | .recovery => onTwin (fun x => { x with activeHold := false }) s
  | .event e => raiseEv e s
  | .securityFail idx raises net => securityFail idx raises (some net) s

/-- The allowance of an input's instant. -/
def TwinInput.slack : TwinInput → Nat
  | .timer _ => timerSlack
  | _ => 0

/-- An input taken from the stream at its ARRIVAL (R349, R350). -/
def takeInput (seq : Nat) (arrival : LTime) (i : TwinInput) (s : State) : State :=
  asAt arrival i.slack (processInput i) (resumeInput seq s)

/-! ## The buffer (R349, R351, R367) -/

/-- A standby's epoch closes as the active's did (R351). An epoch of another number is a break of the stream. -/
def takeClose (epoch : Nat) (closed : LTime) (cause : Nat) (s : State) : State :=
  if openNum s = epoch then asAt closed 0 (closeNow cause) s else leaveSync 1 s

/-- The standby has left sync or never joined: what it buffered is of no use (R367). -/
def streamOff (s : State) : Bool :=
  match s.twin.resync with
  | some r => r.asStandby && !r.joined
  | none => s.twin.inert

/-- Every epoch before the one that a joined standby buffers has been applied (R367). -/
def applied (e : Nat) (s : State) : Bool := s.led.lastCommitted == e && s.led.epochs.isEmpty

/-- The buffered epoch opens: it follows the close of the last one sent, at that instant. -/
def openBuffered (e : Nat) (closed : LTime) (s : State) : State :=
  openNext closed false (onLed (fun l => { l with highA := some e, highB := some e })
    (onTwin (fun t => { t with resync := none }) s))

/-- What the first buffered item does, if it may be taken now. -/
def takeItem (i : TwinItem) (s : State) : Option State :=
  match i with
  | .input seq arrival x =>
    if streamOff s then some s
    else if s.twin.resync.isSome || decide (s.twin.watermark < seq) then none
    else some (takeInput seq arrival x s)
  | .close e closed cause =>
    match s.twin.resync with
    | some r =>
      if !r.joined then some s
      else if applied e s then some (openBuffered e closed s)
      else none
    | none => some (takeClose e closed cause s)

/-- The buffered items that may be taken, oldest first. -/
def drainN : Nat → State → State
  | 0, s => s
  | n + 1, s =>
    match s.twinBuffer with
    | [] => s
    | i :: rest =>
      match takeItem i { s with twinBuffer := rest } with
      | some s' => drainN n s'
      | none => s

/-- The standby takes what its buffer allows. -/
def drain (s : State) : State := if isStandby s then drainN s.twinBuffer.length s else s

/-- A break of the stream on a standby: it leaves sync, or begins its plan again (R353, R367). -/
def breakStream (reason : Nat) (s : State) : State :=
  let s := { s with twinBuffer := [] }
  if s.twin.inSync then leaveSync reason s else startResync s

/-- A buffered input's size in bytes: the form of an input's body is not stated, so it is free (log entry 3). -/
def bufferFits (s : State) : Bool :=
  match s.twin.resync with
  | some r => decide (r.buffered + Config.freeNat s.fresh % 65536 ≤ 268435456)
  | none => true

/-- One more input in the buffer; while earlier epochs are applied it counts against 256 MiB (R367). -/
def bufferInput (seq : Nat) (arrival : LTime) (i : TwinInput) (s : State) : State :=
  let size := Config.freeNat s.fresh % 65536
  let s := draw { s with twinBuffer := s.twinBuffer ++ [.input seq arrival i] }
  onTwin (fun t => { t with resync := t.resync.map fun r => { r with buffered := r.buffered + size } }) s

/-- INPUT_RECEIVED (R349): an input out of order is a missing frame (R344); one taken before is ignored; a buffer that overflows
begins the plan again (R367). -/
def opInput (seq : Nat) (arrival : LTime) (i : TwinInput) (s : State) : State :=
  if !isStandby s || soloSet s then s
  else if streamOff s then onTwin (fun t => { t with inputSeq := max t.inputSeq seq }) s
  else if seq ≤ s.twin.inputSeq then s
  else if seq != s.twin.inputSeq + 1 then breakStream 1 (onTwin (fun t => { t with inputSeq := seq }) s)
  else
    let s := onTwin (fun t => { t with inputSeq := seq }) s
    if bufferFits s then drain (bufferInput seq arrival i s) else breakStream 1 (draw s)

/-- CLOSE_RECEIVED (R351, R367): queued behind the inputs before it. After RESYNC_DONE the first one is the boundary at which
the standby joins. -/
def opClose (epoch : Nat) (closed : LTime) (cause : Nat) (s : State) : State :=
  if !isStandby s || soloSet s then s
  else
    let item := TwinItem.close epoch closed cause
    match s.twin.resync with
    | some r =>
      if r.asStandby && r.done && !r.joined then
        drain { onTwin (fun t => { t with resync := some { r with joined := true, fromEpoch := epoch, buffered := 0 } }) s with
          twinBuffer := [item] }
      else if r.joined then drain { s with twinBuffer := s.twinBuffer ++ [item] }
      else s
    | none => if s.twin.inert then s else drain { s with twinBuffer := s.twinBuffer ++ [item] }

/-- APPEND_MARK_RECEIVED (R351). Marks of epochs no longer open are dropped. -/
def opMark (key epoch : Nat) (s : State) : State :=
  if !isStandby s || streamOff s then s
  else onTwin (fun t => { t with
    marks := insertNat key epoch (t.marks.filter fun m => decide (m.2 > s.led.lastCommitted)) }) s

end Sys2Proof.Machine
end

