-- ==== Sys2Proof/Machine/Twin.lean ====
section
/-! DEFINITION. The pair (15_twill_twin): status bytes, the Twill link, negotiation, roles, the claim, takeover and the discrete
lines (R342 to R348, R358 to R360, R368). -/

namespace Sys2Proof.Machine

/-! ## Settings and status -/

/-- PAIR_KEYS (Table TW.13). -/
def pairKeys (s : State) : Bytes := itemNow s 0x0F01

/-- A twin may be negotiated with: DEPLOYED, SOLO 0, PAIR_KEYS set, no ALT [5] in this start (R345, R402). -/
def negotiates (s : State) : Bool :=
  s.keys.lifecycle == .deployed && !soloSet s && !allZero (pairKeys s) && !s.boot.altApplied.testBit 5

/-- SELF (Table TW.7). -/
def selfByte (s : State) : Nat :=
  s.twin.role.code + 4 * bit s.twin.inSync + 8 * bit (soloSet s) + 16 * bit s.twin.resync.isSome

/-- PARTNER (Table TW.7). -/
def partnerByte (s : State) : Nat :=
  s.twin.partner.code + 8 * (if s.twin.partner == .failed then s.twin.cause else 0)

/-- TWIN_STATE. -/
def raiseTwinState (s : State) : State := raiseHw 0x0801 (putLe 1 (selfByte s) ++ putLe 1 (partnerByte s)) s

/-- The pin of a resynchronisation is released: what only it kept readable goes (R366). -/
def dropPin (s : State) : State :=
  if (s.twin.resync.bind (·.pin)).isNone then s
  else pruneReadable (onTwin (fun t => { t with resync := t.resync.map fun r => { r with pin := none } }) s)

/-- The active ends a resynchronisation that it serves, and its mirror. -/
def endService (s : State) : State :=
  if !isActive s then s
  else
    let s := dropPin s
    onTwin (fun t => { t with resync := none, mirror := false }) s

/-- The partner's state becomes another (Table CI.4): TWIN_STATE; a standby that is no longer STANDBY is not mirrored, and epochs that
waited for it go on (Table LG.2). DEDUCED: the event is raised at each such change. -/
def setPartner (p : Partner) (cause : Nat) (s : State) : State :=
  let c := if p == .failed then cause else 0
  if s.twin.partner == p && s.twin.cause == c then s
  else
    let s := if p == .standby then s else endService s
    advance (raiseTwinState (onTwin (fun t => { t with partner := p, cause := c }) s))

/-- A partner that is FAILED with cause 6 or 7 (R368). -/
def partnerBarred (s : State) : Bool := s.twin.partner == .failed && (s.twin.cause == 6 || s.twin.cause == 7)

/-! ## The link (R343, R344) -/

/-- HEARTBEAT_SEND (R343, Table TW.4): the ends of the counter blocks that it names are noted (R223). -/
def opHeartbeatSend (s : State) : State :=
  if s.boot.phase != .running || decide (s.boot.stage < 7) || !s.twin.link.trained then s
  else
    let body := putLe 1 (selfByte s) ++ putLe 1 (partnerByte s) ++ zeros 6 ++ putLe 8 (epochHigh s) ++
      putLe 8 s.twin.inputSeq ++ putLe 8 s.zither.reservedEnd ++ putLe 8 s.rf.reservedEnd
    emit (.twill 0x03 body) (onTwin (fun t => { t with sentEnds := (s.zither.reservedEnd, s.rf.reservedEnd) }) s)

/-- The partner's state as its SELF byte tells it, in the sense of PARTNER: a standby counts as STANDBY only while it is IN_SYNC and
mirrored. -/
def partnerFrom (self : Nat) (s : State) : Partner :=
  match self % 4 with
  | 0 => .starting
  | 1 => .active
  | _ => if bitOf self 2 && (isStandby s || s.twin.mirror) then .standby else .present

/-- Whether a heartbeat may change the partner's state: FAILED stays, but for a partner lost or yielded that is heard again (R359,
R361). -/
def partnerHeals (s : State) : Bool := s.twin.partner != .failed || s.twin.cause == 8 || s.twin.cause == 9

/-- What a standby learns from the active's SELF and PARTNER: SOLO set makes it inert (R369); a view of PRESENT without SOLO ends
inertness (R370). -/
def standbyHears (self partner : Nat) (s : State) : State :=
  if !isStandby s then s
  else if bitOf self 3 then
    if s.twin.inert then s
    else
      let s := if s.twin.inSync then
          emit (.twill 0x13 (putLe 1 5 ++ zeros 7 ++ putLe 8 (openNum s))) s
        else s
      { onTwin (fun t => { t with inert := true, inSync := false, resync := none }) s with twinBuffer := [] }
  else if s.twin.inert && partner % 8 == Partner.present.code then
    startResync (onTwin (fun t => { t with inert := false }) s)
  else if !s.twin.inSync && !s.twin.link.trained && !s.twin.inert && inService s then startResync s
  else s

/-- HEARTBEAT_RECEIVED (R343, R349, R223): it acknowledges this chip's frames, names the counter blocks and the WATERMARK, and the
standby takes the inputs up to it. -/
def opHeartbeat (self partner high mark zCtr lCtr : Nat) (s : State) : State :=
  if s.boot.phase != .running || decide (s.boot.stage < 7) then s
  else
    let s := standbyHears self partner s
    let s := onTwin (fun t => { t with
      link := { t.link with trained := true, unacked := [], lastValid := s.clk }
      partnerEpochHigh := high
      partnerZitherEnd := zCtr
      partnerLyreEnd := lCtr
      watermark := if t.role == .standby then max mark t.watermark else t.watermark
      lines := { t.lines with
        partnerInhibitLow := if self % 4 = 0 then t.lines.partnerInhibitLow else false } }) s
    let s := onModem .plc (fun m => { m with usableEnd := max m.usableEnd s.twin.sentEnds.1 }) s
    let s := onModem .rf (fun m => { m with usableEnd := max m.usableEnd s.twin.sentEnds.2 }) s
    let p := partnerFrom self s
    let s := if !partnerHeals s || !negotiates s && soloSet s && p == .standby || (isActive s && p == .active) then s
      else setPartner p 0 s
    drain s

/-- TWILL_LINK_SILENT (R343). -/
def opLinkSilent (s : State) : State :=
  if !s.twin.link.trained || decide (s.clk < s.twin.link.lastValid + msTicks 2) then s
  else onTwin (fun t => { t with link := { t.link with trained := false } }) s

/-- A frame is missing (R344): counted, and the standby's synchronisation ends (R353). -/
def frameMissing (s : State) : State :=
  let s := onTwin (fun t => { t with link := { t.link with missing := inc64 t.link.missing } }) s
  if isStandby s then (if s.twin.inert then s else breakStream 1 s)
  else if isActive s && (s.twin.partner == .standby || s.twin.resync.isSome) then
    let s := emit (.twill 0x13 (putLe 1 1 ++ zeros 7 ++ putLe 8 (openNum s))) s
    setPartner .present 0 (endService s)
  else s

/-- TWILL_RETRANSMIT (R344): sent again up to 8 times, then missing. -/
def opRetransmit (n : Nat) (s : State) : State :=
  let sent := ((s.twin.link.unacked.find? fun u => u.1 == n).map (·.2)).getD 0
  let rest := s.twin.link.unacked.filter fun u => u.1 != n
  if !mainRuns s then s
  else if sent ≥ 8 then
    frameMissing (onTwin (fun t => { t with link := { t.link with unacked := rest } }) s)
  else onTwin (fun t => { t with link := { t.link with
    unacked := rest ++ [(n, sent + 1)]
    retransmitted := inc64 t.link.retransmitted } }) s

/-- TWILL_TIME_RECEIVED (R280): a standby follows the active's chip time by the measured offset (log entry 73). Its chip time is set
by that, so UNSET does not stand on it (R274). DEDUCED (log entry 73). -/
def opTwillTime (offsetNs : Int) (s : State) : State :=
  if isStandby s && inService s then
    { s with
      tb := { s.tb with t0 := s.tb.t0 + offsetNs * 65536 }
      time := { s.time with unset := false } }
  else s

/-! ## The claim (R360) -/

/-- A new active's frame counters (R223): above the partner's reservation and every chip counter heard, by 2^20. -/
def Modem.takesOver (partnerEnd : Nat) (m : Modem) : Modem :=
  let v := max (max partnerEnd m.heardChipCtr) m.reservedEnd + ctrBlock
  { m with nextCtr := v, reservedEnd := v, usableEnd := v }

/-- What a standby brings to a claim that a starting chip has yet to reach: counters, servo, panel and placard (R223, R280,
R437). -/
def claimAsStandby (s : State) : State :=
  let s := onModem .plc (Modem.takesOver s.twin.partnerZitherEnd) s
  let s := onModem .rf (Modem.takesOver s.twin.partnerLyreEnd) s
  onTime (fun t => { t with servo := .acquiring, source := .none, goodRun := 0, badRun := 0 }) s

/-- The service addresses answered for (R360). -/
def announceService (s : State) : State :=
  let one (item n : Nat) (s : State) : State := if allZero (itemNow s item) then s else emit (.arp (fitTo n (itemNow s item))) s
  one 0x0F05 16 (one 0x0F04 4 s)

/-- The TWL_ROLE latch set, TWL_ALIVE held low for 1 ms; TWL_INHIBIT_N is released on a DEPLOYED chip without ALT [5] (Table TW.2,
Table CK.10). -/
def claimLines (s : State) : State :=
  let s := setAlive true (setRoleLine true s)
  let s := onTwin (fun t => { t with lines := { t.lines with aliveClaimUntil := s.clk + msTicks 1 } }) s
  if s.keys.lifecycle == .deployed && !s.boot.altApplied.testBit 5 then setInhibit false s else s

/-- A chip claims the active role (R360). `roleLow` says whether it found the partner's TWL_ROLE low. -/
def claim (roleLow : Bool) (s : State) : State :=
  let was := isStandby s
  let s := onTwin (fun t => { t with
    role := .active
    inert := false
    inSync := false
    resync := none
    switchover := none
    heldRoots := none
    activeHold := false
    mirror := false
    coilWait := if roleLow then (if t.lines.partnerInhibitLow then none else some 0) else some (max 1 s.clk)
    lines := { t.lines with partnerRoleLow := roleLow } }) { s with twinBuffer := [] }
  let s := emit (.twill 0x31 (putLe 8 (openNum s) ++ putLe 8 s.twin.inputSeq ++ putLe 8 (epochHigh s))) (claimLines s)
  let s := announceService s
  let s := { s with
    zither := { s.zither with stopped := false }
    rf := { s.rf with stopped := false }
    uploadSub := { s.uploadSub with announceDue := s.clk } }
  let s := onKeeper (fun k => { k with
    twinKick := s.clk
    supply := { k.supply with relayHold := k.supply.relayHold && !s.boot.passed8 } }) s
  let s := if was then
      startPlacard (onPlacard (Placard.request hostMask s.panel.hostImage) (panelLight (claimAsStandby s)))
    else s
  kickCoil s

/-- The chip becomes STANDBY (Table TW.6): TWL_INHIBIT_N is released on a DEPLOYED chip, its own receivers feed nothing. -/
def becomeStandby (inert : Bool) (s : State) : State :=
  let s := onTwin (fun t => { t with role := .standby, inert := inert, inSync := false, resync := none }) s
  let s := { s with
    zither := { s.zither with rx := [] }
    rf := { s.rf with rx := [] } }
  if s.keys.lifecycle == .deployed && !s.boot.altApplied.testBit 5 then setInhibit false s else s

/-! ## Negotiation (R345, R346) -/

/-- Own HELLO (Table TW.4); the nonce is free. -/
def sendHello (s : State) : State :=
  let body := fitTo 16 s.fuse.uid ++ fitTo 16 (Config.freeBytes s.fresh) ++ putLe 1 s.fuse.ordering ++ putLe 1 (bit s.boot.headRole) ++
    putLe 1 (segmentId s) ++ putLe 1 s.keys.lifecycle.code ++ putLe 1 (selfByte s) ++ zeros 3 ++ putLe 4 s.fw.runningVersion ++
    putLe 4 (mbxVersion s) ++ putLe 8 s.led.lastCommitted ++ putLe 8 (epochHigh s) ++
    putLe 1 (bit (itemNow s 0x0F02 == s.fuse.uid)) ++ zeros 7 ++ fitTo 32 (kcvDigest s)
  emit (.twill 0x01 body) (draw s)

/-- HELLO_AUTH; the signature is free. -/
def sendAuth (s : State) : State := emit (.twill 0x02 (fitTo 96 (Config.freeBytes s.fresh))) (draw s)

/-- A chip that takes part in a negotiation now: at S7, or in service when its partner restarts. -/
def negotiating (s : State) : Bool :=
  s.boot.phase == .running && negotiates s && (s.boot.stage == 7 || inService s)

/-- HELLO_RECEIVED (R345). A chip in service answers with its own. -/
def opHello (h : Hello) (s : State) : State :=
  if !negotiating s then s
  else
    let s := onTwin (fun t => { t with
      hello := some h
      link := { t.link with trained := true, lastValid := s.clk } }) s
    sendAuth (if inService s then sendHello s else s)

/-- The first check of Table TW.5 that fails. -/
def checkFails (h : Hello) (signatureOk : Bool) (s : State) : Option Nat :=
  if !signatureOk then some 1
  else if h.moruinVersion != s.fw.runningVersion || h.dcsVersion != mbxVersion s then some 2
  else if h.ordering != s.fuse.ordering || h.headRole != s.boot.headRole || h.segment != segmentId s then some 3
  else if h.lifecycle != LifeCycle.deployed.code then some 4
  else if h.kcvDigest != kcvDigest s then some 5
  else none

/-- Whether this chip takes the active role where both are STARTING (R346). -/
def winsTie (h : Hello) (s : State) : Bool :=
  let own := s.led.lastCommitted
  let pref := itemNow s 0x0F02 == s.fuse.uid
  if own != h.lastCommitted then decide (own > h.lastCommitted)
  else if pref != h.preferred then pref
  else decide (leNat s.fuse.uid < leNat h.uid)

/-- The role decided at S7 (R346). A partner that stands by leaves the active role to this chip (log entry 71). -/
def decideRole (h : Hello) (failed : Bool) (s : State) : State :=
  match h.self % 4 with
  | 1 => becomeStandby failed s
  | 0 => if winsTie h s then claim s.twin.lines.partnerRoleLow s else becomeStandby failed s
  | _ => claim s.twin.lines.partnerRoleLow s

/-- HELLO_AUTH_RECEIVED (R345, R346, R368). -/
def opHelloAuth (signatureOk : Bool) (s : State) : State :=
  match if negotiating s then s.twin.hello else none with
  | none => s
  | some h =>
    let fail := checkFails h signatureOk s
    let starting := s.twin.role == .starting
    let s := if starting then decideRole h fail.isSome s else s
    if partnerBarred s then s
    else match fail with
      | some c => setPartner .failed c s
      | none => if starting || isActive s then setPartner (partnerFrom h.self s) 0 s else s

/-! ## Takeover (R359) -/

/-- The rest of the stream that was received is processed, whatever WATERMARK said of it (R360; DEDUCED, log entry 72). -/
def drainAll (s : State) : State :=
  if s.twin.inSync then drain (onTwin (fun t => { t with watermark := t.inputSeq }) s) else { s with twinBuffer := [] }

/-- A standby that is not IN_SYNC continues from its own last committed epoch, with EPOCH_HIGH beyond both chips' (R359). One whose
ledger a full plan has discarded has none, and formats anew (R96). -/
def fallBack (s : State) : State :=
  let high := max (epochHigh s) s.twin.partnerEpochHigh + 65536
  let s := if s.led.mounted && s.led.lastCommitted != 0 then
      onLed (fun l => { l with epochs := [], work := ((l.readable.getLast?).map (·.2)).getD l.work }) s
    else formatLedger s
  openNext (now s) false (countersOn (onLed (fun l => { l with highA := some high, highB := some high }) s))

/-- An epoch in COMPARING, ARBITRATING or ROOTING roots with UNCOMPARED (R360, Table LG.20). -/
def Epoch.orphaned (e : Epoch) : Epoch :=
  match e.state with
  | .comparing => { e with uncompared := true }
  | .rooting => { e with uncompared := true }
  | .arbitrating => { e with uncompared := true, state := .comparing }
  | _ => e

/-- A takeover on failure (R359, R360). -/
def takeOver (roleLow : Bool) (s : State) : State :=
  if !isStandby s || !inService s then s
  else
    let s := drainAll s
    let s := if s.twin.inSync then s else fallBack s
    let s := onLed (fun l => { l with epochs := l.epochs.map Epoch.orphaned }) (onTwin (fun t => { t with arbitration := none }) s)
    let s := claim roleLow s
    setPartner .failed 8 (raiseHw 0x0803 (putLe 8 (openNum s)) s)

/-! ## The discrete lines (R342) -/

/-- The standby of a switchover claims and continues INPUT_SEQ; the old active stays IN_SYNC and takes this chip's stream (R363). -/
def takeHandover (s : State) : State :=
  setPartner .standby 0 (onTwin (fun t => { t with mirror := true }) (claim true (drainAll s)))

/-- TWL_INHIBIT_SENSED (R359, R360, R363): a switchover whose epoch has committed ends in the claim; any other fall of the line is a
takeover condition. A new active that waits for the line may energise its coils. -/
def opInhibitSensed (roleLow : Bool) (s : State) : State :=
  if s.boot.phase != .running then s
  else
    let s := onTwin (fun t => { t with lines := { t.lines with partnerInhibitLow := true, partnerRoleLow := roleLow } }) s
    if isStandby s && inService s then
      match s.twin.switchover with
      | some n =>
        if s.twin.inSync && decide (s.led.lastCommitted ≥ n) then takeHandover s
        else takeOver roleLow s
      | none => takeOver roleLow s
    else if isActive s && s.twin.coilWait == some 0 then kickCoil (onTwin (fun t => { t with coilWait := none }) s)
    else s

/-- TWL_ALIVE_SILENT (R359): with the link silent too it is a takeover condition, otherwise TWIN_STATE alone. -/
def opAliveSilent (roleLow : Bool) (s : State) : State :=
  if !isStandby s || !inService s then s
  else
    let s := onTwin (fun t => { t with lines := { t.lines with partnerRoleLow := roleLow } }) s
    if s.twin.link.trained then raiseTwinState s else takeOver roleLow s

/-- TWL_ALIVE_LOW_SAMPLED (R358): low in a half-period that the active released. -/
def opAliveLow (s : State) : State :=
  if isActive s && s.boot.phase == .running && !s.twin.lines.aliveLow then stepDown 4 s else s

/-- ALIVE_PULSE (R342, R360): the active toggles TWL_ALIVE, after the 1 ms of its claim. -/
def opAlivePulse (s : State) : State :=
  if !isActive s || s.boot.phase != .running || decide (s.clk < s.twin.lines.aliveClaimUntil) then s
  else setAlive (!s.twin.lines.aliveLow) s

/-- CLAIM_COIL_WAIT (R360): 25 ms after a claim that found TWL_ROLE released. -/
def opCoilWait (s : State) : State :=
  match s.twin.coilWait with
  | some t =>
    if t = 0 || decide (s.clk < t + msTicks 25) then s else kickCoil (onTwin (fun t => { t with coilWait := none }) s)
  | none => s

/-- TAKEOVER_RECEIVED (R358, R363): an active steps down; the old active of a switchover is now STANDBY, with TWL_INHIBIT_N released. -/
def opTakeover (firstEpoch inputSeq epochHigh_ : Nat) (s : State) : State :=
  if s.boot.phase != .running then s
  else if isActive s then stepDown 4 s
  else if isStandby s then
    let s := onTwin (fun t => { t with
      partnerEpochHigh := max t.partnerEpochHigh epochHigh_
      switchover := none
      inputSeq := if t.inSync && openNum s == firstEpoch then max t.inputSeq inputSeq else t.inputSeq }) s
    let s := setPartner .active 0 s
    if s.keys.lifecycle == .deployed then setInhibit false s else s
  else s

/-! ## The rows -/

/-- HELLO_RECEIVED (R345). -/
def execHelloReceived (h : Hello) (s : State) : Host.Outcome State Fault Refusal := .next (opHello h s)

/-- HELLO_AUTH_RECEIVED (R345). -/
def execHelloAuthReceived (signatureOk : Bool) (s : State) : Host.Outcome State Fault Refusal := .next (opHelloAuth signatureOk s)

/-- HEARTBEAT_SEND (R343). -/
def execHeartbeatSend (s : State) : Host.Outcome State Fault Refusal := .next (opHeartbeatSend s)

/-- TWILL_TIME_RECEIVED (R280). -/
def execTwillTimeReceived (offsetNs : Int) (s : State) : Host.Outcome State Fault Refusal := .next (opTwillTime offsetNs s)

/-- TWILL_RETRANSMIT (R344). -/
def execTwillRetransmit (linkSeq : Nat) (s : State) : Host.Outcome State Fault Refusal := .next (opRetransmit linkSeq s)

/-- TWILL_LINK_SILENT (R343). -/
def execTwillLinkSilent (s : State) : Host.Outcome State Fault Refusal := .next (opLinkSilent s)

/-- ALIVE_PULSE (R342). -/
def execAlivePulse (s : State) : Host.Outcome State Fault Refusal := .next (opAlivePulse s)

/-- TWL_INHIBIT_SENSED (R359). -/
def execTwlInhibitSensed (roleLow : Bool) (s : State) : Host.Outcome State Fault Refusal := .next (opInhibitSensed roleLow s)

/-- TWL_ALIVE_SILENT (R359). -/
def execTwlAliveSilent (roleLow : Bool) (s : State) : Host.Outcome State Fault Refusal := .next (opAliveSilent roleLow s)

/-- TWL_ALIVE_LOW_SAMPLED (R358). -/
def execTwlAliveLowSampled (s : State) : Host.Outcome State Fault Refusal := .next (opAliveLow s)

/-- CLAIM_COIL_WAIT (R360). -/
def execClaimCoilWait (s : State) : Host.Outcome State Fault Refusal := .next (opCoilWait s)

/-- TAKEOVER_RECEIVED (R358). -/
def execTakeoverReceived (firstEpoch inputSeq epochHigh : Nat) (s : State) : Host.Outcome State Fault Refusal :=
  .next (opTakeover firstEpoch inputSeq epochHigh s)

end Sys2Proof.Machine
end

