-- ==== Sys2Proof/Machine/TwinSync.lean ====
section
/-! DEFINITION. Comparison of the twins' outputs and arbitration (15_twill_twin R353 to R357; R444, R445). -/

namespace Sys2Proof.Machine

/-! ## Arbitration: its start (R357, R445) -/

/-- The epoch whose digests differ waits for the arbitration (Table LG.2). -/
def markArbitrating (n : Nat) (s : State) : State :=
  onEpoch n (fun e => if e.state == .comparing then { e with state := .arbitrating } else e) s

/-- The arbitration run of bits 0 to 6 starts at once; a command run in progress ends (R445). -/
def startArbitration (kind epoch : Nat) (s : State) : State :=
  let s := onTwin (fun t => { t with arbitration := some ⟨s.clk, kind, epoch, none, none⟩ }) s
  let s := abandonRun s
  let r := newRun true arbitrationSet s
  onTest (fun t => { t with current := some r, nextId := t.nextId + 1 }) s

/-- A divergence of kind EPOCH (0) or FRAME (1): TWIN_DIVERGED, DIVERGED to the partner, the arbitration (R357). One that is found
while arbitration runs only keeps its epoch waiting. -/
def diverge (kind ref : Nat) (s : State) : State :=
  let s := if kind = 0 then markArbitrating ref s else s
  if arbitrating s then s
  else
    let s := raiseHw 0x0802 (putLe 8 ref ++ putLe 1 kind) s
    startArbitration kind ref (emit (.twill 0x22 (putLe 1 kind ++ zeros 7 ++ putLe 8 ref)) s)

/-- The two chips compare: an active with a standby in sync, or a standby in sync. -/
def inComparison (s : State) : Bool :=
  inService s && ((isActive s && s.twin.partner == .standby && !soloSet s) || (isStandby s && s.twin.inSync))

/-! ## Epoch digests (R355, R367) -/

/-- Own digest of an epoch, once formed. -/
def ownDigest (n : Nat) (s : State) : Option Bytes :=
  match epochOf s n with
  | some e => if e.flushed then some e.digest else none
  | none => ((s.led.rootLog.find? fun r => r.epoch == n && !r.voided).map (·.digest))

/-- Digests found equal: the epoch goes on; a standby that had joined is now IN_SYNC, and the active reports it as STANDBY
(R353, R367). -/
def agree (n : Nat) (s : State) : State :=
  let s := onTwin (fun t => { t with lastCompared := max n t.lastCompared }) s
  let s := if isStandby s && !s.twin.inSync && s.twin.resync.isNone && !s.twin.inert then
      raiseTwinState (onTwin (fun t => { t with inSync := true }) s)
    else s
  let s := if isActive s && s.twin.partner == .present && s.twin.mirror && s.twin.resync.isNone then setPartner .standby 0 s else s
  advance s

/-- Digests found different: a divergence where the twins compare; a standby not yet IN_SYNC begins its plan again. -/
def disagree (n : Nat) (s : State) : State :=
  if inComparison s then diverge 0 n s
  else if isStandby s && s.twin.resync.isNone && !s.twin.inert then breakStream 3 s
  else s

/-- Both digests of an epoch are known: they are compared. -/
def judgeDigest (n : Nat) (s : State) : State :=
  match ownDigest n s, partnerDigest n s with
  | some d, some p => if fitTo 32 d == fitTo 32 p then agree n s else disagree n s
  | _, _ => s

/-- EPOCH_DIGEST_RECEIVED (R355). -/
def opEpochDigest (n : Nat) (digest : Bytes) (s : State) : State :=
  if !inService s || isSolo s then s
  else
    judgeDigest n (onTwin (fun t => { t with
      partnerDigests := insertNat n digest (t.partnerDigests.filter fun p => decide (p.1 + 16 > n)) }) s)

/-- EPOCH_FLUSHED whole: the digest formed may meet one that has already arrived. -/
def opEpochFlushedTwin (n : Nat) (s : State) : State :=
  let was := (epochOf s n).map (·.flushed)
  let s := opEpochFlushed n s
  if was == some false && ((epochOf s n).map (·.flushed)) == some true then judgeDigest n s else s

/-- DIGEST_WAIT_EXPIRY (R353): the active has neither digest nor LEAVE_SYNC 15 ms after its CLOSE. -/
def opDigestWait (s : State) : State :=
  let late := s.led.epochs.any fun e =>
    (e.state == .closed || e.state == .comparing) && decide (e.closedTick + msTicks 15 ≤ s.clk) && (partnerDigest e.num s).isNone
  if isActive s && s.twin.partner == .standby && late then setPartner .present 0 s else s

/-- STANDBY_DIGEST_DEADLINE (R353): the standby cannot send the digest of a closed epoch in time. -/
def opDigestDeadline (s : State) : State :=
  let late := s.led.epochs.any fun e =>
    !e.flushed && (e.state == .closed || e.state == .held) && decide (e.closedTick + msTicks 15 ≤ s.clk)
  if isStandby s && s.twin.inSync && late then breakStream 3 s else s

/-- LEAVE_SYNC_RECEIVED (R353, R366): the active takes its standby as PRESENT; a standby whose plan the active ends waits for the next. -/
def opLeaveSync (reason : Nat) (s : State) : State :=
  if isActive s then (if s.twin.partner == .standby || s.twin.resync.isSome then setPartner .present 0 (endService s) else s)
  else if isStandby s && !s.twin.inert then
    if reason = 6 then
      { onTwin (fun t => { t with inSync := false, resync := some ⟨true, false, 0, none, false, 0, false⟩ }) s with twinBuffer := [] }
    else breakStream reason s
  else s

/-- PARTNER_EVENT_RECEIVED (R349): appended with 0x80 added to SOURCE; it returns to the standby in the stream. -/
def opPartnerEvent (e : EvRec) (s : State) : State :=
  if isActive s && inService s && !isSolo s then raiseEv { e with source := (e.source + 0x80) % 256 } (newInput 8 s) else s

/-! ## Frame digests (R354) -/

/-- Whether two marks are of the same frame. -/
def FrameMark.same (a b : FrameMark) : Bool :=
  a.epoch == b.epoch && a.net == b.net && a.typ == b.typ && a.dest == b.dest && a.n == b.n

/-- Marks of frames both generated and heard, with equal digests, are matched; the heard ones leave. -/
def matchFrames (s : State) : State :=
  if !isStandby s then s
  else
    let t := s.twin
    let pairs := t.heardFrames.filter fun h => t.ownFrames.any fun o => o.same h && o.since != 0
    let good := pairs.filter fun h => t.ownFrames.any fun o => o.same h && o.digest == h.digest
    let s1 := onTwin (fun t => { t with
      heardFrames := t.heardFrames.filter fun h => !(pairs.any fun p => p.same h)
      ownFrames := t.ownFrames.map fun o => if pairs.any fun p => p.same o then { o with since := 0 } else o }) s
    if good.length < pairs.length && inComparison s1 then diverge 1 (openNum s1) s1 else s1

/-- The epoch that the active has open, as far as the standby has heard: that after the last CLOSE still queued. -/
def heardEpoch (s : State) : Nat :=
  match (s.twinBuffer.filterMap fun i => match i with
    | .close e _ _ => some e
    | .input _ _ _ => none).getLast? with
  | some e => e + 1
  | none => openNum s

/-- FRAME_DIGEST_RECEIVED (R354). -/
def opFrameDigest (net : Net) (typ : Nat) (dest : Bytes) (n : Nat) (digest : Bytes) (s : State) : State :=
  if !isStandby s || streamOff s then s
  else
    let m : FrameMark := ⟨heardEpoch s, net, typ, dest, n, digest, max 1 s.clk⟩
    matchFrames (onTwin (fun t => { t with heardFrames := t.heardFrames ++ [m] }) s)

/-- FRAME_DIGEST_UNMATCHED (R354): one side left alone for 1 s. -/
def opFrameUnmatched (net : Net) (typ : Nat) (dest : Bytes) (n : Nat) (s : State) : State :=
  let late (m : FrameMark) : Bool :=
    m.net == net && m.typ == typ && m.dest == dest && m.n == n && m.since != 0 && decide (m.since + secTicks 1 ≤ s.clk)
  if !isStandby s || !(s.twin.ownFrames.any late || s.twin.heardFrames.any late) then s
  else
    let s1 := onTwin (fun t => { t with
      heardFrames := t.heardFrames.filter fun m => !late m
      ownFrames := t.ownFrames.map fun m => if late m then { m with since := 0 } else m }) s
    if inComparison s1 then diverge 1 (openNum s1) s1 else s1

/-! ## Arbitration: its end (Table TW.9) -/

/-- Both-pass outcomes within 24 h, with the present one. -/
def passTimes (s : State) : List Nat := (s.twin.bothPass.filter fun t => decide (s.clk ≤ t + secTicks 86400)) ++ [s.clk]

/-- The epoch that waited is this chip's to root (Table LG.2). -/
def rootArbitrated (s : State) : State :=
  onLed (fun l => { l with
    epochs := l.epochs.map fun e => if e.state == .arbitrating then { e with state := .rooting } else e }) s

/-- The standby's epochs not committed are LOST (Table LG.2). -/
def loseArbitrated (s : State) : State :=
  onLed (fun l => { l with epochs := [], work := ((l.readable.getLast?).map (·.2)).getD l.work })
    { s with twinBuffer := [] }

/-- The outcome on the active. -/
def activeOutcome (own partner : Bool) (s : State) : State :=
  if own && !partner then setPartner .failed 6 (rootArbitrated s)
  else if own then
    let ts := passTimes s
    let s := onTwin (fun t => { t with bothPass := ts }) (rootArbitrated s)
    if ts.length ≥ 3 then setPartner .failed 7 s else setPartner .present 0 s
  else if partner then stepDown 2 (showCode 0x2002 s)
  else degrade 2 (setPartner .failed 6 (rootArbitrated s))

/-- The outcome on the standby. One that is judged right claims; it is inert after a judgment against it alone, or the third
both-pass outcome, until TWN_RESYNC. -/
def standbyOutcome (own partner : Bool) (s : State) : State :=
  let inert (s : State) : State := onTwin (fun t => { t with inert := true, inSync := false, resync := none }) (loseArbitrated s)
  if own && !partner then setPartner .failed 6 (claim true (rootArbitrated (drainAll s)))
  else if own then
    let ts := passTimes s
    let s := onTwin (fun t => { t with bothPass := ts }) s
    if ts.length ≥ 3 then inert s else breakStream 4 (loseArbitrated s)
  else inert s

/-- The arbitration ends once both signatures are judged. -/
def judgeArbitration (s : State) : State :=
  match s.twin.arbitration with
  | none => s
  | some a =>
    match a.own, a.partner with
    | some own, some partner =>
      let s := onTwin (fun t => { t with arbitration := none }) s
      let s := if isActive s then activeOutcome own partner s else if isStandby s then standbyOutcome own partner s else s
      advance (startQueued s)
    | _, _ => s

/-- A run's signature passes when it is the one that the running image expects (R442). -/
def signaturePasses (sig : Bytes) : Bool := fitTo 32 sig == expectedSignature arbitrationSet

/-- SIGNATURE of a finished arbitration run (R445). -/
def sendSignature (r : TestRun) (s : State) : State :=
  emit (.twill 0x23 (putLe 4 r.id ++ putLe 4 (r.mask .pass) ++ putLe 4 (r.mask .fail) ++ zeros 4 ++ fitTo 32 r.signature)) s

/-- SELF_TEST_PARTITION_END (R441, R444, R445): the arbitration run's last partition sends SIGNATURE. -/
def opPartEnd (p : PartResult) (s : State) : State :=
  let s := partEnds p s
  match s.twin.arbitration, s.selfTest.current, s.selfTest.finished.getLast? with
  | some a, none, some r =>
    if a.own.isSome || !r.arbitration then s
    else
      judgeArbitration (sendSignature r
        (onTwin (fun t => { t with arbitration := some { a with own := some (signaturePasses r.signature) } }) s))
  | _, _, _ => s

/-- SIGNATURE_RECEIVED (R357). -/
def opSignature (sig : Bytes) (s : State) : State :=
  match s.twin.arbitration with
  | some a =>
    if a.partner.isSome then s
    else judgeArbitration (onTwin (fun t => { t with arbitration := some { a with partner := some (signaturePasses sig) } }) s)
  | none => s

/-- ARBITRATION_TIMEOUT (R357): a signature that has not arrived after 100 ms counts as failed. -/
def opArbitrationTimeout (s : State) : State :=
  match s.twin.arbitration with
  | some a =>
    if a.partner.isSome || decide (s.clk < a.since + msTicks 100) then s
    else judgeArbitration (onTwin (fun t => { t with arbitration := some { a with partner := some false } }) s)
  | none => s

/-- A power-fail warning at the active ends arbitration with the active judged right (R357): what the standby did not commit is
LOST and it resynchronises. -/
def warnedArbitration (s : State) : State :=
  if isStandby s && s.twin.activeHold && arbitrating s then
    breakStream 4 (loseArbitrated (onTwin (fun t => { t with arbitration := none }) (abandonRun s)))
  else s

/-- DIVERGED_RECEIVED (R357): the partner found the divergence first; this chip runs its own arbitration run too. -/
def opDiverged (kind ref : Nat) (s : State) : State := if kind ≤ 1 && inComparison s then diverge kind ref s else s

/-! ## The rows -/

/-- INPUT_RECEIVED (R349). -/
def execInputReceived (seq : Nat) (arrival : LTime) (input : TwinInput) (s : State) : Host.Outcome State Fault Refusal :=
  .next (matchFrames (warnedArbitration (opInput seq arrival input s)))

/-- APPEND_MARK_RECEIVED (R351). -/
def execAppendMarkReceived (key epoch : Nat) (s : State) : Host.Outcome State Fault Refusal := .next (opMark key epoch s)

/-- CLOSE_RECEIVED (R351). -/
def execCloseReceived (epoch : Nat) (closed : LTime) (cause : Nat) (s : State) : Host.Outcome State Fault Refusal :=
  .next (matchFrames (opClose epoch closed cause s))

/-- HEARTBEAT_RECEIVED (R343). -/
def execHeartbeatReceived (self partner epochHigh watermark zitherCtr lyreCtr : Nat) (s : State) :
    Host.Outcome State Fault Refusal := .next (matchFrames (opHeartbeat self partner epochHigh watermark zitherCtr lyreCtr s))

/-- LEAVE_SYNC_RECEIVED (R353). The epoch it names is the one its sender had open. -/
def execLeaveSyncReceived (reason _epoch : Nat) (s : State) : Host.Outcome State Fault Refusal := .next (opLeaveSync reason s)

/-- PARTNER_EVENT_RECEIVED (R349). -/
def execPartnerEventReceived (e : EvRec) (s : State) : Host.Outcome State Fault Refusal := .next (opPartnerEvent e s)

/-- FRAME_DIGEST_RECEIVED (R354). -/
def execFrameDigestReceived (net : Net) (typ : Nat) (dest : Bytes) (n : Nat) (digest : Bytes) (s : State) :
    Host.Outcome State Fault Refusal := .next (opFrameDigest net typ dest n digest s)

/-- FRAME_DIGEST_UNMATCHED (R354). -/
def execFrameDigestUnmatched (net : Net) (typ : Nat) (dest : Bytes) (n : Nat) (s : State) : Host.Outcome State Fault Refusal :=
  .next (opFrameUnmatched net typ dest n s)

/-- EPOCH_DIGEST_RECEIVED (R355). -/
def execEpochDigestReceived (epoch : Nat) (digest : Bytes) (s : State) : Host.Outcome State Fault Refusal :=
  .next (opEpochDigest epoch digest s)

/-- EPOCH_FLUSHED (R98). -/
def execEpochFlushed (epoch : Nat) (s : State) : Host.Outcome State Fault Refusal := .next (opEpochFlushedTwin epoch s)

/-- DIGEST_WAIT_EXPIRY (R353). -/
def execDigestWaitExpiry (s : State) : Host.Outcome State Fault Refusal := .next (opDigestWait s)

/-- STANDBY_DIGEST_DEADLINE (R353). -/
def execStandbyDigestDeadline (s : State) : Host.Outcome State Fault Refusal := .next (opDigestDeadline s)

/-- DIVERGED_RECEIVED (R357). -/
def execDivergedReceived (kind ref : Nat) (s : State) : Host.Outcome State Fault Refusal := .next (opDiverged kind ref s)

/-- SIGNATURE_RECEIVED (R357). RUN, PASSED and FAILED decide nothing: the signature does. -/
def execSignatureReceived (_run _passed _failed : Nat) (signature : Bytes) (s : State) : Host.Outcome State Fault Refusal :=
  .next (opSignature signature s)

/-- ARBITRATION_TIMEOUT (R357). -/
def execArbitrationTimeout (s : State) : Host.Outcome State Fault Refusal := .next (opArbitrationTimeout s)

/-- SELF_TEST_PARTITION_END (R441). -/
def execSelfTestPartitionEnd (p : PartResult) (s : State) : Host.Outcome State Fault Refusal := .next (opPartEnd p s)

end Sys2Proof.Machine
end

