-- ==== Sys2Proof/Machine/TwinResync.lean ====
section
/-! DEFINITION. Resynchronisation (R364 to R368), the TWN_ commands (R363, R369, R370), SYS_RESET (R395) and what an epoch's commit
does to the pair. -/

namespace Sys2Proof.Machine

/-! ## The active's side (R364 to R366) -/

/-- The highest epoch of the standby's roots whose digest is that of the own root of the same number (R364). -/
def matchRoot (roots : List (Nat × Bytes)) (s : State) : Option Nat :=
  (roots.filter fun r => s.led.rootLog.any fun o => o.epoch == r.1 && !o.voided && fitTo 32 o.digest == fitTo 32 r.2).foldl
    (fun (a : Option Nat) r => some (max r.1 (a.getD 0))) none

/-- The content of every committed epoch after one is still held for upload (R365). -/
def heldAfter (f : Nat) (s : State) : Bool :=
  (s.led.rootLog.filter fun r => !r.voided && decide (r.epoch > f)).all fun r => s.led.contents.any fun h => h.num == r.epoch

/-- The contents after an epoch, sent in order (R365). -/
def sendContents (f : Nat) (s : State) : State :=
  emitAll ((s.led.contents.filter fun h => decide (h.num > f)).map Output.twillContent) s

/-- RESYNC_PLAN (Table TW.4). -/
def sendPlan (full : Bool) (f : Nat) (s : State) : State :=
  emit (.twill 0x41 (putLe 1 (bit full) ++ zeros 7 ++ putLe 8 f)) s

/-- RESYNC_DONE: from here the active mirrors its inputs; the epochs not yet committed, the open one included, follow as they commit
(R367). -/
def sendDone (full : Bool) (s : State) : State :=
  let s := dropPin s
  onTwin (fun t => { t with
    mirror := true
    heldRoots := none
    resync := some ⟨false, full, openNum s, none, false, 0, true⟩ }) (emit (.twill 0x44 (putLe 8 s.led.lastCommitted)) s)

/-- A TWN_RESYNC that waits learns the plan (R370). -/
def answerResync (f : Nat) (s : State) : State :=
  match s.twin.resyncCmd with
  | none => s
  | some k =>
    let s := onTwin (fun t => { t with resyncCmd := none }) s
    match inflightOf s k with
    | some x => finish x (.change [] (auditParam x.cmd none) 0 (putLe 8 f) [] x.cmd.bufLen s) s
    | none => s

/-- A full plan may run: the store accepts what the pin holds (R366). -/
def storeTakesPin (s : State) : Bool := s.store.stage == .normal || s.store.stage == .reclaiming

/-- The plan for a standby's roots (R364 to R366). A full plan that the store cannot carry waits for stage NORMAL. -/
def planResync (roots : List (Nat × Bytes)) (s : State) : State :=
  match (matchRoot roots s).filter fun f => heldAfter f s with
  | some f => answerResync f (sendDone false (sendContents f (sendPlan false f s)))
  | none =>
    let s := onTwin (fun t => { t with heldRoots := some roots }) s
    if storeTakesPin s then
      let p := s.led.lastCommitted
      let s := onTwin (fun t => { t with resync := some ⟨false, true, 0, some p, false, 0, false⟩ }) s
      answerResync 0 (emit (.twillLedger p) (sendPlan true 0 s))
    else s

/-- RESYNC_ROOTS_RECEIVED (R364). -/
def opRoots (roots : List (Nat × Bytes)) (s : State) : State :=
  if !isActive s || !inService s || soloSet s || arbitrating s || s.twin.partner == .failed then s
  else planResync roots (setPartner .present 0 (endService s))

/-- What a commit does to a resynchronisation that the active serves: the end of a full copy, then each epoch up to the one that
was open at RESYNC_DONE (R365 to R367). -/
def resyncCommit (n : Nat) (s : State) : State :=
  match s.twin.resync with
  | none => s
  | some r =>
    if r.asStandby || !isActive s then s
    else if !r.done then sendDone true (sendContents (r.pin.getD 0) s)
    else
      let s := if n ≤ r.fromEpoch then sendContents (n - 1) s else s
      if n ≥ r.fromEpoch then onTwin (fun t => { t with resync := none }) s else s

/-- STORE_STAGE_CHANGE whole (R334, R366): FULL while the pin holds releases it and ends the plan; the plan starts again once the
store is NORMAL. -/
def opStoreStageTwin (f : StoreFigures) (stepsSpent : Bool) (s0 : State) : State :=
  let s := opStoreStage f stepsSpent s0
  let pinned := (s.twin.resync.bind (·.pin)).isSome
  if isActive s && pinned && !storeTakesPin s then
    endService (emit (.twill 0x13 (putLe 1 6 ++ zeros 7 ++ putLe 8 (openNum s))) s)
  else match s.twin.heldRoots with
    | some roots =>
      if isActive s && s.store.stage == .normal && s.twin.resync.isNone && s.twin.partner == .present && !soloSet s then
        planResync roots s
      else s
    | none => s

/-! ## The standby's side (R364 to R367) -/

/-- What the standby computed so far is set aside for what the active sends. -/
def standAside (s : State) : State :=
  let s := onMet (fun m => { m with relays := [] }) s
  { onTwin (fun t => { t with inSync := false, marks := [], ownFrames := [], heardFrames := [], partnerDigests := [] }) s with
    twinBuffer := []
    inflight := []
    meters := Meters.blank
    balance := BalanceRun.blank }

/-- EPOCH_HIGH as the active's (R364). -/
def takeHigh (s : State) : State :=
  onLed (fun l => { l with highA := some s.twin.partnerEpochHigh, highB := some s.twin.partnerEpochHigh }) s

/-- RESYNC_PLAN_RECEIVED (R364, R366): incremental, the root FROM is mounted and committed epochs above it are discarded with
ROOT_FALLBACK; full, the volumes 0, 1 and 3 are discarded. -/
def opPlan (full : Bool) (f : Nat) (s : State) : State :=
  if !isStandby s || s.twin.inert || !inService s then s
  else
    let plan : Resync := ⟨true, full, f, none, false, 0, false⟩
    if full then
      let s := standAside (onTwin (fun t => { t with resync := some plan }) s)
      takeHigh (onStore (fun x => { x with vol3 := [], lost3 := [] }) { s with led := Ledger.blank })
    else match s.led.rootLog.find? fun r => r.epoch == f && !r.voided with
      | none => breakStream 1 s
      | some r =>
        let above := decide (s.led.lastCommitted > f)
        let s := standAside (onTwin (fun t => { t with resync := some plan }) s)
        let s := takeHigh (onLed (Ledger.mount r) s)
        if above then raiseHw 0x0203 (putLe 8 f) s else s

/-- The ledger as a full copy leaves it. -/
def Ledger.copied (r : Root) (w : LState) (high : Nat) : Ledger :=
  { Ledger.blank with
    mounted := true
    work := w
    readable := [(r.epoch, w)]
    lastCommitted := r.epoch
    lastDigest := r.digest
    slot0 := some { r with slot := 0 }
    rootLog := [{ r with slot := 0xFF }]
    highA := some high
    highB := some high }

/-- RESYNC_UNITS_RECEIVED (R366): units of volume 3 are stored; those of volumes 0 and 1 are the ledger, whose content the last of
them completes. -/
def opUnits (volume lba : Nat) (units : List Bytes) (copied : Option (Root × LState)) (s : State) : State :=
  match s.twin.resync with
  | none => s
  | some r =>
    if !isStandby s || !r.asStandby || !r.full || r.done then s
    else if volume = 3 then
      onStore (fun x => { x with
        vol3 := (units.zipIdx).foldl (fun a u => insertNat (lba + u.2) (fitTo 4096 u.1) a) x.vol3 }) s
    else match copied with
      | some c => { s with led := Ledger.copied c.1 c.2 s.twin.partnerEpochHigh }
      | none => s

/-- An epoch committed as received, with the number and digest that the active gave it (R365). -/
def commitReceived (c : Content) (s : State) : State :=
  let w := c.groups.foldl (fun w g => g.items.foldl (fun w i => i.apply c.epoch g.completed w) w) s.led.work
  let e : Epoch := ⟨c.epoch, c.opened, c.closed, .rooting, c.groups, 112 + (c.groups.map Group.size).sum, w, false, false, false,
    c.digest, true, s.clk⟩
  pruneReadable (onLed (fun l => { Ledger.commit e (rootOf e s) l with work := w }) s)

/-- RESYNC_EPOCH_RECEIVED (R365, R367): a standby that waits to join goes on once the last epoch is applied. -/
def opResyncEpoch (c : Content) (s : State) : State :=
  match s.twin.resync with
  | none => s
  | some r =>
    if !isStandby s || !r.asStandby || !s.led.mounted || decide (c.epoch ≤ s.led.lastCommitted) then s
    else if !c.digestOk then breakStream 1 s
    else drain (commitReceived c s)

/-- A modem restarted with the items in force, as at S6 (R222, R223, R248, R402). -/
def startNet (net : Net) (s : State) : State :=
  let on := (match net with
    | .plc => startVal s 0x0A0B
    | .rf => startVal s 0x0B0F) == 1 && !(s.boot.altApplied.testBit (if net == .plc then 2 else 3)) &&
    !(net == .plc && s.boot.altApplied.testBit 4)
  let l := s.led.work
  let route (r : Rec) : Route := ⟨r.net.short, [], .unreachable, 0, false, none, false, false⟩
  let rs := (l.recs.filter fun e => e.2.segment == 0 && e.2.net.network == some net && e.2.net.state == .joined).map fun e => route e.2
  onModem net (fun m => { m.started on l with routes := rs.take 4096, stopped := m.stopped }) s

/-- The field networks started with the configuration that the ledger holds now. -/
def startNets (s : State) : State :=
  let s := onBoot (fun b => { b with startItems := s.led.work.config }) s
  startNet .rf (startNet .plc { s with lyre := Lyre.reset })

/-- Every item as the active holds it (R345), with its effects on this chip. A key that the resynchronisation changed (METER_MASTERS) has
nothing to announce here. -/
def applyItems (s : State) : State :=
  s.led.work.config.foldl (fun a e =>
    if e.1 = 0x0D02 then a
    else itemEffects e.1 e.2.1 (if e.1 = 0x0E02 then putLe 2 (a.store.vol3Blocks / 262144) else e.2.2) e.2.2 a) s

/-- RESYNC_DONE_RECEIVED (R345, R367): every item is applied, the field networks restart with them; the stream is joined at the next
boundary. An epoch that did not arrive begins the plan again. -/
def opDone (last : Nat) (s : State) : State :=
  match s.twin.resync with
  | none => s
  | some r =>
    if !isStandby s || !r.asStandby then s
    else if s.led.lastCommitted != last || !s.led.mounted then breakStream 1 s
    else campaignsAtStart (startNets (applyItems (onTwin (fun t => { t with resync := some { r with done := true } }) s)))

/-! ## Switchover (R363) -/

/-- Steps 1: the open epoch closes with cause 4, SWITCHOVER names it, the next opens. -/
def beginSwitchover (s : State) : State :=
  let n := openNum s
  emit (.twill 0x30 (putLe 8 n)) (closeNow 4 (onTwin (fun t => { t with switchover := some n }) s))

/-- TWN_SWITCHOVER (R363, Table TW.11): its audit record is the last group of the epoch that closes, at whose commit the command
completes. -/
def bodyTwnSwitchover (c : Cmd) (s : State) : Answer :=
  if s.twin.partner != .standby then no 0x0701
  else if arbitrating s then no 0x0702
  else if s.twin.switchover.isSome || s.twin.resync.isSome then no 0x0703
  else match s.inflight.find? fun f => f.cmd == c && f.waitCommit.isNone with
    | none => .hold
    | some f =>
      let all := [Item.audit (auditOf s f (auditParam c none) 0)]
      match appendRefusal all s with
      | some code => no code
      | none =>
        let done := mkCompletion f 0 (openNum s) 0 false false [] []
        let s := addGroup all none true false s
        .wait (beginSwitchover { s with
          inflight := modifyFirst (fun g => g.seq == f.seq) (fun g => { g with waitCommit := some done }) s.inflight })

/-- Steps 3 and 5: step-down orders 1 to 4 without reset; the old active is STANDBY and stays IN_SYNC. -/
def handOver (s : State) : State :=
  let s := stepDownOrders 3 s
  let s := onTwin (fun t => { t with
    role := .standby
    partner := .active
    cause := 0
    inSync := true
    inert := false
    mirror := false
    switchover := none
    resync := none
    coilWait := none
    marks := []
    watermark := t.inputSeq }) s
  let mute (m : Modem) : Modem := { m with queues := [[], [], [], []], rx := [] }
  { s with
    twinBuffer := []
    remotes := []
    uploadSub := UploadSub.reset
    uploadHeads := []
    zither := mute s.zither
    rf := mute s.rf
    inflight := s.inflight.map fun f => { f with dests := f.dests.map fun _ => .dropped } }

/-- The commit of the epoch that a switchover closed hands the role over, where the standby still stands by. -/
def switchCommit (s : State) : State :=
  match s.twin.switchover with
  | some n =>
    if !isActive s || decide (s.led.lastCommitted < n) then s
    else if s.twin.partner == .standby then handOver s
    else onTwin (fun t => { t with switchover := none }) s
  | none => s

/-- SWITCHOVER_RECEIVED (R363). -/
def opSwitchover (epoch : Nat) (s : State) : State :=
  if isStandby s && s.twin.inSync then onTwin (fun t => { t with switchover := some epoch }) s else s

/-! ## TWN_STATUS, TWN_RESYNC, TWN_SET_SOLO, SYS_RESET -/

/-- TWN_STATUS (Table TW.11). -/
def bodyTwnStatus (_ : Cmd) (s : State) : Answer :=
  okData 0 (putLe 1 (selfByte s) ++ putLe 1 (partnerByte s) ++ zeros 6 ++ putLe 8 s.twin.lastCompared) s

/-- TWN_RESYNC (Table TW.11): FAILED is cleared and the standby sends its roots anew; the command completes with the plan. -/
def bodyTwnResync (c : Cmd) (s : State) : Answer :=
  if s.twin.partner == .standby then no 0x0002
  else if s.twin.partner == .absent then no 0x0701
  else if arbitrating s then no 0x0702
  else if s.twin.resyncCmd == some (c.ring, c.tag) then .hold
  else
    let s := onTwin (fun t => { t with resyncCmd := some (c.ring, c.tag) }) s
    if s.twin.partner == .failed then .wait (setPartner .present 0 s)
    else .wait (emit (.twill 0x13 (putLe 1 7 ++ zeros 7 ++ putLe 8 (openNum s))) (endService s))

/-- TWN_SET_SOLO (R369, Table TW.11). -/
def bodyTwnSetSolo (c : Cmd) (s : State) : Answer :=
  let v := c.p 0x20 1
  if v > 1 then no 0x0103
  else setting c s (c.p 0x24 4) (s.led.work.itemVersion 0x0F03) (putLe 1 (itemVal s 0x0F03)) (putLe 1 v) 0x0F03
    (fun n => [.config 0x0F03 n (putLe 1 v)]) (putLe 4) (fun _ t => t)

/-- TWN_SET_SOLO whole: SOLO 1 stops mirroring and comparing, and the partner is PRESENT; epochs that waited for it go on. -/
def opTwnSetSolo (c : Cmd) (s : State) : State :=
  let was := soloSet s
  let s1 := runDcs 0x0B04 c bodyTwnSetSolo s
  if !soloSet s1 || was then s1
  else advance (if s1.twin.partner == .standby then setPartner .present 0 (endService s1) else endService s1)

/-- SYS_RESET (R395): the reset waits for the commit of the epoch that holds the audit record. -/
def bodySysReset (c : Cmd) (s : State) : Answer :=
  let scope := c.p 0x20 1
  let delay := c.p 0x24 4
  if !within 1 3 scope || delay > 60000 then no 0x0103
  else changeParam c none [] [] (onKeeper (fun k => { k with resetWanted := some (openNum s, scope, delay) }) s)

/-- SYS_RESET whole: SCOPE 1 and 3 hand over first where the standby is IN_SYNC (Table TW.8). -/
def opSysReset (c : Cmd) (s : State) : State :=
  let s1 := runDcs 0x0106 c bodySysReset s
  let scope := (s1.keeper.resetWanted.map fun w => w.2.1).getD 2
  if s1.keeper.resetWanted != s.keeper.resetWanted && scope != 2 && s1.twin.partner == .standby && isActive s1 &&
      s1.twin.switchover.isNone && !arbitrating s1 then beginSwitchover s1
  else s1

/-! ## EPOCH_COMMIT up to the pass of S8 (see Startup) -/

/-- A commit with what the pair does at it (R101, R363 to R367). -/
def opEpochCommitTwin (n : Nat) (readBackEqual : Bool) (s0 : State) : State :=
  let s := opEpochCommitCore n readBackEqual s0
  if s.led.lastCommitted = s0.led.lastCommitted then s else switchCommit (resyncCommit n s)

/-! ## The rows -/

/-- SYS_RESET (R395). -/
def execSysReset (c : Cmd) (s : State) : Host.Outcome State Fault Refusal := .next (opSysReset c s)

/-- TWN_STATUS (R370). -/
def execTwnStatus (c : Cmd) (s : State) : Host.Outcome State Fault Refusal := .next (runDcs 0x0B01 c bodyTwnStatus s)

/-- TWN_SWITCHOVER (R363). -/
def execTwnSwitchover (c : Cmd) (s : State) : Host.Outcome State Fault Refusal := .next (runDcs 0x0B02 c bodyTwnSwitchover s)

/-- TWN_RESYNC (R370). -/
def execTwnResync (c : Cmd) (s : State) : Host.Outcome State Fault Refusal := .next (runDcs 0x0B03 c bodyTwnResync s)

/-- TWN_SET_SOLO (R369). -/
def execTwnSetSolo (c : Cmd) (s : State) : Host.Outcome State Fault Refusal := .next (opTwnSetSolo c s)

/-- STORE_STAGE_CHANGE (R334). -/
def execStoreStageChange (f : StoreFigures) (stepsSpent : Bool) (s : State) : Host.Outcome State Fault Refusal :=
  .next (opStoreStageTwin f stepsSpent s)

/-- SWITCHOVER_RECEIVED (R363). -/
def execSwitchoverReceived (epoch : Nat) (s : State) : Host.Outcome State Fault Refusal := .next (opSwitchover epoch s)

/-- RESYNC_ROOTS_RECEIVED (R364). -/
def execResyncRootsReceived (roots : List (Nat × Bytes)) (s : State) : Host.Outcome State Fault Refusal := .next (opRoots roots s)

/-- RESYNC_PLAN_RECEIVED (R364). -/
def execResyncPlanReceived (full : Bool) (fromEpoch : Nat) (s : State) : Host.Outcome State Fault Refusal :=
  .next (opPlan full fromEpoch s)

/-- RESYNC_UNITS_RECEIVED (R366). -/
def execResyncUnitsReceived (volume lba : Nat) (units : List Bytes) (copied : Option (Root × LState)) (s : State) :
    Host.Outcome State Fault Refusal := .next (opUnits volume lba units copied s)

/-- RESYNC_DONE_RECEIVED (R367). -/
def execResyncDoneReceived (lastSent : Nat) (s : State) : Host.Outcome State Fault Refusal := .next (opDone lastSent s)

end Sys2Proof.Machine
end

