-- ==== Sys2Proof/Machine/FabricResets.lean ====
section
/-! DEFINITION. The reset of a queue of the fabric (R65) and what becomes of the work that it loses (R66). -/

namespace Sys2Proof.Machine

/-- The queue emptied, a stalled pop released (R63, R65). -/
def resetQueue (n : Nat) (s : State) : State := releaseErr n (queueOf s n) (onQueue n Queue.resetNow s)

/-- Frames of a class that wait in a network's receive queue are lost: they count as never received (R66). -/
def loseRx (net : Net) (cls : Nat) (s : State) : State :=
  onModem net (fun m => { m with rx := m.rx.filter fun f => f.2.msg.cls != cls }) s

/-- Frames that wait in a transmit queue are lost (R66). -/
def loseTx (net : Net) (prio : Nat) (s : State) : State := onModem net (fun m => { m with queues := m.queues.set prio [] }) s

/-- The sessions in a state, for each of which it is free whether the queue that was reset held its work (log entry 75). -/
def losesWork (st : SessionState) (f : Nat → State → State) (s : State) : State :=
  ((s.meters.sessions.filter fun x => x.state == st).map (·.idx)).foldl
    (fun a idx => if Config.freeBool a.fresh then f idx (draw a) else draw a) s

/-- The exchange of a lost append group is repeated; a SET or ACTION is sent again only after its read-back (R66, R85). -/
def repeatExchange (idx : Nat) (s : State) : State :=
  sendRequest idx (onSession idx (fun x => { x with
    response := none
    attempts := 0
    readTries := 0
    awaitingReadBack := x.purpose.isOrder }) s)

/-- A Twill queue is reset: whether it held a frame is free; a frame lost is missing (R66). -/
def loseTwill (s : State) : State := if Config.freeBool s.fresh then frameMissing (draw s) else draw s

/-- What the owner of a queue makes of its reset (R66). Commands are fetched again and completions and events rebuilt from their
copies, so nothing of them is lost; failed NAND and public-key jobs come with their own results. -/
def ownerRecovers (n : Nat) (s : State) : State :=
  if n < 4 then loseRx .plc n s
  else if n < 8 then loseRx .rf (n - 4) s
  else if n < 12 then loseTx .plc (n - 8) s
  else if n < 16 then loseTx .rf (n - 12) s
  else if within 32 39 n then losesWork .decrypting (fun idx s => failSession idx 0x0807 s) s
  else if n = 44 || n = 45 then loseTwill s
  else if within 60 63 n then losesWork .processing repeatExchange s
  else s

/-- QFB_RESET (R65, R66): RESET written in QFB_Qn_CTRL. -/
def opQfbReset (n : Nat) (s : State) : State := ownerRecovers n (resetQueue n s)

/-- QUEUE_POINTER_MISMATCH (R65, R66): the queue is reset, the mismatch counted and reported. -/
def opPointerMismatch (n : Nat) (readPointer : Bool) (s : State) : State :=
  let s := onQueue n (fun q => { q with
    mismatches := satInc 255 q.mismatches
    lastMismatch := readPointer }) (resetQueue n s)
  raiseHw 0x0A03 (putLe 1 n) (ownerRecovers n s)

/-- QFB_RESET (R65). -/
def execQfbReset (queue : Nat) (s : State) : Host.Outcome State Fault Refusal := .next (opQfbReset queue s)

/-- QUEUE_POINTER_MISMATCH (R65). -/
def execQueuePointerMismatch (queue : Nat) (readPointer : Bool) (s : State) : Host.Outcome State Fault Refusal :=
  .next (opPointerMismatch queue readPointer s)

end Sys2Proof.Machine
end

