-- ==== Sys2Proof/Machine/Startup.lean ====
section
/-! DEFINITION. A start of the main domains (17_clocks_reset_startup, R396 to R402): its release, the work of the stages S0 to S8,
the debug token (R398), and the commit at which S8 passes. -/

namespace Sys2Proof.Machine

/-! ## Release (R396) -/

/-- The conditions for release that the chip itself holds: VDD_KPR present, the wait after a MAIN reset over, no start that stays at a
failed stage with debug enabled (R401). -/
def mayStart (s : State) : Bool :=
  s.boot.phase == .held && !s.boot.debug && s.keeper.supply.kprOn && decide (s.boot.releaseAt ≤ s.clk)

/-- START_MAIN_DOMAINS (R394, R396): VDDIO_33 has been stable for 2 ms, so the keeper is in RUN (R372), and SYS_RESET_N is high. The journal
counts the start, the alternatives for it are taken (R402), and cause 0x0002 of degraded mode ends (R381). -/
def opStart (s : State) : State :=
  if !mayStart s then s
  else
    let s := onKeeper (fun k => { k with
      codeRaised := false
      clockRunning := k.clockRunning ||| 0x1F
      supply := { k.supply with retain := false, hold := false, mainWarn := false } }) s
    let s := onJournal (fun j => { j with starts := j.starts + 1, stageReached := 0 }) s
    let s := degradeEnd 2 s
    let alt := s.boot.journal.alt
    let s := onBoot (fun b => { b with
      phase := .running
      stage := 0
      stageAt := s.clk
      passed8 := false
      openedFirst := false
      debug := false
      debugDecided := false
      altApplied := alt }) s
    if alt = 0 then s else journal 0x03 0 0 0 (putLe 1 alt) s

/-! ## The debug token (R398) -/

/-- The life-cycle states in which the debug window is opened. -/
def debugWindow (s : State) : Bool := s.keys.lifecycle == .blank || s.keys.lifecycle == .returned

/-- A debug token that R398 accepts. -/
def tokenOk (t : Bytes) (s : State) : Bool :=
  t.length == 128 && le t 0 2 == 1 && le t 4 4 == s.keys.lcCounter && (t.drop 8).take 16 == fitTo 16 s.fuse.uid &&
    Config.verify Config.lifecycleKey (t.take 0x20) ((t.drop 0x20).take 96)

/-- DEBUG_TOKEN_RECEIVED (R398): within 100 ms of S0's start; the record says whether debug is enabled. -/
def opDebugToken (t : Bytes) (s : State) : State :=
  if s.boot.phase != .running || s.boot.stage != 0 || !debugWindow s || s.boot.debugDecided ||
      decide (s.clk > s.boot.stageAt + msTicks 100) then s
  else
    let ok := tokenOk t s
    journal 0x0E 0 0 0 (putLe 1 (bit ok)) (onBoot (fun b => { b with debug := ok, debugDecided := true }) s)

/-! ## The queues of Table QF.1 (R56) -/

/-- Table QF.1: how many queues from the next number on, SIZE_CELLS, ITEM_LIMIT, MAX_PKT_CELLS. -/
def queueRows : List (Nat × Nat × Nat × Nat) := [(4, 2048, 4096, 48), (4, 2048, 4096, 68), (4, 512, 4096, 48), (4, 512, 4096, 68),
  (8, 1024, 4096, 50), (8, 512, 4096, 50), (4, 64, 16, 2), (4, 64, 16, 2), (2, 64, 16, 4), (2, 1024, 4096, 8), (2, 2048, 4096, 68),
  (2, 32, 64, 2), (4, 128, 64, 2), (4, 128, 4096, 1), (4, 1024, 4096, 64), (4, 1024, 4096, 128), (16, 512, 256, 2), (1, 1024, 4096, 2),
  (1, 1024, 4096, 1), (14, 256, 4096, 16)]

/-- One entry for each queue of Table QF.1, in order. -/
def queueTable : List (Nat × Nat × Nat) := queueRows.flatMap fun r => List.replicate r.1 r.2

/-- The queues programmed one after the other from a cell on; the ports' identifiers are free (log entry 77). -/
def programFrom (fresh : Nat) : Nat → List (Nat × Nat × Nat) → List Queue
  | _, [] => []
  | base, r :: rs =>
    ({ Queue.reset with
      baseCell := base
      sizeCells := r.1
      itemLimit := r.2.1
      maxPktCells := r.2.2
      producer := Config.freeNat (fresh + 2 * rs.length) % 256
      consumer := Config.freeNat (fresh + 2 * rs.length + 1) % 256 } : Queue).turnOn :: programFrom fresh (base + r.1) rs

/-- The fabric as Moruin programs it before the blocks that use it start (R56); queues 96 to 127 stay disabled. -/
def programQueues (s : State) : State :=
  { s with
    fabric := programFrom s.fresh 0 queueTable ++ List.replicate 32 Queue.reset
    fresh := s.fresh + 192 }

/-! ## Stages -/

/-- The failures of a stage's work, or the state after it. -/
inductive StageWork where
  | fail (code : Nat) (s : State)
  | done (s : State)

/-- S0 (R396, R398, R402, R414). -/
def workS0 (s : State) : StageWork :=
  let s := if debugWindow s && !s.boot.debugDecided then
      journal 0x0E 0 0 0 (putLe 1 2) (onBoot (fun b => { b with debugDecided := true }) s)
    else s
  if s.fw.keeperImageOk then .done s else .fail 0x01 s

/-- S1 (R288). -/
def workS1 (r : StageReport) (s : State) : StageWork :=
  if !pufUsable s then .fail 0x11 s else if !r.pufOk then .fail 0x10 s else .done s

/-- S2 (R288, R289, R294, R304). -/
def workS2 (r : StageReport) (s : State) : StageWork := if !r.deriveOk then .fail 0x20 s else .done (bootKeys s)

/-- The role of this start, as SYS_SET_ROLE last left it (R3): the ledger as it stands on the NAND tells it. -/
def startRole (s : State) : Bool :=
  (((s.led.readable.getLast?).bind fun e => e.2.itemRaw roleItem).map fun b => le b 0 1 == 1).getD false

/-- A store formatted over every accepted target (R314, R317, R318): nothing of an earlier ledger or image is on it. -/
def formatStore (f : StoreFound) (s : State) : State :=
  let d := f.dataUnits
  let x := exportedOf d
  let vol3 := 16 * 262144
  let ledger := x - journalUnits - firmwareUnits - vol3
  let s := onStore (fun st => { Store.blank with
    formed := true
    uid := fitTo 16 f.uid
    parity := decide (f.luns ≥ 4)
    targetsFound := f.targets.length
    targets := f.targets.map fun t => ⟨t.1, t.2, true, 0, []⟩
    fig := { Store.blank.fig with
      exported := x
      dataUnits := d
      valid := firmwareUnits
      emergency := ledger * 2 / 100
      emergencyFull := ledger * 2 / 100
      ledgerExported := ledger
      spare := f.spareBlocks
      spareAtFormat := f.spareBlocks
      freeSuper := f.totalSuper
      totalSuper := f.totalSuper }
    cnt := { Store.blank.cnt with peRated := f.peRated }
    vol3Blocks := vol3
    seqNext := st.seqReserved
    seqReserved := st.seqReserved
    blockUnits := f.blockUnits
    luns := f.luns }) s
  let s := onLed (fun l => { l with readable := [], contents := [], rootLog := [] }) s
  onFw (fun x => { x with
    current := none
    next := none
    slotA := Area.blank
    slotB := Area.blank
    staging := Area.blank }) s

/-- A formed store mounted (R314, R316, R333, R338): a target named in its log and not found is retired, and SEQ goes on beyond what
was reserved. -/
def mountStore (f : StoreFound) (s : State) : State :=
  let gone := s.store.targets.filter fun t => t.active && !f.targets.contains (t.channel, t.enable)
  let s := onStore (fun x => { x with targetsFound := f.targets.length, seqNext := x.seqReserved }) s
  gone.foldl (fun a t => retireTarget t.channel t.enable a) s

/-- S3 (R313, R314, R338). -/
def workS3 (r : StageReport) (s : State) : StageWork :=
  let f := r.store
  if !f.dramOk then .fail 0x30 s
  else if f.dramGib < (if startRole s then 4 else 2) then .fail 0x31 s
  else if f.targets.isEmpty then .fail 0x32 s
  else if f.labelled && !(f.verified && f.logOk) then .fail 0x33 s
  else .done (if f.labelled then mountStore f s else formatStore f s)

/-- S4 (R56, R376, R412): the watchdog is armed with a period of 10,000 ms. -/
def workS4 (r : StageReport) (s : State) : StageWork :=
  let s := onKeeper (fun k => { k with appArmed := true, appKicks := List.replicate 4 s.clk, appPeriodMs := 10000 }) s
  let x := fwChoose (s.boot.altApplied.testBit 0) r.copyOk r.slotOk s
  match x.1 with
  | some code => .fail code x.2
  | none => .done (programQueues x.2)

/-- The role and the counters that the mounted ledger gives the start (R3, R87). -/
def afterMount (s : State) : State := countersOn (onBoot (fun b => { b with headRole := startRole s }) s)

/-- S5 (R96, R102). -/
def workS5 (r : StageReport) (s : State) : StageWork :=
  if ledgerBlank s.led then .done (afterMount (formatLedger s))
  else match mountChoice (s.boot.altApplied.testBit 1) r.slot0Verifies r.slot1Verifies r.logVerifies s.led with
    | none => .fail 0x50 s
    | some x => .done (afterMount (mountLedger x.1 x.2 s))

/-- Item 0x1101, 0x1102 and 0x1104 taken at this start. -/
def startPanel (s : State) : State :=
  { s with panel := s.panel.started (startVal s 0x1101) (startVal s 0x1102) (startVal s 0x1104 == 1) }

/-- S6 (R209, R248, R399, R402): the die-to-die link, the networks not left out, the aux contacts. -/
def workS6 (r : StageReport) (s : State) : StageWork :=
  let alone := s.boot.altApplied.testBit 4
  let s := { s with d2d := { s.d2d with up := !alone && r.d2dOk } }
  let s := startPanel (startNets s)
  if !alone && !r.d2dOk then .fail 0x62 s
  else if s.zither.enabled && !r.zitherOk then .fail 0x60 s
  else if s.rf.enabled && !r.lyreOk then .fail 0x61 s
  else
    let s := if s.d2d.up then (r.aux.zipIdx).foldl (fun a x => setAux x.2 x.1 a) s else s
    .done (onKeeper (fun k => { k with
      clockRunning := k.clockRunning ||| 2 ^ 9 * bit s.d2d.up ||| 2 ^ 7 * bit s.d2d.up ||| 2 ^ 8 * bit s.rf.enabled }) s)

/-- S7 where no HELLO decided the role (R345 to R347): the active role alone provided TWL_ROLE is released, else STANDBY; with the link
untrained and both lines released the lower UID claims. -/
def workS7 (r : StageReport) (s : State) : StageWork :=
  if s.twin.role != .starting then .done s
  else if !negotiates s then
    .done (if r.roleLow then setPartner .present 0 (becomeStandby true s) else claim false s)
  else if r.roleLow then .done (becomeStandby false s)
  else if r.twillTrained || r.uidWins then .done (claim false s)
  else .done (becomeStandby false s)

/-- The work of a stage before S8. -/
def stageWork (r : StageReport) (s : State) : StageWork :=
  match s.boot.stage with
  | 0 => workS0 s
  | 1 => workS1 r s
  | 2 => workS2 r s
  | 3 => workS3 r s
  | 4 => workS4 r s
  | 5 => workS5 r s
  | 6 => workS6 r s
  | _ => workS7 r s

/-- A stage passes (R397, R403): recorded, FAIL_RUN 0, the next one entered. At the entry to S7 the chip sends its HELLO. -/
def stagePasses (ms : Nat) (s : State) : State :=
  let n := s.boot.stage
  let s := journal 0x01 n 0 0 (putLe 4 ms) s
  let s := onJournal (fun j => { j with failRun := j.failRun.set n 0, stageReached := n + 1 }) s
  let s := onBoot (fun b => { b with stage := n + 1, stageAt := s.clk }) s
  if n = 6 && negotiates s then sendHello s else s

/-! ## S8 -/

/-- Nanoseconds of the timebase at an LTIME (R266). -/
def nsOfLtime (x : LTime) : Nat := (x / 65536 + 946684800) * 1000000000 + x % 65536 * 1000000000 / 65536

/-- Chip time loaded (R274): from the RTC, or from COMMITTED of the mounted root + 1 s with UNSET set. -/
def loadTime (s : State) : State :=
  let root := ((s.led.rootLog.filter fun r => r.epoch == s.led.lastCommitted && !r.voided).getLast?.map (·.committed)).getD 0
  let x := if s.keeper.rtcValid then s.keeper.rtc else root + 65536
  let s := { s with tb := { s.tb with c0 := s.tb.c, t0 := (nsOfLtime x : Int) * 65536 } }
  onTime (fun t => { t with
    servo := .freeRun
    source := .none
    unset := !s.keeper.rtcValid
    lastUtcCount := s.led.work.utc (now s) }) s

/-- Events that the start owes, in order: those kept for it, then a failed stage each, then a fallen-back image (R382, R397, R402,
R413). -/
def owedEvents (s : State) : List EvRec :=
  s.boot.owed ++ (s.boot.unreported.map fun u => mkEv s 0x0905 (putLe 1 u.1 ++ putLe 2 u.2) none) ++
    (if owesFallback s || s.boot.altApplied.testBit 0 then [mkEv s 0x0D03 (putLe 4 s.fw.runningVersion) none] else [])

/-- They are raised: an active appends each, a standby sends it to the active (R349). -/
def raiseOwed (s : State) : State :=
  let evs := owedEvents s
  let s := fallbackDone (onBoot (fun b => { b with owed := [], unreported := [] }) s)
  evs.foldl (fun a e => raiseOwn e a) s

/-- DATA that an audit record keeps of a completion (R39). -/
def keptData (a : Audit) : Bytes :=
  if [0x0104, 0x0208, 0x0401, 0x0501, 0x0502, 0x0603, 0x0701, 0x0803, 0x0804, 0x0B04, 0x0E04].contains a.opcode then putLe 4 a.newVersion
  else if a.opcode = 0x0201 then putLe 4 (a.mh.getD 0)
  else if a.opcode = 0x0601 then a.new.take 8
  else []

/-- A cached completion rebuilt from an audit record (R39). -/
def rebuilt (epoch : Nat) (a : Audit) : Cached :=
  ⟨a.tag, [], a.frameDigest, ⟨a.tag, a.result, a.opcode, true, true, false, a.ring, 0, 0, epoch, fitTo 32 (keptData a), []⟩⟩

/-- The rings' caches rebuilt from the audit records of committed epochs, up to 4,096 per ring (R39). -/
def rebuildCaches (s : State) : State :=
  let of (n : Nat) : List Cached :=
    lastN 4096 ((s.led.work.audits.filter fun x => !x.2.sub && x.2.ring == n).map fun x => rebuilt x.1 x.2)
  let rings : List Ring := (s.bar0.rings.zipIdx).map (fun r => { r.1 with cache := of r.2 })
  { s with bar0 := { s.bar0 with rings := rings } }

/-- The joinings that a reset broke off wait for their meters again. -/
def joinsAtStart (s : State) : State :=
  let waiting := s.led.work.recs.filter fun e => e.2.segment == 0 && e.2.net.state == .joining
  { s with meters := { s.meters with joins := waiting.map fun e => ⟨e.1, 0, s.clk, false, true⟩ } }

/-- The fault code that a start without a new one clears (R377). -/
def clearCode (s : State) : State :=
  if s.keeper.codeRaised || s.keeper.faultCode = 0 || s.keeper.faultCode = 0x3001 ||
      (s.keeper.faultCode = 0x4001 && s.keeper.degraded.contains 1) then s
  else showCode 0 s

/-- DEVICE_READY with the role of SYS_SET_ROLE and the last committed epoch (Table CI.16). -/
def deviceReady (s : State) : State := raiseHw 0x0001 (putLe 1 (bit s.boot.headRole) ++ putLe 8 s.led.lastCommitted) s

/-- S8 on an active (Table CK.4): the first epoch of the start opens, missed boundaries are evaluated, the aux contacts are judged,
DEVICE_READY is raised. -/
def serviceActive (s : State) : State :=
  let s := openNext (now s) false s
  let s := raiseOwed (onBoot (fun b => { b with openedFirst := true, firstEpoch := openNum s }) s)
  let s := if s.time.unset then rulesEffective s else evalMissed s
  let s := if s.d2d.up then judgeContact 1 (judgeContact 0 s) else s
  deviceReady s

/-- S8 on a standby: nothing opens before its resynchronisation (R364); an inert one has none to wait for (log entry 69). -/
def serviceStandby (s : State) : State :=
  startResync (deviceReady (raiseOwed (onBoot (fun b => { b with openedFirst := true }) s)))

/-- S8 passes (R396, R402, R413, R414, Table KP.2): a trial is GOOD, ALT is clear, the keeper's relay hold ends. -/
def passS8 (s : State) : State :=
  let s := journal 0x01 8 0 0 (putLe 4 ((s.clk - s.boot.stageAt) / 250000)) s
  let s := onJournal (fun j => { j with failRun := j.failRun.set 8 0, alt := 0, failedStage := 0xF, lastCode := 0 }) s
  let s := keeperFollows (trialGood (onBoot (fun b => { b with passed8 := true }) s))
  kickCoil (onSupply (fun u => { u with relayHold := false }) s)

/-- The work of S8 (R39, R48, R274, R377, Table CK.4). -/
def workS8 (s : State) : State :=
  let s := campaignsAtStart (joinsAtStart (rebindRings (rebuildCaches (clearCode (loadTime s)))))
  let s := onKeeper (fun k => { k with appPeriodMs := k.appWdtMs }) s
  if isStandby s then
    let s := serviceStandby s
    if s.twin.inert then passS8 s else s
  else serviceActive s

/-- STAGE_COMPLETE (R396, R401): the work of the stage entered is done. A warning holds the start (R380); where recovery is due, it takes
the place of S1 (R403). -/
def opStage (r : StageReport) (s : State) : State :=
  if s.boot.phase != .running || s.boot.passed8 || warned s || (s.boot.stage == 0 && s.boot.journal.recovery == 1) then s
  else if s.boot.stage ≥ 8 then (if s.boot.openedFirst then s else workS8 s)
  else match stageWork r s with
    | .fail code s => failStage 0x0A code s
    | .done s => stagePasses r.ms s

/-- S8 passes at the first commit of the start, or for a standby at its first commit under resynchronisation (Table CK.4). -/
def passCheck (before : Nat) (s : State) : State :=
  if s.boot.phase == .running && s.boot.openedFirst && !s.boot.passed8 && s.led.lastCommitted != before &&
      (isStandby s || decide (s.led.lastCommitted ≥ s.boot.firstEpoch)) then passS8 s
  else s

/-- EPOCH_COMMIT (R101) with what the pair and a start make of it. -/
def opEpochCommit (n : Nat) (readBackEqual : Bool) (s : State) : State :=
  passCheck s.led.lastCommitted (opEpochCommitTwin n readBackEqual s)

/-- RESYNC_EPOCH_RECEIVED (R365) with what a start makes of it. -/
def opResyncReceived (c : Content) (s : State) : State := passCheck s.led.lastCommitted (opResyncEpoch c s)

/-! ## The rows -/

/-- START_MAIN_DOMAINS (R396). -/
def execStartMainDomains (s : State) : Host.Outcome State Fault Refusal := .next (opStart s)

/-- STAGE_COMPLETE (R396). -/
def execStageComplete (r : StageReport) (s : State) : Host.Outcome State Fault Refusal := .next (opStage r s)

/-- DEBUG_TOKEN_RECEIVED (R398). -/
def execDebugTokenReceived (token : Bytes) (s : State) : Host.Outcome State Fault Refusal := .next (opDebugToken token s)

/-- EPOCH_COMMIT (R101). -/
def execEpochCommit (epoch : Nat) (readBackEqual : Bool) (s : State) : Host.Outcome State Fault Refusal :=
  .next (opEpochCommit epoch readBackEqual s)

/-- RESYNC_EPOCH_RECEIVED (R365). -/
def execResyncEpochReceived (c : Content) (s : State) : Host.Outcome State Fault Refusal := .next (opResyncReceived c s)

end Sys2Proof.Machine
end

