-- ==== Sys2Proof/Machine/Dispatch.lean ====
section
/-! DEFINITION. exec: one arm for each command of the block, each one call of its meaning. -/

namespace Sys2Proof.Machine

open Sys2Proof

def exec (i : Instr) (s : State) : Host.Outcome State Fault Refusal :=
  match i with
  | .sysIdentify c => Sys2Proof.Machine.execSysIdentify c s
  | .sysGetStatus c => Sys2Proof.Machine.execSysGetStatus c s
  | .sysGetConfig c => Sys2Proof.Machine.execSysGetConfig c s
  | .sysSetConfig c => Sys2Proof.Machine.execSysSetConfig c s
  | .sysSetRole c => Sys2Proof.Machine.execSysSetRole c s
  | .sysReset c => Sys2Proof.Machine.execSysReset c s
  | .mtrAdmit c => Sys2Proof.Machine.execMtrAdmit c s
  | .mtrRelease c => Sys2Proof.Machine.execMtrRelease c s
  | .mtrLookup c => Sys2Proof.Machine.execMtrLookup c s
  | .mtrGetRecord c => Sys2Proof.Machine.execMtrGetRecord c s
  | .mtrList c => Sys2Proof.Machine.execMtrList c s
  | .mtrReadNow c => Sys2Proof.Machine.execMtrReadNow c s
  | .mtrDlms c => Sys2Proof.Machine.execMtrDlms c s
  | .mtrSetSchedule c => Sys2Proof.Machine.execMtrSetSchedule c s
  | .mtrListSegments c => Sys2Proof.Machine.execMtrListSegments c s
  | .ldgPin c => Sys2Proof.Machine.execLdgPin c s
  | .ldgUnpin c => Sys2Proof.Machine.execLdgUnpin c s
  | .ldgName c => Sys2Proof.Machine.execLdgName c s
  | .ldgDropName c => Sys2Proof.Machine.execLdgDropName c s
  | .ldgReadSeries c => Sys2Proof.Machine.execLdgReadSeries c s
  | .ldgReadJournal c => Sys2Proof.Machine.execLdgReadJournal c s
  | .ldgReadOpen c => Sys2Proof.Machine.execLdgReadOpen c s
  | .ldgCloseEpoch c => Sys2Proof.Machine.execLdgCloseEpoch c s
  | .ldgSetPeriod c => Sys2Proof.Machine.execLdgSetPeriod c s
  | .ldgExportBilling c => Sys2Proof.Machine.execLdgExportBilling c s
  | .valLoadRules c => Sys2Proof.Machine.execValLoadRules c s
  | .valReadRules c => Sys2Proof.Machine.execValReadRules c s
  | .valEdit c => Sys2Proof.Machine.execValEdit c s
  | .valRevalidate c => Sys2Proof.Machine.execValRevalidate c s
  | .trfLoadSchedule c => Sys2Proof.Machine.execTrfLoadSchedule c s
  | .trfLoadCalendar c => Sys2Proof.Machine.execTrfLoadCalendar c s
  | .trfReadDeterminants c => Sys2Proof.Machine.execTrfReadDeterminants c s
  | .trfPush c => Sys2Proof.Machine.execTrfPush c s
  | .ppyCredit c => Sys2Proof.Machine.execPpyCredit c s
  | .ppyReadAccount c => Sys2Proof.Machine.execPpyReadAccount c s
  | .ppySetFriendly c => Sys2Proof.Machine.execPpySetFriendly c s
  | .ppyDisconnect c => Sys2Proof.Machine.execPpyDisconnect c s
  | .ppyReconnect c => Sys2Proof.Machine.execPpyReconnect c s
  | .ppyOwnRelay c => Sys2Proof.Machine.execPpyOwnRelay c s
  | .balLoadGroups c => Sys2Proof.Machine.execBalLoadGroups c s
  | .balReadResult c => Sys2Proof.Machine.execBalReadResult c s
  | .balSnapshot c => Sys2Proof.Machine.execBalSnapshot c s
  | .balReadTopology c => Sys2Proof.Machine.execBalReadTopology c s
  | .balReadFeeder c => Sys2Proof.Machine.execBalReadFeeder c s
  | .timGet c => Sys2Proof.Machine.execTimGet c s
  | .timSet c => Sys2Proof.Machine.execTimSet c s
  | .timLoadZone c => Sys2Proof.Machine.execTimLoadZone c s
  | .timPtpConfig c => Sys2Proof.Machine.execTimPtpConfig c s
  | .keyDerive c => Sys2Proof.Machine.execKeyDerive c s
  | .keyImportWrapped c => Sys2Proof.Machine.execKeyImportWrapped c s
  | .keyReplace c => Sys2Proof.Machine.execKeyReplace c s
  | .keyErase c => Sys2Proof.Machine.execKeyErase c s
  | .keyGetAttr c => Sys2Proof.Machine.execKeyGetAttr c s
  | .keySetLifecycle c => Sys2Proof.Machine.execKeySetLifecycle c s
  | .fwuStage c => Sys2Proof.Machine.execFwuStage c s
  | .fwuVerify c => Sys2Proof.Machine.execFwuVerify c s
  | .fwuActivate c => Sys2Proof.Machine.execFwuActivate c s
  | .fwuCampaignStart c => Sys2Proof.Machine.execFwuCampaignStart c s
  | .fwuCampaignStatus c => Sys2Proof.Machine.execFwuCampaignStatus c s
  | .fwuCampaignAbort c => Sys2Proof.Machine.execFwuCampaignAbort c s
  | .twnStatus c => Sys2Proof.Machine.execTwnStatus c s
  | .twnSwitchover c => Sys2Proof.Machine.execTwnSwitchover c s
  | .twnResync c => Sys2Proof.Machine.execTwnResync c s
  | .twnSetSolo c => Sys2Proof.Machine.execTwnSetSolo c s
  | .stoHealth c => Sys2Proof.Machine.execStoHealth c s
  | .stoVolumeInfo c => Sys2Proof.Machine.execStoVolumeInfo c s
  | .stoRead c => Sys2Proof.Machine.execStoRead c s
  | .stoWrite c => Sys2Proof.Machine.execStoWrite c s
  | .stoDiscard c => Sys2Proof.Machine.execStoDiscard c s
  | .stoSetThreshold c => Sys2Proof.Machine.execStoSetThreshold c s
  | .pnlOledWrite c => Sys2Proof.Machine.execPnlOledWrite c s
  | .pnlAnnunciator c => Sys2Proof.Machine.execPnlAnnunciator c s
  | .pnlPlacardWrite c => Sys2Proof.Machine.execPnlPlacardWrite c s
  | .pnlStatus c => Sys2Proof.Machine.execPnlStatus c s
  | .tstRun c => Sys2Proof.Machine.execTstRun c s
  | .tstResult c => Sys2Proof.Machine.execTstResult c s
  | .tstCounters c => Sys2Proof.Machine.execTstCounters c s
  | .tstCalibrate c => Sys2Proof.Machine.execTstCalibrate c s
  | .registerWrite space off size write => Sys2Proof.Machine.execRegisterWrite space off size write s
  | .hostAttach => Sys2Proof.Machine.execHostAttach s
  | .orderlyDetach => Sys2Proof.Machine.execOrderlyDetach s
  | .surpriseRemoval => Sys2Proof.Machine.execSurpriseRemoval s
  | .mbxCrTailWrite ring value => Sys2Proof.Machine.execMbxCrTailWrite ring value s
  | .commandFetch ring f => Sys2Proof.Machine.execCommandFetch ring f s
  | .mbxCpHeadWrite ring value => Sys2Proof.Machine.execMbxCpHeadWrite ring value s
  | .mbxEvConsWrite value => Sys2Proof.Machine.execMbxEvConsWrite value s
  | .ringEnable ring value => Sys2Proof.Machine.execRingEnable ring value s
  | .ringDisable ring value => Sys2Proof.Machine.execRingDisable ring value s
  | .eventRingEnable value => Sys2Proof.Machine.execEventRingEnable value s
  | .eventRingDisable value => Sys2Proof.Machine.execEventRingDisable value s
  | .mbxEvLostRead => Sys2Proof.Machine.execMbxEvLostRead s
  | .kprHostUnlockWrite value => Sys2Proof.Machine.execKprHostUnlockWrite value s
  | .hostActionReset => Sys2Proof.Machine.execHostActionReset s
  | .hostActionRecovery => Sys2Proof.Machine.execHostActionRecovery s
  | .hostActionDumpJournal => Sys2Proof.Machine.execHostActionDumpJournal s
  | .remoteConnect session keyId => Sys2Proof.Machine.execRemoteConnect session keyId s
  | .remoteMessage session header body => Sys2Proof.Machine.execRemoteMessage session header body s
  | .remoteKeepaliveTimer session => Sys2Proof.Machine.execRemoteKeepaliveTimer session s
  | .remoteIdleTimeout session => Sys2Proof.Machine.execRemoteIdleTimeout session s
  | .remoteClose session reason => Sys2Proof.Machine.execRemoteClose session reason s
  | .qfbPush queue port word => Sys2Proof.Machine.execQfbPush queue port word s
  | .qfbEnd queue port lastValid => Sys2Proof.Machine.execQfbEnd queue port lastValid s
  | .qfbPop queue port whole damaged => Sys2Proof.Machine.execQfbPop queue port whole damaged s
  | .popStallRelease queue => Sys2Proof.Machine.execPopStallRelease queue s
  | .qfbDrop queue port => Sys2Proof.Machine.execQfbDrop queue port s
  | .qfbReset queue => Sys2Proof.Machine.execQfbReset queue s
  | .queuePointerMismatch queue readPointer => Sys2Proof.Machine.execQueuePointerMismatch queue readPointer s
  | .queueEnable queue value => Sys2Proof.Machine.execQueueEnable queue value s
  | .queueDisable queue value => Sys2Proof.Machine.execQueueDisable queue value s
  | .qfbErrRead queue => Sys2Proof.Machine.execQfbErrRead queue s
  | .scheduledSlot idx entry => Sys2Proof.Machine.execScheduledSlot idx entry s
  | .pendingSlotStart idx => Sys2Proof.Machine.execPendingSlotStart idx s
  | .responseTimeout idx => Sys2Proof.Machine.execResponseTimeout idx s
  | .sessionDeadline idx => Sys2Proof.Machine.execSessionDeadline idx s
  | .retryGapExpiry idx => Sys2Proof.Machine.execRetryGapExpiry idx s
  | .cipherJobComplete d => Sys2Proof.Machine.execCipherJobComplete d s
  | .appendGroupComplete idx => Sys2Proof.Machine.execAppendGroupComplete idx s
  | .meterSilent idx => Sys2Proof.Machine.execMeterSilent idx s
  | .joinRequestReceived f => Sys2Proof.Machine.execJoinRequestReceived f s
  | .joinConfirmReceived f => Sys2Proof.Machine.execJoinConfirmReceived f s
  | .meterLeaveReceived f => Sys2Proof.Machine.execMeterLeaveReceived f s
  | .joinAcceptResend idx => Sys2Proof.Machine.execJoinAcceptResend idx s
  | .joinConfirmWindowExpiry idx => Sys2Proof.Machine.execJoinConfirmWindowExpiry idx s
  | .joiningWaitAfterStart idx => Sys2Proof.Machine.execJoiningWaitAfterStart idx s
  | .quarantineExpiry net short => Sys2Proof.Machine.execQuarantineExpiry net short s
  | .lastGaspReceived f => Sys2Proof.Machine.execLastGaspReceived f s
  | .alarmReceived f => Sys2Proof.Machine.execAlarmReceived f s
  | .dlmsSegmentReceived f => Sys2Proof.Machine.execDlmsSegmentReceived f s
  | .announcementTimer => Sys2Proof.Machine.execAnnouncementTimer s
  | .announcementReceived a => Sys2Proof.Machine.execAnnouncementReceived a s
  | .admitReceived segment headRing lastAccepted => Sys2Proof.Machine.execAdmitReceived segment headRing lastAccepted s
  | .admitAckReceived segment result oldestHeld => Sys2Proof.Machine.execAdmitAckReceived segment result oldestHeld s
  | .epochDataReceived segment c => Sys2Proof.Machine.execEpochDataReceived segment c s
  | .epochAckReceived epoch result headEpoch => Sys2Proof.Machine.execEpochAckReceived epoch result headEpoch s
  | .epochGapReceived segment fromEpoch toEpoch => Sys2Proof.Machine.execEpochGapReceived segment fromEpoch toEpoch s
  | .uploadEpochResend => Sys2Proof.Machine.execUploadEpochResend s
  | .uploadChannelSilent segment closed => Sys2Proof.Machine.execUploadChannelSilent segment closed s
  | .forwardedCompletionReceived segment c => Sys2Proof.Machine.execForwardedCompletionReceived segment c s
  | .epochBoundary => Sys2Proof.Machine.execEpochBoundary s
  | .epochFlushWrite epoch pages failed => Sys2Proof.Machine.execEpochFlushWrite epoch pages failed s
  | .epochFlushed epoch => Sys2Proof.Machine.execEpochFlushed epoch s
  | .epochCommit epoch readBackEqual => Sys2Proof.Machine.execEpochCommit epoch readBackEqual s
  | .heldRetryTimer => Sys2Proof.Machine.execHeldRetryTimer s
  | .compareWaitExpiry => Sys2Proof.Machine.execCompareWaitExpiry s
  | .cursorExpiry ring opcode => Sys2Proof.Machine.execCursorExpiry ring opcode s
  | .dailyReclaim => Sys2Proof.Machine.execDailyReclaim s
  | .ruleTableEffective => Sys2Proof.Machine.execRuleTableEffective s
  | .tariffTableEffective => Sys2Proof.Machine.execTariffTableEffective s
  | .calendarEffective => Sys2Proof.Machine.execCalendarEffective s
  | .billingPeriodEnd => Sys2Proof.Machine.execBillingPeriodEnd s
  | .settlingClose => Sys2Proof.Machine.execSettlingClose s
  | .rateSwitch schedule => Sys2Proof.Machine.execRateSwitch schedule s
  | .demandWindowClose schedule => Sys2Proof.Machine.execDemandWindowClose schedule s
  | .standingCharge => Sys2Proof.Machine.execStandingCharge s
  | .creditPolicyEvaluation => Sys2Proof.Machine.execCreditPolicyEvaluation s
  | .disconnectDue idx => Sys2Proof.Machine.execDisconnectDue idx s
  | .relayFeedbackRecheck idx fb => Sys2Proof.Machine.execRelayFeedbackRecheck idx fb s
  | .balanceFirstEvaluation group start => Sys2Proof.Machine.execBalanceFirstEvaluation group start s
  | .balanceFinalEvaluation group start => Sys2Proof.Machine.execBalanceFinalEvaluation group start s
  | .groupTableEffective => Sys2Proof.Machine.execGroupTableEffective s
  | .periodicSnapshot group => Sys2Proof.Machine.execPeriodicSnapshot group s
  | .snapshotOrderSend id => Sys2Proof.Machine.execSnapshotOrderSend id s
  | .snapshotLatch id inputs => Sys2Proof.Machine.execSnapshotLatch id inputs s
  | .snapshotFetchStart id => Sys2Proof.Machine.execSnapshotFetchStart id s
  | .snapshotReplyReceived f => Sys2Proof.Machine.execSnapshotReplyReceived f s
  | .snapshotDone id => Sys2Proof.Machine.execSnapshotDone id s
  | .phaseCorrelation => Sys2Proof.Machine.execPhaseCorrelation s
  | .branchInference => Sys2Proof.Machine.execBranchInference s
  | .peakDayClear => Sys2Proof.Machine.execPeakDayClear s
  | .metrologyFrameReceived m => Sys2Proof.Machine.execMetrologyFrameReceived m s
  | .feederMinuteRecord m => Sys2Proof.Machine.execFeederMinuteRecord m s
  | .calibrationEffective => Sys2Proof.Machine.execCalibrationEffective s
  | .s0Pulse input => Sys2Proof.Machine.execS0Pulse input s
  | .ownRelayCurrentCheck relay ma => Sys2Proof.Machine.execOwnRelayCurrentCheck relay ma s
  | .coilOvercurrent relay ma => Sys2Proof.Machine.execCoilOvercurrent relay ma s
  | .ownRelayPulseEnd relay peakMa => Sys2Proof.Machine.execOwnRelayPulseEnd relay peakMa s
  | .ownRelayAuxCheck relay closed => Sys2Proof.Machine.execOwnRelayAuxCheck relay closed s
  | .ownRelayRepulse relay => Sys2Proof.Machine.execOwnRelayRepulse relay s
  | .auxUnstableTimeout relay => Sys2Proof.Machine.execAuxUnstableTimeout relay s
  | .auxContactChange relay closed => Sys2Proof.Machine.execAuxContactChange relay closed s
  | .zitherFrameReceived f => Sys2Proof.Machine.execZitherFrameReceived f s
  | .zitherTransmit limited => Sys2Proof.Machine.execZitherTransmit limited s
  | .zitherAckTimeout hop => Sys2Proof.Machine.execZitherAckTimeout hop s
  | .toneMapRequestReceived short snrDb => Sys2Proof.Machine.execToneMapRequestReceived short snrDb s
  | .toneMapResponseReceived short mod map cap lqi attenDb => Sys2Proof.Machine.execToneMapResponseReceived short mod map cap lqi attenDb s
  | .toneMapRequestTimeout short => Sys2Proof.Machine.execToneMapRequestTimeout short s
  | .toneMapHoldoffExpiry short => Sys2Proof.Machine.execToneMapHoldoffExpiry short s
  | .toneMapRefresh short => Sys2Proof.Machine.execToneMapRefresh short s
  | .linkProbe short => Sys2Proof.Machine.execLinkProbe short s
  | .neighbourExpiry net short => Sys2Proof.Machine.execNeighbourExpiry net short s
  | .routeReportReceived f => Sys2Proof.Machine.execRouteReportReceived f s
  | .routeSet net short => Sys2Proof.Machine.execRouteSet net short s
  | .routeErrorReceived f => Sys2Proof.Machine.execRouteErrorReceived f s
  | .routeRepairTimeout net short => Sys2Proof.Machine.execRouteRepairTimeout net short s
  | .linkFailExpiry net src dst => Sys2Proof.Machine.execLinkFailExpiry net src dst s
  | .currentLimitRestore => Sys2Proof.Machine.execCurrentLimitRestore s
  | .lyreFrameReceived f => Sys2Proof.Machine.execLyreFrameReceived f s
  | .lyreTransmit airtime => Sys2Proof.Machine.execLyreTransmit airtime s
  | .lyreAckTimeout hop airtime => Sys2Proof.Machine.execLyreAckTimeout hop airtime s
  | .dutyBudgetRelease => Sys2Proof.Machine.execDutyBudgetRelease s
  | .lyreBeaconTimer => Sys2Proof.Machine.execLyreBeaconTimer s
  | .seenCacheExpiry orig ctr => Sys2Proof.Machine.execSeenCacheExpiry orig ctr s
  | .checkInReceived f => Sys2Proof.Machine.execCheckInReceived f s
  | .installBeaconReceived f measured => Sys2Proof.Machine.execInstallBeaconReceived f measured s
  | .dlmsPushReceived f authFail r => Sys2Proof.Machine.execDlmsPushReceived f authFail r s
  | .rendezvousOrderSend idx => Sys2Proof.Machine.execRendezvousOrderSend idx s
  | .rendezvousTrainStart idx => Sys2Proof.Machine.execRendezvousTrainStart idx s
  | .wakeAckReceived f => Sys2Proof.Machine.execWakeAckReceived f s
  | .rendezvousTrainFailed idx => Sys2Proof.Machine.execRendezvousTrainFailed idx s
  | .ptpMessageReceived m => Sys2Proof.Machine.execPtpMessageReceived m s
  | .transparentClockForward m => Sys2Proof.Machine.execTransparentClockForward m s
  | .ptpAnnounceTimeout => Sys2Proof.Machine.execPtpAnnounceTimeout s
  | .holdoverTimeout => Sys2Proof.Machine.execHoldoverTimeout s
  | .ppsEdge => Sys2Proof.Machine.execPpsEdge s
  | .ppsLoss => Sys2Proof.Machine.execPpsLoss s
  | .ppsOutPulse => Sys2Proof.Machine.execPpsOutPulse s
  | .tsRateWrite value => Sys2Proof.Machine.execTsRateWrite value s
  | .tsStep => Sys2Proof.Machine.execTsStep s
  | .tsCountLoRead => Sys2Proof.Machine.execTsCountLoRead s
  | .tsNowNsRead => Sys2Proof.Machine.execTsNowNsRead s
  | .tsPpsInRead => Sys2Proof.Machine.execTsPpsInRead s
  | .leapSecond => Sys2Proof.Machine.execLeapSecond s
  | .rtcTrim => Sys2Proof.Machine.execRtcTrim s
  | .timeBeaconSend net channelBusy airtime => Sys2Proof.Machine.execTimeBeaconSend net channelBusy airtime s
  | .beaconDropTimeout net => Sys2Proof.Machine.execBeaconDropTimeout net s
  | .prevBkeyExpiry => Sys2Proof.Machine.execPrevBkeyExpiry s
  | .publicKeyJobComplete j => Sys2Proof.Machine.execPublicKeyJobComplete j s
  | .nandProgramComplete us => Sys2Proof.Machine.execNandProgramComplete us s
  | .nandProgramFail stream u => Sys2Proof.Machine.execNandProgramFail stream u s
  | .nandEraseFail channel enable block => Sys2Proof.Machine.execNandEraseFail channel enable block s
  | .nandRead u o => Sys2Proof.Machine.execNandRead u o s
  | .patrolRead u o => Sys2Proof.Machine.execPatrolRead u o s
  | .collectionStart victim us => Sys2Proof.Machine.execCollectionStart victim us s
  | .collectionCopyVerified source dest onlyRetained => Sys2Proof.Machine.execCollectionCopyVerified source dest onlyRetained s
  | .collectionTargetFail channel enable block => Sys2Proof.Machine.execCollectionTargetFail channel enable block s
  | .wearLevelMove victim us => Sys2Proof.Machine.execWearLevelMove victim us s
  | .targetNoAnswer channel enable => Sys2Proof.Machine.execTargetNoAnswer channel enable s
  | .storeStageChange f stepsSpent => Sys2Proof.Machine.execStoreStageChange f stepsSpent s
  | .salvageTimer => Sys2Proof.Machine.execSalvageTimer s
  | .helloReceived h => Sys2Proof.Machine.execHelloReceived h s
  | .helloAuthReceived signatureOk => Sys2Proof.Machine.execHelloAuthReceived signatureOk s
  | .heartbeatReceived self partner epochHigh watermark zitherCtr lyreCtr => Sys2Proof.Machine.execHeartbeatReceived self partner epochHigh watermark zitherCtr lyreCtr s
  | .heartbeatSend => Sys2Proof.Machine.execHeartbeatSend s
  | .twillTimeReceived offsetNs => Sys2Proof.Machine.execTwillTimeReceived offsetNs s
  | .inputReceived seq arrival input => Sys2Proof.Machine.execInputReceived seq arrival input s
  | .appendMarkReceived key epoch => Sys2Proof.Machine.execAppendMarkReceived key epoch s
  | .closeReceived epoch closed cause => Sys2Proof.Machine.execCloseReceived epoch closed cause s
  | .leaveSyncReceived reason epoch => Sys2Proof.Machine.execLeaveSyncReceived reason epoch s
  | .partnerEventReceived e => Sys2Proof.Machine.execPartnerEventReceived e s
  | .frameDigestReceived net typ dest n digest => Sys2Proof.Machine.execFrameDigestReceived net typ dest n digest s
  | .frameDigestUnmatched net typ dest n => Sys2Proof.Machine.execFrameDigestUnmatched net typ dest n s
  | .epochDigestReceived epoch digest => Sys2Proof.Machine.execEpochDigestReceived epoch digest s
  | .digestWaitExpiry => Sys2Proof.Machine.execDigestWaitExpiry s
  | .divergedReceived kind ref => Sys2Proof.Machine.execDivergedReceived kind ref s
  | .signatureReceived run passed failed signature => Sys2Proof.Machine.execSignatureReceived run passed failed signature s
  | .arbitrationTimeout => Sys2Proof.Machine.execArbitrationTimeout s
  | .switchoverReceived epoch => Sys2Proof.Machine.execSwitchoverReceived epoch s
  | .takeoverReceived firstEpoch inputSeq epochHigh => Sys2Proof.Machine.execTakeoverReceived firstEpoch inputSeq epochHigh s
  | .resyncRootsReceived roots => Sys2Proof.Machine.execResyncRootsReceived roots s
  | .resyncPlanReceived full fromEpoch => Sys2Proof.Machine.execResyncPlanReceived full fromEpoch s
  | .resyncUnitsReceived volume lba units copied => Sys2Proof.Machine.execResyncUnitsReceived volume lba units copied s
  | .resyncEpochReceived c => Sys2Proof.Machine.execResyncEpochReceived c s
  | .resyncDoneReceived lastSent => Sys2Proof.Machine.execResyncDoneReceived lastSent s
  | .twillRetransmit linkSeq => Sys2Proof.Machine.execTwillRetransmit linkSeq s
  | .twillLinkSilent => Sys2Proof.Machine.execTwillLinkSilent s
  | .alivePulse => Sys2Proof.Machine.execAlivePulse s
  | .twlInhibitSensed roleLow => Sys2Proof.Machine.execTwlInhibitSensed roleLow s
  | .twlAliveSilent roleLow => Sys2Proof.Machine.execTwlAliveSilent roleLow s
  | .powerFailWarning rail mv => Sys2Proof.Machine.execPowerFailWarning rail mv s
  | .dipHoldEnd minMv => Sys2Proof.Machine.execDipHoldEnd minMv s
  | .degradedCauseEnd => Sys2Proof.Machine.execDegradedCauseEnd s
  | .mainSupplyReset mainMv fieldMv => Sys2Proof.Machine.execMainSupplyReset mainMv fieldMv s
  | .fieldSupplyReset mv => Sys2Proof.Machine.execFieldSupplyReset mv s
  | .fieldDieRelease => Sys2Proof.Machine.execFieldDieRelease s
  | .keeperPowerOn rtcKept => Sys2Proof.Machine.execKeeperPowerOn rtcKept s
  | .sysResetNLow => Sys2Proof.Machine.execSysResetNLow s
  | .pcieHotReset => Sys2Proof.Machine.execPcieHotReset s
  | .delayedReset => Sys2Proof.Machine.execDelayedReset s
  | .tamperAccepted input => Sys2Proof.Machine.execTamperAccepted input s
  | .appWatchdogExpiry => Sys2Proof.Machine.execAppWatchdogExpiry s
  | .twinWatchdogExpiry => Sys2Proof.Machine.execTwinWatchdogExpiry s
  | .keeperWatchdogExpiry => Sys2Proof.Machine.execKeeperWatchdogExpiry s
  | .bridgeTimeout domain stepDown => Sys2Proof.Machine.execBridgeTimeout domain stepDown s
  | .clockStopped domain => Sys2Proof.Machine.execClockStopped domain s
  | .kprWdtKickWrite value => Sys2Proof.Machine.execKprWdtKickWrite value s
  | .kprRequestReset => Sys2Proof.Machine.execKprRequestReset s
  | .kprRequestRecovery => Sys2Proof.Machine.execKprRequestRecovery s
  | .kprRequestFaultCode code => Sys2Proof.Machine.execKprRequestFaultCode code s
  | .kprRequestStepDown => Sys2Proof.Machine.execKprRequestStepDown s
  | .kprDipMinRead => Sys2Proof.Machine.execKprDipMinRead s
  | .kprBridgeRead => Sys2Proof.Machine.execKprBridgeRead s
  | .kprClockStatusRead => Sys2Proof.Machine.execKprClockStatusRead s
  | .d2dLinkLost => Sys2Proof.Machine.execD2dLinkLost s
  | .d2dRetrainDone => Sys2Proof.Machine.execD2dRetrainDone s
  | .d2dRetrainFail => Sys2Proof.Machine.execD2dRetrainFail s
  | .startMainDomains => Sys2Proof.Machine.execStartMainDomains s
  | .stageComplete r => Sys2Proof.Machine.execStageComplete r s
  | .stageLimitExpiry => Sys2Proof.Machine.execStageLimitExpiry s
  | .stageFailure code => Sys2Proof.Machine.execStageFailure code s
  | .debugTokenReceived token => Sys2Proof.Machine.execDebugTokenReceived token s
  | .recoveryEntry => Sys2Proof.Machine.execRecoveryEntry s
  | .loaderAnnounceTimer => Sys2Proof.Machine.execLoaderAnnounceTimer s
  | .loaderOffer ethernet total => Sys2Proof.Machine.execLoaderOffer ethernet total s
  | .loaderData ethernet offset bytes => Sys2Proof.Machine.execLoaderData ethernet offset bytes s
  | .loaderFinish ethernet => Sys2Proof.Machine.execLoaderFinish ethernet s
  | .loaderOfferAbandon => Sys2Proof.Machine.execLoaderOfferAbandon s
  | .loaderReset => Sys2Proof.Machine.execLoaderReset s
  | .campaignRoundStart campaign => Sys2Proof.Machine.execCampaignRoundStart campaign s
  | .campaignBlockPace campaign => Sys2Proof.Machine.execCampaignBlockPace campaign s
  | .campaignRoundGap campaign => Sys2Proof.Machine.execCampaignRoundGap campaign s
  | .campaignActivateAt campaign => Sys2Proof.Machine.execCampaignActivateAt campaign s
  | .oledFrameStart => Sys2Proof.Machine.execOledFrameStart s
  | .blinkPhase => Sys2Proof.Machine.execBlinkPhase s
  | .annunciatorMeasurement channel currentPct pinMv => Sys2Proof.Machine.execAnnunciatorMeasurement channel currentPct pinMv s
  | .placardUpdateStart allBad bad => Sys2Proof.Machine.execPlacardUpdateStart allBad bad s
  | .placardPhaseEnd => Sys2Proof.Machine.execPlacardPhaseEnd s
  | .crackSample panel open_ => Sys2Proof.Machine.execCrackSample panel open_ s
  | .selfTestPartitionEnd r => Sys2Proof.Machine.execSelfTestPartitionEnd r s
  | .coalescedInterruptTimer ring => Sys2Proof.Machine.execCoalescedInterruptTimer ring s
  | .uploadChannelConnect keyId => Sys2Proof.Machine.execUploadChannelConnect keyId s
  | .snapshotFetchTimeout idx => Sys2Proof.Machine.execSnapshotFetchTimeout idx s
  | .twlAliveLowSampled => Sys2Proof.Machine.execTwlAliveLowSampled s
  | .claimCoilWait => Sys2Proof.Machine.execClaimCoilWait s
  | .relayPulseGap relay => Sys2Proof.Machine.execRelayPulseGap relay s
  | .clockReturn domain => Sys2Proof.Machine.execClockReturn domain s
  | .pcieLinkUp => Sys2Proof.Machine.execPcieLinkUp s
  | .delayReqTimer => Sys2Proof.Machine.execDelayReqTimer s
  | .commandDeadlineExpiry ring tag => Sys2Proof.Machine.execCommandDeadlineExpiry ring tag s
  | .standbyDigestDeadline => Sys2Proof.Machine.execStandbyDigestDeadline s
  | .nandEraseComplete channel enable block => Sys2Proof.Machine.execNandEraseComplete channel enable block s
  | .loaderLinkSearch found => Sys2Proof.Machine.execLoaderLinkSearch found s
  | .keeperSupplyLoss => Sys2Proof.Machine.execKeeperSupplyLoss s
  | .ethernetLinkChange port up => Sys2Proof.Machine.execEthernetLinkChange port up s

end Sys2Proof.Machine
end

