-- ==== Sys2Proof/Machine/Idle.lean ====
section
/-! DEFINITION. What the clock does when no command waits: one 250 MHz edge (R263) and the keeper's RTC (R274). -/

namespace Sys2Proof.Machine

/-- One edge: the model's clock advances; C advances while D-TS runs, with the main domains released and
not in recovery (R263, R404); the keeper's RTC counts at 1/32,768 s while VDD_KPR is present. -/
def tick (s : State) : State :=
  let clk := s.clk + 1
  let run := s.boot.phase == .running
  { s with
    clk := clk
    tb := if run then { s.tb with c := s.tb.c + 1 } else s.tb
    keeper := if s.keeper.supply.kprOn
      then { s.keeper with rtc := s.keeper.rtc + 2 * (clk * 32768 / 250000000 - s.clk * 32768 / 250000000) }
      else s.keeper }

end Sys2Proof.Machine
end

