-- ==== Sys2Proof/Machine/Step.lean ====
section
/-! DEFINITION. One step of the block: the command at the front of the queue, or one tick of the clock when it is empty. -/

namespace Sys2Proof.Machine

/-- The state with a command taken from the front of the queue. -/
def State.withQueue (s : State) (rest : List Instr) : State := { s with pending := rest }

/-- Take the command at the front of the queue and run it on the state with the queue's rest; on an empty queue one edge
of the 250 MHz clock passes (DESIGN CHOICE, log entry 1). -/
def step (s : State) : Host.Outcome State Fault Refusal :=
  match s.pending with
  | c :: rest => exec c (s.withQueue rest)
  | [] => .next (tick s)

/-- The state with the command that a word spells put at the front of its queue; unchanged where it spells none. -/
def State.withFetchWord (s : State) (nbits w : Nat) : State :=
  match Sys2Proof.decodeTableWord nbits w with
  | some c => { s with pending := c :: s.pending }
  | none => s

end Sys2Proof.Machine
end

