-- ==== Sys2Proof/Safety.lean ====
section
/-! DEFINITION. What claims use: when a command may execute, what its completion leaves, what stands still beside it,
and the invariant of the block. -/

namespace Sys2Proof.Safety

open Sys2Proof.Machine

/-! ## Frames -/

/-- Two states agree in everything but the ledger, the position in the twin's stream, commands in progress, BAR0, remote and
upload sessions, the outputs and the counter of free values: what an append group and a completion may touch. -/
def Still (s t : State) : Prop :=
  t.pending = s.pending ∧ t.clk = s.clk ∧ t.fuse = s.fuse ∧ t.nextSeq = s.nextSeq ∧ t.uploadHeads = s.uploadHeads ∧
  t.fabric = s.fabric ∧ t.meters = s.meters ∧ t.balance = s.balance ∧ t.met = s.met ∧ t.zither = s.zither ∧
  t.rf = s.rf ∧ t.lyre = s.lyre ∧ t.tb = s.tb ∧ t.time = s.time ∧ t.keys = s.keys ∧ t.store = s.store ∧
  t.twinBuffer = s.twinBuffer ∧ t.keeper = s.keeper ∧ t.boot = s.boot ∧ t.fw = s.fw ∧ t.panel = s.panel ∧
  t.selfTest = s.selfTest ∧ t.counters = s.counters ∧ t.d2d = s.d2d ∧ t.ethLinks = s.ethLinks ∧
  t.twin = { s.twin with inputSeq := t.twin.inputSeq, curSeq := t.twin.curSeq, groupIndex := t.twin.groupIndex }

/-- What a completion may touch at most: the ledger and the twin's stream stand too. -/
def StillLedger (s t : State) : Prop := Still s t ∧ t.led = s.led ∧ t.twin = s.twin

/-! ## Commands of the host (R38, R41) -/

/-- A command in progress as `f` may execute now: fetched, not yet finished nor forwarded, its opcode the row's, the order
of its ring and of its meter allowing it (R41), the chip in service (R43) and in the role the opcode needs; it asks for no
WAIT_COMMIT. -/
def ready (op : Nat) (c : Cmd) (f : InFlight) (s : State) : Bool :=
  (s.inflight.find? (fun g => g.cmd == c && g.waitCommit.isNone && g.forwardedTo.isNone) == some f) &&
    c.opcode == op && orderAllows f s && sameMhClear f s && inService s && !c.waitCommit &&
    (!((opRow op).any fun r => r.head) || s.boot.headRole)

/-- A command in progress marked as started (R41). -/
def started (f : InFlight) (s : State) : State :=
  { s with inflight := modifyFirst (fun g => g.seq == f.seq) (fun g => { g with started := true }) s.inflight }

/-- The state in which the body of a ready command runs: the command has started, and a changing command is a new input of
the stream (R349). -/
def running (op : Nat) (f : InFlight) (s : State) : State :=
  if (opRow op).any fun r => r.chg then newInput 4 (started f s) else started f s

/-- A completion has gone where it is owed (R34, R49): to the ring's completion ring, with CR_HEAD as it stands, or to the
remote session or the upload channel the command came from. -/
def Delivered (f : InFlight) (c : Completion) (s t : State) : Prop :=
  match f.dests.head? with
  | some .host => ∃ slot phase head, Output.completion f.cmd.ring slot phase { c with crHead := head } ∈ t.out
  | some .remote =>
    ∀ i, f.session = some i → (s.remotes.any fun r => r.id == i) = true → Output.remoteCompletion i c ∈ t.out
  | some .upload => s.uploadSub.connected = true → Output.uploadSub 0x02 (c.bytes false ++ c.out) ∈ t.out
  | _ => True

/-- A command has completed: it is no longer in progress and its completion is delivered. -/
def Answered (f : InFlight) (c : Completion) (s t : State) : Prop :=
  (∀ g ∈ t.inflight, g.seq ≠ f.seq) ∧ Delivered f c s t

/-- A read completed (R37): its completion holds RESULT, EPOCH, COMMITTED, UNCOMMITTED_DATA, DATA and what was written to the
buffer; the ledger and every unit stand. -/
def Reads (f : InFlight) (result epoch : Nat) (uncommitted : Bool) (data out : Bytes) (s t : State) : Prop :=
  Answered f (mkCompletion f result epoch (if f.cmd.bufOut then out.length else f.cmd.bufLen) (committed s epoch)
    uncommitted data out) s t ∧ StillLedger s t

/-- A command completed with a result that changes nothing. -/
def Declines (f : InFlight) (result : Nat) (data : Bytes) (s t : State) : Prop :=
  Answered f (mkCompletion f result 0 0 false false data []) s t ∧ Still s t ∧ t.led = s.led

/-- The ledger's content after items of one group. -/
def contentAfter (n : Nat) (at_ : LTime) (items : List Item) (l : LState) : LState :=
  items.foldl (fun w i => i.apply n at_ w) l

/-- The ledger takes a group now: fewer than two epochs are HELD (R99) and the store is not in SALVAGE (R121). -/
def takesGroups (s : State) : Bool := decide (heldCount s < 2) && !inSalvage s

/-- A change completed (R37, R54): the open epoch took one group of the items with the audit record last, the completion
holds that epoch, and every unit outside the ledger is as in `s` (`s` carrying what the command does beside the ledger). -/
def Changes (f : InFlight) (items : List Item) (p : AuditPart) (data : Bytes) (s t : State) : Prop :=
  t.led.work = contentAfter (groupEpoch s) (now s) (items ++ [.audit (auditOf s f p 0)]) s.led.work ∧
    Answered f (mkCompletion f 0 (openNum s) f.cmd.bufLen false false data []) s t ∧ Still s t

/-- A command names the chip's own meter at an index by a good handle, and no session with it runs (R9, R73, R84). -/
def ownIdle (i : Nat) (r : Rec) (c : Cmd) (s : State) : Bool :=
  s.led.work.recOf (c.p 0x20 4) == some (i, r) && r.segment == 0 && !servesCmd s c && (sessionOf s i).isNone

/-- An exchange for such a command may start now (R28, R83): field work may start and a session's place is free. -/
def startable (i : Nat) (r : Rec) (c : Cmd) (f : InFlight) (s : State) : Bool :=
  ownIdle i r c s && mayExchange s && decide (s.meters.sessions.length < 1024) &&
    ((inflightOf s (c.ring, c.tag)).map (·.takenAt) == some f.takenAt)

/-- A table load that changes (R42): EXPECT_VERSION is the table's version or 0xFFFF_FFFF, and the table differs from the one
loaded last. -/
def loadable (c : Cmd) (version : Nat) (raw : Bytes) : Bool :=
  versionOk (c.p 0x20 4) version && (version == 0 || raw != c.buf)

/-- What the audit record of a table load holds (R114): the digests of both tables. -/
def tableAudit (version : Nat) (old new : Bytes) : AuditPart :=
  ⟨0, true, false, none, version, nextVersion version, Config.sha256 old, Config.sha256 new⟩

/-- The cells of a queue accounted for (R57): free credits, the words of visible packets not yet popped, and the cells debited for a
packet under production. -/
def queueCells (q : Queue) : Nat :=
  q.creditCells + (q.items.map List.length).sum + (if q.building.isSome then q.maxPktCells else 0)

/-- What a reset of the main domains leaves (R393, R394, Table KP.2): the domains are held for 10 ms, rings, queues, sessions, timebase
and commands in progress are at their reset state, TWL_ROLE and TWL_ALIVE are released and TWL_INHIBIT_N is low, the keeper holds the
relays; epochs not committed are gone, and what is committed, the keys' life cycle and the field die's pulse totals stand. -/
def AfterMainReset (s t : State) : Prop :=
  t.boot.phase = .held ∧ t.boot.passed8 = false ∧ t.boot.releaseAt = s.clk + msTicks 10 ∧
  t.bar0.rings = List.replicate 16 Ring.reset ∧ t.bar0.ev = EvRing.reset ∧ t.bar0.attached = false ∧
  t.inflight = [] ∧ t.remotes = [] ∧ t.uploadHeads = [] ∧ t.fabric = List.replicate 128 Queue.reset ∧
  t.meters = Meters.blank ∧ t.tb = Timebase.reset ∧ t.keys.slots = [] ∧ t.twinBuffer = [] ∧ t.d2d.up = false ∧
  t.twin.lines.roleLatch = false ∧ t.twin.lines.aliveLow = false ∧ t.twin.lines.inhibitLow = true ∧
  t.keeper.supply.relayHold = true ∧ t.keeper.appArmed = false ∧
  t.led.epochs = [] ∧ t.led.lastCommitted = s.led.lastCommitted ∧ t.led.slot0 = s.led.slot0 ∧ t.led.slot1 = s.led.slot1 ∧
  t.led.rootLog = s.led.rootLog ∧ t.led.readable = s.led.readable ∧ t.led.contents = s.led.contents ∧
  t.store.map = s.store.map ∧ t.store.vol3 = s.store.vol3 ∧ t.keys.lifecycle = s.keys.lifecycle ∧
  t.keys.lcCounter = s.keys.lcCounter ∧ t.keys.persistent = s.keys.persistent ∧ t.met.totals = s.met.totals ∧
  t.fuse = s.fuse ∧ t.clk = s.clk ∧ t.pending = s.pending

/-- The invariant of the block: the fabric has its 128 queues (R56), BAR0 its 16 rings (R31) and the 128 words of its MSI-X table, the
boot journal a FAIL_RUN count for each of the nine stages S0 to S8 and at most 2,044 records (R400). -/
def Sound (s : State) : Prop :=
  s.fabric.length = 128 ∧ s.bar0.rings.length = 16 ∧ s.bar0.msix.length = 128 ∧ s.boot.journal.failRun.length = 9 ∧
  s.boot.journal.recs.length ≤ 2044

end Sys2Proof.Safety
end

