-- ==== Sys2Proof/Certificates/Slice0/Obligations.lean ====
section
/-! DEFINITION. The statements for the provers. -/

open Sys2Proof Sys2Proof.Machine Sys2Proof.Safety

/-- R45, R472, R51: SYS_IDENTIFY, SYS_GET_STATUS and SYS_GET_CONFIG of a command that may execute complete with the data
the rules give, and the ledger and every unit stand. A configuration value is that of the last committed epoch; one longer
than the buffer is cut with 0x0001 (R37).
R470, R105, R117, R9, R73: the reads of meter records. MTR_LOOKUP, MTR_GET_RECORD, MTR_LIST and MTR_LIST_SEGMENTS read
a committed epoch and name it; a meter that MTR_LOOKUP does not find gives 0x0103, a handle that is stale now gives 0x0202,
and each leaves the ledger and every unit.
Log entries met: 10, 32. -/
def Obligations.SystemAndMeterReadsAnswer : Prop :=
  (∀ c f s, ready 0x0101 c f s = true → ∃ t, exec (.sysIdentify c) s = .next t ∧
    Reads f 0 0 false (putLe 1 s.fuse.ordering ++ putLe 1 (bit s.boot.headRole) ++ putLe 1 (segmentId s) ++
      putLe 1 s.fuse.revision ++ putLe 4 (mbxVersion s) ++ putLe 4 s.fw.runningVersion ++ zeros 4 ++ fitTo 16 s.fuse.uid)
      [] s t) ∧
  (∀ c f s, ready 0x0102 c f s = true → ∃ t, exec (.sysGetStatus c) s = .next t ∧
    Reads f 0 0 false (putLe 8 s.led.lastCommitted ++ putLe 8 (openNum s) ++ putLe 4 (joinedCount s) ++
      putLe 2 s.meters.sessions.length ++ putLe 1 (s.uploadHeads.filter fun u => u.joined).length ++ zeros 1 ++
      putLe 4 (mbxStatus s)) [] s t) ∧
  (∀ c f s n l, ready 0x0103 c f s = true → (itemSize (c.p 0x20 4)).isSome = true → readAt s 0 = some (n, l) →
    ∃ t, exec (.sysGetConfig c) s = .next t ∧
      Reads f (if (readItem s l (c.p 0x20 4)).length ≤ c.bufLen then 0 else 0x0001) n false
        (putLe 4 (readVersion s l (c.p 0x20 4)) ++ putLe 4 (readItem s l (c.p 0x20 4)).length)
        ((readItem s l (c.p 0x20 4)).take c.bufLen) s t) ∧
  (∀ c f s n l i r, ready 0x0203 c f s = true → readAt s 0 = some (n, l) → l.byIdentity (c.pBytes 0x20 16) = some (i, r) →
    ∃ t, exec (.mtrLookup c) s = .next t ∧ Reads f 0 n false (putLe 4 (recMh i r) ++ putLe 2 r.net.short ++
      putLe 1 ((r.net.network.map Net.code).getD 0) ++ putLe 1 r.segment) [] s t) ∧
  (∀ c f s n l, ready 0x0203 c f s = true → readAt s 0 = some (n, l) → l.byIdentity (c.pBytes 0x20 16) = none →
    ∃ t, exec (.mtrLookup c) s = .next t ∧ Declines f 0x0103 [] s t) ∧
  (∀ c f s n l i r, ready 0x0204 c f s = true → (s.led.work.recOf (c.p 0x20 4)).isSome = true →
    readAt s (c.p 0x28 8) = some (n, l) → l.recOf (c.p 0x20 4) = some (i, r) → ∃ t, exec (.mtrGetRecord c) s = .next t ∧
      Reads f (if (r.bytes i).length ≤ c.bufLen then 0 else 0x0001) n false [] ((r.bytes i).take c.bufLen) s t) ∧
  (∀ c f s, ready 0x0204 c f s = true → s.led.work.recOf (c.p 0x20 4) = none → ∃ t, exec (.mtrGetRecord c) s = .next t ∧
    Declines f 0x0202 [] s t) ∧
  (∀ c f s n l all, ready 0x0205 c f s = true → c.p 0x24 4 ≠ 0 → c.p 0x20 4 ≤ maxIndex s → readAt s 0 = some (n, l) →
    all = l.recs.filter (fun e => decide (e.1 ≥ c.p 0x20 4)) → c.p 0x24 4 ≤ c.bufLen / 4 → all.length ≤ c.p 0x24 4 →
    ∃ t, exec (.mtrList c) s = .next t ∧ Reads f 0 n false (putLe 4 all.length ++ putLe 4 0xFFFFFFFF)
      (all.flatMap fun e => putLe 4 (recMh e.1 e.2)) s t) ∧
  (∀ c f s n l, ready 0x0209 c f s = true → readAt s 0 = some (n, l) → ∃ t, exec (.mtrListSegments c) s = .next t ∧
    Reads f (if (Config.segmentList l.cuts).length ≤ c.bufLen then 0 else 0x0001) n false (putLe 1 l.cuts.length)
      ((Config.segmentList l.cuts).take c.bufLen) s t)

/-- R42: a configuration item that SYS_SET_CONFIG changes: its value passes the item's checks, EXPECT_VERSION is the item's
version or 0xFFFF_FFFF, and the value differs from the present one. The group holds the value under the next version,
CONFIG_CHANGED and the audit record; DATA is the new version. `itemEffects` is what the item does beside its value; where
TAI_UTC moves the UTC count, the boundaries it passes are evaluated (R267). The binding tables 0x0107 to 0x0109, which also
close sessions, are stated apart.
R42, R395, R369, R340: the settings with commands of their own. SYS_SET_ROLE records the role for the next start,
TWN_SET_SOLO item 0x0F03 and STO_SET_THRESHOLD item 0x0E03, LDG_SET_PERIOD the epoch period; each under EXPECT_VERSION, each with
its next version. SOLO 1 also ends mirroring and comparing. SYS_RESET keeps the reset wanted with the epoch that holds its
audit record, and without a standby to hand over to does nothing else.
Log entries met: 90. -/
def Obligations.SettingsChange : Prop :=
  (∀ c f s item size b old v, ready 0x0104 c f s = true → item = c.p 0x20 4 → itemSize item = some size →
    item ≠ 0x0107 → item ≠ 0x0108 → item ≠ 0x0109 → b = (if itemInParam item then c.pBytes 0x28 size else c.buf) →
    (itemInParam item = true → zeroAt c.param (8 + size) (16 - size) = true) → itemState s item = none →
    readOnlyItem s item = false → (size ≠ 0 → b.length = size) → itemReserved item b = true → itemCheck s item b = 0 →
    versionOk (c.p 0x24 4) (readVersion s s.led.work item) = true → old = readItem s s.led.work item → old ≠ b →
    v = nextVersion (readVersion s s.led.work item) → takesGroups (itemEffects item v old b s) = true →
    ∃ u, exec (.sysSetConfig c) s = .next (if u.led.work.taiUtc = s.led.work.taiUtc then u else crossed u) ∧
      Changes f (itemItems s item v b ++ [.event (configEvent s item v c.ring)])
        (auditChange item (readVersion s s.led.work item) v old b) (putLe 4 v) (itemEffects item v old b s) u) ∧
  (∀ c f s v, ready 0x0105 c f s = true → c.p 0x20 1 ≤ 1 → (c.p 0x20 1 = 1 → s.fuse.ordering = 0x48) →
    degradedByDips s = false → versionOk (c.p 0x24 4) (s.led.work.itemVersion roleItem) = true →
    putLe 1 (s.led.work.itemNat roleItem 1 0) ≠ putLe 1 (c.p 0x20 1) → v = nextVersion (s.led.work.itemVersion roleItem) →
    takesGroups s = true → ∃ t, exec (.sysSetRole c) s = .next t ∧
      Changes f [.config roleItem v (putLe 1 (c.p 0x20 1))] (auditChange 0 (s.led.work.itemVersion roleItem) v
        (putLe 1 (s.led.work.itemNat roleItem 1 0)) (putLe 1 (c.p 0x20 1))) [] s t) ∧
  (∀ c f s, ready 0x0106 c f s = true → within 1 3 (c.p 0x20 1) = true → c.p 0x24 4 ≤ 60000 → takesGroups s = true →
    s.twin.partner ≠ .standby → ∃ t, exec (.sysReset c) s = .next t ∧
      Changes f [] (auditParam c none) [] (onKeeper (fun k => { k with
        resetWanted := some (openNum s, c.p 0x20 1, c.p 0x24 4) }) s) t) ∧
  (∀ c f s v, ready 0x0309 c f s = true → within 1 3600 (c.p 0x20 4) = true →
    versionOk (c.p 0x24 4) s.led.work.periodVersion = true → putLe 4 s.led.work.period ≠ putLe 4 (c.p 0x20 4) →
    v = nextVersion s.led.work.periodVersion → takesGroups s = true → ∃ t, exec (.ldgSetPeriod c) s = .next t ∧
      Changes f [.period (c.p 0x20 4) v] (auditChange 0 s.led.work.periodVersion v (putLe 4 s.led.work.period)
        (putLe 4 (c.p 0x20 4))) [] s t) ∧
  (∀ c f s v, ready 0x0B04 c f s = true → c.p 0x20 1 = 1 → soloSet s = false →
    versionOk (c.p 0x24 4) (s.led.work.itemVersion 0x0F03) = true → putLe 1 (itemVal s 0x0F03) ≠ putLe 1 1 →
    v = nextVersion (s.led.work.itemVersion 0x0F03) → takesGroups s = true → ∃ u, exec (.twnSetSolo c) s =
        .next (advance (if s.twin.partner == .standby then setPartner .present 0 (endService u) else endService u)) ∧
      Changes f [.config 0x0F03 v (putLe 1 1), .event (configEvent s 0x0F03 v c.ring)]
        (auditChange 0x0F03 (s.led.work.itemVersion 0x0F03) v (putLe 1 (itemVal s 0x0F03)) (putLe 1 1)) (putLe 4 v) s u) ∧
  (∀ c f s v, ready 0x0B04 c f s = true → c.p 0x20 1 = 0 →
    versionOk (c.p 0x24 4) (s.led.work.itemVersion 0x0F03) = true → putLe 1 (itemVal s 0x0F03) ≠ putLe 1 0 →
    v = nextVersion (s.led.work.itemVersion 0x0F03) → takesGroups s = true → ∃ t, exec (.twnSetSolo c) s = .next t ∧
      Changes f [.config 0x0F03 v (putLe 1 0), .event (configEvent s 0x0F03 v c.ring)]
        (auditChange 0x0F03 (s.led.work.itemVersion 0x0F03) v (putLe 1 (itemVal s 0x0F03)) (putLe 1 0)) (putLe 4 v) s t) ∧
  (∀ c f s v, ready 0x0C06 c f s = true → within 1 100 (c.p 0x20 1) = true →
    versionOk (c.p 0x24 4) (s.led.work.itemVersion 0x0E03) = true → itemNow s 0x0E03 ≠ putLe 1 (c.p 0x20 1) →
    v = nextVersion (s.led.work.itemVersion 0x0E03) → takesGroups s = true → ∃ t, exec (.stoSetThreshold c) s = .next t ∧
      Changes f [.config 0x0E03 v (putLe 1 (c.p 0x20 1)), .event (configEvent s 0x0E03 v c.ring)]
        (auditChange 0x0E03 (s.led.work.itemVersion 0x0E03) v (itemNow s 0x0E03) (putLe 1 (c.p 0x20 1))) [] s t)

/-- R71, R72, R298, R154: MTR_ADMIT makes a record at the lowest free index and answers its MH; MTR_RELEASE of an own meter
without a session closes its billing blocks, ends its record and raises its generation, and the run forgets the meter. -/
def Obligations.MetersAdmittedAndReleased : Prop :=
  (∀ c f s d i r, ready 0x0201 c f s = true → c.p 0x32 1 ≤ 2 → c.p 0x33 1 = 0 →
    s.led.work.classOf (c.p 0x30 2) = some d → ((netOfCode (c.p 0x32 1)).map d.allows).getD true = true →
    s.led.work.byIdentity (c.pBytes 0x20 16) = none → freeIndex s = some i → ownFull s = false →
    r = newRec s i (c.pBytes 0x20 16) d (netOfCode (c.p 0x32 1)) 0 [] → takesGroups s = true →
    ∃ t, exec (.mtrAdmit c) s = .next t ∧
      Changes f [.create i r] (auditParam c (some (recMh i r))) (putLe 4 (recMh i r)) s t) ∧
  (∀ c f s d i r, ready 0x0201 c f s = true → c.p 0x32 1 ≤ 2 → c.p 0x33 1 = 1 →
    s.led.work.classOf (c.p 0x30 2) = some d → ((netOfCode (c.p 0x32 1)).map d.allows).getD true = true →
    s.led.work.byIdentity (c.pBytes 0x20 16) = none → freeIndex s = some i → ownFull s = false → d.suite ≠ 2 →
    c.buf.length = 48 → le c.buf 0 1 = 1 → le c.buf 1 1 = 5 → le c.buf 2 1 = 0 → (unwrapMeter s c.buf).isSome = true →
    r = newRec s i (c.pBytes 0x20 16) d (netOfCode (c.p 0x32 1)) 1 c.buf → takesGroups s = true →
    ∃ t, exec (.mtrAdmit c) s = .next t ∧
      Changes f [.create i r] (auditParam c (some (recMh i r))) (putLe 4 (recMh i r)) s t) ∧
  (∀ c f s i r, ready 0x0202 c f s = true → s.led.work.recOf (c.p 0x20 4) = some (i, r) → r.segment = 0 →
    r.net.state = .admitted → sessionOf s i = none → servesCmd s c = false → takesGroups s = true →
    ∃ t, exec (.mtrRelease c) s = .next t ∧
      Changes f (releaseItems i r s) (auditParam c (some (recMh i r))) (putLe 2 ((r.gen + 1) % 4096)) (forgetMeter i r s) t) ∧
  (∀ c f s i r, ready 0x0202 c f s = true → s.led.work.recOf (c.p 0x20 4) = some (i, r) → r.segment = 0 →
    sessionOf s i = none → servesCmd s c = false → takesGroups s = true → ∃ t, exec (.mtrRelease c) s = .next t ∧
      lookupNat i t.led.work.recs = none ∧ lookupNat i t.led.work.gens = some ((r.gen + 1) % 4096)) ∧
  (∀ c f s x, ready 0x0208 c f s = true → parseSched s c.buf = some x →
    versionOk (c.p 0x20 4) s.led.work.tables.sched.version = true →
    (s.led.work.tables.sched.version = 0 ∨ s.led.work.tables.sched.raw ≠ c.buf) → takesGroups s = true →
    ∃ t, exec (.mtrSetSchedule c) s = .next t ∧
      Changes f [.table (.sched (nextVersion s.led.work.tables.sched.version) c.buf x)]
        ⟨0, true, false, none, s.led.work.tables.sched.version, nextVersion s.led.work.tables.sched.version,
          Config.sha256 s.led.work.tables.sched.raw, Config.sha256 c.buf⟩
        (putLe 4 (nextVersion s.led.work.tables.sched.version)) { s with meters := { s.meters with slots := [] } } t)

/-- R84, R86, R162, R167, R170, R471: a command that needs an exchange with an own meter opens its session at once when field
work may start and a place is free; it stays in progress and the session serves it. A push is marked pending first (R162), a
relay order is placed first (R170).
Log entries met: 34, 44. -/
def Obligations.ExchangesStart : Prop :=
  (∀ c f s i r, ready 0x0206 c f s = true → startable i r c f (running 0x0206 f s) = true →
    bitOf (c.p 0x24 4) 0 = false ∨ inSalvage s = false → exec (.mtrReadNow c) s = .next (openSession (mkSession s i
      (.collect (c.p 0x24 4) (c.p 0x28 8)) 3 (f.takenAt + secTicks (cmdDeadline c)) (some (c.ring, c.tag)))
      (running 0x0206 f s))) ∧
  (∀ c f s i r data, ready 0x0207 c f s = true → startable i r c f (running 0x0207 f s) = true → c.p 0x24 1 ≤ 2 →
    data = (if c.p 0x24 1 = 2 ∧ c.p 0x25 1 = 2 ∧ c.p 0x26 2 = 64 ∧ c.buf = [] then keyTransfer (running 0x0207 f s) i r
      else c.buf) → exec (.mtrDlms c) s = .next (openSession (mkSession s i
      (.dlms (c.p 0x24 1) (c.pBytes 0x28 6) (c.p 0x25 1) (c.p 0x26 2) data) sessionPriority
      (f.takenAt + secTicks (cmdDeadline c)) (some (c.ring, c.tag))) (running 0x0207 f s))) ∧
  (∀ c f s i r u, ready 0x0504 c f s = true → startable i r c f (running 0x0504 f s) = true → c.p 0x24 1 = 0 →
    (residentForm s.led.work r.cls).isSome = true → u = markPush i (running 0x0504 f s) → mayExchange u = true → u.meters.sessions.length < 1024 →
    (inflightOf u (c.ring, c.tag)).map (·.takenAt) = some f.takenAt → exec (.trfPush c) s = .next (openSession
      (mkSession u i .push sessionPriority (f.takenAt + secTicks (cmdDeadline c)) (some (c.ring, c.tag))) u)) ∧
  (∀ c f s i r w u, ready 0x0604 c f s = true → startable i r c f (running 0x0604 f s) = true → r.hasRelay = true →
    orderPlaced c s = false → r.place.relay ≠ .disconnecting → r.place.relay ≠ .reconnecting →
    atTarget 1 r.place.relay = false →
    w = (startWork i r 0 (running 0x0604 f s)).order 1 1 c.tag → atTarget 1 w.r.place.relay = false →
    u = append w.items (some (recMh i r)) (running 0x0604 f s) → mayExchange u = true →
    u.meters.sessions.length < 1024 → (inflightOf u (c.ring, c.tag)).map (·.takenAt) = some f.takenAt →
    exec (.ppyDisconnect c) s = .next (openSession (mkSession u i (.relay .disconnect) 3
      (f.takenAt + secTicks (cmdDeadline c)) (some (c.ring, c.tag))) u)) ∧
  (∀ c f s i r w u, ready 0x0605 c f s = true → startable i r c f (running 0x0605 f s) = true → r.hasRelay = true →
    c.p 0x24 1 = 1 → orderPlaced c s = false → r.place.relay ≠ .disconnecting → r.place.relay ≠ .reconnecting →
    atTarget 3 r.place.relay = false → r.credit.state ≠ .exhausted →
    w = (startWork i r 0 (running 0x0605 f s)).order 3 1 c.tag → atTarget 3 w.r.place.relay = false →
    u = append w.items (some (recMh i r)) (running 0x0605 f s) → mayExchange u = true →
    u.meters.sessions.length < 1024 → (inflightOf u (c.ring, c.tag)).map (·.takenAt) = some f.takenAt →
    exec (.ppyReconnect c) s = .next (openSession (mkSession u i (.relay .reconnectClose) 3
      (f.takenAt + secTicks (cmdDeadline c)) (some (c.ring, c.tag))) u))

/-- R107, R475: the ledger's own changing commands. A pin or a name of a readable epoch, EPOCH 0 meaning the last committed one,
and their removal, are one item each beside the audit record; DATA is the count that stands after. LDG_CLOSE_EPOCH's group holds
its audit record only, and as the last group of the epoch it closes it at that instant. -/
def Obligations.PinsNamesAndCloses : Prop :=
  (∀ c f s e, ready 0x0301 c f s = true → e = (if c.p 0x20 8 = 0 then s.led.lastCommitted else c.p 0x20 8) →
    (readAt s e).isSome = true → s.led.work.pins.contains e = false → s.led.work.pins.length < 64 →
    takesGroups s = true → ∃ t, exec (.ldgPin c) s = .next t ∧
      Changes f [.pin e] (auditParam c none) (putLe 1 (s.led.work.pins.length + 1)) s t) ∧
  (∀ c f s, ready 0x0302 c f s = true → c.p 0x20 8 ≠ 0 → s.led.work.pins.contains (c.p 0x20 8) = true →
    takesGroups s = true → ∃ t, exec (.ldgUnpin c) s = .next t ∧
      Changes f [.unpin (c.p 0x20 8)] (auditParam c none) (putLe 1 (s.led.work.pins.length - 1)) s t) ∧
  (∀ c f s e n, ready 0x0303 c f s = true → e = (if c.p 0x20 8 = 0 then s.led.lastCommitted else c.p 0x20 8) →
    n = c.pBytes 0x28 16 → allZero n = false → (s.led.work.names.any fun x => x.1 == n) = false →
    (readAt s e).isSome = true → s.led.work.names.length < 16 → takesGroups s = true →
    ∃ t, exec (.ldgName c) s = .next t ∧
      Changes f [.name n e] (auditParam c none) (putLe 1 (s.led.work.names.length + 1)) s t) ∧
  (∀ c f s n, ready 0x0304 c f s = true → n = c.pBytes 0x20 16 → (s.led.work.names.any fun x => x.1 == n) = true →
    takesGroups s = true → ∃ t, exec (.ldgDropName c) s = .next t ∧
      Changes f [.dropName n] (auditParam c none) (putLe 1 (s.led.work.names.length - 1)) s t) ∧
  (∀ c f s e, ready 0x0308 c f s = true → takesGroups s = true → isStandby s = false → openEpoch s = some e →
    (s.led.epochs.find? fun x => x.num == e.num) = some e → e.num ≤ epochHigh s → ∃ u, exec (.ldgCloseEpoch c) s =
        .next (if openNum u = openNum s then closeEpoch 1 u else u) ∧
      Changes f [] (auditParam c none) (putLe 8 (openNum s)) s u)

/-- R106, R107, R108: the reads that return entries. A read that continues its ring's cursor goes on at the cursor's epoch and
place, any other starts at the epoch asked for; as many whole entries as the buffer holds are written, DATA counts them, and
RESULT is 0x0001 while some are left.
R146, R125, R153, R154, R164, R180, R196, R270: the reads of tariffs, accounts, balances and time. Those of ledger content
read the last committed epoch and name it; TIM_GET answers the chip time of now.
Log entries met: 10, 43. -/
def Obligations.LedgerReadsAnswer : Prop :=
  (∀ c f s p n l es k, ready 0x0305 c f s = true → (s.led.work.recOf (c.p 0x20 4)).isSome = true →
    c.p 0x28 8 < c.p 0x30 8 → p = (((cursorOf c s).map fun x => (x.epoch, x.pos)).getD (c.p 0x38 8, 0)) →
    readAt s p.1 = some (n, l) →
    es = (seriesSlice (c.p 0x20 4) (c.p 0x24 1) (c.p 0x28 8) (c.p 0x30 8) l).drop p.2 → k = fitCount c.bufLen es →
    ∃ t, exec (.ldgReadSeries c) s = .next t ∧
      Reads f (if k = es.length then 0 else 0x0001) n false (putLe 4 k) (es.take k).flatten s t) ∧
  (∀ c f s p n l es k, ready 0x0306 c f s = true → c.p 0x30 1 ≤ 2 →
    p = (((cursorOf c s).map fun x => (x.epoch, x.pos)).getD (0, 0)) → readAt s p.1 = some (n, l) →
    es = (journalSlice (c.p 0x30 1) (c.p 0x20 8) (if c.p 0x28 8 = 0 then
      ((cursorOf c s).map (·.epoch)).getD s.led.lastCommitted else c.p 0x28 8) l).drop p.2 → k = fitCount c.bufLen es →
    ∃ t, exec (.ldgReadJournal c) s = .next t ∧
      Reads f (if k = es.length then 0 else 0x0001) n false (putLe 4 k) (es.take k).flatten s t) ∧
  (∀ c f s e es k, ready 0x0307 c f s = true → (s.led.work.recOf (c.p 0x20 4)).isSome = true → openEpoch s = some e →
    (∀ x, cursorOf c s = some x → x.epoch = e.num) →
    es = (((e.groups.filter fun g => g.mh == some (c.p 0x20 4)).map Group.bytes).drop
      (((cursorOf c s).map (·.pos)).getD 0)) → k = fitCount c.bufLen es → ∃ t, exec (.ldgReadOpen c) s = .next t ∧
      Reads f (if k = es.length then 0 else 0x0001) e.num true (putLe 4 k) (es.take k).flatten s t) ∧
  (∀ c f s p n l es k, ready 0x030A c f s = true → p = (((cursorOf c s).map fun x => (x.epoch, x.pos)).getD (c.p 0x28 8, 0)) →
    readAt s p.1 = some (n, l) → es = (billingSlice (c.p 0x20 8) l).drop p.2 → k = fitCount c.bufLen es →
    ∃ t, exec (.ldgExportBilling c) s = .next t ∧
      Reads f (if k = es.length then 0 else 0x0001) n false (putLe 4 k) (es.take k).flatten s t) ∧
  (∀ c f s p n l es k, ready 0x0705 c f s = true → c.p 0x20 8 < c.p 0x28 8 →
    p = (((cursorOf c s).map fun x => (x.epoch, x.pos)).getD (0, 0)) → readAt s p.1 = some (n, l) →
    es = ((l.minutesIn (c.p 0x20 8) (c.p 0x28 8)).map FeederMinute.bytes).drop p.2 → k = fitCount c.bufLen es →
    ∃ t, exec (.balReadFeeder c) s = .next t ∧
      Reads f (if k = es.length then 0 else 0x0001) n false (putLe 4 k) (es.take k).flatten s t) ∧
  (∀ c f s n l, ready 0x0402 c f s = true → readAt s 0 = some (n, l) → ∃ t, exec (.valReadRules c) s = .next t ∧
    Reads f (if ((l.tables.rules.now.map RuleTable.bytes).getD []).length ≤ c.bufLen then 0 else 0x0001) n false
      (putLe 4 l.tables.rules.nowVersion) (((l.tables.rules.now.map RuleTable.bytes).getD []).take c.bufLen) s t) ∧
  (∀ c f s n l i r b, ready 0x0503 c f s = true → (s.led.work.recOf (c.p 0x20 4)).isSome = true →
    readAt s 0 = some (n, l) → l.recOf (c.p 0x20 4) = some (i, r) →
    (if c.p 0x24 4 = 0 then some r.openBlk else if c.p 0x24 4 = 1 then r.settling else none) = some b →
    ∃ t, exec (.trfReadDeterminants c) s = .next t ∧ Reads f (if b.bytes.length ≤ c.bufLen then 0 else 0x0001) n false
      (putLe 4 b.provisional) (b.bytes.take c.bufLen) s t) ∧
  (∀ c f s n l i r, ready 0x0602 c f s = true → (s.led.work.recOf (c.p 0x20 4)).isSome = true → readAt s 0 = some (n, l) →
    l.recOf (c.p 0x20 4) = some (i, r) → ∃ t, exec (.ppyReadAccount c) s = .next t ∧
      Reads f (if r.credit.bytes.length ≤ c.bufLen then 0 else 0x0001) n false (putInt 8 r.credit.balance)
        (r.credit.bytes.take c.bufLen) s t) ∧
  (∀ c f s n l g r, ready 0x0702 c f s = true → readAt s 0 = some (n, l) →
    ((l.tables.groups.now.map fun t => t.groups.any fun g => g.ref.group == c.p 0x20 4).getD false) = true →
    c.p 0x28 8 ≠ 0 → l.groupAt (c.p 0x20 4) (c.p 0x28 8) = some g → l.slotOf g.sec (c.p 0x28 8) = c.p 0x28 8 →
    l.resultOf (c.p 0x20 4) (c.p 0x28 8) = some r → ∃ t, exec (.balReadResult c) s = .next t ∧
      Reads f (if r.bytes.length ≤ c.bufLen then 0 else 0x0001) n false (putLe 1 r.status) (r.bytes.take c.bufLen) s t) ∧
  (∀ c f s n l i r, ready 0x0704 c f s = true → (s.led.work.recOf (c.p 0x20 4)).isSome = true → readAt s 0 = some (n, l) →
    l.recOf (c.p 0x20 4) = some (i, r) → ∃ t, exec (.balReadTopology c) s = .next t ∧
      Reads f 0 n false (putLe 1 r.place.phase ++ putLe 1 r.place.phaseConf ++ zeros 2 ++ putLe 4 r.place.branch) [] s t) ∧
  (∀ c f s, ready 0x0801 c f s = true → ∃ t, exec (.timGet c) s = .next t ∧
    Reads f 0 0 false (putLe 8 (now s) ++ putInt 2 s.led.work.taiUtc ++ putLe 1 (ptpState s)) [] s t)

/-- R125, R144, R146, R147, R166, R171, R172, R211, R269, R276: a table of a good form, loaded under EXPECT_VERSION and
differing from the one loaded last, goes into the ledger with the next version, its digests in the audit record; a head sends the
distributed ones on. A tariff table and a calendar bring what they do to each meter with them.
Log entries met: 35, 114, 117. -/
def Obligations.TableLoadsChange : Prop :=
  (∀ c f s x, ready 0x0401 c f s = true → parseRules c.buf = some x →
    loadable c s.led.work.tables.rules.version s.led.work.tables.rules.raw = true → takesGroups s = true →
    ∃ t, exec (.valLoadRules c) s = .next t ∧
      Changes f (.table (.rules (nextVersion s.led.work.tables.rules.version) c.buf x) :: atOnce .rules x.effective s)
        (tableAudit s.led.work.tables.rules.version s.led.work.tables.rules.raw c.buf)
        (putLe 4 (nextVersion s.led.work.tables.rules.version)) (distribute c s) t) ∧
  (∀ c f s x, ready 0x0501 c f s = true → parseTariff s c.buf = some x →
    loadable c s.led.work.tables.tariff.version s.led.work.tables.tariff.raw = true → takesGroups s = true →
    ∃ t, exec (.trfLoadSchedule c) s = .next t ∧
      Changes f (.table (.tariff (nextVersion s.led.work.tables.tariff.version) c.buf x) ::
          tariffLoadItems (.tariff (nextVersion s.led.work.tables.tariff.version) c.buf x) .tariff x.effective
            (running 0x0501 f s))
        (tableAudit s.led.work.tables.tariff.version s.led.work.tables.tariff.raw c.buf)
        (putLe 4 (nextVersion s.led.work.tables.tariff.version)) (distribute c s) t) ∧
  (∀ c f s x, ready 0x0502 c f s = true → parseCalendar c.buf = some x →
    loadable c s.led.work.tables.calendar.version s.led.work.tables.calendar.raw = true → takesGroups s = true →
    ∃ t, exec (.trfLoadCalendar c) s = .next t ∧
      Changes f (.table (.calendar (nextVersion s.led.work.tables.calendar.version) c.buf x) ::
          tariffLoadItems (.calendar (nextVersion s.led.work.tables.calendar.version) c.buf x) .calendar x.effective
            (running 0x0502 f s))
        (tableAudit s.led.work.tables.calendar.version s.led.work.tables.calendar.raw c.buf)
        (putLe 4 (nextVersion s.led.work.tables.calendar.version)) (distribute c s) t) ∧
  (∀ c f s x, ready 0x0603 c f s = true → parseFriendly s c.buf = some x →
    loadable c s.led.work.tables.friendly.version s.led.work.tables.friendly.raw = true → takesGroups s = true →
    ∃ t, exec (.ppySetFriendly c) s = .next t ∧
      Changes f [.table (.friendly (nextVersion s.led.work.tables.friendly.version) c.buf x)]
        (tableAudit s.led.work.tables.friendly.version s.led.work.tables.friendly.raw c.buf)
        (putLe 4 (nextVersion s.led.work.tables.friendly.version)) (distribute c s) t) ∧
  (∀ c f s x, ready 0x0701 c f s = true → parseGroups s.led.work.tables.groups.now c.buf = some x →
    loadable c s.led.work.tables.groups.version s.led.work.tables.groups.raw = true → takesGroups s = true →
    ∃ t, exec (.balLoadGroups c) s = .next t ∧
      Changes f [.table (.groups (nextVersion s.led.work.tables.groups.version) c.buf x)]
        (tableAudit s.led.work.tables.groups.version s.led.work.tables.groups.raw c.buf)
        (putLe 4 (nextVersion s.led.work.tables.groups.version)) (distribute c s) t) ∧
  (∀ c f s x, ready 0x0803 c f s = true → parseZone c.buf = some x →
    loadable c s.led.work.tables.zone.version s.led.work.tables.zone.raw = true → takesGroups s = true →
    ∃ t, exec (.timLoadZone c) s = .next t ∧
      Changes f [.table (.zone (nextVersion s.led.work.tables.zone.version) c.buf x)]
        (tableAudit s.led.work.tables.zone.version s.led.work.tables.zone.raw c.buf)
        (putLe 4 (nextVersion s.led.work.tables.zone.version)) s t) ∧
  (∀ c f s x, ready 0x0804 c f s = true → parsePtp c.buf = some x →
    loadable c s.led.work.tables.ptp.version s.led.work.tables.ptp.raw = true → takesGroups s = true →
    ∃ t, exec (.timPtpConfig c) s = .next t ∧
      Changes f [.table (.ptp (nextVersion s.led.work.tables.ptp.version) c.buf x)]
        (tableAudit s.led.work.tables.ptp.version s.led.work.tables.ptp.raw c.buf)
        (putLe 4 (nextVersion s.led.work.tables.ptp.version)) s t) ∧
  (∀ c f s x, ready 0x0E04 c f s = true → parseCal c.buf = some x →
    loadable c s.led.work.tables.cal.version s.led.work.tables.cal.raw = true → takesGroups s = true →
    ∃ t, exec (.tstCalibrate c) s = .next t ∧
      Changes f [.table (.cal (nextVersion s.led.work.tables.cal.version) c.buf x)]
        (tableAudit s.led.work.tables.cal.version s.led.work.tables.cal.raw c.buf)
        (putLe 4 (nextVersion s.led.work.tables.cal.version)) s t)

/-- R136, R137, R165, R272, R273: the commands that change a meter's values or account, and the chip's clock. VAL_EDIT and
VAL_REVALIDATE append the series, register and billing changes of one piece of work; PPY_CREDIT moves the balance and its audit
record holds the balance before and after; TIM_SET steps T0 by the difference and records it, then what follows a step. A relay
order that the change places starts its exchange (R167).
Log entries met: 24, 25. -/
def Obligations.ValuesAccountsAndClockChange : Prop :=
  (∀ c f s i r w, ready 0x0403 c f s = true → ownIdle i r c s = true → w = startWork i r (now s) (running 0x0403 f s) →
    w.editBad (c.p 0x24 1) (c.p 0x25 1) (c.p 0x28 8) (c.pInt 0x30 8) = false → takesGroups s = true →
    ∃ u, exec (.valEdit c) s = .next (kickPlaced c s u) ∧
      Changes f ((w.edit (c.p 0x24 1) (c.p 0x25 1) (c.p 0x28 8) (c.pInt 0x30 8)).corrected (running 0x0403 f s)).items
        (auditParam c (some (recMh i r))) [] s u) ∧
  (∀ c f s i r w, ready 0x0404 c f s = true → ownIdle i r c s = true → c.p 0x28 8 < c.p 0x30 8 →
    w = (startWork i r (now s) (running 0x0404 f s)).revalidate (c.p 0x28 8) (c.p 0x30 8) → takesGroups s = true →
    ∃ u, exec (.valRevalidate c) s = .next (kickPlaced c s u) ∧
      Changes f (w.corrected (running 0x0404 f s)).items (auditParam c (some (recMh i r))) (putLe 4 w.net.length) s u) ∧
  (∀ c f s i r w, ready 0x0601 c f s = true → ownIdle i r c s = true → r.prepay = true →
    (c.p 0x30 8 ≠ 0 → r.credit.references.contains (c.p 0x30 8) = false) →
    fits64 (r.credit.balance + c.pInt 0x28 8) = true → w = ((startWork i r 0 (running 0x0601 f s)).onCredit
      (Credit.credited (c.pInt 0x28 8) (c.p 0x30 8) (now s))).judgeAccount → takesGroups s = true →
    ∃ u, exec (.ppyCredit c) s = .next (kickPlaced c s u) ∧
      Changes f w.items ⟨0, false, false, some (recMh i r), 0, 0, putInt 8 r.credit.balance,
        putInt 8 (r.credit.balance + c.pInt 0x28 8) ++ putLe 8 (c.p 0x30 8)⟩
        (putInt 8 (r.credit.balance + c.pInt 0x28 8)) s u) ∧
  (∀ c f s d, ready 0x0802 c f s = true → ptpLocked s = false → d = (c.p 0x20 8 : Int) - now s → d ≠ 0 →
    takesGroups s = true → ∃ u, exec (.timSet c) s = .next (afterStep d u) ∧
      Changes f (stepItems d 2 (stepT d s)) (auditParam c none) (putInt 8 d) (stepT d s) u)

/-- R291, R295, R301, R302, R305: the key commands. KEY_DERIVE puts the derived key in its slot one level deeper, with its KCV;
KEY_IMPORT_WRAPPED the unwrapped one; KEY_REPLACE moves a slot ACTIVE to REPLACING, VERIFIED to ACTIVE with the pending key, or back
to ACTIVE; KEY_ERASE empties it; KEY_GET_ATTR answers the attributes in use and the slot's state, and never a value.
R307, Table KC.9: KEY_SET_LIFECYCLE with a record that its signer signed for this chip, this state and the next counter moves
the life cycle to the state the record names, raises LC_COUNTER by 1 and answers the new state; a record with another counter gives
0x0403 and moves nothing.
Log entries met: 4, 122, 124. -/
def Obligations.KeysChange : Prop :=
  (∀ c f s k a v, ready 0x0901 c f s = true → slotOf s (c.p 0x20 1) = some k → a = cmdAttr c →
    (c.p 0x20 1 = 8 ∨ generalSlot (c.p 0x20 1) = true) → generalSlot (c.p 0x21 1) = true → c.p 0x21 1 ≠ c.p 0x20 1 →
    within 1 32 (c.p 0x22 1) = true → c.buf.length = c.p 0x22 1 → (attrType a = 1 ∨ attrType a = 2 ∨ attrType a = 3 ∨
      attrType a = 4) → attrDepth k.used.attr + 1 ≤ 6 → (attrType k.used.attr = 1 → keyBytes (attrType a) ≤ 16) →
    useRefusal s (c.p 0x20 1) bitDerive = none → (a &&& grantMask) &&& ~~~k.used.attr = 0 →
    slotOpen s (c.p 0x21 1) = true → v = Config.derive k.used.value c.buf (keyBytes (attrType a)) → takesGroups s = true →
    ∃ t, exec (.keyDerive c) s = .next t ∧ Changes f [] (auditParam c none) []
      (loadKey (c.p 0x21 1) ⟨withDepth (attrDepth k.used.attr + 1) a, v, Config.kcv v⟩ true s) t) ∧
  (∀ c f s v, ready 0x0902 c f s = true → generalSlot (c.p 0x21 1) = true → le c.buf 0 1 = 1 → le c.buf 2 1 = 0 →
    c.buf.length = 48 → (le c.buf 1 1 = 1 ∨ le c.buf 1 1 = 2 ∨ le c.buf 1 1 = 5) → attrType (cmdAttr c) = le c.buf 1 1 →
    useRefusal s (c.p 0x20 1) bitWrap = none → blobValue s c.buf (c.p 0x20 1) = some v → slotOpen s (c.p 0x21 1) = true →
    c.p 0x21 1 ≠ 4 → c.p 0x21 1 ≠ 8 → takesGroups s = true →
    ∃ t, exec (.keyImportWrapped c) s = .next t ∧ Changes f [] (auditParam c none) []
      (loadKey (c.p 0x21 1) ⟨withDepth 1 (cmdAttr c), v, Config.kcv v⟩ (le c.buf 4 4 != 0) s) t) ∧
  (∀ c f s k, ready 0x0903 c f s = true → deviceSlot (c.p 0x20 1) = false → c.p 0x20 1 < 128 → c.p 0x21 1 = 0 →
    slotOf s (c.p 0x20 1) = some k → k.state = .active → takesGroups s = true → ∃ t, exec (.keyReplace c) s = .next t ∧
      Changes f [] (auditParam c none) (putLe 1 SlotState.replacing.code)
        (savePersistent (putSlot { k with state := .replacing } s)) t) ∧
  (∀ c f s k u, ready 0x0903 c f s = true → deviceSlot (c.p 0x20 1) = false → c.p 0x20 1 < 128 → c.p 0x21 1 = 1 →
    c.p 0x20 1 ≠ 8 → slotOf s (c.p 0x20 1) = some k → k.state = .verified → takesGroups s = true →
    u = savePersistent (putSlot { k with state := .active, key := k.used, pendingKey := none } s) →
    ∃ t, exec (.keyReplace c) s = .next t ∧ Changes f [.event (mkEv s 0x0C01 (putLe 1 (c.p 0x20 1)) none)]
      (auditParam c none) (putLe 1 SlotState.active.code) u t) ∧
  (∀ c f s k, ready 0x0904 c f s = true → generalSlot (c.p 0x20 1) = true → c.p 0x20 1 ≠ 8 →
    slotOf s (c.p 0x20 1) = some k → k.used.attr.getLsbD bitHost = true → takesGroups s = true →
    ∃ t, exec (.keyErase c) s = .next t ∧
      Changes f [] (auditParam c none) [] (savePersistent (dropSlot (c.p 0x20 1) s)) t) ∧
  (∀ c f s k, ready 0x0905 c f s = true → c.p 0x20 1 < 128 → c.p 0x20 1 ≠ 32 → c.p 0x20 1 ≠ 33 →
    slotOf s (c.p 0x20 1) = some k → ∃ t, exec (.keyGetAttr c) s = .next t ∧
      Reads f 0 0 false (putLe 4 k.used.attr.toNat ++ putLe 1 k.state.code) [] s t) ∧
  (∀ c f s, ready 0x0905 c f s = true → c.p 0x20 1 < 128 → c.p 0x20 1 ≠ 32 → c.p 0x20 1 ≠ 33 →
    slotOf s (c.p 0x20 1) = none → ∃ t, exec (.keyGetAttr c) s = .next t ∧
      Reads f 0 0 false (putLe 4 0 ++ putLe 1 SlotState.empty.code) [] s t) ∧
  (∀ c f s b signer to_, ready 0x0906 c f s = true → b = c.buf → signer = le b 0x18 1 → b.length = 128 → le b 0 2 = 1 →
    le b 2 1 = s.keys.lifecycle.code → le b 4 4 = s.keys.lcCounter + 1 → (b.drop 8).take 16 = fitTo 16 s.fuse.uid →
    signer ≤ 1 → (signer = 1 → s.keys.operatorAuthority ≠ []) → zeroAt b 0x19 7 = true →
    Config.verify (if signer = 0 then Config.lifecycleKey else s.keys.operatorAuthority) (b.take 32) (b.drop 32) = true →
    lifeOf (le b 3 1) = some to_ → c.p 0x20 1 = to_.code → transitionSigner s.keys.lifecycle to_ = some signer →
    (to_ = .deployed → (slotOf s 8).map (·.state) = some .active ∧ s.keys.operatorAuthority ≠ []) → takesGroups s = true →
    ∃ t, exec (.keySetLifecycle c) s = .next t ∧ t.keys.lifecycle = to_ ∧ t.keys.lcCounter = s.keys.lcCounter + 1 ∧
      (∀ g ∈ t.inflight, g.seq ≠ f.seq) ∧ t.fuse = s.fuse ∧ t.store = s.store ∧ t.meters = s.meters) ∧
  (∀ c f s, ready 0x0906 c f s = true → le c.buf 4 4 ≠ s.keys.lcCounter + 1 → ∃ t, exec (.keySetLifecycle c) s = .next t ∧
    Declines f 0x0403 [] s t)

/-- R409, R410, R411, R417, R421: the firmware commands. FWU_STAGE adds its bytes to the staging area in order, FWU_VERIFY judges
the package, FWU_ACTIVATE leaves a verified one to the next start, and the campaign commands start, count and stop a campaign.
R324, R325, R339: volume 3's commands and the store's figures. STO_WRITE puts each unit at its address and a unit that was
lost reads again; STO_DISCARD empties its range; STO_READ returns the units up to the first lost one, with 0x0502 where one is;
STO_HEALTH and STO_VOLUME_INFO answer the health record and a volume's size.
Log entries met: 47, 134. -/
def Obligations.FirmwareAndStoreCommandsComplete : Prop :=
  (∀ c f s a, ready 0x0A01 c f s = true → c.p 0x24 4 ≤ packageMax → c.p 0x20 4 + c.buf.length ≤ c.p 0x24 4 →
    (c.p 0x20 4 ≠ 0 → c.p 0x20 4 = s.fw.staging.received ∧ c.p 0x24 4 = s.fw.staging.total ∧
      s.fw.staging.state = .receiving) → inTrial s = false →
    a = (if c.p 0x20 4 = 0 then stagingNew (c.p 0x24 4) else s.fw.staging).write c.buf → takesGroups s = true →
    ∃ u, exec (.fwuStage c) s = .next (if a.state = .staged then raiseHw 0x0D01 (putLe 4 a.version) u else u) ∧
      Changes f [] (auditParam c none) (putLe 4 a.received) (dirWrite (fun x => { x with staging := a }) s) u) ∧
  (∀ c f s, ready 0x0A02 c f s = true → s.fw.staging.state = .staged →
    packageResult .service s.fw.staging.bytes s.fw.staging.total (started f s) = 0 → ∃ t, exec (.fwuVerify c) s = .next t ∧
      Answered f (mkCompletion f 0 0 c.bufLen false false (putLe 4 s.fw.staging.version) []) s t ∧
      t.fw = { s.fw with staging := { s.fw.staging with state := .verified }, dirSeq := s.fw.dirSeq + 1 } ∧
      t.led = s.led ∧ t.keys = s.keys) ∧
  (∀ c f s, ready 0x0A03 c f s = true → s.fw.staging.state = .verified → degradedByDips s = false → takesGroups s = true →
    ∃ t, exec (.fwuActivate c) s = .next t ∧ Changes f [] (auditParam c none) (putLe 1 s.fw.other)
      (dirWrite (fun x => { x with staging := { x.staging with state := .pendingCopy } }) s) t) ∧
  (∀ c f s p mhs ts x, ready 0x0A04 c f s = true → parseCampaign c.buf = some (p, mhs) → (p.cls ≠ 0xFFFF ∨ mhs ≠ []) →
    p.imageLba + ceilDiv p.imageLen 4096 ≤ s.store.vol3Blocks → Config.sha256 (p.image s) = p.imageDigest →
    (runningCampaigns s).length < 4 → degradedByDips s = false → ts = campaignTargets p mhs s → ts ≠ [] →
    x = { p with num := nextCampaign s, targets := ts.map (fun e => (e.1, e.2.gen)), since := s.clk, done := false } →
    takesGroups s = true → ∃ t, exec (.fwuCampaignStart c) s = .next t ∧
      Changes f (.campaign x :: ts.map fun e => .patch e.1 e.2 (e.2.campaigned x.num 1)) (auditParam c none) (putLe 2 x.num)
        { s with fw := { s.fw with campaigns := s.fw.campaigns ++ [x] } } t) ∧
  (∀ c f s x, ready 0x0A05 c f s = true → (s.fw.campaigns.find? fun x => x.num == c.p 0x20 2) = some x →
    ∃ t, exec (.fwuCampaignStatus c) s = .next t ∧ Reads f 0 0 false (putLe 4 x.targets.length ++ putLe 4 (targetsIn s x 7) ++
      putLe 4 (targetsIn s x 8)) [] s t) ∧
  (∀ c f s x, ready 0x0A06 c f s = true → campaignOf s (c.p 0x20 2) = some x →
    (x.targets.any fun t => targetState s x.num t == 6) = true → takesGroups s = true →
    ∃ t, exec (.fwuCampaignAbort c) s = .next t ∧ Changes f (.campaign { x with phase := .stopped, toSend := [] } ::
        (x.targets.filter fun t => decide (targetState s x.num t < 6)).filterMap fun t =>
          (targetRec s t).map fun r => .patch t.1 r (r.campaigned x.num 9)) (auditParam c none) []
      (onCampaign x.num (fun x => { x with phase := .stopped, toSend := [] }) s) t) ∧
  (∀ c f s, ready 0x0C01 c f s = true → ∃ t, exec (.stoHealth c) s = .next t ∧
    Reads f (if (healthRecord s).length ≤ c.bufLen then 0 else 0x0001) 0 false (putLe 1 s.store.stage.code ++ putLe 1 (sparePct s))
      ((healthRecord s).take c.bufLen) s t) ∧
  (∀ c f s x, ready 0x0C02 c f s = true → volumeUnits (c.p 0x20 1) s = some x → ∃ t, exec (.stoVolumeInfo c) s = .next t ∧
    Reads f 0 0 false (putLe 8 x.1 ++ putLe 8 x.2) [] s t) ∧
  (∀ c f s lbas good, ready 0x0C03 c f s = true → rangeOk c s = true → lbas = (List.range (c.p 0x28 4)).map (c.p 0x20 8 + ·) →
    good = lbas.takeWhile (fun n => !s.store.lost3.contains n) → ∃ t, exec (.stoRead c) s = .next t ∧
      Reads f (if good.length = lbas.length then 0 else 0x0502) 0 false [] (good.flatMap (unit3 s)) s t) ∧
  (∀ c f s lbas, ready 0x0C04 c f s = true → rangeOk c s = true → s.store.stage ≠ .full → s.store.stage ≠ .exhausted →
    lbas = (List.range (c.p 0x28 4)).map (c.p 0x20 8 + ·) → takesGroups s = true → ∃ t, exec (.stoWrite c) s = .next t ∧
      Changes f [] (auditParam c none) [] (countUnits (c.p 0x28 4) (onStore (fun x => { x with
        vol3 := (List.range (c.p 0x28 4)).foldl (fun a k =>
          insertNat (c.p 0x20 8 + k) ((c.buf.drop (4096 * k)).take 4096) a) x.vol3
        lost3 := x.lost3.filter fun m => !lbas.contains m }) s)) t) ∧
  (∀ c f s keep, ready 0x0C05 c f s = true → c.p 0x28 4 ≠ 0 → c.p 0x20 8 + c.p 0x28 4 ≤ s.store.vol3Blocks →
    keep = (fun n => !(decide (c.p 0x20 8 ≤ n) && decide (n < c.p 0x20 8 + c.p 0x28 4))) → takesGroups s = true →
    ∃ u, exec (.stoDiscard c) s = .next (settleBlocks u) ∧ Changes f [] (auditParam c none) [] (onStore (fun x => { x with
      vol3 := x.vol3.filter fun u => keep u.1
      lost3 := x.lost3.filter keep
      map := x.map.filter fun u => u.volume != 3 || keep u.lba }) s) u)

/-- R424, R425, R429, R438, R440, R443, R444, R446: the panel and self-test commands. PNL_OLED_WRITE queues its pixels for the next
frame and stays in progress; PNL_ANNUNCIATOR sets its channel's state at once; PNL_PLACARD_WRITE hands the keeper the image;
TST_RUN queues a run and answers its number; the reads answer what the tables hold.
Log entries met: 126. -/
def Obligations.PanelAndTestCommandsComplete : Prop :=
  (∀ c f s, ready 0x0D01 c f s = true → (s.panel.writes.any fun p => p.cmd == (c.ring, c.tag)) = false →
    c.buf.length = c.p 0x22 1 * c.p 0x23 1 → c.p 0x22 1 ≠ 0 → c.p 0x23 1 ≠ 0 → c.p 0x20 1 + c.p 0x22 1 ≤ s.panel.columns →
    c.p 0x21 1 + c.p 0x23 1 ≤ s.panel.rows → (c.buf.all fun b => decide (b.toNat < 16)) = true →
    (inflightOf s (c.ring, c.tag)).isSome = true → takesGroups s = true → ∃ t, exec (.pnlOledWrite c) s = .next t ∧
      t.panel = { s.panel with writes := s.panel.writes ++
        [⟨c.p 0x20 1, c.p 0x21 1, c.p 0x22 1, c.p 0x23 1, c.buf, (c.ring, c.tag), openNum s⟩] } ∧
      t.keys = s.keys ∧ t.store = s.store ∧ t.meters = s.meters ∧ t.keeper = s.keeper ∧ t.tb = s.tb) ∧
  (∀ c f s a, ready 0x0D02 c f s = true → s.panel.anns[c.p 0x20 1]? = some a → c.p 0x21 1 ≤ 3 → a.waiting = [] →
    c.p 0x21 1 ≠ a.state → (inflightOf s (c.ring, c.tag)).isSome = true → takesGroups s = true →
    ∃ t, exec (.pnlAnnunciator c) s = .next t ∧ (t.panel.anns[c.p 0x20 1]?).map (·.state) = some (c.p 0x21 1) ∧
      t.panel.anns.length = s.panel.anns.length ∧ t.panel.placard = s.panel.placard ∧ t.keys = s.keys ∧
      t.store = s.store ∧ t.meters = s.meters ∧ t.keeper = s.keeper ∧ t.tb = s.tb) ∧
  (∀ c f s v, ready 0x0D03 c f s = true → v = leNat c.buf → c.buf.length = 16 → v % 2 ^ 28 = 0 → v < 2 ^ 112 →
    s.panel.placard.fitted = true → isStandby s = false → imageOf c.buf ≠ s.panel.placard.wanted &&& hostMask →
    takesGroups s = true → ∃ t, exec (.pnlPlacardWrite c) s = .next t ∧ Changes f [] (auditParam c none) []
      (onPlacard (Placard.request hostMask (imageOf c.buf)) (onPanel (fun p => { p with hostImage := imageOf c.buf }) s)) t) ∧
  (∀ c f s, ready 0x0D04 c f s = true → ∃ t, exec (.pnlStatus c) s = .next t ∧ Reads f 0 0 false (putLe 4 (panelBusy s) ++
    putLe 1 (bit (s.panel.crackOpen.getD 0 false) + 2 * bit (s.panel.crackOpen.getD 1 false))) [] s t) ∧
  (∀ c f s, ready 0x0E01 c f s = true → c.p 0x20 4 ≠ 0 → maskListed (c.p 0x20 4) = true → s.selfTest.queue.length < 4 →
    degradedByDips s = false → arbitrating s = false → takesGroups s = true →
    ∃ u, exec (.tstRun c) s = .next (startQueued u) ∧ Changes f [] (auditParam c none)
      (putLe 4 (newRun false (c.p 0x20 4) s).id) (onTest (fun t => { t with
        nextId := t.nextId + 1
        queue := t.queue ++ [newRun false (c.p 0x20 4) s] }) s) u) ∧
  (∀ c f s r, ready 0x0E02 c f s = true → (s.selfTest.finished.find? fun r => r.id == c.p 0x20 4) = some r →
    ∃ t, exec (.tstResult c) s = .next t ∧ Reads f (if r.bytes.length ≤ c.bufLen then 0 else 0x0001) 0 false
      (putLe 4 (r.mask .pass) ++ putLe 4 (r.mask .fail)) (r.bytes.take c.bufLen) s t) ∧
  (∀ c f s, ready 0x0E03 c f s = true → ∃ t, exec (.tstCounters c) s = .next t ∧
    Reads f (if (countersRecord s).length ≤ c.bufLen then 0 else 0x0001) 0 false [] ((countersRecord s).take c.bufLen) s t)

/-- R184, R207, R363, R370: the commands whose work goes on after they are taken. BAL_SNAPSHOT forms a snapshot with the next
SNAPSHOT_ID, PPY_OWN_RELAY queues the relay's move, TWN_SWITCHOVER closes the epoch whose last group is its audit record and
names it, TWN_RESYNC keeps the command until the plan; TWN_STATUS answers both sides at once.
Log entries met: 49, 84. -/
def Obligations.LongCommandsBegin : Prop :=
  (∀ c f s at_, ready 0x0703 c f s = true → at_ = c.p 0x20 8 →
    (s.balance.snapshots.any fun x => x.cmd == some (c.ring, c.tag)) = false → now s + ltSec 30 ≤ at_ →
    at_ ≤ now s + ltSec 3600 → (s.balance.snapshots.any fun x => decide (((x.at_ : Int) - at_).natAbs ≤ 65536)) = false →
    (c.deadline ≠ 0 → at_ + ltSec 60 ≤ now s + ltSec c.deadline) → s.balance.snapshots.length < 4 → takesGroups s = true →
    exec (.balSnapshot c) s = .next (formSnapshot at_ (c.p 0x28 4) (some (c.ring, c.tag)) (running 0x0703 f s))) ∧
  (∀ c f s, ready 0x0606 c f s = true → c.p 0x20 1 ≤ 1 → c.p 0x21 1 ≤ 1 → (relayFitted s (c.p 0x20 1)).isSome = true →
    (s.met.relays.any fun q => q.cmd == (c.ring, c.tag)) = false → (isActive s = true → s.d2d.up = true) →
    exec (.ppyOwnRelay c) s = .next (kickCoil (onMet (fun m => { m with relays := m.relays ++
      [⟨(c.ring, c.tag), c.p 0x20 1, c.p 0x21 1 == 1, .waiting, 0, s.clk, 0⟩] }) (running 0x0606 f s)))) ∧
  (∀ c f s g all, ready 0x0B02 c f s = true → s.twin.partner = .standby → arbitrating s = false →
    s.twin.switchover = none → s.twin.resync = none →
    ((running 0x0B02 f s).inflight.find? fun f => f.cmd == c && f.waitCommit.isNone) = some g →
    all = [Item.audit (auditOf s g (auditParam c none) 0)] → takesGroups s = true → ∃ u, exec (.twnSwitchover c) s = .next u ∧
      u.twin.switchover = some (openNum s) ∧ u.led.work = contentAfter (groupEpoch s) (now s) all s.led.work ∧
      u.keys = s.keys ∧ u.store = s.store ∧ u.meters = s.meters) ∧
  (∀ c f s, ready 0x0B03 c f s = true → s.twin.partner = .failed → arbitrating s = false →
    s.twin.resyncCmd ≠ some (c.ring, c.tag) → exec (.twnResync c) s = .next (setPartner .present 0
      (onTwin (fun t => { t with resyncCmd := some (c.ring, c.tag) }) (running 0x0B03 f s)))) ∧
  (∀ c f s, ready 0x0B03 c f s = true → (s.twin.partner = .present ∨ s.twin.partner = .starting ∨ s.twin.partner = .active) →
    arbitrating s = false → s.twin.resyncCmd ≠ some (c.ring, c.tag) → exec (.twnResync c) s = .next
      (emit (.twill 0x13 (putLe 1 7 ++ zeros 7 ++ putLe 8 (openNum s))) (endService (onTwin (fun t => { t with
        resyncCmd := some (c.ring, c.tag) }) (running 0x0B03 f s))))) ∧
  (∀ c f s, ready 0x0B01 c f s = true → ∃ t, exec (.twnStatus c) s = .next t ∧ Reads f 0 0 false
    (putLe 1 (selfByte s) ++ putLe 1 (partnerByte s) ++ zeros 6 ++ putLe 8 s.twin.lastCompared) [] s t)

/-- R11, R29, R32, R35, R47, R69: register accesses. A read of BAR0 emits the word that the register holds and changes nothing else; an
access of another width or alignment than 32 bits reads zero or is ignored and sets MBX_ERR.ACCESS; MBX_ERR bits clear by writing
1; bases of a ring take a write only while it is disabled; a queue's BASE and CFG2 too; RATE's neighbours in the timebase and
APP_PERIOD_MS in the keeper take theirs.
R32, R34, R35, R482: doorbells and enables. A CR_TAIL that adds commands is taken, one that takes some back sets
DOORBELL_RANGE, and one on a disabled or remote ring sets DOORBELL_DISABLED; CP_HEAD and EV_CONS move up to what is posted. ENABLE is
set only over two different non-zero bases, and its clearing returns the indices and the phase.
Log entries met: 15. -/
def Obligations.HostRegistersWork : Prop :=
  (∀ s off, s.boot.phase ≠ .off → s.bar0.linkUp = true → off % 4 = 0 → off ≠ 0x31C →
    exec (.registerWrite .bar0 off 4 none) s = .next (emit (.read (bar0Read s off)) s)) ∧
  (∀ s off size, s.boot.phase ≠ .off → s.bar0.linkUp = true → (size ≠ 4 ∨ off % 4 ≠ 0) →
    exec (.registerWrite .bar0 off size none) s = .next (setErr errAccess (emit (.read 0) s))) ∧
  (∀ s off size v, s.boot.phase ≠ .off → s.bar0.linkUp = true → (size ≠ 4 ∨ off % 4 ≠ 0) →
    exec (.registerWrite .bar0 off size (some v)) s = .next (setErr errAccess s)) ∧
  (∀ s v, s.boot.phase ≠ .off → s.bar0.linkUp = true → exec (.registerWrite .bar0 0x010 4 (some v)) s =
    .next { s with bar0 := { s.bar0 with err := s.bar0.err &&& ~~~(BitVec.ofNat 32 v) } }) ∧
  (∀ s n v, n < 16 → s.boot.phase ≠ .off → s.bar0.linkUp = true → (ringOf s n).enable = false →
    exec (.registerWrite .bar0 (0x100 + 32 * n) 4 (some v)) s =
      .next (onRing n (fun r => { r with crBase := withLo r.crBase v 16384 }) s)) ∧
  (∀ s n v, n < 16 → s.boot.phase ≠ .off → s.bar0.linkUp = true → (ringOf s n).enable = true →
    exec (.registerWrite .bar0 (0x100 + 32 * n) 4 (some v)) s = .next (setErr errBaseWhileEnabled s)) ∧
  (∀ s q v, (queueOf s q).enable = false → q < s.fabric.length → ∃ t, exec (.registerWrite (.qfb q) 0x08 4 (some v)) s = .next t ∧
    queueOf t q = { queueOf s q with producer := bitsOf v 31 24, consumer := bitsOf v 23 16, maxPktCells := bitsOf v 11 0 } ∧
    t = { s with fabric := t.fabric } ∧ ∀ p, p ≠ q → queueOf t p = queueOf s p) ∧
  (∀ s q v, (queueOf s q).enable = true → q < s.fabric.length → exec (.registerWrite (.qfb q) 0x08 4 (some v)) s = .next s) ∧
  (∀ s v, exec (.registerWrite .ts 0x1C 4 (some v)) s = .next { s with tb := { s.tb with stepSec := lo32 v } }) ∧
  (∀ s v, 100 ≤ v % 65536 → v % 65536 ≤ 60000 → exec (.registerWrite .kpr 0x08 4 (some v)) s =
    .next { s with keeper := { s.keeper with appPeriodMs := v % 65536 } }) ∧
  (∀ s, exec .mbxEvLostRead s = .next (postLost (emit (.read s.bar0.ev.lost) { s with
    bar0 := { s.bar0 with ev := { s.bar0.ev with lost := 0 } } }))) ∧
  (∀ s n v, (ringOf s n).enable = true → (ringOf s n).remote = false →
    ((ringOf s n).tail + 256 - (ringOf s n).head) % 256 ≤ (v % 256 + 256 - (ringOf s n).head) % 256 →
    exec (.mbxCrTailWrite n v) s = .next (onRing n (fun r => { r with tail := v % 256 }) s)) ∧
  (∀ s n v, (ringOf s n).enable = true → (ringOf s n).remote = false →
    (v % 256 + 256 - (ringOf s n).head) % 256 < ((ringOf s n).tail + 256 - (ringOf s n).head) % 256 →
    exec (.mbxCrTailWrite n v) s = .next (setErr errDoorbellRange s)) ∧
  (∀ s n v, ((ringOf s n).enable = false ∨ (ringOf s n).remote = true) →
    exec (.mbxCrTailWrite n v) s = .next (setErr errDoorbellDisabled s)) ∧
  (∀ s n v d, (ringOf s n).enable = true → (ringOf s n).remote = false → d = (v % 256 + 256 - (ringOf s n).cpHead) % 256 →
    d ≤ (ringOf s n).unread → exec (.mbxCpHeadWrite n v) s =
      .next (onRing n (fun r => { r with cpHead := v % 256, unread := r.unread - d }) s)) ∧
  (∀ s v e, e = s.bar0.ev → e.enable = true → (v % 65536 + e.size - e.cons % e.size) % e.size ≤
    (e.prod + e.size - e.cons % e.size) % e.size → exec (.mbxEvConsWrite v) s =
      .next (postLost { s with bar0 := { s.bar0 with ev := { e with cons := v % 65536 } } })) ∧
  (∀ s n v, bitOf v 31 = true → (ringOf s n).remote = false → s.bar0.linkUp = true → (ringOf s n).enable = false →
    n < s.bar0.rings.length → (ringOf s n).crBase ≠ 0 → (ringOf s n).cpBase ≠ 0 → (ringOf s n).crBase ≠ (ringOf s n).cpBase →
    ∃ t, exec (.ringEnable n v) s = .next t ∧ (ringOf t n).enable = true ∧ (ringOf t n).head = 0 ∧ (ringOf t n).tail = 0 ∧
      (ringOf t n).phase = true ∧ (ringOf t n).vector = bitsOf v 12 8 ∧ (ringOf t n).coalCount = bitsOf v 23 20 ∧
      (∀ m, m ≠ n → ringOf t m = ringOf s m) ∧ t = { s with bar0 := { s.bar0 with rings := t.bar0.rings } }) ∧
  (∀ s n v, bitOf v 31 = false → (ringOf s n).remote = false → s.bar0.linkUp = true → (ringOf s n).enable = true →
    n < s.bar0.rings.length → ∃ t, exec (.ringDisable n v) s = .next t ∧ (ringOf t n).enable = false ∧
      (ringOf t n).head = 0 ∧ (ringOf t n).tail = 0 ∧ (ringOf t n).cpHead = 0 ∧ (ringOf t n).phase = true ∧
      (ringOf t n).outstanding = (ringOf s n).outstanding ∧ (ringOf t n).cache = (ringOf s n).cache ∧
      (∀ m, m ≠ n → ringOf t m = ringOf s m) ∧ t.led = s.led ∧ t.out = s.out) ∧
  (∀ s v, bitOf v 31 = true → s.bar0.linkUp = true → s.bar0.ev.enable = false → 4 ≤ bitsOf v 4 0 → bitsOf v 4 0 ≤ 16 →
    s.bar0.ev.base ≠ 0 → exec (.eventRingEnable v) s = .next { s with bar0 := { s.bar0 with ev := { s.bar0.ev with
      vector := bitsOf v 20 16, minSeverity := bitsOf v 10 8, log2 := bitsOf v 4 0, enable := true } } }) ∧
  (∀ s v, bitOf v 31 = false → s.bar0.linkUp = true → exec (.eventRingDisable v) s = .next { s with bar0 := { s.bar0 with
    ev := { s.bar0.ev with
      vector := bitsOf v 20 16, minSeverity := bitsOf v 10 8, log2 := bitsOf v 4 0, enable := false, prod := 0, cons := 0 } } })

/-- R31, R33, R38, R52, R106, R393: fetching, interrupts, and the host's coming and going. A ring that may be fetched from moves its
HEAD, reserves a completion entry and takes the frame; a failed fetch disables it with DMA_READ. Attach sets ATTACHED and raises
HOST_ATTACHED; a detach or a removal stops the host's rings and clears ATTACHED.
R48, R49, R50, R90: remote sessions and ports. A bound connection with a place left opens a session on its ring and raises
REMOTE_OPEN; a good COMMAND message is taken on the session's ring; a bad one closes the session; silence of 30 s sends a
KEEPALIVE and of 90 s closes; an unbound one is closed with access_denied.
Log entries met: 91. -/
def Obligations.HostsComeAndGo : Prop :=
  (∀ s n f, mayFetch n s = true → f.frameOk = true → exec (.commandFetch n f) s = .next (takeFrame n f.frame f.buf f.bufOk
    .host none (onRing n (fun r => { r with head := (r.head + 1) % 256, reserved := r.reserved + 1 }) s))) ∧
  (∀ s n f, mayFetch n s = true → f.frameOk = false →
    exec (.commandFetch n f) s = .next (stopRing n (setErr errDmaRead s))) ∧
  (∀ s n d, (ringOf s n).coalDue = some d → d ≤ s.clk → exec (.coalescedInterruptTimer n) s =
    .next (sendMsix (ringOf s n).vector (onRing n (fun r => { r with coalPending := 0, coalDue := none }) s))) ∧
  (∀ s n op, exec (.cursorExpiry n op) s = .next (onRing n (fun r => { r with
    cursors := r.cursors.filter fun c => !(c.opcode == op && decide (c.due ≤ s.clk)) }) s)) ∧
  (∀ s, s.bar0.linkUp = true → s.bar0.attached = false →
    exec .hostAttach s = .next (raise 0x0004 [] { s with bar0 := { s.bar0 with attached := true } })) ∧
  (∀ s, s.bar0.linkUp = true → ∃ u, exec .orderlyDetach s = .next (raise 0x0005 [0] u) ∧ u = stopHost s ∧
    u.bar0.attached = false ∧ u.bar0.ev.enable = false ∧ ∀ n, n < 16 → (ringOf s n).remote = false → (ringOf u n).enable = false) ∧
  (∀ s, s.bar0.linkUp = true → exec .surpriseRemoval s =
    .next (note 0x04 [0x0D] (raise 0x0005 [1] (stopHost { s with bar0 := { s.bar0 with linkUp := false } })))) ∧
  (∀ s, ∃ t, exec .pcieHotReset s = .next t ∧ t.bar0.err = 0 ∧ t.bar0.attached = false ∧
    t.bar0.ev.enable = false ∧ t.bar0.linkUp = false ∧ t.meters = s.meters ∧ t.keys = s.keys ∧ t.store = s.store) ∧
  (∀ s, s.boot.phase ≠ .off → exec .pcieLinkUp s = .next { s with bar0 := { s.bar0 with linkUp := true } }) ∧
  (∀ s i k ring, served s = true → boundTo (remoteBindings s) k = some ring → (s.remotes.find? fun r => r.ring == ring) = none →
    sessionsOpen s < 8 → exec (.remoteConnect i k) s =
      .next (raise 0x0006 (putLe 1 ring ++ k.take 15) { s with remotes := s.remotes ++ [⟨i, ring, k, s.clk, s.clk⟩] })) ∧
  (∀ s i k, served s = true → boundTo (remoteBindings s) k = none →
    exec (.remoteConnect i k) s = .next (emit (.tlsClose i 49) s)) ∧
  (∀ s i r h b, i < uploadSession → (s.remotes.find? fun r => r.id == i) = some r → h.length = 8 → zeroAt h 1 3 = true →
    le h 4 4 = b.length → le h 0 1 = 1 →
    b.length = 64 + (if bitOf (le (b.take 64) 2 1) 2 then 0 else le (b.take 64) 0x18 4) →
    exec (.remoteMessage i h b) s =
      .next (takeFrame r.ring (b.take 64) (b.drop 64) true .remote (some i) (touchRemote i s))) ∧
  (∀ s i r h b, i < uploadSession → (s.remotes.find? fun r => r.id == i) = some r →
    (h.length ≠ 8 ∨ zeroAt h 1 3 = false ∨ le h 4 4 ≠ b.length ∨ le h 0 1 = 0 ∨ 4 < le h 0 1) →
    exec (.remoteMessage i h b) s = .next (closeRemote i 1 (touchRemote i s))) ∧
  (∀ s i r, i < uploadSession → (s.remotes.find? fun r => r.id == i) = some r → r.lastTraffic + secTicks 30 ≤ s.clk →
    ∃ t, exec (.remoteKeepaliveTimer i) s = .next t ∧ t.out = s.out ++ [.remote i 4 []] ∧
      t.remotes = modifyFirst (fun r => r.id == i) (fun r => { r with lastTraffic := s.clk }) s.remotes ∧
      t = { s with out := t.out, remotes := t.remotes }) ∧
  (∀ s i r, (s.remotes.find? fun r => r.id == i) = some r → r.lastSent + secTicks 90 ≤ s.clk →
    exec (.remoteIdleTimeout i) s = .next (closeRemote i 2 s)) ∧
  (∀ s i r why, (s.remotes.find? fun r => r.id == i) = some r → exec (.remoteClose i why) s =
    .next (raise 0x0007 (putLe 1 r.ring ++ putLe 2 why) (emit (.tlsClose i why) { s with
      remotes := s.remotes.filter fun x => x.id != i }))) ∧
  (∀ s p up, s.boot.phase = .running →
    exec (.ethernetLinkChange p up) s = .next { s with ethLinks := s.ethLinks.set p up })

/-- R24, R90, R91, R93, R94, R95, R116: the upload channel. A subordinate announces itself on every port with a link; a head opens
a channel to a subordinate of its table and sends ADMIT; an admitted subordinate answers ADMIT_ACK; an epoch comes whole into the
head's open epoch and is acknowledged with it, or is discarded as already held; acknowledgements move the window; silence closes
the channel; a forwarded completion is kept until its epoch is uploaded.
Log entries met: 62, 63, 104 to 107. -/
def Obligations.UploadChannelWorks : Prop :=
  (∀ s, s.boot.headRole = false → served s = true → s.uploadSub.announceDue ≤ s.clk → ∃ t,
    exec .announcementTimer s = .next t ∧ t.out = s.out ++ (s.ethLinks.filter (· == true)).map
      (fun _ => Output.announcement (segmentId s) s.led.lastCommitted (itemVal s 0x0106)) ∧
    t.uploadSub = { s.uploadSub with announceDue := s.clk + secTicks (if s.uploadSub.connected then 60 else 10) } ∧
    t = { s with out := t.out, uploadSub := t.uploadSub }) ∧
  (∀ s a seg, s.boot.headRole = true → served s = true → a.formOk = true →
    boundTo ((s.led.work.itemRaw 0x0108).getD []) a.keyId = some seg → headChannel s seg = none → ∃ t,
    exec (.announcementReceived a) s = .next t ∧ (headChannel t seg).map (·.keyId) = some a.keyId ∧
    t.out = s.out ++ [.uploadHead seg 0x10 (putLe 1 seg ++ putLe 1 (Config.freeNat s.fresh % 16) ++ zeros 6 ++
      putLe 8 ((committedContent s).cutOf seg))] ∧ t.led = s.led) ∧
  (∀ s a, s.boot.headRole = true → served s = true → a.formOk = true →
    boundTo ((s.led.work.itemRaw 0x0108).getD []) a.keyId = none → exec (.announcementReceived a) s =
      .next { s with counters := { s.counters with announceIgnored := s.counters.announceIgnored + 1 } }) ∧
  (∀ s k, served s = true → s.boot.headRole = false → k = (itemNow s 0x0109).take 20 → allZero k = false →
    s.uploadSub.connected = false → sessionsOpen s < 8 → exec (.uploadChannelConnect k) s = .next { s with
      uploadSub := { s.uploadSub with
        connected := true, headKeyId := k, refused := none, lastTraffic := s.clk, lastHeard := s.clk } }) ∧
  (∀ s seg ring last, s.uploadSub.connected = true → (seg = 0 ∨ 255 < seg ∨ 15 < ring) → ∃ t,
    exec (.admitReceived seg ring last) s = .next t ∧ t.led = s.led ∧ t.out = s.out ++ [.uploadSub 0x11
      (putLe 2 0x0103 ++ zeros 6 ++ putLe 8 ((s.led.contents.head?.map (·.num)).getD 0))]) ∧
  (∀ s seg ring last, s.uploadSub.connected = true → within 1 255 seg = true → ring ≤ 15 → ∃ t,
    exec (.admitReceived seg ring last) s = .next t ∧ t.uploadSub.headRing = some ring ∧ t.uploadSub.connected = true) ∧
  (∀ s seg u oldest, headChannel s seg = some u → ∃ t, exec (.admitAckReceived seg 0 oldest) s = .next t ∧
    (headChannel t seg).map (·.joined) = some true) ∧
  (∀ s seg u c items, headChannel s seg = some u → c.digestOk = true → lastAccepted u s < c.epoch →
    subItems seg c (heardSub seg s) = some items → (openEpoch s).isSome = true →
    appendRefusal items (heardSub seg s) = none → exec (.epochDataReceived seg c) s =
      .next (epochAck seg c.epoch 0 (openNum s) (takeEpoch seg c items (newInput 5 (heardSub seg s))))) ∧
  (∀ s seg u c, headChannel s seg = some u → c.digestOk = true → c.epoch ≤ lastAccepted u s → ∃ t,
    exec (.epochDataReceived seg c) s = .next t ∧ t.led.work.recs = s.led.work.recs ∧
      t.counters.subordinateDiscards = s.counters.subordinateDiscards + 1) ∧
  (∀ s n h, s.uploadSub.connected = true → ∃ t, exec (.epochAckReceived n 0x0301 h) s = .next t ∧
    t.uploadSub.refused = some n ∧ t.uploadSub.resendDue = s.clk + secTicks 60 ∧ t.led = s.led) ∧
  (∀ s seg u from_ to_, headChannel s seg = some u → from_ ≤ to_ → lastAccepted u s < to_ → ∃ t,
    exec (.epochGapReceived seg from_ to_) s = .next t ∧ (headChannel t seg).map (·.gapTo) = some to_) ∧
  (∀ s n h, s.uploadSub.refused = some n → s.uploadSub.connected = true → isStandby s = false →
    s.uploadSub.resendDue ≤ s.clk → (s.led.contents.find? fun h => h.num == n) = some h →
    exec .uploadEpochResend s = .next { s with
      out := s.out ++ [.epochData h]
      uploadSub := { s.uploadSub with resendDue := s.clk + secTicks 60, lastTraffic := s.clk } }) ∧
  (∀ s, s.uploadSub.connected = true → exec (.uploadChannelSilent none true) s = .next { s with uploadSub := { s.uploadSub with
    connected := false, refused := none, announceDue := s.clk + secTicks 10 } }) ∧
  (∀ s seg u c f, headChannel s seg = some u → c.epoch = 0 →
    ((newInput 5 (heardSub seg s)).inflight.find? fun f => f.forwardedTo == some seg && f.cmd.tag == c.tag &&
      f.cmd.opcode == c.opcode && f.waitCommit.isNone) = some f →
    exec (.forwardedCompletionReceived seg c) s = .next (finishForward f c 0 (newInput 5 (heardSub seg s))))

/-- R56, R57, R60 to R64: the producer's and the consumer's commands on a queue of the fabric. A first word debits MAX_PKT_CELLS cells
and one item, later ones are added; END makes the packet visible in as many cells as it fills; a pop returns one word and its
tag; a pop of an empty queue stalls until a packet is visible; DROP frees what is left of the head packet. Other queues stand.
R63, R65, R69: configuring, disabling and resetting a queue. ENABLE takes the sizes and grants the credits; clearing it discards
the contents and releases a stalled pop with ERR; reading ERR returns the counts and clears them; a reset empties the queue,
restores the credits and abandons a packet under production, and then the queue's owner makes good what was lost (R66); a
pointer mismatch resets, counts and is reported.
Log entries met: 75, 98. -/
def Obligations.QueuesWork : Prop :=
  (∀ s n w, n < s.fabric.length → (queueOf s n).enable = true → (queueOf s n).abandoned = false →
    (queueOf s n).building = none → (queueOf s n).maxPktCells ≤ (queueOf s n).creditCells → 1 ≤ (queueOf s n).creditItems →
    ∃ t, exec (.qfbPush n (queueOf s n).producer w) s = .next t ∧ queueOf t n = { queueOf s n with
      building := some (putLe 4 w.toNat)
      creditCells := (queueOf s n).creditCells - (queueOf s n).maxPktCells
      creditItems := (queueOf s n).creditItems - 1 } ∧
      (∀ m, m ≠ n → queueOf t m = queueOf s m) ∧ t = { s with fabric := t.fabric }) ∧
  (∀ s n p w, p ≠ (queueOf s n).producer → exec (.qfbPush n p w) s = .next s) ∧
  (∀ s n b k len, n < s.fabric.length → (queueOf s n).enable = true → (queueOf s n).abandoned = false →
    (queueOf s n).building = some b → 1 ≤ k → k ≤ 4 → len = b.length - 4 + k → cellsOf len ≤ (queueOf s n).maxPktCells →
    ∃ t, exec (.qfbEnd n (queueOf s n).producer k) s = .next t ∧
      (queueOf t n).items = (queueOf s n).items ++ [packetWords (b.take len)] ∧ (queueOf t n).building = none ∧
      (queueOf t n).creditCells = (queueOf s n).creditCells + ((queueOf s n).maxPktCells - cellsOf len) ∧
      (queueOf t n).creditItems = (queueOf s n).creditItems ∧ (∀ m, m ≠ n → queueOf t m = queueOf s m) ∧
      t = { s with fabric := t.fabric }) ∧
  (∀ s n b k len, n < s.fabric.length → (queueOf s n).enable = true → (queueOf s n).abandoned = false →
    (queueOf s n).building = some b → len = b.length - 4 + k → (k = 0 ∨ 4 < k ∨ (queueOf s n).maxPktCells < cellsOf len) →
    ∃ t, exec (.qfbEnd n (queueOf s n).producer k) s = .next t ∧ queueOf t n = { queueOf s n with
      building := none
      creditCells := (queueOf s n).creditCells + (queueOf s n).maxPktCells
      creditItems := (queueOf s n).creditItems + 1
      oversize := satInc 255 (queueOf s n).oversize }) ∧
  (∀ s n w rest more hurt, n < s.fabric.length → (queueOf s n).enable = true →
    (queueOf s n).items = (w :: rest) :: more → ∃ t, exec (.qfbPop n (queueOf s n).consumer true hurt) s = .next t ∧
      t.out = s.out ++ [.popWord n w.bytes (popTagOf w.valid rest.isEmpty ((queueOf s n).popped == 0) hurt)] ∧
      (queueOf t n).items = (if rest.isEmpty then more else rest :: more) ∧
      (queueOf t n).creditCells = (queueOf s n).creditCells + 1 ∧
      (queueOf t n).creditItems = (queueOf s n).creditItems + bit rest.isEmpty ∧
      (∀ m, m ≠ n → queueOf t m = queueOf s m) ∧ t = { s with out := t.out, fabric := t.fabric }) ∧
  (∀ s n hurt, n < s.fabric.length → (queueOf s n).enable = true → (queueOf s n).items = [] → ∃ t,
    exec (.qfbPop n (queueOf s n).consumer true hurt) s = .next t ∧ queueOf t n = { queueOf s n with stalled := true } ∧
      t = { s with fabric := t.fabric }) ∧
  (∀ s n w rest more, n < s.fabric.length → (queueOf s n).stalled = true → (queueOf s n).items = (w :: rest) :: more → ∃ t,
    exec (.popStallRelease n) s = .next t ∧ (queueOf t n).stalled = false ∧
      t.out = s.out ++ [.popWord n w.bytes (popTagOf w.valid rest.isEmpty ((queueOf s n).popped == 0) false)]) ∧
  (∀ s n p more, n < s.fabric.length → (queueOf s n).items = p :: more → ∃ t,
    exec (.qfbDrop n (queueOf s n).consumer) s = .next t ∧ (queueOf t n).items = more ∧ (queueOf t n).popped = 0 ∧
      (queueOf t n).creditCells = (queueOf s n).creditCells + p.length ∧
      (queueOf t n).creditItems = (queueOf s n).creditItems + 1 ∧ t = { s with fabric := t.fabric }) ∧
  (∀ s n v, n < s.fabric.length → bitOf v 31 = true → (queueOf s n).enable = false →
    (queueOf s n).maxPktCells ≤ bitsOf v 15 0 → bitsOf v 28 16 ≠ 0 → ∃ t, exec (.queueEnable n v) s = .next t ∧
      (queueOf t n).enable = true ∧ (queueOf t n).creditCells = bitsOf v 15 0 ∧ (queueOf t n).creditItems = bitsOf v 28 16 ∧
      (queueOf t n).items = [] ∧ (queueOf t n).building = none ∧ (queueOf t n).wr = (queueOf s n).baseCell ∧
      (∀ m, m ≠ n → queueOf t m = queueOf s m) ∧ t = { s with fabric := t.fabric }) ∧
  (∀ s n v, n < s.fabric.length → bitOf v 31 = false → (queueOf s n).enable = true → ∃ t,
    exec (.queueDisable n v) s = .next t ∧ (queueOf t n).enable = false ∧ (queueOf t n).items = [] ∧
      (queueOf t n).creditCells = 0 ∧ (queueOf t n).creditItems = 0 ∧ (queueOf t n).stalled = false ∧
      t.out = (if (queueOf s n).stalled then s.out ++ [.popWord n (zeros 32) 0x200] else s.out) ∧
      t = { s with out := t.out, fabric := t.fabric }) ∧
  (∀ s n, n < s.fabric.length → ∃ t, exec (.qfbErrRead n) s = .next t ∧ t.out = s.out ++ [.read (queueOf s n).errWord] ∧
    queueOf t n = { queueOf s n with mismatches := 0, poisoned := 0, oversize := 0 }) ∧
  (∀ s n, n < s.fabric.length → ∃ t, exec (.qfbReset n) s = .next (ownerRecovers n t) ∧ (queueOf t n).items = [] ∧
    (queueOf t n).creditCells = (queueOf s n).sizeCells ∧ (queueOf t n).creditItems = (queueOf s n).itemLimit ∧
    (queueOf t n).building = none ∧
    (queueOf t n).abandoned = ((queueOf s n).abandoned || (queueOf s n).building.isSome) ∧
    (queueOf t n).enable = (queueOf s n).enable ∧ (∀ m, m ≠ n → queueOf t m = queueOf s m) ∧
    t.out = (if (queueOf s n).stalled then s.out ++ [.popWord n (zeros 32) 0x200] else s.out) ∧
    t = { s with out := t.out, fabric := t.fabric }) ∧
  (∀ s n rd, n < s.fabric.length → ∃ t, exec (.queuePointerMismatch n rd) s =
      .next (raiseHw 0x0A03 (putLe 1 n) (ownerRecovers n t)) ∧
    (queueOf t n).items = [] ∧ (queueOf t n).mismatches = satInc 255 (queueOf s n).mismatches ∧
    (queueOf t n).lastMismatch = rd ∧ (∀ m, m ≠ n → queueOf t m = queueOf s m) ∧
    t = { s with out := t.out, fabric := t.fabric })

/-- R57: the credits of a queue. At enable the producer has SIZE_CELLS cell credits and ITEM_LIMIT item credits; it starts a packet only
while it holds MAX_PKT_CELLS cells and one item, which starting debits; at the packet's end the cells not used return; each cell popped
or dropped returns one cell, and each item that leaves one item. So, whatever a push, an END, a pop or a drop does, the free credits, the
cells of the visible packets and the cells held for a packet under production add up to what they added up to before. -/
def Obligations.CreditsFollowThePackets : Prop :=
  (∀ s n v, n < s.fabric.length → bitOf v 31 = true → (queueOf s n).enable = false →
    (queueOf s n).maxPktCells ≤ bitsOf v 15 0 → bitsOf v 28 16 ≠ 0 → ∃ t, exec (.queueEnable n v) s = .next t ∧
      (queueOf t n).creditCells = bitsOf v 15 0 ∧ (queueOf t n).sizeCells = bitsOf v 15 0 ∧
      (queueOf t n).creditItems = bitsOf v 28 16 ∧ (queueOf t n).itemLimit = bitsOf v 28 16) ∧
  (∀ s n p w t, n < s.fabric.length → (queueOf s n).building = none → exec (.qfbPush n p w) s = .next t →
    (queueOf t n).building.isSome = true → (queueOf s n).maxPktCells ≤ (queueOf s n).creditCells ∧ 1 ≤ (queueOf s n).creditItems ∧
      (queueOf t n).creditCells = (queueOf s n).creditCells - (queueOf s n).maxPktCells ∧
      (queueOf t n).creditItems = (queueOf s n).creditItems - 1) ∧
  (∀ s n w, n < s.fabric.length → (queueOf s n).enable = true → (queueOf s n).abandoned = false → (queueOf s n).building = none →
    (queueOf s n).maxPktCells ≤ (queueOf s n).creditCells → 1 ≤ (queueOf s n).creditItems → ∃ t,
    exec (.qfbPush n (queueOf s n).producer w) s = .next t ∧ (queueOf t n).building = some (putLe 4 w.toNat)) ∧
  (∀ s n k b t, n < s.fabric.length → (queueOf s n).enable = true → (queueOf s n).abandoned = false →
    (queueOf s n).building = some b → exec (.qfbEnd n (queueOf s n).producer k) s = .next t →
    (queueOf t n).items.length = (queueOf s n).items.length + 1 →
      (queueOf t n).creditCells + cellsOf (b.length - 4 + k) = (queueOf s n).creditCells + (queueOf s n).maxPktCells) ∧
  (∀ s n hurt w rest more t, n < s.fabric.length → (queueOf s n).enable = true → (queueOf s n).items = (w :: rest) :: more →
    exec (.qfbPop n (queueOf s n).consumer true hurt) s = .next t →
      (queueOf t n).creditCells = (queueOf s n).creditCells + 1 ∧
      (queueOf t n).creditItems + (queueOf t n).items.length = (queueOf s n).creditItems + (queueOf s n).items.length) ∧
  (∀ s n p more t, n < s.fabric.length → (queueOf s n).items = p :: more → exec (.qfbDrop n (queueOf s n).consumer) s = .next t →
      (queueOf t n).creditCells = (queueOf s n).creditCells + p.length ∧
      (queueOf t n).creditItems = (queueOf s n).creditItems + 1) ∧
  (∀ s n t, (∀ b, (queueOf s n).building = some b → 4 ≤ b.length) →
    ((∃ p w, exec (.qfbPush n p w) s = .next t) ∨ (∃ p k, exec (.qfbEnd n p k) s = .next t) ∨
      (∃ p whole hurt, exec (.qfbPop n p whole hurt) s = .next t) ∨ (∃ p, exec (.qfbDrop n p) s = .next t)) →
    queueCells (queueOf t n) = queueCells (queueOf s n))


/-- R61, R64: a word pushed is not visible; END makes the whole packet visible behind the packets whose END was accepted before it, and
packets leave the queue in that order, the words of the first one by one. DROP discards the current packet, partly popped or not: its cells
that are left and its item are freed and their credits return; the next pop returns the first word of the following packet; on an empty
queue DROP does nothing and does not stall. -/
def Obligations.PacketsLeaveWholeAndInOrder : Prop :=
  (∀ s n p w t, n < s.fabric.length → exec (.qfbPush n p w) s = .next t → (queueOf t n).items = (queueOf s n).items) ∧
  (∀ s n p k t, n < s.fabric.length → exec (.qfbEnd n p k) s = .next t → (queueOf t n).items = (queueOf s n).items ∨
    ∃ b, (queueOf s n).building = some b ∧
      (queueOf t n).items = (queueOf s n).items ++ [packetWords (b.take (b.length - 4 + k))]) ∧
  (∀ s n p whole hurt t, n < s.fabric.length → exec (.qfbPop n p whole hurt) s = .next t →
    (queueOf t n).items = (queueOf s n).items ∨ ∃ w rest more tag, (queueOf s n).items = (w :: rest) :: more ∧
      (queueOf t n).items = (if rest.isEmpty then more else rest :: more) ∧ t.out = s.out ++ [.popWord n w.bytes tag]) ∧
  (∀ s n p more, n < s.fabric.length → (queueOf s n).items = p :: more → ∃ t,
    exec (.qfbDrop n (queueOf s n).consumer) s = .next t ∧ (queueOf t n).items = more ∧
      (queueOf t n).creditCells = (queueOf s n).creditCells + p.length ∧
      (queueOf t n).creditItems = (queueOf s n).creditItems + 1 ∧ (∀ m, m ≠ n → queueOf t m = queueOf s m) ∧
      ∀ w rest later hurt, (queueOf s n).enable = true → more = (w :: rest) :: later → ∃ u,
        exec (.qfbPop n (queueOf s n).consumer true hurt) t = .next u ∧
          u.out = t.out ++ [.popWord n w.bytes (popTagOf w.valid rest.isEmpty true hurt)]) ∧
  (∀ s n p, n < s.fabric.length → (queueOf s n).items = [] → exec (.qfbDrop n p) s = .next s)
/-- R75 to R77, R83, R84, R170: what the session engine does of its own accord, on a chip that is no standby. A slot that is due takes
every slot of its second and opens a session, or waits for the meter's running session; a waiting slot and a retry start when
there is room, or are dropped once the meter's next slot has come; a silent meter raises METER_SILENT once in each silence; a
field-work command past its DEADLINE whose order never started completes with 0x0601.
Log entries met: 26, 27, 34. -/
def Obligations.ScheduledWorkStarts : Prop :=
  (∀ s idx entry r e p, isStandby s = false → getRec s idx = some r →
    (slotsDue s idx r).find? (fun x => x.1 == entry) = some e → r.segment = 0 →
    (s.led.work.classOf r.cls).map (·.stateless) = some false →
    p = mergedSlot idx ((slotsDue s idx r).filter fun x => x.2.2 / 65536 == e.2.2 / 65536) → mayCollect s p.what = true →
    ∃ u, u.meters.slots = (s.meters.slots.filter fun x => !(((slotsDue s idx r).filter fun y =>
        y.2.2 / 65536 == e.2.2 / 65536).any fun y => x.1 == (idx, y.1))) ++
        ((slotsDue s idx r).filter fun y => y.2.2 / 65536 == e.2.2 / 65536).map (fun y => ((idx, y.1), y.2.2)) ∧
      u.led = s.led ∧ u.meters.sessions = s.meters.sessions ∧ exec (.scheduledSlot idx entry) s = .next (
        if (sessionOf s idx).isNone && slotPlace s then openSlot p u else deferSlot p u)) ∧
  (∀ s idx p, isStandby s = false → s.meters.waiting.find? (fun w => w.idx == idx) = some p → now s < p.nextSlot →
    sessionOf s idx = none → slotPlace s = true → mayCollect s p.what = true → exec (.pendingSlotStart idx) s =
      .next (openSlot p { s with meters := { s.meters with waiting := s.meters.waiting.filter fun w => w.idx != idx } })) ∧
  (∀ s idx p, isStandby s = false → s.meters.waiting.find? (fun w => w.idx == idx) = some p → p.nextSlot ≤ now s →
    exec (.pendingSlotStart idx) s = .next { s with meters := { s.meters with
      waiting := s.meters.waiting.filter fun w => w.idx != idx
      droppedSlots := inc64 s.meters.droppedSlots } }) ∧
  (∀ s idx x, isActive s = true →
    s.meters.retries.find? (fun y => y.slot.idx == idx && decide (y.due ≤ s.clk)) = some x → now s < x.slot.nextSlot →
    mayCollect s x.slot.what = true → exec (.retryGapExpiry idx) s = .next (startSlot x.slot (newInput 6 { s with
      meters := { s.meters with retries := s.meters.retries.erase x } }))) ∧
  (∀ s idx x, isActive s = true →
    s.meters.retries.find? (fun y => y.slot.idx == idx && decide (y.due ≤ s.clk)) = some x → x.slot.nextSlot ≤ now s →
    exec (.retryGapExpiry idx) s = .next { s with meters := { s.meters with retries := s.meters.retries.erase x } }) ∧
  (∀ s idx r d since, isStandby s = false → getRec s idx = some r → r.segment = 0 → s.led.work.classOf r.cls = some d →
    since = (if r.clock.lastSuccess = 0 then r.clock.admittedAt else r.clock.lastSuccess) → d.silentLimitS ≠ 0 →
    since + ltSec d.silentLimitS ≤ now s → (idx, since) ∉ s.meters.silent → inService s = true →
    ∃ u, u.meters.silent = (s.meters.silent.filter fun x => x.1 != idx) ++ [(idx, since)] ∧ u.led = s.led ∧ u.clk = s.clk ∧
      exec (.meterSilent idx) s = .next (raiseEv (mkNetEv s 0x0105
        (putLe 8 ((lookupNat idx s.meters.contact).getD r.clock.lastContact)) (some (recMh idx r)) r.net.network) u)) ∧
  (∀ s ring tag f, isStandby s = false → inflightOf s (ring, tag) = some f →
    f.cmd.opcode ∈ [0x0206, 0x0207, 0x0504, 0x0604, 0x0605] → f.started = true → f.forwardedTo = none →
    servesCmd s f.cmd = false → f.takenAt + secTicks (cmdDeadline f.cmd) ≤ s.clk → orderPlaced f.cmd s = false →
    exec (.commandDeadlineExpiry ring tag) s = .next (finish f (.refuse 0x0601 (relayData f.cmd s)) s))

/-- R20 to R22, R85, R87, R89, R224: an exchange runs. A whole response goes to DECRYPTING; a counter not seen before and no error
take it to PROCESSING, a set authentication flag fails the session with 0x0402; its group then completes into the open epoch
and the session goes on; without a response the request is sent up to three times, an order after a read-back, and then
the session fails with 0x0601, as it does at its deadline.
Log entries met: 26, 27, 34, 102. -/
def Obligations.SessionsRun : Prop :=
  (∀ s s' f idx r x a i b, f.msg = .dlmsSegment a i 1 b → i = 0 → mayProcess s = true → takeRx f s = some s' →
    sourceOf s' f = some (idx, r) → sessionOf s' idx = some x → x.state = .requesting →
    s'.meters.reassembly.find? (fun y => y.idx == idx && y.apduId == a) = none → ∃ t,
    exec (.dlmsSegmentReceived f) s = .next t ∧
      sessionOf t idx = some { x with state := .decrypting, rxTime := f.rxTime, seq := s'.twin.curSeq } ∧
      t = { s' with meters := { s'.meters with reassembly := t.meters.reassembly, sessions := t.meters.sessions } }) ∧
  (∀ s d x r, sessionOf s d.idx = some x → getRec s d.idx = some r → x.state = .decrypting → d.job.authFail = true →
    exec (.cipherJobComplete d) s = .next (failSession d.idx 0x0402 (resumeInput x.seq s))) ∧
  (∀ s d x r, sessionOf s d.idx = some x → getRec s d.idx = some r → x.state = .decrypting → d.job.authFail = false →
    d.job.result = 0 → x.associated = true → x.response = none → r.net.invRx < d.response.invCtr → d.response.more = false →
    ∃ t, exec (.cipherJobComplete d) s = .next t ∧
      sessionOf t d.idx = some { x with state := .processing, response := some d.response } ∧ t.led = s.led ∧
      ∀ j, j ≠ d.idx → sessionOf t j = sessionOf s j) ∧
  (∀ s d x r, sessionOf s d.idx = some x → getRec s d.idx = some r → x.state = .decrypting → d.job.authFail = false →
    d.job.result = 0 → x.associated = false → x.response = none → r.net.invRx < d.response.invCtr →
    d.response.dlmsResult = 0 → exec (.cipherJobComplete d) s = .next (associated d.idx
      (onSession d.idx (fun x => { x with response := some d.response }) (resumeInput x.seq s)))) ∧
  (∀ s idx x r rsp what from_ e x', sessionOf s idx = some x → getRec s idx = some r → x.state = .processing →
    x.response = some rsp → x.purpose = .collect what from_ → rsp.dlmsResult = 0 →
    e = exchanged (resumeInput x.seq s) x r rsp → x' = { x with appendedValues := x.appendedValues + e.w.appended } →
    exec (.appendGroupComplete idx) s = .next (afterExchange x' e.next (onSession idx (fun y => { y with
      state := .appended, appendedValues := x'.appendedValues }) (campaignAfter e.onCampaign (noteClock idx rsp false
        (appendExchange x' x.cmd (recMh idx r) (e.items (resumeInput x.seq s) ++
          (closedEvents (resumeInput x.seq s) e.w.t e.w.snaps).map Item.event) e.result (x'.data (resumeInput x.seq s))
          rsp.dlmsData (resumeInput x.seq s))))))) ∧
  (∀ s idx x r rsp, sessionOf s idx = some x → getRec s idx = some r → x.state = .processing → x.response = some rsp →
    rsp.dlmsResult ≠ 0 → exec (.appendGroupComplete idx) s = .next (refusedExchange x rsp (resumeInput x.seq s))) ∧
  (∀ s idx x, isStandby s = false → sessionOf s idx = some x → x.state = .requesting → x.disagreed = false →
    x.reqDeadline ≤ s.clk → x.awaitingReadBack = false → x.purpose.isOrder = false → ∃ u, u = timerInput { s with
      meters := { s.meters with reassembly := s.meters.reassembly.filter fun y => y.idx != idx } } ∧
      exec (.responseTimeout idx) s =
        .next (if x.attempts < 3 then sendRequest idx u else failSession idx 0x0601 u)) ∧
  (∀ s idx x, isStandby s = false → sessionOf s idx = some x → x.state = .requesting → x.disagreed = false →
    x.reqDeadline ≤ s.clk → x.awaitingReadBack = false → x.purpose.isOrder = true → x.associated = true → x.attempts ≠ 0 →
    ∃ u, u.led = s.led ∧ (sessionOf u idx).map (fun y => (y.awaitingReadBack, y.readTries)) = some (true, 0) ∧
      exec (.responseTimeout idx) s = .next (sendRequest idx u)) ∧
  (∀ s idx x, isStandby s = false → sessionOf s idx = some x → x.deadline ≤ s.clk → x.state ≠ .processing →
    exec (.sessionDeadline idx) s = .next (failSession idx 0x0601 (timerInput s)))

/-- R79 to R81, R237: joining. A request of an admitted meter on a permitted network gets the address of R81, moves its record to
JOINING and sends JOIN_ACCEPT; one whose network is not permitted, or for which no address is left, gets JOIN_REFUSE; an unknown
identity is counted only. A matching confirm makes it JOINED with METER_JOINED. The accept is sent at most three times, 10 s
apart; then the record is ADMITTED again, as it is after METER_LEAVE, and its address rests 600 s.
Log entries met: 28, 30. -/
def Obligations.MetersJoinAndLeave : Prop :=
  (∀ s s' f identity ver prev idx r a, f.msg = .joinRequest identity ver prev → f.net = .rf → mayProcess s = true →
    takeRx f s = some s' → s'.led.work.byIdentity identity = some (idx, r) → inSalvage s' = false → bkeyIndex s' ≠ 0 →
    r.segment = 0 → r.net.state = .admitted → permitted s' r .rf = true → assignShort s' .rf prev false = some a →
    exec (.joinRequestReceived f) s = .next (toJoining idx .rf a false s')) ∧
  (∀ s s' f identity ver prev idx r, f.msg = .joinRequest identity ver prev → f.net = .rf → mayProcess s = true →
    takeRx f s = some s' → s'.led.work.byIdentity identity = some (idx, r) → inSalvage s' = false → bkeyIndex s' ≠ 0 →
    r.segment = 0 → r.net.state = .admitted → permitted s' r .rf = false →
    exec (.joinRequestReceived f) s = .next (refuseJoin r .rf 1 s')) ∧
  (∀ s s' f identity ver prev idx r, f.msg = .joinRequest identity ver prev → f.net = .rf → mayProcess s = true →
    takeRx f s = some s' → s'.led.work.byIdentity identity = some (idx, r) → inSalvage s' = false → bkeyIndex s' ≠ 0 →
    r.segment = 0 → r.net.state = .admitted → permitted s' r .rf = true → assignShort s' .rf prev false = none →
    exec (.joinRequestReceived f) s = .next (refuseJoin r .rf 2 s')) ∧
  (∀ s s' f identity ver prev, f.msg = .joinRequest identity ver prev → mayProcess s = true → takeRx f s = some s' →
    s'.led.work.byIdentity identity = none → exec (.joinRequestReceived f) s = .next { s' with meters := { s'.meters with
      unknownJoinCount := inc64 s'.meters.unknownJoinCount
      unknownJoins := lastN 64 ((s'.meters.unknownJoins.filter fun x => x.1 != identity) ++ [(identity, now s')]) } }) ∧
  (∀ s s' f idx r, f.msg = .joinConfirm r.net.joinId → mayProcess s = true → takeRx f s = some s' →
    sourceOf s' f = some (idx, r) → getRec s' idx = some r → r.net.state = .joining → joinOf s' idx = none →
    takesGroups s' = true → (openEpoch s').isSome = true → ∃ t, exec (.joinConfirmReceived f) s = .next t ∧
      (getRec t idx).map (·.net.state) = some .joined ∧ idx ∈ t.keys.rejoined) ∧
  (∀ s s' f idx r id, f.msg = .joinConfirm id → mayProcess s = true → takeRx f s = some s' →
    sourceOf s' f = some (idx, r) → r.net.joinId ≠ id → exec (.joinConfirmReceived f) s = .next { s' with
      meters := { s'.meters with badConfirms := inc64 s'.meters.badConfirms } }) ∧
  (∀ s s' f idx r why, f.msg = .leave why → mayProcess s = true → takeRx f s = some s' → sourceOf s' f = some (idx, r) →
    inSalvage s' = false → r.net.state = .joined → exec (.meterLeaveReceived f) s = .next (toAdmitted idx
      [mkNetEv s' 0x0102 (zeros 2 ++ putLe 1 (((r.net.network).map Net.code).getD 0)) (some (recMh idx r)) r.net.network]
      s')) ∧
  (∀ s idx j, isStandby s = false → inService s = true → joinOf s idx = some j → j.fromStart = false → j.sends < 3 →
    j.lastSend + secTicks 10 ≤ s.clk → exec (.joinAcceptResend idx) s = .next (sendAccept idx
      (setJoin { j with sends := j.sends + 1, lastSend := s.clk } (timerInput s)))) ∧
  (∀ s idx j, isStandby s = false → inService s = true → joinOf s idx = some j → j.fromStart = false → 3 ≤ j.sends →
    j.lastSend + secTicks 10 ≤ s.clk → exec (.joinConfirmWindowExpiry idx) s = .next (toAdmitted idx [] (timerInput s))) ∧
  (∀ s idx j, isStandby s = false → inService s = true → joinOf s idx = some j → j.fromStart = true →
    j.lastSend + secTicks 10 ≤ s.clk → exec (.joiningWaitAfterStart idx) s = .next (toAdmitted idx [] (timerInput s))) ∧
  (∀ s net short, isStandby s = false → exec (.quarantineExpiry net short) s = .next { s with meters := { s.meters with
    quarantine := s.meters.quarantine.filter fun q => !(q.net == net && q.short == short && decide (q.until_ ≤ s.clk)) } })

/-- R78, R81: an address given to a joining meter is PREV_SHORT where it is free, else the lowest free one from 1 to 0x0FFF; no
address in use or in quarantine on the network is given. -/
def Obligations.AssignedAddressesAreFree : Prop :=
  ∀ s net prev counted a, assignShort s net prev counted = some a →
    1 ≤ a ∧ a ≤ 0x0FFF ∧ a ∉ shortsUsed s net ∧ a ∉ shortsQuarantined s net ∧
    (prev ≠ 0 → prev ≤ 0x0FFF → prev ∉ shortsUsed s net → prev ∉ shortsQuarantined s net → a = prev) ∧
    (prev = 0 → ∀ b, 1 ≤ b → b < a → b ∈ shortsUsed s net ∨ b ∈ shortsQuarantined s net)

/-- R88, R250, R252: frames that meters send of themselves. LAST_GASP and ALARM are raised once for each meter, instant and code, and
a repeat is counted; a stateless-only meter's push is one exchange in one group, acknowledged when the ledger takes it, and one
whose authentication fails counts as a security failure.
Log entries met: 31, 99. -/
def Obligations.PushedFramesAreTakenOnce : Prop :=
  (∀ s s' f idx r tm cause, f.msg = .lastGasp tm cause → mayProcess s = true → takeRx f s = some s' →
    sourceOf s' f = some (idx, r) → exec (.lastGaspReceived f) s =
      .next (takePush idx r f tm 0x0106 (putLe 8 tm) s')) ∧
  (∀ s s' f idx r tm reg, f.msg = .alarm tm reg → mayProcess s = true → takeRx f s = some s' →
    sourceOf s' f = some (idx, r) → exec (.alarmReceived f) s = .next (takePush idx r f tm 0x0107 (putLe 4 reg) s')) ∧
  (∀ s s' f idx r tm reg, f.msg = .alarm tm reg → mayProcess s = true → takeRx f s = some s' →
    sourceOf s' f = some (idx, r) → pushSeen s' idx r tm 0x0107 = true → exec (.alarmReceived f) s =
      .next { s' with meters := { s'.meters with pushRepeats := inc64 s'.meters.pushRepeats } }) ∧
  (∀ s s' f idx r rsp b e, f.msg = .dlmsPush b → mayProcess s = true → takeRx f s = some s' →
    sourceOf s' f = some (idx, r) → (s'.led.work.classOf r.cls).map (·.stateless) = some true → inSalvage s' = false →
    r.net.invRx < rsp.invCtr → e = exchanged s' { mkSession s' idx (.collect 1 0) 0 0 none with firstAt := f.rxTime } r
      { rsp with rxTime := f.rxTime, feedback := none } → appendRefusal e.w.items s' = none →
    exec (.dlmsPushReceived f false rsp) s = .next (pushAck idx r f (noteClock idx
      { rsp with rxTime := f.rxTime, feedback := none } (f.net == .rf) (append e.w.items (some (recMh idx r)) s')))) ∧
  (∀ s s' f idx r rsp b, f.msg = .dlmsPush b → mayProcess s = true → takeRx f s = some s' →
    sourceOf s' f = some (idx, r) → (s'.led.work.classOf r.cls).map (·.stateless) = some true → inSalvage s' = false →
    exec (.dlmsPushReceived f true rsp) s = .next (securityFail idx true (some f.net) s'))

/-- R96 to R100, R351: an epoch closes and the next one opens at the same instant, with EPOCH_HIGH moved on in both copies first;
while two epochs are HELD a boundary passes. Pages of an epoch go to the store and are counted; a page that cannot be placed,
or a FULL store, makes a closed epoch HELD, with its result kept and EPOCH_UNCOMMITTED raised; HELD epochs go back to CLOSED
when the store accepts again; 4 ms after a warning an epoch still without the partner's digest roots uncompared.
R98, R100, R101: an epoch whose pages are down gets its digest over the previous epoch's, and roots in number order when no
partner compares; its root, written to the slot that does not hold the newest root and read back equal, commits it: it is the
last committed epoch, its content is readable and held for upload, and its root ends the root log. A root slot that does not
read back equal leaves it in ROOTING.
Log entries met: 14, 18. -/
def Obligations.EpochsCloseFlushAndCommit : Prop :=
  (∀ s e, isStandby s = false → openEpoch s = some e → boundaryDue s = true → heldCount s < 2 → ∃ t,
    exec .epochBoundary s = .next t ∧ t.led.highA = some (epochHigh s + 1) ∧ t.led.highB = some (epochHigh s + 1) ∧
      t.led.work = s.led.work ∧ t.led.epochs = modifyFirst (fun e => e.state == .opened) (fun e => { e with
        state := .closed
        closed := now s
        after := s.led.work
        closedTick := s.clk
        byWarning := false }) s.led.epochs ++
        [⟨epochHigh s + 1, now s, 0, .opened, [], 112, s.led.work, false, false, false, [], false, 0⟩]) ∧
  (∀ s, boundaryDue s = true → 2 ≤ heldCount s → ∃ t, exec .epochBoundary s = .next t ∧ t.led = s.led) ∧
  (∀ s n e pages, epochOf s n = some e → (e.state = .opened ∨ e.state = .closed ∧ heldCount s < 2) →
    s.led.work.events.length ≤ 2097152 * 95 / 100 * 128 → s.store.stage = .normal →
    exec (.epochFlushWrite n pages false) s = .next (countUnits pages s)) ∧
  (∀ s n e pages, epochOf s n = some e → e.state = .closed → heldCount s < 2 →
    s.led.work.events.length ≤ 2097152 * 95 / 100 * 128 → s.store.stage = .normal →
    exec (.epochFlushWrite n pages true) s = .next (holdEpoch e 0x0802 s)) ∧
  (∀ s n e pages failed, epochOf s n = some e → e.state = .closed → heldCount s < 2 →
    s.led.work.events.length ≤ 2097152 * 95 / 100 * 128 → s.store.stage = .full → ∃ t,
    exec (.epochFlushWrite n pages failed) s = .next t ∧ t = holdEpoch e 0x0501 s ∧
      (epochOf t n).map (·.state) = some .held ∧ t.led.heldResults = lastN 2 (s.led.heldResults ++ [(n, 0x0501)])) ∧
  (∀ s, ∃ t, exec .heldRetryTimer s = .next t ∧ t = { s with led := { s.led with
      epochs := t.led.epochs, heldResults := t.led.heldResults } } ∧
    (∀ e ∈ s.led.epochs, e.state = .held → pageRefusal e false s = none → ({ e with state := .closed } : Epoch) ∈ t.led.epochs) ∧
    (∀ e ∈ s.led.epochs, (∀ h ∈ s.led.epochs, h.num = e.num → h.state = .held → pageRefusal h false s ≠ none) →
      e ∈ t.led.epochs)) ∧
  (∀ s, s.keeper.supply.hold = true → s.keeper.supply.holdSince + msTicks 4 ≤ s.clk → ∃ u,
    u.led.epochs = s.led.epochs.map (fun e => if e.state = .comparing ∧ partnerDigest e.num s ≠ some e.digest then
      { e with uncompared := true } else e) ∧ u = { s with led := { s.led with epochs := u.led.epochs } } ∧
    exec .compareWaitExpiry s = .next (advance u)) ∧
  (∀ s, isStandby s = false → inService s = true → s.time.unset = false →
    s.balance.days.getD 1 0 ≠ s.led.work.utcDay (now s) → ∃ t, exec .dailyReclaim s = .next t ∧
      t.led.work = (s.led.work.reclaim (daysBefore (utcMidnight s) (itemVal s 0x0302))).prunePast (now s) ∧
      t.balance.days = s.balance.days.set 1 (s.led.work.utcDay (now s)) ∧ t.store = s.store) ∧
  (∀ s e rest p, s.led.epochs = e :: rest → e.state = .closed → e.flushed = false → e.uncompared = false →
    heldCount s < 2 → prevDigest e.num s = some p → comparing s = false → partnerDigest e.num s = none → ∃ t,
    exec (.epochFlushed e.num) s = .next t ∧ t.led.epochs = { e with
      flushed := true
      digest := epochDigest (segmentId s) e.num e.opened e.closed p e.groups
      state := .rooting } :: rest ∧ t.led.work = s.led.work ∧ t.store = s.store) ∧
  (∀ s e rest p, s.led.epochs = e :: rest → e.state = .closed → e.flushed = false → e.uncompared = false →
    heldCount s < 2 → prevDigest e.num s = some p → comparing s = true → partnerDigest e.num s = none → ∃ t,
    exec (.epochFlushed e.num) s = .next t ∧ t.led.epochs = { e with
      flushed := true
      digest := epochDigest (segmentId s) e.num e.opened e.closed p e.groups
      state := .comparing } :: rest) ∧
  (∀ s e rest, s.led.epochs = e :: rest → e.state = .rooting → s.led.lastCommitted ≠ e.num → s.twin.resync = none →
    s.twin.switchover = none → s.boot.passed8 = true → (∀ x ∈ rest, x.num ≠ e.num) → ∃ t,
    exec (.epochCommit e.num true) s = .next t ∧ t = commitEpoch e s ∧ t.led.lastCommitted = e.num ∧
      t.led.lastDigest = e.digest ∧ t.led.contents = lastN 4096 (s.led.contents ++ [⟨e.num, e.opened, e.closed, e.groups, e.digest⟩]) ∧
      (if nextSlot s.led = 0 then t.led.slot0 else t.led.slot1) = some (rootOf e s) ∧
      (if nextSlot s.led = 0 then t.led.slot1 = s.led.slot1 else t.led.slot0 = s.led.slot0) ∧
      (∀ x ∈ t.led.epochs, x.num ≠ e.num) ∧ t.keys = s.keys ∧ t.meters = s.meters ∧ t.store = s.store) ∧
  (∀ s n, exec (.epochCommit n false) s = .next (passCheck s.led.lastCommitted s))

/-- R101, R102: no happening of a flush, a comparison or a retry commits an epoch: the last committed epoch, both root slots, the root log
and what may be read stand until EPOCH_COMMIT. -/
def Obligations.OnlyACommitMovesTheRoots : Prop :=
  ∀ s t, (exec .epochBoundary s = .next t ∨ (∃ n k f, exec (.epochFlushWrite n k f) s = .next t) ∨
      exec .heldRetryTimer s = .next t ∨ exec .compareWaitExpiry s = .next t ∨ exec .dailyReclaim s = .next t) →
    t.led.lastCommitted = s.led.lastCommitted ∧ t.led.slot0 = s.led.slot0 ∧ t.led.slot1 = s.led.slot1 ∧
    t.led.rootLog = s.led.rootLog ∧ t.led.readable = s.led.readable ∧ t.led.contents = s.led.contents

/-- R125, R145 to R147, R150, R153 to R155, R165, R167: a boundary that is due on a serving active chip is evaluated at its exact
instant, with every earlier one before it; a rule table takes effect in a group of its own; at DUE_AT the disconnection
order of an exhausted account acts. `boundaryKey` orders by instant and then by Table TB.10.
Log entries met: 35, 36, 95. -/
def Obligations.BoundariesAreEvaluated : Prop :=
  (∀ s x, isActive s = true → inService s = true → s.led.work.tables.rules.dueBy (now s) = some x →
    exec .ruleTableEffective s = .next (append [.effective .rules x] none (newInput 6 s))) ∧
  (∀ s u x k, isActive s = true → inService s = true → s.time.unset = false → u = newInput 6 s →
    s.led.work.tables.tariff.dueBy (now s) = some x → k ∈ s.led.work.dueKeys (boundaryKey (now s) 4) → k % 8 = 4 →
    exec .tariffTableEffective s = .next (evalDue (boundaryKey (now s) 4) u)) ∧
  (∀ s u x k, isActive s = true → inService s = true → s.time.unset = false → u = newInput 6 s →
    s.led.work.tables.calendar.dueBy (now s) = some x → k ∈ s.led.work.dueKeys (boundaryKey (now s) 4) → k % 8 = 4 →
    exec .calendarEffective s = .next (evalDue (boundaryKey (now s) 4) u)) ∧
  (∀ s u k p n, isActive s = true → inService s = true → s.time.unset = false → u = newInput 6 s →
    p ∈ s.led.work.schedNo n → s.led.work.rateSwitches p (s.led.work.lastBoundary / 8) (now s) ≠ [] →
    k ∈ s.led.work.dueKeys (boundaryKey (now s) 4) → k % 8 = 4 →
    exec (.rateSwitch n) s = .next (evalDue (boundaryKey (now s) 4) u)) ∧
  (∀ s u k p n, isActive s = true → inService s = true → s.time.unset = false → u = newInput 6 s →
    p ∈ s.led.work.schedNo n → s.led.work.windowEnds p.2 (s.led.work.lastBoundary / 8) (now s) ≠ [] →
    k ∈ s.led.work.dueKeys (boundaryKey (now s) 1) → k % 8 = 1 →
    exec (.demandWindowClose n) s = .next (evalDue (boundaryKey (now s) 1) u)) ∧
  (∀ s u k, isActive s = true → inService s = true → s.time.unset = false → u = newInput 6 s →
    k ∈ s.led.work.dueKeys (boundaryKey (now s) 3) → k % 8 = 3 →
    exec .billingPeriodEnd s = .next (evalDue (boundaryKey (now s) 3) u)) ∧
  (∀ s u k, isActive s = true → inService s = true → s.time.unset = false → u = newInput 6 s →
    k ∈ s.led.work.dueKeys (boundaryKey (now s) 2) → k % 8 = 2 →
    exec .settlingClose s = .next (evalDue (boundaryKey (now s) 2) u)) ∧
  (∀ s u k, isActive s = true → inService s = true → s.time.unset = false → u = newInput 6 s →
    k ∈ s.led.work.dueKeys (boundaryKey (now s) 5) → k % 8 = 5 →
    exec .standingCharge s = .next (evalDue (boundaryKey (now s) 5) u)) ∧
  (∀ s u k, isActive s = true → inService s = true → s.time.unset = false → u = newInput 6 s →
    k ∈ s.led.work.dueKeys (boundaryKey (now s) 6) → k % 8 = 6 →
    exec .creditPolicyEvaluation s = .next (evalDue (boundaryKey (now s) 6) u)) ∧
  (∀ s idx r w, isStandby s = false → inService s = true → getRec s idx = some r → r.segment = 0 → r.orders.pending = 1 →
    r.orders.reason = 2 → r.orders.dueAt ≤ now s → r.place.relay = .disconnectPending → sessionOf s idx = none →
    w = workAt idx r (now s) (timerInput s) → w.l.outside 1024 w.t = some w.t → exec (.disconnectDue idx) s =
      .next (kickOrders idx (append ((w.onCredit fun c => { c with disconnectDue := true }).setRelay .disconnecting).items
        (some w.mh) (timerInput s))))

/-- R155: boundaries are evaluated one by one in the order of their instants and, at one instant, of Table TB.10: while chip time is
set, evaluating what is due up to a limit is evaluating the first boundary due and then what is due after it; with none due
nothing is done; and no boundary is evaluated while UNSET is set (R274). -/
def Obligations.BoundariesGoInOrder : Prop :=
  (∀ s limit key, s.time.unset = false → s.led.work.nextDue limit = some key →
    (evalAt key s).led.work.lastBoundary = key → (evalAt key s).time.unset = false →
    evalDue limit s = evalDue limit (evalAt key s)) ∧
  (∀ (s : State) limit key, s.led.work.nextDue limit = some key → s.led.work.lastBoundary < key ∧ key ≤ limit ∧
    ∀ k ∈ s.led.work.dueKeys limit, key ≤ k) ∧
  (∀ s limit, s.led.work.nextDue limit = none → evalDue limit s = s) ∧
  (∀ s limit, s.time.unset = true → evalDue limit s = s)

/-- R172, R181, R195, R202: balance rows on a serving active chip. An interval that has ended and has no result is evaluated at S + t + 1 s
in a group of its own, and once more when it becomes FINAL, after which boundary records no longer needed are released; an
evaluation the ledger refuses is not tried again; a group table takes effect at the first balance boundary, and every record's
group follows it; at 00:00 UTC every meter's PEAK moves on to the next day's entry.
Log entries met: 39 to 42, 108. -/
def Obligations.BalanceRowsEvaluate : Prop :=
  (∀ s u group start g, isActive s = true → inService s = true → s.time.unset = false →
    intervalOf s group start = some g → start + ltSec (g.sec + 1) ≤ now s → s.led.work.resultOf group start = none →
    (group, start) ∉ s.balance.tried → takesGroups s = true → u = newInput 6 s →
    exec (.balanceFirstEvaluation group start) s = .next (append (evalOn u s.led.work (decide (g.finalAt start ≤ now s))
      [(g, start)]).items none u)) ∧
  (∀ s group start g, isActive s = true → inService s = true → s.time.unset = false →
    intervalOf s group start = some g → start + ltSec (g.sec + 1) ≤ now s → s.led.work.resultOf group start = none →
    (group, start) ∉ s.balance.tried → 2 ≤ heldCount s → ∃ t, exec (.balanceFirstEvaluation group start) s = .next t ∧
      t.led = s.led ∧ t.balance.tried = s.balance.tried ++ [(g.ref.group, start)]) ∧
  (∀ s u group start g r, isActive s = true → inService s = true → s.time.unset = false →
    intervalOf s group start = some g → g.finalAt start ≤ now s → s.led.work.resultOf group start = some r → r.done = false →
    takesGroups s = true → u = newInput 6 s → exec (.balanceFinalEvaluation group start) s =
      .next (releaseBounds (append (evalOn u s.led.work true [(g, start)]).items none u))) ∧
  (∀ s p x u, isActive s = true → inService s = true → s.time.unset = false → s.led.work.tables.groups.pending = some p →
    x = balanceBoundary s.led.work p.1 → x ≤ now s → u = append [.effective .groups x] none (newInput 6 s) →
    exec .groupTableEffective s = .next ((u.led.work.recs.map (·.1)).foldl (groupMeter x) u)) ∧
  (∀ s, isActive s = true → inService s = true → s.time.unset = false → s.balance.days.getD 0 0 ≠ s.led.work.utcDay (now s) →
    takesGroups s = true → (openEpoch s).isSome = true → (s.led.work.recs.map (·.1)).Nodup → ∃ t,
    exec .peakDayClear s = .next t ∧ t.balance.days = s.balance.days.set 0 (s.led.work.utcDay (now s)) ∧
      (∀ idx r, (idx, r) ∈ s.led.work.recs → r.segment = 0 → ∃ r', getRec t idx = some r' ∧
        r'.bal.peakPos = (r.bal.peakPos + 1) % 7 ∧ r'.bal.peakDay = r.bal.peakDay.set ((r.bal.peakPos + 1) % 7) 0 ∧
        r'.net = r.net ∧ r'.place = r.place ∧ r'.clock = r.clock) ∧
      (∀ idx r, (idx, r) ∈ s.led.work.recs → r.segment ≠ 0 → getRec t idx = some r)) ∧
  (∀ s u, isActive s = true → inService s = true → s.time.unset = false →
    s.balance.days.getD 2 0 ≠ s.led.work.utcDay (now s) → u = newInput 6 { s with
      balance := { s.balance with days := s.balance.days.set 2 (s.led.work.utcDay (now s)) } } →
    exec .phaseCorrelation s = .next ((s.led.work.recs.filter fun e => e.2.segment == 0).foldl correlateMeter u)) ∧
  (∀ s u t, isActive s = true → inService s = true → s.time.unset = false →
    s.balance.days.getD 3 0 ≠ s.led.work.utcDay (now s) → s.led.work.tables.groups.now = some t → u = newInput 6 { s with
      balance := { s.balance with days := s.balance.days.set 3 (s.led.work.utcDay (now s)) } } →
    exec .branchInference s = .next ((s.led.work.recs.filter fun e => e.2.segment == 0).foldl (inferMeter t u) u))

/-- R178 to R180: what a result holds. LOSS is the reference energy less the members' energy and the technical loss, with its BAND, once the
status is PROVISIONAL or FINAL, and both are 0 before; ALERTING stands exactly where LOSS exceeds BAND by more than the
group's limit in such a status; the status is FINAL from its instant on where nothing stands against it. -/
def Obligations.BalanceResultsFollowTheirSums : Prop :=
  ∀ (l : LState) g start t r, r = l.balance g start t →
    (r.status = 4 ∨ r.status = 5 → r.loss = r.eRef - r.eMembers - r.lTech) ∧
    (r.status < 4 → r.loss = 0 ∧ r.band = 0 ∧ r.flags.alerting = false ∧ r.flags.surplus = false) ∧
    (r.flags.alerting = true ↔ 4 ≤ r.status ∧ g.lim.alertMwh < r.loss - r.band) ∧
    (r.flags.surplus = true ↔ 4 ≤ r.status ∧ r.loss + r.band < -g.lim.alertMwh) ∧
    (r.status = 5 → g.finalAt start ≤ t) ∧ (r.status = 4 → t < g.finalAt start) ∧ 1 ≤ r.status ∧ r.status ≤ 5 ∧
    r.members = (l.membersAt g.ref.group start).length ∧ r.group = g.ref.group ∧ r.start = start ∧ r.durationS = g.sec

/-- R184 to R187, R203, R238, R239: a snapshot from its forming to its end. The group's next periodic snapshot is formed from 30 s before
its instant, under the next SNAPSHOT_ID; its order is broadcast on both networks at AT − 20 s and AT − 10 s; at AT the chip's own
phasors are appended; at AT + 1 s fetching starts; a fetch without reply is sent a second time; a reply with STATUS 0 and an
uncertainty of 50 µs or less is latched and moves the meter's record; at AT + 60 s SNAPSHOT_DONE is raised and the drop tests run.
Log entries met: 110. -/
def Obligations.SnapshotsRun : Prop :=
  (∀ s group g x, isActive s = true → inService s = true → s.time.unset = false →
    s.led.work.groupAt group (now s) = some g → g.own s = true → g.ref.periodicSnap = true →
    x = s.led.work.slotOf g.snapSec (now s + ltSec g.snapSec - ltSec 450) + ltSec 450 → x ≤ now s + ltSec 30 →
    (s.balance.snapshots.any fun y => y.group == group && y.at_ == x) = false →
    exec (.periodicSnapshot group) s = .next (formSnapshot x group none (newInput 6 s))) ∧
  (∀ s id x u, isActive s = true → snapshotOf s id = some x → x.ordersSent < 2 → now s < x.at_ →
    x.at_ - ltSec (if x.ordersSent = 0 then 20 else 10) ≤ now s →
    u = onSnapshot id (fun x => { x with ordersSent := x.ordersSent + 1 }) (newInput 6 s) →
    exec (.snapshotOrderSend id) s = .next ([Net.plc, Net.rf].foldl
      (fun v n => broadcast n 3 (floodHops v n) (.snapshotOrder id x.at_) v) u)) ∧
  (∀ s id x ins, isActive s = true → snapshotOf s id = some x → x.at_ ≤ now s →
    (s.led.work.phasors.any fun p => p.snapshotId == id) = false → exec (.snapshotLatch id ins) s =
      .next (append [.phasors ⟨id, x.at_, (List.range 12).map fun k =>
        if s.d2d.up && inputUsed s k then (ins[k]?).join else none⟩] none (newInput 6 s))) ∧
  (∀ s id x ms, isActive s = true → snapshotOf s id = some x → x.at_ + ltSec 1 ≤ now s → x.selected = [] →
    ms = selectMeters s x.group → exec (.snapshotFetchStart id) s =
      .next (fillFetch id (onSnapshot id (fun x => { x with selected := ms, toFetch := ms }) (newInput 6 s)))) ∧
  (∀ s idx x net due, isActive s = true →
    (s.balance.snapshots.find? fun x => x.outstanding.any fun o => o.1 == idx && decide (o.2.2.2 ≤ s.clk)) = some x →
    (x.outstanding.find? fun o => o.1 == idx) = some (idx, net, 1, due) → now s ≤ x.at_ + ltSec 55 →
    exec (.snapshotFetchTimeout idx) s = .next (sendFetch x.id idx net 2 (newInput 6 s))) ∧
  (∀ s idx x net due, isActive s = true →
    (s.balance.snapshots.find? fun x => x.outstanding.any fun o => o.1 == idx && decide (o.2.2.2 ≤ s.clk)) = some x →
    (x.outstanding.find? fun o => o.1 == idx) = some (idx, net, 2, due) → exec (.snapshotFetchTimeout idx) s =
      .next (fillFetch x.id (onSnapshot x.id (fun x => { x with
        outstanding := x.outstanding.filter fun o => o.1 != idx }) (newInput 6 s)))) ∧
  (∀ s s' f id unc ps idx r x u, f.msg = .snapshotReply id 0 unc ps → unc ≤ 50 → mayProcess s = true →
    takeRx f s = some s' → sourceOf s' f = some (idx, r) → snapshotOf s' id = some x → inSalvage s' = false →
    (x.selected.any fun m => m.1 == idx) = true → idx ∉ x.latched → now s' < x.at_ + ltSec 60 →
    u = onSnapshot id (fun x => { x with
      outstanding := x.outstanding.filter fun o => o.1 != idx
      latched := x.latched ++ [idx] }) s' →
    exec (.snapshotReplyReceived f) s = .next (fillFetch id (placeMeter idx (Rec.snapped u.led.work id x.at_ ps) { u with
      balance := { u.balance with snapVolts := insertNat idx (((lookupNat idx u.balance.snapVolts).getD []) ++
        [(id, ((ps.filterMap fun p => p).head?.map (·.vMv)).getD 0)]) u.balance.snapVolts } }))) ∧
  (∀ s s' f id st unc ps idx r x, f.msg = .snapshotReply id st unc ps → (st ≠ 0 ∨ 50 < unc) → mayProcess s = true →
    takeRx f s = some s' → sourceOf s' f = some (idx, r) → snapshotOf s' id = some x → inSalvage s' = false →
    (x.selected.any fun m => m.1 == idx) = true → idx ∉ x.latched → now s' < x.at_ + ltSec 60 →
    exec (.snapshotReplyReceived f) s = .next (fillFetch id (onSnapshot id (fun x => { x with
      outstanding := x.outstanding.filter fun o => o.1 != idx }) s'))) ∧
  (∀ s id x u, isActive s = true → snapshotOf s id = some x → x.at_ + ltSec 60 ≤ now s → x.cmd = none →
    u = dropTests id (onSnapshots (fun l => l.filter fun y => y.id != id) (newInput 6 s)) → exec (.snapshotDone id) s =
      .next (append [.event (mkEv (newInput 6 s) 0x0504 (putLe 4 id ++ putLe 4 x.latched.length) none)] none u)) ∧
  (∀ s id x u f, isActive s = true → snapshotOf s id = some x → x.at_ + ltSec 60 ≤ now s →
    x.cmd.bind (inflightOf s) = some f →
    u = dropTests id (onSnapshots (fun l => l.filter fun y => y.id != id) (newInput 6 s)) → ∃ ev data,
    data = putLe 4 id ++ putLe 4 x.latched.length ∧ ev = mkEv (newInput 6 s) 0x0504 data none ∧
    exec (.snapshotDone id) s = .next (finish f (.change [.event ev] (auditParam f.cmd none) 0 data [] 0 u) u))

/-- R15, R197, R201, R205, R206, R211, R356: metrology and the die-to-die link. A frame of the serving active goes into the stream; a
standby's feeds only its comparison; an accepted edge moves the field die's counter of its input; at a whole minute the record
of the minute is appended; a calibration table takes effect at a whole minute; a loss of the link freezes the pulse counts, fails
the relays' commands and raises D2D_LINK_LOST; a retraining within 100 ms restores service.
Log entries met: 37, 115. -/
def Obligations.MetrologyRuns : Prop :=
  (∀ s m, isActive s = true → inService s = true → s.d2d.up = true →
    exec (.metrologyFrameReceived m) s = .next (takeMetFrame (m.own s) (newInput 2 s))) ∧
  (∀ s m, isStandby s = true → inService s = true → s.d2d.up = true → ∃ t,
    exec (.metrologyFrameReceived m) s = .next t ∧ t = { s with twin := { s.twin with minuteEnergy := t.twin.minuteEnergy } }) ∧
  (∀ s n e, s.keeper.supply.fieldReset = false → pulseEntry s n = some e → e.enabled = true → exec (.s0Pulse n) s =
    .next { s with met := { s.met with fieldCounts := s.met.fieldCounts.modify n (· + 1) } }) ∧
  (∀ s n, (s.keeper.supply.fieldReset = true ∨ (pulseEntry s n).map (·.enabled) ≠ some true) →
    exec (.s0Pulse n) s = .next s) ∧
  (∀ s x m start r u, isActive s = true → inService s = true → start = s.led.work.slotOf 60 (now s) →
    s.met.minuteStart ≠ 0 → start ≠ s.met.minuteStart → m = { x with calVersion := s.led.work.tables.cal.nowVersion } →
    r = s.met.minute m → u = onMet (Metrology.nextMinute start s.d2d.up) (append [.minute r] none (newInput 6 { s with
      counters := { s.counters with feederMissing := s.counters.feederMissing + r.missing } })) →
    exec (.feederMinuteRecord x) s = .next (compareMinute r u)) ∧
  (∀ s p x, isActive s = true → inService s = true → s.led.work.tables.cal.pending = some p →
    x = s.led.work.slotOf 60 (now s) → p.1 < x → exec .calibrationEffective s =
      .next ([0, 1].foldl (calRelayAt ([0, 1].map fun n => (relayFitted s n).isSome)) (append [.effective .cal x] none s))) ∧
  (∀ s u, s.d2d.up = true → u = { s with
      d2d := { s.d2d with up := false, lostAt := s.clk, retraining := true }
      counters := { s.counters with d2dLosses := s.counters.d2dLosses + 1 }
      met := { s.met with frozen := true, frozenInMinute := true, outage := true } } →
    exec .d2dLinkLost s = .next (raiseHw 0x0A01 [] (failCoils u))) ∧
  (∀ s, s.d2d.up = false → s.d2d.retraining = true → s.keeper.supply.fieldReset = false → s.clk ≤ s.d2d.lostAt + msTicks 100 →
    exec .d2dRetrainDone s = .next (kickCoil (raiseHw 0x0A02 (putLe 2 (min 0xFFFF ((s.clk - s.d2d.lostAt) / 250000)))
      { s with d2d := { s.d2d with up := true, retraining := false } }))) ∧
  (∀ s, s.d2d.up = false → s.d2d.retraining = true → s.d2d.lostAt + msTicks 100 ≤ s.clk →
    exec .d2dRetrainFail s = .next (showCode 0x5002 { s with d2d := { s.d2d with retraining := false } }))

/-- R207 to R209, R485, Table MT.6: an own relay's sequence. 5 ms into the pulse the coil must carry 50 mA, and never more than
400 mA; the pulse lasts PULSE_MS; the contact is judged 20 ms later: in place the sequence ends with the relay item, its event
and the audit record; not in place after the first pulse, a second one follows after the gap; after it, or when the contact
stays unstable for 100 ms, the sequence faults. A contact that changes with no command running is judged against the item.
Log entries met: 49, 116. -/
def Obligations.OwnRelaySequenceRuns : Prop :=
  (∀ s n ma q, runningSeq s n .pulsing = some q → q.since + msTicks 5 ≤ s.clk → ma < 50 → exec (.ownRelayCurrentCheck n ma) s =
    .next (relayFaults q 1 (contactCode s n) (max q.peakMa ma) (coilOff n s))) ∧
  (∀ s n ma q, runningSeq s n .pulsing = some q → q.since + msTicks 5 ≤ s.clk → 50 ≤ ma → exec (.ownRelayCurrentCheck n ma) s =
    .next { s with met := { s.met with relays := { q with peakMa := max q.peakMa ma } :: s.met.relays.tail } }) ∧
  (∀ s n ma q, runningSeq s n .pulsing = some q → 400 < ma → exec (.coilOvercurrent n ma) s =
    .next (relayFaults q 2 (contactCode s n) (max q.peakMa ma) (coilOff n s))) ∧
  (∀ s n ma q e, runningSeq s n .pulsing = some q → relayFitted s n = some e → q.since + msTicks e.pulseMs ≤ s.clk →
    exec (.ownRelayPulseEnd n ma) s = .next { s with
      out := s.out ++ [.coil n none]
      met := { s.met with
        lastPulseEnd := s.met.lastPulseEnd.set n (max 1 s.clk)
        relays := { q with phase := .settling, since := s.clk, peakMa := max q.peakMa ma } :: s.met.relays.tail } }) ∧
  (∀ s n q u, runningSeq s n .settling = some q → q.since + msTicks 20 ≤ s.clk → u = setAux n q.target s →
    exec (.ownRelayAuxCheck n q.target) s =
      .next (kickCoil (relayEnds q (nextItem u n (bit q.target) (bit q.target) 0 q.peakMa) u))) ∧
  (∀ s n q u, runningSeq s n .settling = some q → q.since + msTicks 20 ≤ s.clk → q.pulse = 1 → u = setAux n (!q.target) s → ∃ t,
    exec (.ownRelayAuxCheck n (!q.target)) s = .next t ∧
      t = { u with met := { u.met with relays := { q with phase := .gap, since := s.clk } :: s.met.relays.tail } }) ∧
  (∀ s n q u, runningSeq s n .settling = some q → q.since + msTicks 20 ≤ s.clk → q.pulse ≠ 1 → u = setAux n (!q.target) s →
    exec (.ownRelayAuxCheck n (!q.target)) s = .next (relayFaults q 3 (bit (!q.target)) q.peakMa u)) ∧
  (∀ s n q, runningSeq s n .gap = some q → gapPassed s n = true → coilHeld s = false → exec (.ownRelayRepulse n) s =
    .next { s with
      out := s.out ++ [.coil q.relay (some q.target)]
      met := { s.met with
        relays := { q with phase := .pulsing, since := s.clk, pulse := q.pulse + 1 } :: s.met.relays.tail } }) ∧
  (∀ s n q, runningSeq s n .settling = some q → q.since + msTicks 100 ≤ s.clk → exec (.auxUnstableTimeout n) s =
    .next (relayFaults q 4 2 q.peakMa s)) ∧
  (∀ s n closed, n ≤ 1 → (s.met.relays.any fun q => q.relay == n && q.phase != .waiting) = false → inService s = true →
    isActive s = true → s.d2d.up = true → exec (.auxContactChange n closed) s = .next (judgeContact n (setAux n closed s))) ∧
  (∀ s n q rest, s.met.relays = q :: rest → q.relay = n → q.phase = .waiting → coilHeld s = false → gapPassed s n = true →
    contactShows s n q.target = false → exec (.relayPulseGap n) s = .next { s with
      out := s.out ++ [.coil n (some q.target)]
      met := { s.met with relays := { q with phase := .pulsing, since := s.clk, pulse := q.pulse + 1 } :: rest } })

/-- R28, R208, R209: no coil is energised while a warning stands, the keeper holds the relays, the link is down, or the chip is not
active: whatever of a relay's rows happens then, every coil output added is an end of a pulse. -/
def Obligations.HeldRelaysStayStill : Prop :=
  ∀ s t n closed, coilHeld s = true → (s.keeper.supply.hold = true ∨ s.keeper.supply.relayHold = true) →
    (exec (.relayPulseGap n) s = .next t ∨ exec (.ownRelayRepulse n) s = .next t ∨
      exec (.ownRelayAuxCheck n closed) s = .next t ∨ exec (.auxUnstableTimeout n) s = .next t) →
    ∀ k st, Output.coil k (some st) ∈ t.out → Output.coil k (some st) ∈ s.out

/-- R18, R217 to R219, R224, R228, R230, R231: Zither's frames. A frame whose FCS fails is counted and nothing else; one in order that
passes the check of R18 is accepted into its queue; the next frame of the queues goes out with any tone map request it carries;
a frame not acknowledged is sent at most five times in all and then given up; after 60 s without a limited frame the current
limit is restored by one step.
Log entries met: 64, 65, 96. -/
def Obligations.ZitherFramesMove : Prop :=
  (∀ s f, f.net = .plc → netRuns s .plc = true → f.fcsOk = false →
    exec (.zitherFrameReceived f) s = .next (onMac .plc (fun c => { c with rxFcs := inc64 c.rxFcs }) s)) ∧
  (∀ s f u, f.net = .plc → netRuns s .plc = true → f.fcsOk = true → formGood f = true → f.orig ≠ .short 0 →
    u = (receiveMac f s).1 → checkFrame u f = .pass → isStandby u = false → f.msg.typ ≠ 0x24 →
    exec (.zitherFrameReceived f) s = .next (acceptFrame f u)) ∧
  (∀ s f u, f.net = .plc → netRuns s .plc = true → f.fcsOk = true → formGood f = true → f.orig ≠ .short 0 →
    u = (receiveMac f s).1 → checkFrame u f = .badMic → exec (.zitherFrameReceived f) s = .next (failFrame f true u)) ∧
  (∀ s u f v, mayTransmit s .plc = true → u = dropLost .plc (airDone .plc s) → nextFrame u .plc = some f →
    sendFirst f u = some v → exec (.zitherTransmit false) s =
      .next (carryRequest f (firstHop (routedFrame f v)) (dequeue f v))) ∧
  (∀ s u f v, mayTransmit s .plc = true → u = dropLost .plc (airDone .plc s) → nextFrame u .plc = some f →
    sendFirst f u = some v → exec (.zitherTransmit true) s = .next (frameLimited (firstHop (routedFrame f v))
      (carryRequest f (firstHop (routedFrame f v)) (dequeue f v)))) ∧
  (∀ s hop o, mayTransmit s .plc = true → onAirTo s .plc hop = some o →
    exec (.zitherAckTimeout hop) s = .next (if o.sends < 5 then resend o s else giveUp o s)) ∧
  (∀ s hop, mayTransmit s .plc = false → exec (.zitherAckTimeout hop) s = .next s) ∧
  (∀ s, s.zither.attenExtra ≠ 0 → s.zither.lastLimited + secTicks 60 ≤ s.clk → exec .currentLimitRestore s = .next { s with
    zither := { s.zither with attenExtra := s.zither.attenExtra - 1, lastLimited := s.clk } })

/-- R225, R227, R228: tone maps and neighbours. A request is answered with the map of R227 for one of the receiver's two ladders (which
one is free, log entry 66); a response makes a requested map VALID and routes are computed again; a request without response
is repeated after 5 s, and after the third the map is NONE for 60 s; a VALID map is asked for again at its refresh time; a
request that no frame carried goes out with a LINK_PROBE; a neighbour unheard for 3,600 s leaves the table.
Log entries met: 66. -/
def Obligations.ToneMapsAreKept : Prop :=
  (∀ s short snr, netRuns s .plc = true → mayTransmit s .plc = true → ∃ ladder, (ladder = [6, 5, 4, 0] ∨ ladder = [3, 2, 1, 0]) ∧
    exec (.toneMapRequestReceived short snr) s = .next (emit (.toneMapResponse short (buildMap ladder (itemVal s 0x0A02) snr).1
      (buildMap ladder (itemVal s 0x0A02) snr).2) (draw s))) ∧
  (∀ s short mod map cap lqi atten n u, netRuns s .plc = true → neighbourOf s .plc short = some n → n.state = .requested →
    u = onNeighbour .plc short (fun n => { n with
      state := .valid
      mod := mod
      toneMap := map &&& itemVal s 0x0A02
      cap := cap
      lqi := lqi
      lqiRef := lqi
      attenDb := atten
      tmAt := now s
      requests := 0
      probeDue := none
      moreRobust := false
      lastHeard := s.clk }) s →
    exec (.toneMapResponseReceived short mod map cap lqi atten) s =
      .next (recompute .plc (onModem .plc (Modem.mend 0 short) u))) ∧
  (∀ s short n, neighbourOf s .plc short = some n → n.state = .requested → n.probeDue = none →
    n.requestAt + secTicks 5 ≤ s.clk → n.requests < 3 →
    exec (.toneMapRequestTimeout short) s = .next (onNeighbour .plc short (Neighbour.ask s.clk) s)) ∧
  (∀ s short n, neighbourOf s .plc short = some n → n.state = .requested → n.probeDue = none →
    n.requestAt + secTicks 5 ≤ s.clk → 3 ≤ n.requests →
    exec (.toneMapRequestTimeout short) s = .next (recompute .plc (onNeighbour .plc short (fun n => { n with
      state := .none
      mod := 0
      toneMap := 0
      cap := 0
      requests := 0
      moreRobust := false
      holdoffUntil := s.clk + secTicks 60 }) s))) ∧
  (∀ s short n, neighbourOf s .plc short = some n → n.state = .none → n.holdoffUntil ≠ 0 → n.holdoffUntil ≤ s.clk →
    exec (.toneMapHoldoffExpiry short) s =
      .next (onNeighbour .plc short (fun n => { n.ask s.clk with holdoffUntil := 0 }) s)) ∧
  (∀ s short n, neighbourOf s .plc short = some n → n.state = .valid → n.tmAt + itemVal s 0x0A04 * 65536 ≤ now s →
    exec (.toneMapRefresh short) s = .next (onNeighbour .plc short (fun n => { n.ask s.clk with requests := 0 }) s)) ∧
  (∀ s short n d, isStandby s = false → mayTransmit s .plc = true → inService s = true → neighbourOf s .plc short = some n →
    n.probeDue = some d → d ≤ s.clk → exec (.linkProbe short) s = .next (probe short (timerInput s))) ∧
  (∀ s net short n, isStandby s = false → neighbourOf s net short = some n → n.lastHeard + secTicks 3600 ≤ s.clk →
    exec (.neighbourExpiry net short) s = .next (onModem net (fun m => { m with
      neighbours := m.neighbours.filter fun n => n.short != short }) (timerInput s)))

/-- R232 to R235, R253: routes of both networks. A report replaces its reporter's links and routes are computed again; ROUTE_SET goes to
a meter whose route changed; a ROUTE_ERROR fails the link it names; a route still in repair after 30 s takes a usable path or
becomes UNREACHABLE, when its meter's request ends with 0x0603; a failed link is usable again after 600 s.
Log entries met: 97. -/
def Obligations.RoutesFollowTheLinks : Prop :=
  (∀ s s' f ls a idx r, f.msg = .routeReport ls → f.orig = .short a → mayProcess s = true → takeRx f s = some s' →
    sourceOf s' f = some (idx, r) → exec (.routeReportReceived f) s =
      .next (recompute f.net (onModem f.net (Modem.report a (ls.take 16)) s'))) ∧
  (∀ s s' f a next dst seq idx r, f.msg = .routeError next dst seq → f.orig = .short a → mayProcess s = true →
    takeRx f s = some s' → sourceOf s' f = some (idx, r) →
    exec (.routeErrorReceived f) s = .next (failEdge f.net a next s')) ∧
  (∀ s net short, isStandby s = false → inService s = true → routeSetDue s net (routeTo s net short) = true →
    exec (.routeSet net short) s = .next (sendRouteSet net (routeTo s net short) (timerInput s))) ∧
  (∀ s net short r h, isActive s = true → inService s = true → r = routeTo s net short → r.state = .repairing →
    r.repairDue ≤ s.clk → bestRoute (pathsNow (newInput 6 s) net) r.short = some h →
    exec (.routeRepairTimeout net short) s = .next (putRoute net (r.to h true) (newInput 6 s))) ∧
  (∀ s net short r, isActive s = true → inService s = true → r = routeTo s net short → r.state = .repairing →
    r.repairDue ≤ s.clk → bestRoute (pathsNow (newInput 6 s) net) r.short = none →
    exec (.routeRepairTimeout net short) s =
      .next (failUnreachable net r.short (putRoute net { r with state := .unreachable } (newInput 6 s)))) ∧
  (∀ s net src dst, isStandby s = false →
    ((modemOf s net).links.any fun k => k.src == src && k.dst == dst && k.failedUntil != 0 && decide (k.failedUntil ≤ s.clk)) =
      true → ∃ t, exec (.linkFailExpiry net src dst) s = .next t ∧
      (∀ k ∈ (modemOf t net).links, k.src = src → k.dst = dst → k.failedUntil = 0 ∨ s.clk < k.failedUntil) ∧
      (∀ k ∈ (modemOf s net).links, (k.src ≠ src ∨ k.dst ≠ dst) → k ∈ (modemOf t net).links) ∧
      t.led = s.led ∧ t.meters = s.meters)

/-- R244 to R246, R249: Lyre's frames under the duty budget. A frame that floods and was seen before is counted and dropped; one that
passes enters the seen cache for 60 s; a frame goes out and spends its airtime, or is held where the budget does not admit it; a
held one goes when it does; a frame not acknowledged is sent at most four times; the beacon goes every BEACON_S.
Log entries met: 16, 67. -/
def Obligations.LyreFramesMove : Prop :=
  (∀ s f, f.net = .rf → netRuns s .rf = true → trainOnAir s = false → f.fcsOk = false →
    exec (.lyreFrameReceived f) s = .next (onMac .rf (fun c => { c with rxFcs := inc64 c.rxFcs }) s)) ∧
  (∀ s f u, f.net = .rf → netRuns s .rf = true → trainOnAir s = false → f.fcsOk = true → formGood f = true →
    f.unicast = false → f.orig ≠ .short 0 → u = (receiveMac f s).1 → f.floods = true → seenBefore u f = true →
    exec (.lyreFrameReceived f) s = .next (onMac .rf (fun c => { c with rxFloodCopy := inc64 c.rxFloodCopy }) u)) ∧
  (∀ s f u, f.net = .rf → netRuns s .rf = true → trainOnAir s = false → f.fcsOk = true → formGood f = true →
    f.unicast = false → f.orig ≠ .short 0 → u = (receiveMac f s).1 → seenBefore u f = false → checkFrame u f = .pass →
    isStandby u = false → f.msg.typ ≠ 0x24 →
    exec (.lyreFrameReceived f) s = .next (enterSeen f (acceptFrame f u))) ∧
  (∀ s u f air v, mayTransmit s .rf = true → trainOnAir s = false → u = dropLost .rf (airDone .rf s) →
    nextFrame u .rf = some f → dutyAdmits u air = true → sendFirst f u = some v →
    exec (.lyreTransmit air) s = .next (dequeue f (dutySpend air v))) ∧
  (∀ s u f air, mayTransmit s .rf = true → trainOnAir s = false → u = dropLost .rf (airDone .rf s) →
    nextFrame u .rf = some f → dutyAdmits u air = false → exec (.lyreTransmit air) s =
      .next (onMac .rf (fun c => { c with txHeld := inc64 c.txHeld }) (onLyre (fun l => { l with
        duty := { l.duty with held := l.duty.held ++ [(f, air)] } }) (dequeue f u)))) ∧
  (∀ s hop air o, mayTransmit s .rf = true → trainOnAir s = false → onAirTo s .rf hop = some o → o.sends < 4 →
    exec (.lyreAckTimeout hop air) s = .next (if dutyAdmits s air then dutySpend air (resend o s) else s)) ∧
  (∀ s hop air o, mayTransmit s .rf = true → trainOnAir s = false → onAirTo s .rf hop = some o → 4 ≤ o.sends →
    exec (.lyreAckTimeout hop air) s = .next (giveUp o s)) ∧
  (∀ s h v, mayTransmit s .rf = true → trainOnAir s = false → (s.lyre.duty.held.find? fun h => dutyAdmits s h.2) = some h →
    sendFirst h.1 s = some v → exec .dutyBudgetRelease s =
      .next (onLyre (fun l => { l with duty := { l.duty with held := l.duty.held.erase h } }) (dutySpend h.2 v))) ∧
  (∀ s air, air = lyreAirtime s beaconOctets → netRuns s .rf = true → mayTransmit s .rf = true → trainOnAir s = false →
    s.lyre.beaconDue ≤ s.clk → dutyAdmits s air = true → exec .lyreBeaconTimer s =
      .next (onLyre (fun l => { l with beaconDue := s.clk + secTicks (itemVal s 0x0B0E) }) (dutySpend air
        (emit (.rfBeacon (itemVal s 0x0B06) (leInt (itemNow s 0x0B04) 0 1) (itemVal s 0x0B07) (bkeyIndex s)) s)))) ∧
  (∀ s orig ctr, exec (.seenCacheExpiry orig ctr) s = .next { s with lyre := { s.lyre with
    seen := s.lyre.seen.filter fun e => !(e.orig == orig && e.ctr == ctr && decide (e.until_ ≤ s.clk)) } })

/-- R247, R255 to R259: meters that sleep. A check-in gives a clock offset and opens a reply window; the 64 latest distinct senders of
installation beacons are kept; a session that waits for its meter orders the meter's parent to send the wake train, or the chip
sends its own at START; a WAKE_ACK gives an offset, sets the ladder back and lets the session go on; a train without answer
moves the ladder up one step, and two at full coverage lose the rendezvous.
Log entries met: 68, 145. -/
def Obligations.SleepersAreMet : Prop :=
  (∀ s s' f tm b idx r, f.msg = .checkIn tm b → mayProcess s = true → takeRx f s = some s' → sourceOf s' f = some (idx, r) →
    exec (.checkInReceived f) s = .next (replyWindow idx r (noteFine idx true true
      (patchMeter idx (sampleFrame idx tm f s') [] s')))) ∧
  (∀ s s' f caps rssi measured idx r, f.msg = .installBeacon caps rssi → mayProcess s = true → takeRx f s = some s' →
    sourceOf s' f = some (idx, r) → r.sleepy = false → ∃ t e, exec (.installBeaconReceived f measured) s = .next t ∧
      t.lyre.install = lastN 64 ((s'.lyre.install.filter fun i => i.eui != r.identity.take 8) ++ [e]) ∧
      e.eui = r.identity.take 8 ∧ t = { s' with lyre := { s'.lyre with install := t.lyre.install } }) ∧
  (∀ s idx x r p parent t, isStandby s = false → awaiting s idx = some (x, r, p) → parentOf s r = some parent →
    planTrain s idx r p (now s + ltSec 2) = some t → overlaps s x (some parent) t = false → ∃ u,
    u = trainBegins idx t (some t.start) (timerInput s) ∧ exec (.rendezvousOrderSend idx) s =
      .next (sendShort .rf parent (ownPriority (.rendezvousOrder r.net.short t.start t.halfMs p.listenMs))
        (.rendezvousOrder r.net.short t.start t.halfMs p.listenMs) u)) ∧
  (∀ s idx x r p t, isActive s = true → awaiting s idx = some (x, r, p) → parentOf s r = none →
    planTrain s idx r p (now s - ltMs 1) = some t → t.start ≤ now s → overlaps s x none t = false →
    dutyAdmits s (ltTicks (t.ends - t.start)) = true → mayTransmit s .rf = true → exec (.rendezvousTrainStart idx) s =
      .next (dutySpend (ltTicks (t.ends - t.start)) (emit (.wakeTrain idx t.halfMs p.listenMs)
        (trainBegins idx t none (newInput 6 s))))) ∧
  (∀ s idx x r p t, isActive s = true → awaiting s idx = some (x, r, p) → parentOf s r = none →
    planTrain s idx r p (now s - ltMs 1) = some t → t.start ≤ now s →
    (overlaps s x none t = true ∨ dutyAdmits s (ltTicks (t.ends - t.start)) = false) →
    exec (.rendezvousTrainStart idx) s = .next (nextInstant idx t (newInput 6 s))) ∧
  (∀ s s' f tm idx r u v, f.msg = .wakeAck tm → mayProcess s = true → takeRx f s = some s' →
    sourceOf s' f = some (idx, r) → u = noteFine idx true false (patchMeter idx (sampleFrame idx tm f s') [] s') →
    v = onRendezvous idx (fun v => { trainOver v with step := 0, fullFails := 0, lost := false }) u →
    exec (.wakeAckReceived f) s = .next (meterAwake idx (((profileOf v r.cls).map (·.awakeMs)).getD 0) v)) ∧
  (∀ s idx r a p, isActive s = true → (rendezvousOf s idx).trainStart = some a → (rendezvousOf s idx).orderDue = none →
    getRec s idx = some r → profileOf s r.cls = some p → (rendezvousOf s idx).trainEnd + msTicks 50 ≤ s.clk → ∃ t,
    exec (.rendezvousTrainFailed idx) s = .next t ∧ (rendezvousOf t idx).step = (rendezvousOf s idx).step + 1 ∧
      (rendezvousOf t idx).trainStart = none ∧ (rendezvousOf t idx).fullFails = (rendezvousOf s idx).fullFails +
        (if p.wakePeriodS * 500 ≤ (rendezvousOf s idx).halfMs then 1 else 0) ∧
      (rendezvousOf t idx).lost = decide (2 ≤ (rendezvousOf t idx).fullFails) ∧ t.led = s.led)

/-- R256 to R258: the step of the ladder that a train uses is the least whose half-width covers the uncertainty, or a higher one already
reached; half the wake period bounds it; and the half-width a train uses covers the uncertainty or is that bound. -/
def Obligations.TrainsCoverTheUncertainty : Prop :=
  ∀ v (p : SleepProfile) c q m t, t = trainFor v p c q m → 0 < p.guardMs → uncertainty q c (predict c m) ≤ 2 ^ 31 →
    v.step ≤ t.step ∧ t.halfMs ≤ p.wakePeriodS * 500 ∧
    (uncertainty q c (predict c m) ≤ t.halfMs ∨ t.halfMs = p.wakePeriodS * 500) ∧
    t.start = predict c m - ltMs t.halfMs ∧ t.ends = predict c m + ltMs (t.halfMs + p.listenMs) ∧
    (v.step < t.step → p.guardMs * 2 ^ (t.step - 1) < uncertainty q c (predict c m))

/-- R263 to R265, R267, R274, R299: the timebase's registers and what moves by the clock. A write of RATE takes T(C) into T0 and C into C0
first; a step adds to T0; a read of the count or of the nanoseconds latches its upper part; the 1PPS capture's VALID is cleared
by its read; the RTC takes chip time; a leap second moves TAI_UTC by one, enters LEAP_HISTORY and clears LEAP; the previous
broadcast key goes seven days after the change.
R268, R271, R275, R277, R279: PTP and 1PPS. A measured offset of the grandmaster's port goes to the servo; the announce timeout is
the loss of the source; HOLDOVER ends in FREE_RUN after HOLDOVER_S; an edge beyond 200 ms of a whole second is discarded and
counted; 1.5 s without an edge is the loss of 1PPS; TS_PPS_OUT follows its second; Delay_Req goes out of the PTP port; the
transparent clock forwards with its correction.
R283, R284: a beacon that is due goes on air with a new counter; on a busy channel, or where Lyre's budget does not allow it, it
waits; one not on air within its span is dropped.
Log entries met: 52, 86 to 88. -/
def Obligations.TimeIsKeptAndSent : Prop :=
  (∀ s v, mainRuns s = true → exec (.tsRateWrite v) s = .next { s with tb := { s.tb with
    t0 := chipT s.tb
    c0 := s.tb.c
    rate := (BitVec.ofNat 32 v).toInt } }) ∧
  (∀ s, mainRuns s = true → exec .tsStep s = .next { s with tb := { s.tb with t0 := s.tb.t0 + s.tb.stepUnits } }) ∧
  (∀ s, mainRuns s = true → exec .tsCountLoRead s = .next { s with
    out := s.out ++ [.read (s.tb.c % 2 ^ 32)]
    tb := { s.tb with countHi := s.tb.c / 2 ^ 32 % 2 ^ 32 } }) ∧
  (∀ s, mainRuns s = true → exec .tsNowNsRead s = .next { s with
    out := s.out ++ [.read (chipSubNs s.tb)]
    tb := { s.tb with secLatch := chipSec s.tb } }) ∧
  (∀ s, mainRuns s = true → exec .tsPpsInRead s = .next { s with
    out := s.out ++ [.read ((if s.tb.ppsValid then 2 ^ 31 else 0) + s.tb.ppsNs)]
    tb := { s.tb with ppsValid := false } }) ∧
  (∀ s, mainRuns s = true → s.keeper.supply.kprOn = true → exec .rtcTrim s = .next { s with
    keeper := { s.keeper with rtc := now s / 2 * 2, rtcValid := !s.time.unset } }) ∧
  (∀ s d l, isActive s = true → inService s = true → leapDue s = some d → l = s.led.work → exec .leapSecond s =
    .next (crossed (append (.config 0x0C02 (nextVersion (l.itemVersion 0x0C02)) (putInt 2 (l.taiUtc + d)) ::
      .config 0x0C03 (nextVersion (l.itemVersion 0x0C03)) [0] :: offsetItems l (now s / 65536 * 65536) (l.taiUtc + d)) none
      (onTime (fun t => { t with leapAtDayEnd := false }) (newInput 6 s))))) ∧
  (∀ s d, isActive s = true → s.keys.bkeyChangedAt = some d → (d + secTicks 604800 ≤ s.clk ∨ rejoinLeft s = 0) → ∃ t,
    exec .prevBkeyExpiry s = .next t ∧ t.keys = { s.keys with bkeyChangedAt := none, rejoined := [] } ∧ t.led = s.led) ∧
  (∀ s d, s.keys.bkeyChangedAt = some d → s.clk < d + secTicks 604800 → rejoinLeft s ≠ 0 →
    exec .prevBkeyExpiry s = .next s) ∧
  (∀ s port domain transport ns, ptpTakes s port domain transport = true → s.time.grandmaster.isSome = true →
    port = s.time.gmPort → s.time.source = .ptp →
    exec (.ptpMessageReceived (.offset port domain transport ns)) s = .next (measure ns s)) ∧
  (∀ s port domain transport gm better ms utcValid offset l61 l59, ptpTakes s port domain transport = true →
    exec (.ptpMessageReceived (.announce port domain transport gm better ms utcValid offset l61 l59)) s =
      .next (opAnnounce port gm better ms utcValid offset (leapCode l61 l59) s)) ∧
  (∀ s m, ptpTakes s (match m with
      | .announce p _ _ _ _ _ _ _ _ _ => p
      | .offset p _ _ _ => p) (match m with
      | .announce _ d _ _ _ _ _ _ _ _ => d
      | .offset _ d _ _ => d) (match m with
      | .announce _ _ t _ _ _ _ _ _ _ => t
      | .offset _ _ t _ => t) = false → exec (.ptpMessageReceived m) s = .next s) ∧
  (∀ s, s.time.grandmaster.isSome = true → s.time.announceAt + (ptpCfg s).announceTimeout * s.time.announceIntervalTicks ≤ s.clk →
    s.time.source = .ptp → exec .ptpAnnounceTimeout s =
      .next (loseSource { s with time := { s.time with grandmaster := none, utcOffsetValid := false, ptpGood := 0 } })) ∧
  (∀ s, s.time.servo = .holdover → s.time.holdoverSince + secTicks (ptpCfg s).holdoverS ≤ s.clk →
    exec .holdoverTimeout s = .next { s with time := { s.time with servo := .freeRun } }) ∧
  (∀ s x, inService s = true → s.tb.inEn = true → x = chipNs s.tb - (ptpCfg s).ppsCableNs → 200000000 < x % 1000000000 →
    x % 1000000000 < 800000000 → exec .ppsEdge s = .next { s with
      tb := { s.tb with ppsValid := true, ppsNs := x % 1000000000, ppsSec := x / 1000000000 }
      time := { s.time with ppsDiscarded := s.time.ppsDiscarded + 1 } }) ∧
  (∀ s x u, inService s = true → s.tb.inEn = true → x = chipNs s.tb - (ptpCfg s).ppsCableNs → x % 1000000000 ≤ 200000000 →
    ppsUsed s = true → s.time.source = .pps → u = { s with
      tb := { s.tb with ppsValid := true, ppsNs := x % 1000000000, ppsSec := x / 1000000000 }
      time := { s.time with lastPps := s.clk } } →
    exec .ppsEdge s = .next (measure ((x % 1000000000 : Nat) : Int) u)) ∧
  (∀ s, s.time.source = .pps → s.time.lastPps + msTicks 1500 ≤ s.clk → exec .ppsLoss s = .next (loseSource s)) ∧
  (∀ s, mainRuns s = true → isStandby s = false → s.tb.outEn = true → s.tb.ppsOutHigh = false →
    chipSubNs s.tb < s.tb.widthMs * 1000000 → exec .ppsOutPulse s = .next { s with
      out := s.out ++ [.pin "TS_PPS_OUT" true]
      tb := { s.tb with ppsOutHigh := true } }) ∧
  (∀ s, inService s = true → isActive s = true → (ptpCfg s).profile = 1 → s.time.grandmaster.isSome = true →
    exec .delayReqTimer s = .next { s with out := s.out ++ [.ptp s.time.gmPort 1 0] }) ∧
  (∀ s m, inService s = true → isActive s = true → (ptpCfg s).tcEnable = true → (ptpCfg s).profile ≠ 0 →
    s.ethLinks.getD 0 false = true → s.ethLinks.getD 1 false = true → m.port ≤ 1 → m.domain = (ptpCfg s).domain →
    m.transport = (ptpCfg s).transport → isPdelay m.typ = false → exec (.transparentClockForward m) s =
      .next { s with out := s.out ++ [.ptp (1 - m.port) m.typ (tcCorrection (ptpCfg s).profile m)] }) ∧
  (∀ s net u at_ burst air, inService s = true → mayTransmit s net = true → bkeyIndex s ≠ 0 → u = scheduleBeacon net s →
    (u.time.beacons.find? fun e => e.1 == net) = some (net, at_, burst) → now u ≤ at_ + beaconSpan burst →
    (net = .rf → dutyAdmits u air = true) → exec (.timeBeaconSend net false air) s =
      .next (beaconOnAir net burst air (onTime (fun t => { t with beacons := t.beacons.filter fun e => e.1 != net }) u))) ∧
  (∀ s net air, inService s = true → mayTransmit s net = true → bkeyIndex s ≠ 0 →
    exec (.timeBeaconSend net true air) s = .next (scheduleBeacon net s)) ∧
  (∀ s net, ∃ t, exec (.beaconDropTimeout net) s = .next t ∧
    (∀ e ∈ t.time.beacons, e ∈ s.time.beacons ∧ (e.1 = net → now s ≤ e.2.1 + beaconSpan e.2.2)) ∧
    (∀ e ∈ s.time.beacons, e.1 ≠ net → e ∈ t.time.beacons) ∧ t = { s with time := { s.time with beacons := t.time.beacons } })

/-- R264: each write of RATE re-anchors first (T0 takes T(C), fraction included, and C0 takes C), so that chip time is what it was to its
last fraction, whatever the rate; RATE holds a signed 32-bit value; a step adds its signed amount to T0 at once, and no other row of
the timebase's registers moves chip time; an edge of the timebase clock, at any rate that RATE can hold, moves T forwards (by 262,135
to 262,153 units of 2^-16 ns), so that two reads of chip time with no step between them never go backwards. -/
def Obligations.ChipTimeMovesOnlyAsStated : Prop :=
  (∀ s v t, mainRuns s = true → exec (.tsRateWrite v) s = .next t → t.tb.t0 = chipT s.tb ∧ t.tb.c0 = s.tb.c ∧
    t.tb.rate = (BitVec.ofNat 32 v).toInt ∧ -(2 ^ 31) ≤ t.tb.rate ∧ t.tb.rate < 2 ^ 31) ∧
  (∀ s v t, exec (.tsRateWrite v) s = .next t → chipT t.tb = chipT s.tb ∧ t.tb.c = s.tb.c ∧ now t = now s) ∧
  (∀ s, mainRuns s = true → ∃ t, exec .tsStep s = .next t ∧ t.tb.t0 = s.tb.t0 + s.tb.stepUnits ∧
    chipT t.tb = chipT s.tb + s.tb.stepUnits ∧ t.tb.rate = s.tb.rate ∧ t.tb.c = s.tb.c) ∧
  (∀ s c t, c = .tsCountLoRead ∨ c = .tsNowNsRead ∨ c = .tsPpsInRead → exec c s = .next t → chipT t.tb = chipT s.tb) ∧
  (∀ s, s.boot.phase = .running → -(2 ^ 31) ≤ s.tb.rate → s.tb.rate < 2 ^ 31 →
    chipT s.tb + 262135 ≤ chipT (tick s).tb ∧ chipT (tick s).tb ≤ chipT s.tb + 262153 ∧ chipNs s.tb ≤ chipNs (tick s).tb ∧
    (946684800 ≤ chipSec s.tb → now s ≤ now (tick s)))

/-- R266: LTIME seconds are the timebase's seconds less 946,684,800, and its fraction is floor(ns × 65,536 / 10^9): LTIME counts from
2000-01-01T00:00:00 TAI. -/
def Obligations.LtimeCountsFromItsEpoch : Prop :=
  ∀ (s : State), 946684800 ≤ chipSec s.tb →
    now s / 65536 = chipSec s.tb - 946684800 ∧ now s % 65536 = chipNs s.tb % 1000000000 * 65536 / 1000000000 ∧
    (chipNs s.tb = 946684800 * 1000000000 → now s = 0)

/-- R316, R324, R327, R328, R330, R332, R333: the NAND array's happenings on a formed store that runs. A program complete counts its units, takes
SEQ numbers for them and maps them; a failed program condemns its block, a failed erase retires it at once; an erase returns an
empty block with one more erase; a read counts, and one that wants a refresh queues its block; the third running silence of a
target retires it.
R322, R326, R329 to R331, R334, R479: moves and stages. Collection starts below 4 % of free superblocks, wear levelling beyond a spread
of 150 erases; a verified copy moves the map entry only where it still holds the source, or enters the relocation table for a
unit that only readable epochs reference; the stage follows the figures by Table FS.5; FULL that has held for SALVAGE_AFTER_S
becomes SALVAGE.
Log entries met: 61, 135 to 138. -/
def Obligations.StoreAndArrayWork : Prop :=
  (∀ s us u, storeRuns s = true → u = takeSeq us.length (onCnt (fun c => { c with nandUnits := c.nandUnits + us.length }) s) →
    exec (.nandProgramComplete us) s = .next (settleBlocks (us.foldl (fun a x => answered x.channel x.enable (mapUnit x
      (onBlock x.place (fun b => { b with pslc := b.pslc || x.volume == 0xFF }) a))) u))) ∧
  (∀ s stream u, storeRuns s = true → stream ≤ 2 → exec (.nandProgramFail stream u) s =
    .next (condemn u.place (onCnt (fun c => { c with programFails := c.programFails + 1 }) s))) ∧
  (∀ s ch en b, storeRuns s = true → exec (.nandEraseFail ch en b) s =
    .next (retireBlock (ch, en, b) (onCnt (fun c => { c with eraseFails := c.eraseFails + 1 }) s))) ∧
  (∀ s ch en b, storeRuns s = true → unitsIn (ch, en, b) s = [] → (blockAt (ch, en, b) s).retired = false → ∃ t,
    exec (.nandEraseComplete ch en b) s = .next t ∧
      (blockAt (ch, en, b) t).erases = (blockAt (ch, en, b) s).erases + 1 ∧ (blockAt (ch, en, b) t).reads = 0 ∧
      (blockAt (ch, en, b) t).erasedAt = s.clk ∧ (ch, en, b) ∉ t.store.refreshQueue ∧ t.store.map = s.store.map ∧
      t = { s with store := t.store }) ∧
  (∀ s u o, storeRuns s = true → ladderStep u o s ≤ 2 → wantsRefresh u (ladderStep u o s) o.bits (answered u.channel u.enable
      (onBlock u.place (fun b => { b with reads := b.reads + 1 }) s)) = false → ∃ t,
    exec (.nandRead u o) s = .next t ∧ (blockAt u.place t).reads = (blockAt u.place s).reads + 1 ∧
      t.store.map = s.store.map ∧ t.store.cnt = s.store.cnt ∧ t = { s with store := t.store }) ∧
  (∀ s u o, warned s = false → exec (.patrolRead u o) s = exec (.nandRead u o) s) ∧
  (∀ s u o, warned s = true → exec (.patrolRead u o) s = .next s) ∧
  (∀ s ch en x, storeRuns s = true → s.store.targets.find? (fun t => t.channel == ch && t.enable == en) = some x →
    (∀ y ∈ s.store.targets, y.channel = ch → y.enable = en → y = x) → x.noAnswer < 2 → ∃ t,
    exec (.targetNoAnswer ch en) s = .next t ∧
      t = { s with store := { s.store with targets := t.store.targets } } ∧
      t.store.targets.find? (fun t => t.channel == ch && t.enable == en) = some { x with noAnswer := x.noAnswer + 1 }) ∧
  (∀ s ch en x, storeRuns s = true → s.store.targets.find? (fun t => t.channel == ch && t.enable == en) = some x →
    2 ≤ x.noAnswer → exec (.targetNoAnswer ch en) s =
      .next (retireTarget ch en (onTarget ch en (fun t => { t with noAnswer := t.noAnswer + 1 }) s))) ∧
  (∀ s victim u us, mayMove s = true → s.store.stage = .normal → s.store.fig.freeSuper * 25 < s.store.fig.totalSuper →
    s.store.fig.relocEntries < relocLimit → exec (.collectionStart victim (u :: us)) s = .next { s with
      store := { s.store with collection := some ⟨victim, u :: us, (u :: us).any fun x =>
        s.store.refreshQueue.contains x.place⟩ } }) ∧
  (∀ s victim us, s.store.collection.isSome = true → exec (.collectionStart victim us) s = .next s) ∧
  (∀ s victim u us, mayMove s = true → peMin s + 150 < peMax s → exec (.wearLevelMove victim (u :: us)) s = .next { s with
      store := { s.store with collection := some ⟨victim, u :: us, (u :: us).any fun x =>
        s.store.refreshQueue.contains x.place⟩ } }) ∧
  (∀ s c src dest, storeRuns s = true → s.store.collection = some c → c.left = [src] → dest.volume = src.volume →
    dest.lba = src.lba → src ∈ s.store.map → (∀ y ∈ s.store.map, y.volume = src.volume → y.lba = src.lba → y = src) →
    (∀ b ∈ s.store.blocks, b.failed = false) → s.store.rebuilding = false → ∃ t,
    exec (.collectionCopyVerified src dest false) s = .next t ∧ dest ∈ t.store.map ∧ t.store.collection = none ∧
      (∀ y ∈ s.store.map, y ≠ src → y ∈ t.store.map) ∧ t.store.cnt.nandUnits = s.store.cnt.nandUnits + 1 ∧
      t = { s with store := t.store }) ∧
  (∀ s c src dest, storeRuns s = true → s.store.collection = some c → src ∈ c.left →
    (∀ b ∈ s.store.blocks, b.failed = false) → s.store.rebuilding = false → ∃ t,
    exec (.collectionCopyVerified src dest true) s = .next t ∧ t.store.map = s.store.map ∧
      t.store.reloc = s.store.reloc ++ [(src.ppa, dest.ppa)] ∧
      t.store.fig.relocEntries = min relocLimit (s.store.fig.relocEntries + 1) ∧ t = { s with store := t.store }) ∧
  (∀ s ch en b u, storeRuns s = true →
    u = retireBlock (ch, en, b) (onCnt (fun c => { c with programFails := c.programFails + 1 }) s) →
    exec (.collectionTargetFail ch en b) s = .next (if unitsIn (ch, en, b) u = [] then u else { u with
      store := { u.store with refreshQueue := u.store.refreshQueue ++ [(ch, en, b)] } })) ∧
  (∀ s f spent u g, storeRuns s = true → g = s.store.fig.measured f → nextStage s.store.stage g (spent && spaceSpent s) = .normal →
    s.store.stage = .normal → u = { s with
      store := { s.store with
        fig := g
        reloc := lastN f.relocEntries s.store.reloc
        stepsSpent := spent && spaceSpent s } } → exec (.storeStageChange f spent) s = .next u) ∧
  (∀ s f spent g st, storeRuns s = true → g = s.store.fig.measured f → st = nextStage s.store.stage g (spent && spaceSpent s) →
    (openEpoch s).isSome = false → ∃ t, exec (.storeStageChange f spent) s = .next t ∧ t.store.stage = st ∧ t.store.fig = g) ∧
  (∀ s, storeRuns s = true → s.store.stage = .full → s.store.fullSince + secTicks (itemVal s 0x0E05) ≤ s.clk →
    s.store.fig.emergency ≠ 0 → exec .salvageTimer s = .next (retryHeld (enterStage .salvage s)))

/-- R333, R335: a block that retires takes a spare while one is left, and D stands; with none left D falls by the block's units. Either way
the retirement is counted once, and a block already retired is not retired again. -/
def Obligations.RetiredBlocksTakeSpares : Prop :=
  (∀ s ch en b, storeRuns s = true → (blockAt (ch, en, b) s).retired = false → 0 < s.store.fig.spare →
    (∀ t ∈ s.store.targets, t.retiredAt.length < 15) → ∃ t,
    exec (.nandEraseFail ch en b) s = .next t ∧ (blockAt (ch, en, b) t).retired = true ∧
      t.store.fig.spare = s.store.fig.spare - 1 ∧ t.store.fig.dataUnits = s.store.fig.dataUnits ∧
      t.store.fig.exported = s.store.fig.exported ∧ t.store.cnt.blocksRetired = s.store.cnt.blocksRetired + 1 ∧
      t.store.cnt.eraseFails = s.store.cnt.eraseFails + 1 ∧ t.store.map = s.store.map ∧ t.store.vol3 = s.store.vol3) ∧
  (∀ s ch en b, storeRuns s = true → (blockAt (ch, en, b) s).retired = true → exec (.nandEraseFail ch en b) s =
    .next { s with store := { s.store with cnt := { s.store.cnt with eraseFails := s.store.cnt.eraseFails + 1 } } })

/-- R342 to R346, R280: the pair's link and negotiation. A HELLO is answered with HELLO_AUTH, by a chip in service with its own HELLO first;
the first check of Table TW.5 that fails makes the partner FAILED with its cause; a heartbeat goes out with SELF, PARTNER,
EPOCH_HIGH, INPUT_SEQ and the counter blocks; a valid one trains the link and acknowledges; 2 ms of silence untrain it; a frame is
sent again up to eight times and is then missing; a standby follows the active's chip time.
Log entries met: 51, 71, 73, 129. -/
def Obligations.TwinLinkRuns : Prop :=
  (∀ s h u, negotiating s = true → u = onTwin (fun t => { t with
      hello := some h
      link := { t.link with trained := true, lastValid := s.clk } }) s →
    exec (.helloReceived h) s = .next (sendAuth (if inService s then sendHello u else u))) ∧
  (∀ s h c, negotiating s = true → s.twin.hello = some h → isActive s = true → partnerBarred s = false →
    checkFails h true s = some c → exec (.helloAuthReceived true) s = .next (setPartner .failed c s)) ∧
  (∀ s h, negotiating s = true → s.twin.hello = some h → isActive s = true → partnerBarred s = false →
    exec (.helloAuthReceived false) s = .next (setPartner .failed 1 s)) ∧
  (∀ s h, negotiating s = true → s.twin.hello = some h → isActive s = true → partnerBarred s = false →
    checkFails h true s = none → exec (.helloAuthReceived true) s = .next (setPartner (partnerFrom h.self s) 0 s)) ∧
  (∀ s, s.boot.phase = .running → 7 ≤ s.boot.stage → s.twin.link.trained = true → exec .heartbeatSend s = .next { s with
    out := s.out ++ [.twill 0x03 (putLe 1 (selfByte s) ++ putLe 1 (partnerByte s) ++ zeros 6 ++ putLe 8 (epochHigh s) ++
      putLe 8 s.twin.inputSeq ++ putLe 8 s.zither.reservedEnd ++ putLe 8 s.rf.reservedEnd)]
    twin := { s.twin with sentEnds := (s.zither.reservedEnd, s.rf.reservedEnd) } }) ∧
  (∀ s self partner high mark z l, isActive s = true → s.boot.phase = .running → 7 ≤ s.boot.stage →
    s.twin.partner = .failed → s.twin.cause = 6 → ∃ t, exec (.heartbeatReceived self partner high mark z l) s = .next t ∧
      t.twin.link.trained = true ∧ t.twin.link.unacked = [] ∧ t.twin.link.lastValid = s.clk ∧
      t.twin.partnerEpochHigh = high ∧ t.twin.partnerZitherEnd = z ∧ t.twin.partnerLyreEnd = l ∧
      t.twin.partner = .failed ∧ t.zither.usableEnd = max s.zither.usableEnd s.twin.sentEnds.1 ∧
      t.rf.usableEnd = max s.rf.usableEnd s.twin.sentEnds.2 ∧ t.led = s.led) ∧
  (∀ s, s.twin.link.trained = true → s.twin.link.lastValid + msTicks 2 ≤ s.clk → exec .twillLinkSilent s =
    .next { s with twin := { s.twin with link := { s.twin.link with trained := false } } }) ∧
  (∀ s n k, mainRuns s = true → s.twin.link.unacked.find? (fun u => u.1 == n) = some (n, k) → k < 8 →
    exec (.twillRetransmit n) s = .next { s with twin := { s.twin with link := { s.twin.link with
      unacked := (s.twin.link.unacked.filter fun u => u.1 != n) ++ [(n, k + 1)]
      retransmitted := inc64 s.twin.link.retransmitted } } }) ∧
  (∀ s n, mainRuns s = true → s.twin.link.unacked.find? (fun u => u.1 == n) = some (n, 8) →
    exec (.twillRetransmit n) s = .next (frameMissing { s with twin := { s.twin with link := { s.twin.link with
      unacked := s.twin.link.unacked.filter fun u => u.1 != n } } })) ∧
  (∀ s ns, isStandby s = true → inService s = true → exec (.twillTimeReceived ns) s = .next { s with
    tb := { s.tb with t0 := s.tb.t0 + ns * 65536 }
    time := { s.time with unset := false } }) ∧
  (∀ s ns, isStandby s = false → exec (.twillTimeReceived ns) s = .next s)

/-- R342, R358 to R360, R363: the discrete lines and the roles. TWL_ALIVE toggles on an active after the 1 ms of its claim; a low sampled in a
half that the active released steps it down; TWL_INHIBIT_N falling at a standby in service takes over, or ends a switchover
whose epoch has committed in the claim; silence of TWL_ALIVE with the link silent takes over too; 25 ms after a claim the coils may
move; a TAKEOVER steps an active down, with the main domains reset.
Log entries met: 72, 78, 139. -/
def Obligations.RolesChangeHands : Prop :=
  (∀ s, isActive s = true → s.boot.phase = .running → s.twin.lines.aliveClaimUntil ≤ s.clk → exec .alivePulse s = .next { s with
    out := s.out ++ [.pin "TWL_ALIVE" s.twin.lines.aliveLow]
    twin := { s.twin with lines := { s.twin.lines with aliveLow := !s.twin.lines.aliveLow } } }) ∧
  (∀ s, isActive s = true → s.boot.phase = .running → s.twin.lines.aliveLow = false →
    exec .twlAliveLowSampled s = .next (stepDown 4 s)) ∧
  (∀ s role u, isStandby s = true → inService s = true → s.twin.switchover = none → u = onTwin (fun t => { t with
      lines := { t.lines with partnerInhibitLow := true, partnerRoleLow := role } }) s →
    exec (.twlInhibitSensed role) s = .next (takeOver role u)) ∧
  (∀ s role n u, isStandby s = true → inService s = true → s.twin.switchover = some n → s.twin.inSync = true →
    n ≤ s.led.lastCommitted → u = onTwin (fun t => { t with
      lines := { t.lines with partnerInhibitLow := true, partnerRoleLow := role } }) s →
    exec (.twlInhibitSensed role) s = .next (takeHandover u)) ∧
  (∀ s role, isActive s = true → s.boot.phase = .running → s.twin.coilWait = some 0 → exec (.twlInhibitSensed role) s =
    .next (kickCoil { s with twin := { s.twin with
      coilWait := none
      lines := { s.twin.lines with partnerInhibitLow := true, partnerRoleLow := role } } })) ∧
  (∀ s role u, isStandby s = true → inService s = true → s.twin.link.trained = false →
    u = onTwin (fun t => { t with lines := { t.lines with partnerRoleLow := role } }) s →
    exec (.twlAliveSilent role) s = .next (takeOver role u)) ∧
  (∀ s role u, isStandby s = true → inService s = true → s.twin.link.trained = true →
    u = onTwin (fun t => { t with lines := { t.lines with partnerRoleLow := role } }) s →
    exec (.twlAliveSilent role) s = .next (raiseTwinState u)) ∧
  (∀ s d, s.twin.coilWait = some d → d ≠ 0 → d + msTicks 25 ≤ s.clk → exec .claimCoilWait s =
    .next (kickCoil { s with twin := { s.twin with coilWait := none } })) ∧
  (∀ s e i h, isActive s = true → s.boot.phase = .running → exec (.takeoverReceived e i h) s = .next (stepDown 4 s)) ∧
  (∀ s e i h, isStandby s = true → s.boot.phase = .running → ∃ t, exec (.takeoverReceived e i h) s = .next t ∧
    t.twin.switchover = none ∧ t.twin.partner = .active ∧ t.twin.role = .standby ∧ h ≤ t.twin.partnerEpochHigh) ∧
  (∀ s n, isStandby s = true → s.twin.inSync = true → exec (.switchoverReceived n) s =
    .next { s with twin := { s.twin with switchover := some n } }) ∧
  (∀ s, isActive s = true → s.twin.partner = .standby → (∃ e ∈ s.led.epochs, (e.state = .closed ∨ e.state = .comparing) ∧
      e.closedTick + msTicks 15 ≤ s.clk ∧ partnerDigest e.num s = none) →
    exec .digestWaitExpiry s = .next (setPartner .present 0 s)) ∧
  (∀ s, isStandby s = true → s.twin.inSync = true → (∃ e ∈ s.led.epochs, e.flushed = false ∧
      (e.state = .closed ∨ e.state = .held) ∧ e.closedTick + msTicks 15 ≤ s.clk) →
    exec .standbyDigestDeadline s = .next (breakStream 3 s))

/-- R349 to R351, R353, R367: the stream on a standby. The next input of the stream is buffered and taken as the WATERMARK allows; one taken
before is ignored; one out of order breaks the stream; an append mark names the epoch of its group; a CLOSE is queued behind the
inputs before it; LEAVE_SYNC at the active makes the standby PRESENT; an event of the standby is appended by the active with 0x80
added to its source.
Log entries met: 17, 70. -/
def Obligations.StandbyTakesTheStream : Prop :=
  (∀ s seq arrival i u, isStandby s = true → soloSet s = false → streamOff s = false → seq = s.twin.inputSeq + 1 →
    s.twin.resync = none → u = { s with
      twinBuffer := s.twinBuffer ++ [.input seq arrival i]
      twin := { s.twin with inputSeq := seq }
      fresh := s.fresh + 1 } →
    exec (.inputReceived seq arrival i) s = .next (matchFrames (warnedArbitration (drain u)))) ∧
  (∀ s seq arrival i, isStandby s = true → soloSet s = false → streamOff s = false → seq ≤ s.twin.inputSeq →
    exec (.inputReceived seq arrival i) s = .next (matchFrames (warnedArbitration s))) ∧
  (∀ s seq arrival i, isStandby s = true → soloSet s = false → streamOff s = false → s.twin.inputSeq + 1 < seq →
    exec (.inputReceived seq arrival i) s = .next (matchFrames (warnedArbitration (breakStream 1 { s with
      twin := { s.twin with inputSeq := seq } })))) ∧
  (∀ s key n, isStandby s = true → streamOff s = false → exec (.appendMarkReceived key n) s = .next { s with
    twin := { s.twin with marks := insertNat key n (s.twin.marks.filter fun m => decide (m.2 > s.led.lastCommitted)) } }) ∧
  (∀ s n c cause, isStandby s = true → soloSet s = false → s.twin.resync = none → s.twin.inert = false →
    exec (.closeReceived n c cause) s = .next (matchFrames (drain { s with twinBuffer := s.twinBuffer ++ [.close n c cause] }))) ∧
  (∀ s why n, isActive s = true → s.twin.partner = .standby →
    exec (.leaveSyncReceived why n) s = .next (setPartner .present 0 (endService s))) ∧
  (∀ s e, isActive s = true → inService s = true → isSolo s = false → exec (.partnerEventReceived e) s =
    .next (raiseEv { e with source := (e.source + 0x80) % 256 } (newInput 8 s))) ∧
  (∀ s net typ dest n d, isStandby s = true → streamOff s = false → exec (.frameDigestReceived net typ dest n d) s =
    .next (matchFrames { s with twin := { s.twin with
      heardFrames := s.twin.heardFrames ++ [⟨heardEpoch s, net, typ, dest, n, d, max 1 s.clk⟩] } })) ∧
  (∀ s net typ dest n, isStandby s = true → (∀ m ∈ s.twin.ownFrames ++ s.twin.heardFrames,
      m.net ≠ net ∨ m.typ ≠ typ ∨ m.dest ≠ dest ∨ m.n ≠ n ∨ m.since = 0 ∨ s.clk < m.since + secTicks 1) →
    exec (.frameDigestUnmatched net typ dest n) s = .next s) ∧
  (∀ s net typ dest n m, isStandby s = true → m ∈ s.twin.heardFrames → m.net = net → m.typ = typ → m.dest = dest → m.n = n →
    m.since ≠ 0 → m.since + secTicks 1 ≤ s.clk → inComparison s = true → ∃ u,
    u.twin.heardFrames.length < s.twin.heardFrames.length ∧ u.led = s.led ∧
    exec (.frameDigestUnmatched net typ dest n) s = .next (diverge 1 (openNum s) u))

/-- R355, R357, R445, Table TW.9: comparison and arbitration. Equal digests let the epoch go on; different ones between twins that compare
diverge; DIVERGED starts this chip's own run; a signature is judged against the expected one, and one not there after 100 ms
counts as failed.
Log entries met: 17. -/
def Obligations.DigestsAreArbitrated : Prop :=
  (∀ s n d u, inService s = true → isSolo s = false → u = onTwin (fun t => { t with
      partnerDigests := insertNat n d (t.partnerDigests.filter fun p => decide (p.1 + 16 > n)) }) s →
    exec (.epochDigestReceived n d) s = .next (judgeDigest n u)) ∧
  (∀ s n d e, inService s = true → isSolo s = false → epochOf s n = some e → e.flushed = true → inComparison s = true →
    fitTo 32 e.digest ≠ fitTo 32 d → exec (.epochDigestReceived n d) s = .next (diverge 0 n { s with twin := { s.twin with
      partnerDigests := insertNat n d (s.twin.partnerDigests.filter fun p => decide (p.1 + 16 > n)) } })) ∧
  (∀ s kind ref, kind ≤ 1 → inComparison s = true → exec (.divergedReceived kind ref) s = .next (diverge kind ref s)) ∧
  (∀ s a r p f sig, s.twin.arbitration = some a → a.partner = none → exec (.signatureReceived r p f sig) s =
    .next (judgeArbitration { s with twin := { s.twin with
      arbitration := some { a with partner := some (fitTo 32 sig == expectedSignature arbitrationSet) } } })) ∧
  (∀ s a, s.twin.arbitration = some a → a.partner = none → a.since + msTicks 100 ≤ s.clk → exec .arbitrationTimeout s =
    .next (judgeArbitration { s with twin := { s.twin with arbitration := some { a with partner := some false } } })) ∧
  (∀ s p, s.twin.arbitration = none → exec (.selfTestPartitionEnd p) s = .next (partEnds p s)) ∧
  (∀ s p a r, s.twin.arbitration = some a → a.own = none → (partEnds p s).twin.arbitration = some a →
    (partEnds p s).selfTest.current = none → (partEnds p s).selfTest.finished.getLast? = some r → r.arbitration = true →
    exec (.selfTestPartitionEnd p) s = .next (judgeArbitration (sendSignature r (onTwin (fun t => { t with
      arbitration := some { a with own := some (signaturePasses r.signature) } }) (partEnds p s)))))

/-- R364 to R367: resynchronisation. The active plans from the standby's roots; an incremental plan mounts the root it names, a full one
discards the volumes 0, 1 and 3; units of volume 3 are stored, the last of volumes 0 and 1 complete the ledger; an epoch is
committed as received, or breaks the stream with a wrong digest; RESYNC_DONE applies every item.
Log entries met: 50, 132, 151. -/
def Obligations.StandbyResynchronises : Prop :=
  (∀ s roots, isActive s = true → inService s = true → soloSet s = false → arbitrating s = false → s.twin.partner ≠ .failed →
    exec (.resyncRootsReceived roots) s = .next (planResync roots (setPartner .present 0 (endService s)))) ∧
  (∀ s n, isStandby s = true → s.twin.inert = false → inService s = true → ∃ t,
    exec (.resyncPlanReceived true n) s = .next t ∧ t.led = { Ledger.blank with
      highA := some s.twin.partnerEpochHigh
      highB := some s.twin.partnerEpochHigh } ∧ t.store.vol3 = [] ∧ t.store.lost3 = [] ∧ t.inflight = [] ∧
      t.twinBuffer = [] ∧ t.twin.resync = some ⟨true, true, n, none, false, 0, false⟩ ∧ t.keys = s.keys) ∧
  (∀ s n r, isStandby s = true → s.twin.inert = false → inService s = true →
    s.led.rootLog.find? (fun r => r.epoch == n && !r.voided) = some r → s.led.lastCommitted ≤ n → ∃ t,
    exec (.resyncPlanReceived false n) s = .next t ∧ t.led = { s.led.mount r with
      highA := some s.twin.partnerEpochHigh
      highB := some s.twin.partnerEpochHigh } ∧ t.twin.resync = some ⟨true, false, n, none, false, 0, false⟩) ∧
  (∀ s n, isStandby s = true → s.twin.inert = false → inService s = true →
    s.led.rootLog.find? (fun r => r.epoch == n && !r.voided) = none →
    exec (.resyncPlanReceived false n) s = .next (breakStream 1 s)) ∧
  (∀ s r lba us c, s.twin.resync = some r → isStandby s = true → r.asStandby = true → r.full = true → r.done = false → ∃ t,
    exec (.resyncUnitsReceived 3 lba us c) s = .next t ∧
      (∀ k u, us[k]? = some u → lookupNat (lba + k) t.store.vol3 = some (fitTo 4096 u)) ∧
      (∀ n, (n < lba ∨ lba + us.length ≤ n) → lookupNat n t.store.vol3 = lookupNat n s.store.vol3) ∧
      t = { s with store := { s.store with vol3 := t.store.vol3 } }) ∧
  (∀ s r v lba us root w, s.twin.resync = some r → isStandby s = true → r.asStandby = true → r.full = true → r.done = false →
    v ≠ 3 → exec (.resyncUnitsReceived v lba us (some (root, w))) s =
      .next { s with led := Ledger.copied root w s.twin.partnerEpochHigh }) ∧
  (∀ s r c, s.twin.resync = some r → isStandby s = true → r.asStandby = true → s.led.mounted = true →
    s.led.lastCommitted < c.epoch → c.digestOk = true → exec (.resyncEpochReceived c) s = .next (passCheck s.led.lastCommitted (drain (commitReceived c s)))) ∧
  (∀ s r n, s.twin.resync = some r → isStandby s = true → r.asStandby = true → s.led.mounted = true →
    s.led.lastCommitted = n → exec (.resyncDoneReceived n) s = .next (campaignsAtStart (startNets (applyItems { s with
      twin := { s.twin with resync := some { r with done := true } } })))) ∧
  (∀ s r n, s.twin.resync = some r → isStandby s = true → r.asStandby = true → s.led.lastCommitted ≠ n →
    exec (.resyncDoneReceived n) s = .next (breakStream 1 s))

/-- R53: the keeper performs an action of its window only within 10 ms of the key 0xC0DE, and once; an action outside the window is
ignored, and the boot journal records the attempt, as it does any other ACTION value, at any time. 0xC0DE opens the window; any other
key opens none and is recorded. -/
def Obligations.KeeperActionsNeedTheKey : Prop :=
  (∀ s v, s.bar0.linkUp = true → keeperRuns s = true → v % 65536 = 0xC0DE → exec (.kprHostUnlockWrite v) s =
    .next { s with keeper := { s.keeper with unlockUntil := some (s.clk + msTicks 10) } }) ∧
  (∀ s v, s.bar0.linkUp = true → keeperRuns s = true → v % 65536 ≠ 0xC0DE → exec (.kprHostUnlockWrite v) s =
    .next (journal 0x0C 0xF 0 0 (putLe 2 (v % 65536)) s)) ∧
  (∀ s c n, c = .hostActionReset ∧ n = 1 ∨ c = .hostActionRecovery ∧ n = 2 ∨ c = .hostActionDumpJournal ∧ n = 3 →
    s.bar0.linkUp = true → keeperRuns s = true → (∀ u, s.keeper.unlockUntil = some u → u < s.clk) →
    exec c s = .next (journal 0x0C 0xF 0 0 (putLe 2 n) s)) ∧
  (∀ s v, s.bar0.linkUp = true → s.boot.phase ≠ .off → (bitsOf v 2 0 = 0 ∨ 3 < bitsOf v 2 0) →
    exec (.registerWrite .bar0 0xC08 4 (some v)) s = .next (journal 0x0C 0xF 0 0 (putLe 2 v) s)) ∧
  (∀ s u, s.bar0.linkUp = true → keeperRuns s = true → s.keeper.unlockUntil = some u → s.clk ≤ u → ∃ t,
    exec .hostActionReset s = .next t ∧ AfterMainReset s t ∧ t.keeper.unlockUntil = none) ∧
  (∀ s u, s.bar0.linkUp = true → keeperRuns s = true → s.keeper.unlockUntil = some u → s.clk ≤ u → ∃ t,
    exec .hostActionRecovery s = .next t ∧ t.keeper.unlockUntil = none ∧
    t = enterRecovery 2 { s with keeper := { s.keeper with unlockUntil := none } }) ∧
  (∀ s u, s.bar0.linkUp = true → keeperRuns s = true → s.keeper.unlockUntil = some u → s.clk ≤ u → exec .hostActionDumpJournal s =
    .next { s with
      keeper := { s.keeper with unlockUntil := none }
      out := s.out ++ .uart (hexLine s.boot.journal.headerBytes) :: s.boot.journal.recs.map fun r => .uart (hexLine r.bytes) })

/-- R380 to R383, R393 to R395, R358, R376, R385: supplies and resets. A warning begins the hold, and a second rail joins it; at its end a
SUPPLY_DIP is noted for each rail that dipped; 600 s without a dip end cause 1 of degraded mode; a supply reset of VDDIO_33
resets both dies and leaves the keeper in RETAIN with POWER_FAIL owed; one of VDD_FIELD resets the field die, which is released
later; every source of a MAIN reset leaves what R394 gives; loss of VDD_KPR leaves the whole device off.
Log entries met: 7, 57. -/
def Obligations.SuppliesAndResetsAct : Prop :=
  (∀ s rail mv u, rail ≤ 1 → keeperRuns s = true → (rail = 1 → s.keeper.supply.fieldReset = false) →
    u = onSupply (fun u => { noteVolts rail mv u with
      mainWarn := u.mainWarn || rail == 0
      fieldWarn := u.fieldWarn || rail == 1 }) s →
    exec (.powerFailWarning rail mv) s = .next (if s.keeper.supply.hold = true
      then onSupply (fun u => { u with dipped := if u.dipped.contains rail then u.dipped else u.dipped ++ [rail] }) u
      else dipBegins rail mv u)) ∧
  (∀ s mins u v rails, s.keeper.supply.hold = true → keeperRuns s = true →
    rails = (s.keeper.supply.dipped.filter fun r => !(r == 1 && s.keeper.supply.fieldReset)) →
    u = onSupply (fun u => (u.dipped.foldl (fun a r => noteVolts r (mins.getD r 0xFFFF) a) u)) s →
    v = holdEnds (if isActive s = true then newInput 7 u else u) → exec (.dipHoldEnd mins) s =
      .next (onSupply (fun u => { u with dipped := u.dipped.filter fun r => r == 1 && u.fieldReset })
        (rails.foldl (fun a r => dipEvent r a) v))) ∧
  (∀ s, s.boot.phase ≠ .off → s.keeper.lastDip + secTicks 600 ≤ s.clk → ∃ t, exec .degradedCauseEnd s = .next t ∧
    t.keeper.degraded = s.keeper.degraded.filter (· != 1) ∧ t.keys = s.keys ∧ t.meters = s.meters ∧
    (s.keeper.degraded.contains 1 = true → s.keeper.faultCode = 0x4001 → t.keeper.faultCode = 0) ∧
    (s.keeper.degraded.contains 1 = false → t = s)) ∧
  (∀ s a b, keeperRuns s = true → ∃ t, exec (.mainSupplyReset a b) s = .next t ∧ AfterMainReset s t ∧
    t.keeper.supply.retain = true ∧ t.keeper.supply.hold = false ∧ t.boot.journal.powerFailEpoch = s.led.lastCommitted ∧
    (∃ e ∈ t.boot.owed, e.code = 0x0902)) ∧
  (∀ s mv, keeperRuns s = true → s.keeper.supply.fieldReset = false → ∃ t,
    exec (.fieldSupplyReset mv) s = .next t ∧ t.keeper.supply.fieldReset = true ∧ t.d2d.retraining = false ∧
    t.met.fieldCounts = List.replicate 8 0 ∧ t.met.totals = s.met.totals ∧ t.led.lastCommitted = s.led.lastCommitted ∧
    t.boot.phase = s.boot.phase ∧ t.tb = s.tb ∧ t.fabric = s.fabric) ∧
  (∀ s u, keeperRuns s = true → s.keeper.supply.fieldReset = true →
    u = onSupply (fun u => { u with fieldReset := false, fieldWarn := false }) s → exec .fieldDieRelease s = .next
      (startPlacard (onSupply (fun u => { u with dipped := u.dipped.filter (· != 1) }) (dipEvent 1
        (if s.boot.phase = .running ∧ 7 ≤ s.boot.stage ∧ s.boot.altApplied.testBit 4 = false
          then { u with d2d := { u.d2d with retraining := true, lostAt := u.clk } } else u))))) ∧
  (∀ s kept, s.boot.phase = .off → ∃ t, exec (.keeperPowerOn kept) s = .next t ∧ AfterMainReset s t ∧
    t.keeper.supply.kprOn = true ∧ t.keeper.rtcValid = (s.keeper.rtcValid && kept)) ∧
  (∀ s, s.boot.phase ≠ .off → ∃ t, exec .keeperSupplyLoss s = .next t ∧ t.boot.phase = .off ∧ t.keeper.supply.kprOn = false ∧
    t.keeper.rtcValid = false ∧ t.led.lastCommitted = s.led.lastCommitted ∧ t.keys.lifecycle = s.keys.lifecycle ∧
    t.boot.journal.recs = s.boot.journal.recs ∧ t.fabric = List.replicate 128 Queue.reset) ∧
  (∀ s, keeperRuns s = true → ∃ t, exec .sysResetNLow s = .next t ∧ AfterMainReset s t) ∧
  (∀ s, keeperRuns s = true → s.boot.phase = .running → ∃ t, exec .kprRequestReset s = .next t ∧ AfterMainReset s t) ∧
  (∀ s due, keeperRuns s = true → s.keeper.delayedReset = some (due, 1) → due ≤ s.clk → ∃ t,
    exec .delayedReset s = .next t ∧ AfterMainReset s t ∧ t.keeper.delayedReset = none) ∧
  (∀ s, keeperRuns s = true → s.boot.phase = .running → s.boot.passed8 = true → appOverdue s = true → ∃ t,
    exec .appWatchdogExpiry s = .next t ∧ AfterMainReset s t ∧ (∃ e ∈ t.boot.owed, e.code = 0x0904)) ∧
  (∀ s, keeperRuns s = true → s.boot.phase = .running → inPair s = true → s.keeper.twinKick + msTicks 20 ≤ s.clk → ∃ t,
    exec .twinWatchdogExpiry s = .next t ∧ AfterMainReset s t ∧ (∃ e ∈ t.boot.owed, e.code = 0x0904)) ∧
  (∀ s t, s.fw.loaderResetAt = some t → s.boot.phase = .recovery → t ≤ s.clk → ∃ u,
    exec .loaderReset s = .next u ∧ AfterMainReset s u ∧ u.boot.journal.recovery = 0 ∧
    u.boot.journal.failRun = List.replicate 9 0)

/-- R375 to R378, R385, R387, R392, R404, R363, Table KP.7: the keeper's own work. A tamper input that is enabled and accepted latches, is
recorded and owed or raised, and with zeroise set the keys go and 0x3001 is shown; watchdog kicks, bridge time-outs, clocks that
stop and return; the registers that clear on reading; a fault code is shown; a requested step-down runs orders 1 to 4; a
requested recovery is entered.
Log entries met: 58, 81. -/
def Obligations.KeeperWorks : Prop :=
  (∀ s n, n ≤ 3 → s.boot.phase ≠ .off → bitOf (tamperByte s n) 0 = true → bitOf (tamperByte s n) 2 = true →
    s.keeper.tamperLatched.testBit n = false → inService s = false → ∃ t, exec (.tamperAccepted n) s = .next t ∧
    t.keeper.tamperLatched = s.keeper.tamperLatched ||| 2 ^ n ∧ t.keys.slots = [] ∧ t.keys.persistent = [] ∧
    t.keeper.faultCode = 0x3001 ∧ (∃ e ∈ t.boot.owed, e.code = 0x0903) ∧ t.led = s.led ∧ t.keys.lifecycle = s.keys.lifecycle) ∧
  (∀ s n, n ≤ 3 → s.boot.phase ≠ .off → bitOf (tamperByte s n) 0 = true → bitOf (tamperByte s n) 2 = false →
    s.keeper.tamperLatched.testBit n = false → inService s = false → ∃ t, exec (.tamperAccepted n) s = .next t ∧
    t.keeper.tamperLatched = s.keeper.tamperLatched ||| 2 ^ n ∧ t.keys = s.keys ∧
    t.keeper.faultCode = s.keeper.faultCode ∧ (∃ e ∈ t.boot.owed, e.code = 0x0903) ∧ t.led = s.led) ∧
  (∀ s n, n ≤ 3 → s.boot.phase ≠ .off → bitOf (tamperByte s n) 0 = true → s.keeper.tamperLatched.testBit n = false →
    keeperRuns s = true → inService s = true → ∃ u, exec (.tamperAccepted n) s = .next (raiseHw 0x0903 (putLe 1 n) u) ∧
    u.keeper.tamperLatched = s.keeper.tamperLatched ||| 2 ^ n ∧ u.led = s.led ∧
    (bitOf (tamperByte s n) 2 = true → u.keys.slots = [] ∧ u.keys.persistent = []) ∧
    (bitOf (tamperByte s n) 2 = false → u.keys = s.keys)) ∧
  (∀ s v, keeperRuns s = true → ∃ t, exec (.kprWdtKickWrite v) s = .next t ∧
    (∀ n, n < s.keeper.appKicks.length → t.keeper.appKicks.getD n 0 = if v.testBit n then s.clk else s.keeper.appKicks.getD n 0) ∧
    t.keeper.twinKick = (if v.testBit 4 then s.clk else s.keeper.twinKick) ∧ t = { s with keeper := { s.keeper with
      appKicks := t.keeper.appKicks, twinKick := t.keeper.twinKick } }) ∧
  (∀ s, keeperRuns s = true → exec .keeperWatchdogExpiry s = .next (onKeeper (fun k => { k with unlockUntil := none })
    (watchdogNoted 2 (journal 0x04 0xF 0 0 (putLe 1 0x0C) s)))) ∧
  (∀ s d atStepDown u, keeperRuns s = true → d ≤ 10 → u = journal 0x0D 0xF 0 0 (putLe 1 d)
      { s with keeper := { s.keeper with bridgeTimeouts := satInc 65535 s.keeper.bridgeTimeouts } } →
    exec (.bridgeTimeout d atStepDown) s = .next (if atStepDown = true ∧ d = 7
      then fieldDieReset 0x0E (journal 0x04 0xF 0 0 (putLe 1 0x0E) u) else u)) ∧
  (∀ s d, keeperRuns s = true → d ≤ 10 → exec (.clockStopped d) s = .next (testClockLost d { s with keeper :=
    { s.keeper with
      clockLost := s.keeper.clockLost ||| 2 ^ d
      clockRunning := s.keeper.clockRunning &&& (2047 - 2 ^ d) } })) ∧
  (∀ s d, keeperRuns s = true → d ≤ 10 → exec (.clockReturn d) s = .next { s with keeper :=
    { s.keeper with clockRunning := s.keeper.clockRunning ||| 2 ^ d } }) ∧
  (∀ s, exec .kprDipMinRead s = .next { s with
    out := s.out ++ [.read (s.keeper.supply.dipMin.getD 1 0xFFFF * 2 ^ 16 + s.keeper.supply.dipMin.getD 0 0xFFFF)]
    keeper := { s.keeper with supply := { s.keeper.supply with dipMin := [0xFFFF, 0xFFFF] } } }) ∧
  (∀ s, exec .kprBridgeRead s = .next { s with
    out := s.out ++ [.read s.keeper.bridgeTimeouts]
    keeper := { s.keeper with bridgeTimeouts := 0 }
    counters := { s.counters with bridgeTotal := s.counters.bridgeTotal + s.keeper.bridgeTimeouts } }) ∧
  (∀ s, exec .kprClockStatusRead s = .next { s with
    out := s.out ++ [.read (kprClockStatus s)]
    keeper := { s.keeper with clockLost := 0 } }) ∧
  (∀ s code, keeperRuns s = true → s.boot.phase = .running → faultCodeOk code = true → ∃ t,
    exec (.kprRequestFaultCode code) s = .next t ∧ t.keeper.faultCode = code ∧ t.led = s.led ∧ t.keys = s.keys ∧
    t.boot.journal.seq = s.boot.journal.seq + 1) ∧
  (∀ s, keeperRuns s = true → s.boot.phase = .running → isActive s = true → ∃ t, exec .kprRequestStepDown s = .next t ∧
    t.twin.lines.inhibitLow = true ∧ t.twin.lines.roleLatch = false ∧ t.twin.lines.aliveLow = false ∧
    t.keeper.supply.relayHold = true ∧ t.zither.stopped = true ∧ t.rf.stopped = true ∧ t.led = s.led ∧
    t.boot.phase = .running) ∧
  (∀ s, keeperRuns s = true → s.boot.phase = .running → exec .kprRequestRecovery s = .next (enterRecovery 3 s))

/-- R396 to R404: a start. It is released when the keeper allows it, counts itself and takes the alternatives; a debug token in its
window is judged once; a stage that passes is recorded and the next one entered; one that fails leaves its marks and resets the
main domains, as does one beyond its limit; at S8 on an active the first epoch opens; a pending recovery takes the place of S1.
Log entries met: 8, 54, 59, 69, 77, 82, 83. -/
def Obligations.StartsRunByStages : Prop :=
  (∀ s, mayStart s = true → ∃ t, exec .startMainDomains s = .next t ∧
    t.boot.phase = .running ∧ t.boot.stage = 0 ∧ t.boot.stageAt = s.clk ∧ t.boot.passed8 = false ∧
    t.boot.altApplied = s.boot.journal.alt ∧ t.boot.journal.starts = s.boot.journal.starts + 1 ∧
    t.keeper.supply.retain = false ∧ t.keeper.degraded = s.keeper.degraded.filter (· != 2) ∧
    t.led.lastCommitted = s.led.lastCommitted ∧ t.keys = s.keys ∧ t.store = s.store) ∧
  (∀ s b, s.boot.phase = .running → s.boot.stage = 0 → debugWindow s = true → s.boot.debugDecided = false →
    s.clk ≤ s.boot.stageAt + msTicks 100 → ∃ t, exec (.debugTokenReceived b) s = .next t ∧
    t.boot.debug = tokenOk b s ∧ t.boot.debugDecided = true ∧ t.boot.stage = 0 ∧ t.keys = s.keys) ∧
  (∀ s r u, s.boot.phase = .running → s.boot.passed8 = false → warned s = false →
    (s.boot.stage = 0 → s.boot.journal.recovery ≠ 1) → s.boot.stage < 8 → stageWork r s = .done u → u.boot.stage = s.boot.stage →
    ∃ t, exec (.stageComplete r) s = .next t ∧ t.boot.stage = s.boot.stage + 1 ∧ t.boot.stageAt = u.clk ∧
      t.boot.journal.failRun = u.boot.journal.failRun.set s.boot.stage 0 ∧
      t.boot.journal.stageReached = s.boot.stage + 1 ∧ t.led = u.led ∧ t.keys = u.keys ∧ t.store = u.store ∧ t.fw = u.fw) ∧
  (∀ s r u code, s.boot.phase = .running → s.boot.passed8 = false → warned s = false →
    (s.boot.stage = 0 → s.boot.journal.recovery ≠ 1) → s.boot.stage < 8 → stageWork r s = .fail code u →
    exec (.stageComplete r) s = .next (failStage 0x0A code u)) ∧
  (∀ s r, s.boot.phase = .running → s.boot.passed8 = false → warned s = false → s.boot.stage = 8 → s.boot.openedFirst = false →
    exec (.stageComplete r) s = .next (workS8 s)) ∧
  (∀ s code, s.boot.phase = .running → s.boot.passed8 = false → s.boot.debug = false → code / 16 = s.boot.stage →
    s.boot.journal.failRun.length = 9 → s.boot.stage ≤ 8 → ∃ t, exec (.stageFailure code) s = .next t ∧
    t.boot.phase = .held ∧ t.boot.journal.failedStage = s.boot.stage ∧ t.boot.journal.lastCode = code ∧
    (t.boot.releaseAt = s.clk + secTicks 1 ∨ t.boot.releaseAt = s.clk + secTicks 10) ∧
    (recoveryAtOnce code = true → t.boot.journal.recovery = 1) ∧ t.led.lastCommitted = s.led.lastCommitted ∧
    t.tb = Timebase.reset) ∧
  (∀ s, s.boot.phase = .running → s.boot.passed8 = false → warned s = false →
    s.boot.stageAt + msTicks (stageLimitMs s) ≤ s.clk → exec .stageLimitExpiry s = .next (failStage 0x0A 0xF0 s)) ∧
  (∀ s, s.boot.phase = .running → s.boot.stage = 0 → s.boot.journal.recovery = 1 →
    exec .recoveryEntry s = .next (enterRecovery 1 s))

/-- R415 to R421, R303, R169: the loader, campaigns, a public-key job and a relay's second reading. The loader announces itself every
second until an OFFER, searches for a link, takes an OFFER and its DATA in order, and a package that passes waits for its copy;
an offer without traffic for 60 s is given up. A campaign's round begins, its blocks go one each PACE_MS, its gap ends, and its
activation starts. The results of the last 16 jobs are kept. A feedback that disagrees a second time is a FAULT.
Log entries met: 45, 46, 54, 55, 60. -/
def Obligations.LoaderCampaignsAndJobsRun : Prop :=
  (∀ s, loaderRuns s = true → s.fw.loaderOffer = none → s.fw.loaderAnnounceDue ≤ s.clk → exec .loaderAnnounceTimer s =
    .next { s with
      out := s.out ++ [.loader 0x01 (announceBody s)]
      fw := { s.fw with loaderAnnounceDue := s.clk + secTicks 1 } }) ∧
  (∀ s, loaderRuns s = true → s.fw.loaderLink = false →
    exec (.loaderLinkSearch true) s = .next { s with fw := { s.fw with loaderLink := true } }) ∧
  (∀ s, loaderRuns s = true → s.fw.loaderLink = false → s.fw.loaderTryAt + secTicks 2 ≤ s.clk → ∃ t,
    exec (.loaderLinkSearch false) s = .next t ∧ t.fw.loaderMode = 1 - s.fw.loaderMode ∧
    t.fw.loaderPort = (if s.fw.loaderMode = 1 then 1 - s.fw.loaderPort else s.fw.loaderPort) ∧ t.fw.loaderTryAt = s.clk ∧
    t = { s with fw := t.fw }) ∧
  (∀ s e total, loaderHears e s = true → s.fw.loaderCannotStore = false → total ≤ packageMax → ∃ t,
    exec (.loaderOffer e total) s = .next t ∧ t.fw.staging = stagingNew total ∧ t.fw.loaderOffer = some (e, total) ∧
    t.fw.loaderLast = s.clk ∧ t.keys = s.keys ∧ t.led = s.led) ∧
  (∀ s e total, loaderHears e s = true → s.fw.loaderCannotStore = true → exec (.loaderOffer e total) s =
    .next { s with out := s.out ++ [.loader 0x06 (putLe 2 0x0501 ++ putLe 4 0)] }) ∧
  (∀ s e off b, loaderHears e s = true → s.fw.loaderOffer.isSome = true → b.length ≤ (if e = true then 1456 else 1024) →
    off = s.fw.staging.received → off + b.length ≤ s.fw.staging.total → s.fw.staging.state = .receiving → ∃ t,
    exec (.loaderData e off b) s = .next t ∧ t.fw.staging = s.fw.staging.write b ∧ t.fw.loaderLast = s.clk ∧ t.led = s.led) ∧
  (∀ s e total, loaderHears e s = true → s.fw.loaderCannotStore = false → packageMax < total → exec (.loaderOffer e total) s =
    .next { s with out := s.out ++ [.loader 0x04 (putLe 4 s.fw.staging.received ++ putLe 2 0x0103)] }) ∧
  (∀ s e off b, loaderHears e s = true → s.fw.loaderOffer.isSome = true → b.length ≤ (if e = true then 1456 else 1024) →
    ¬(off = s.fw.staging.received ∧ off + b.length ≤ s.fw.staging.total ∧ s.fw.staging.state = .receiving) → ∃ t, exec (.loaderData e off b) s = .next t ∧ t.fw.staging = s.fw.staging ∧
    t = { s with out := t.out, fw := { s.fw with loaderLast := s.clk } }) ∧
  (∀ s e r, loaderHears e s = true → s.fw.loaderOffer.isSome = true →
    r = verifyStaging .recovery { s with fw := { s.fw with loaderLast := s.clk } } → r.1 = 0 → ∃ t,
    exec (.loaderFinish e) s = .next t ∧ t.fw.staging.state = .pendingCopy ∧ t.led = r.2.led ∧
    t.fw.loaderResetAt = some (r.2.clk + msTicks 100)) ∧
  (∀ s e r, loaderHears e s = true → s.fw.loaderOffer.isSome = true →
    r = verifyStaging .recovery { s with fw := { s.fw with loaderLast := s.clk } } → r.1 ≠ 0 →
    exec (.loaderFinish e) s = .next { r.2 with out := r.2.out ++ [.loader 0x06 (putLe 2 r.1 ++ putLe 4 0)] }) ∧
  (∀ s, loaderRuns s = true → s.fw.loaderOffer.isSome = true → s.fw.loaderLast + secTicks 60 ≤ s.clk →
    exec .loaderOfferAbandon s = .next { s with fw := { s.fw with loaderOffer := none, loaderAnnounceDue := s.clk } }) ∧
  (∀ s n c first u, isStandby s = false → inService s = true → campaignTraffic s = true → campaignOf s n = some c →
    roundReady s c = true → first = (c.targets.filter fun t => c.phase == .starting && targetState (timerInput s) n t == 2) →
    u = onCampaign n (Campaign.begin (roundBlocks (timerInput s) c) (sleepyMissing (timerInput s) c) s.clk) (timerInput s) →
    exec (.campaignRoundStart n) s =
      .next (keepCampaign n (first.foldl (fun s t => setProgress t.1 n 3 s) u))) ∧
  (∀ s n c b rest u m, isStandby s = false → inService s = true → campaignTraffic s = true → campaignOf s n = some c →
    c.phase = .sending → c.toSend = b :: rest → c.nextBlockAt ≤ s.clk → m = .imageBlock n b (c.block s b) →
    u = c.nets.foldl (fun s net => broadcast net (ownPriority m) (floodHops s net) m s) (timerInput s) →
    exec (.campaignBlockPace n) s = .next (onCampaign n (fun c => { c with
      toSend := rest
      nextBlockAt := u.clk + msTicks c.paceMs
      phase := if rest.isEmpty then .gap else .sending
      since := if rest.isEmpty then u.clk else c.since }) u)) ∧
  (∀ s n c, isStandby s = false → inService s = true → campaignOf s n = some c → c.phase = .gap →
    c.since + secTicks c.roundGapS ≤ s.clk → exec (.campaignRoundGap n) s = .next (onCampaign n
      (fun c => { c with phase := .reading, since := s.clk, read := [] }) (timerInput s))) ∧
  (∀ s n c, isStandby s = false → inService s = true → campaignOf s n = some c → c.activating = false → c.activateAt ≠ 0 →
    s.time.unset = false → c.activateAt ≤ now s → exec (.campaignActivateAt n) s = .next (c.targets.foldl (kickActivate n)
      (keepCampaign n (onCampaign n (fun c => { c with activating := true }) (timerInput s))))) ∧
  (∀ s j, mainRuns s = true → exec (.publicKeyJobComplete j) s = .next { s with keys := { s.keys with
    jobResults := lastN 16 (s.keys.jobResults ++ [j]) } }) ∧
  (∀ s idx fb x r u w p v, isStandby s = false → sessionOf s idx = some x → getRec s idx = some r → x.disagreed = true →
    x.reqDeadline ≤ s.clk → u = timerInput s →
    w = { startWork idx (liveRec u idx r) (now u) u with was := r } → p = w.feedback fb true →
    v = (if p.2 = .disagree then (p.1.relayFault fb.control, 0x0804) else (p.1, 0)) →
    exec (.relayFeedbackRecheck idx fb) s = .next (nextWork idx x.purpose (appendExchange x
      ((relayCmdOf u (recMh idx r)).orElse fun _ => x.cmd) (recMh idx r) (if inSalvage u then v.1.salvageItems else v.1.items)
      (some v.2) (putLe 1 v.1.r.place.relay.code) [] u)))

/-- R422 to R436, Table FP.1, Table FP.4, Table FP.6: the panel. A frame start applies the writes that wait and swaps the buffers; a
blink phase sets each channel's phase; a measurement gives the READBACK, two bad ones in a row put a channel in fault and two
good ones end it; a placard update starts with phase 1, its phases follow one another with the accounts written, and after
phase 4 the target is shown; a crack loop is open after 3 open samples and intact after 10.
Log entries met: 53. -/
def Obligations.PanelRuns : Prop :=
  (∀ s back u, inService s = true → back = s.panel.writes.foldl (fun b w => w.apply s.panel.columns b) s.panel.back →
    u = s.panel.writes.foldl (fun a w => match inflightOf a w.cmd with
        | some f => completeOrWait f (mkCompletion f 0 w.epoch f.cmd.bufLen false false [] []) a
        | none => a)
      { s with panel := { s.panel with shown := back, back := back, writes := [], peak := itemVal s 0x1103 } } →
    exec .oledFrameStart s = .next (if panelDrives u = true ∧ oledOff u = false then emit (.oledFrame u.panel.shown) u else u)) ∧
  (∀ s, inService s = true → ∃ t, exec .blinkPhase s = .next t ∧ t.panel.anns = (s.panel.anns.map fun a =>
    { a with phaseOn := blinkOn s a.state }) ∧ t = { s with out := t.out, panel := { s.panel with anns := t.panel.anns } }) ∧
  (∀ s n pct mv a, s.panel.anns[n]? = some a → panelDrives s = true → ∃ t b,
    exec (.annunciatorMeasurement n pct mv) s = .next t ∧ t.panel.anns[n]? = some b ∧
    b.readback = (if a.lit = true then (if 80 ≤ pct then 1 else 2) else if 500 < mv then 0 else 3) ∧
    (b.readback < 2 → b.lastBad = 0 ∧ b.lastGood = a.lastGood + 1 ∧ (b.fault = true ↔ a.fault = true ∧ a.lastGood = 0)) ∧
    (2 ≤ b.readback → b.lastGood = 0 ∧ b.lastBad = a.lastBad + 1 ∧ (b.fault = true ↔ a.fault = true ∨ 0 < a.lastBad)) ∧
    b.state = a.state ∧ b.waiting = [] ∧ t.keys = s.keys ∧ t.meters = s.meters) ∧
  (∀ s, placardMay s = true → placardDue s.panel.placard = true → ∃ t, exec (.placardUpdateStart false []) s = .next t ∧
    t.panel.placard.state = .running ∧ t.panel.placard.phase = 1 ∧ t.panel.placard.phaseSince = s.clk ∧
    t.panel.placard.full = decide (s.panel.placard.state = .cut) ∧ t.panel.placard.accounts = s.panel.placard.accounts ∧
    t = { s with out := t.out, panel := { s.panel with placard := t.panel.placard } }) ∧
  (∀ s allBad bad, placardMay s = true → placardDue s.panel.placard = true → allBad = true ∨ bad ≠ [] →
    exec (.placardUpdateStart allBad bad) s = .next (startPlacard (accountFaults allBad bad s))) ∧
  (∀ s p, p = s.panel.placard → p.state = .running → p.phase < 4 → p.phaseSince + msTicks p.phaseMs ≤ s.clk → ∃ t,
    exec .placardPhaseEnd s = .next t ∧ t.panel.placard.accounts = p.written p.phaseMs true ∧
    t.panel.placard.phase = (if p.phase = 1 ∧ p.comp = [] then 3 else p.phase + 1) ∧ t.panel.placard.state = .running ∧
    t.panel.placard.seq = p.seq + 1 ∧ t = { s with out := t.out, panel := { s.panel with placard := t.panel.placard } }) ∧
  (∀ s p, p = s.panel.placard → p.state = .running → p.phase = 4 → p.phaseSince + msTicks p.phaseMs ≤ s.clk →
    exec .placardPhaseEnd s = .next (startPlacard (onPlacard (fun q => { q with
      accounts := p.written p.phaseMs true
      seq := p.seq + 1
      state := .idle
      phase := 0
      full := false
      shown := overlay (0xFF <<< 112) (0xFF <<< 112) p.target
      target := p.wanted
      next := none
      comp := [] }) s))) ∧
  (∀ s n isOpen, n ≤ 1 → s.keeper.supply.kprOn = true → s.keeper.supply.retain = false → s.panel.crackRun.length = 2 →
    s.panel.crackOpen.length = 2 → ∃ t k, exec (.crackSample n isOpen) s = .next t ∧
    k = (if (s.panel.crackRun.getD n (false, 0)).1 = isOpen then (s.panel.crackRun.getD n (false, 0)).2 + 1 else 1) ∧
    t.panel.crackRun.getD n (false, 0) = (isOpen, k) ∧
    t.panel.crackOpen.getD n false = (if isOpen = true ∧ 3 ≤ k then true else if isOpen = false ∧ 10 ≤ k then false
      else s.panel.crackOpen.getD n false))

/-- The block's own step: with a command at the front of the queue a step is `exec` of that command on the state with the queue's rest;
on an empty queue one edge of the 250 MHz clock passes and nothing else happens but the counts of the timebase and of the keeper's
RTC. DESIGN CHOICE (log entry 1): what an empty queue does.
Log entries met: 1. -/
def Obligations.StepTakesTheFront : Prop :=
  (∀ (c : Instr) (rest : List Instr) (s : State), s.pending = c :: rest →
    Machine.step s = exec c { s with pending := rest }) ∧
  (∀ (s : State), s.pending = [] → ∃ t, Machine.step s = .next t ∧ t.clk = s.clk + 1 ∧
    t.tb.c = (if s.boot.phase = .running then s.tb.c + 1 else s.tb.c) ∧
    t = { s with
      clk := s.clk + 1
      tb := { s.tb with c := t.tb.c }
      keeper := { s.keeper with rtc := t.keeper.rtc } } ∧
    (s.keeper.supply.kprOn = false → t.keeper.rtc = s.keeper.rtc) ∧ s.keeper.rtc ≤ t.keeper.rtc)

/-- What reset leaves, where the spec gives it: the device is BLANK with LC_COUNTER 0 (R307), the main domains are held (R394), rings,
queues and registers are at the reset values of their tables (MIN_SEVERITY 3 and TS_PPS_WIDTH 100 among them), KPR_WDT_PERIOD 10,000 ms and
KPR_DIP_MIN 0xFFFF for both rails (Table KP.7), APP_WDT_MS 2,000 (Table KP.9), the relays are held (Table KP.2), the die-to-die link
is down (R14), no epoch is open or committed (R10) and no meter is admitted. The empty queue is the model's own.
Log entries met: 6, 7. -/
def Obligations.ResetLeavesTheSpecsValues : Prop :=
  ∀ s, s = State.reset → s.pending = [] ∧ s.keys.lifecycle = .blank ∧ s.keys.lcCounter = 0 ∧ s.keys.slots = [] ∧
    s.boot.phase = .held ∧ s.boot.journal.recs = [] ∧ s.boot.journal.failedStage = 0xF ∧
    s.bar0.rings = List.replicate 16 Ring.reset ∧ s.bar0.ev = EvRing.reset ∧ s.bar0.attached = false ∧ s.bar0.linkUp = false ∧
    Ring.reset.enable = false ∧ EvRing.reset.minSeverity = 3 ∧
    s.fabric = List.replicate 128 Queue.reset ∧ Queue.reset.enable = false ∧ s.tb = Timebase.reset ∧ s.tb.widthMs = 100 ∧
    s.tb.rate = 0 ∧ s.keeper.appPeriodMs = 10000 ∧ s.keeper.appWdtMs = 2000 ∧ s.keeper.supply.dipMin = [0xFFFF, 0xFFFF] ∧
    s.keeper.supply.relayHold = true ∧ s.keeper.faultCode = 0 ∧ s.d2d.up = false ∧ s.led.epochs = [] ∧
    s.led.lastCommitted = 0 ∧ s.led.readable = [] ∧ s.led.work.recs = [] ∧ s.inflight = [] ∧ s.remotes = [] ∧ s.meters.sessions = []

/-- The block right after reset meets its invariant. -/
def Obligations.ResetIsSound : Prop := Sound State.reset

/-- R31, R56, R400: the sizes of the machine never change: from every sound state, whatever command stands at the front of the queue, or
with none, a step leaves 128 queues, 16 rings, the 128 words of the MSI-X table, nine FAIL_RUN counts and at most 2,044 journal records.
Every reset, start, take-over and stream of the pair is among these steps. -/
def Obligations.SoundStatesStaySound : Prop :=
  ∀ s t, Sound s → Machine.step s = .next t → Sound t

/-- R307, R54: whatever else a step does, it leaves the commands that wait, the fuses and the clock (time passes only on an empty queue);
the life-cycle state and LC_COUNTER move by KEY_SET_LIFECYCLE alone, LC_COUNTER then rises by one, and no step leaves DECOMMISSIONED. -/
def Obligations.OnlyItsCommandMovesTheLifeCycle : Prop :=
  ∀ s t, Sound s → Machine.step s = .next t →
    t.pending = s.pending.tail ∧ t.fuse = s.fuse ∧ (s.pending ≠ [] → t.clk = s.clk) ∧
    ((∀ c rest, s.pending ≠ .keySetLifecycle c :: rest) → t.keys.lifecycle = s.keys.lifecycle ∧ t.keys.lcCounter = s.keys.lcCounter) ∧
    (t.keys.lifecycle ≠ s.keys.lifecycle → t.keys.lcCounter = s.keys.lcCounter + 1) ∧
    (s.keys.lifecycle = .decommissioned → t.keys.lifecycle = .decommissioned)
end

