-- ==== Sys2Proof/Laws/State.lean ====
section
/-! SUPPORT. One law per field of State and update: what it writes, and that every other field stands. -/

namespace Sys2Proof.Machine

variable (s : State)

@[simp] theorem draw_pending : (draw s).pending = s.pending := rfl
@[simp] theorem draw_fresh : (draw s).fresh = s.fresh + 1 := rfl
@[simp] theorem draw_clk : (draw s).clk = s.clk := rfl
@[simp] theorem draw_out : (draw s).out = s.out := rfl
@[simp] theorem draw_fuse : (draw s).fuse = s.fuse := rfl
@[simp] theorem draw_bar0 : (draw s).bar0 = s.bar0 := rfl
@[simp] theorem draw_inflight : (draw s).inflight = s.inflight := rfl
@[simp] theorem draw_nextSeq : (draw s).nextSeq = s.nextSeq := rfl
@[simp] theorem draw_remotes : (draw s).remotes = s.remotes := rfl
@[simp] theorem draw_uploadSub : (draw s).uploadSub = s.uploadSub := rfl
@[simp] theorem draw_uploadHeads : (draw s).uploadHeads = s.uploadHeads := rfl
@[simp] theorem draw_fabric : (draw s).fabric = s.fabric := rfl
@[simp] theorem draw_led : (draw s).led = s.led := rfl
@[simp] theorem draw_meters : (draw s).meters = s.meters := rfl
@[simp] theorem draw_balance : (draw s).balance = s.balance := rfl
@[simp] theorem draw_met : (draw s).met = s.met := rfl
@[simp] theorem draw_zither : (draw s).zither = s.zither := rfl
@[simp] theorem draw_rf : (draw s).rf = s.rf := rfl
@[simp] theorem draw_lyre : (draw s).lyre = s.lyre := rfl
@[simp] theorem draw_tb : (draw s).tb = s.tb := rfl
@[simp] theorem draw_time : (draw s).time = s.time := rfl
@[simp] theorem draw_keys : (draw s).keys = s.keys := rfl
@[simp] theorem draw_store : (draw s).store = s.store := rfl
@[simp] theorem draw_twin : (draw s).twin = s.twin := rfl
@[simp] theorem draw_twinBuffer : (draw s).twinBuffer = s.twinBuffer := rfl
@[simp] theorem draw_keeper : (draw s).keeper = s.keeper := rfl
@[simp] theorem draw_boot : (draw s).boot = s.boot := rfl
@[simp] theorem draw_fw : (draw s).fw = s.fw := rfl
@[simp] theorem draw_panel : (draw s).panel = s.panel := rfl
@[simp] theorem draw_selfTest : (draw s).selfTest = s.selfTest := rfl
@[simp] theorem draw_counters : (draw s).counters = s.counters := rfl
@[simp] theorem draw_d2d : (draw s).d2d = s.d2d := rfl
@[simp] theorem draw_ethLinks : (draw s).ethLinks = s.ethLinks := rfl

@[simp] theorem emit_pending (o : Output) : (emit o s).pending = s.pending := rfl
@[simp] theorem emit_fresh (o : Output) : (emit o s).fresh = s.fresh := rfl
@[simp] theorem emit_clk (o : Output) : (emit o s).clk = s.clk := rfl
@[simp] theorem emit_out (o : Output) : (emit o s).out = s.out ++ [o] := rfl
@[simp] theorem emit_fuse (o : Output) : (emit o s).fuse = s.fuse := rfl
@[simp] theorem emit_bar0 (o : Output) : (emit o s).bar0 = s.bar0 := rfl
@[simp] theorem emit_inflight (o : Output) : (emit o s).inflight = s.inflight := rfl
@[simp] theorem emit_nextSeq (o : Output) : (emit o s).nextSeq = s.nextSeq := rfl
@[simp] theorem emit_remotes (o : Output) : (emit o s).remotes = s.remotes := rfl
@[simp] theorem emit_uploadSub (o : Output) : (emit o s).uploadSub = s.uploadSub := rfl
@[simp] theorem emit_uploadHeads (o : Output) : (emit o s).uploadHeads = s.uploadHeads := rfl
@[simp] theorem emit_fabric (o : Output) : (emit o s).fabric = s.fabric := rfl
@[simp] theorem emit_led (o : Output) : (emit o s).led = s.led := rfl
@[simp] theorem emit_meters (o : Output) : (emit o s).meters = s.meters := rfl
@[simp] theorem emit_balance (o : Output) : (emit o s).balance = s.balance := rfl
@[simp] theorem emit_met (o : Output) : (emit o s).met = s.met := rfl
@[simp] theorem emit_zither (o : Output) : (emit o s).zither = s.zither := rfl
@[simp] theorem emit_rf (o : Output) : (emit o s).rf = s.rf := rfl
@[simp] theorem emit_lyre (o : Output) : (emit o s).lyre = s.lyre := rfl
@[simp] theorem emit_tb (o : Output) : (emit o s).tb = s.tb := rfl
@[simp] theorem emit_time (o : Output) : (emit o s).time = s.time := rfl
@[simp] theorem emit_keys (o : Output) : (emit o s).keys = s.keys := rfl
@[simp] theorem emit_store (o : Output) : (emit o s).store = s.store := rfl
@[simp] theorem emit_twin (o : Output) : (emit o s).twin = s.twin := rfl
@[simp] theorem emit_twinBuffer (o : Output) : (emit o s).twinBuffer = s.twinBuffer := rfl
@[simp] theorem emit_keeper (o : Output) : (emit o s).keeper = s.keeper := rfl
@[simp] theorem emit_boot (o : Output) : (emit o s).boot = s.boot := rfl
@[simp] theorem emit_fw (o : Output) : (emit o s).fw = s.fw := rfl
@[simp] theorem emit_panel (o : Output) : (emit o s).panel = s.panel := rfl
@[simp] theorem emit_selfTest (o : Output) : (emit o s).selfTest = s.selfTest := rfl
@[simp] theorem emit_counters (o : Output) : (emit o s).counters = s.counters := rfl
@[simp] theorem emit_d2d (o : Output) : (emit o s).d2d = s.d2d := rfl
@[simp] theorem emit_ethLinks (o : Output) : (emit o s).ethLinks = s.ethLinks := rfl

@[simp] theorem emitAll_pending (os : List Output) : (emitAll os s).pending = s.pending := rfl
@[simp] theorem emitAll_fresh (os : List Output) : (emitAll os s).fresh = s.fresh := rfl
@[simp] theorem emitAll_clk (os : List Output) : (emitAll os s).clk = s.clk := rfl
@[simp] theorem emitAll_out (os : List Output) : (emitAll os s).out = s.out ++ os := rfl
@[simp] theorem emitAll_fuse (os : List Output) : (emitAll os s).fuse = s.fuse := rfl
@[simp] theorem emitAll_bar0 (os : List Output) : (emitAll os s).bar0 = s.bar0 := rfl
@[simp] theorem emitAll_inflight (os : List Output) : (emitAll os s).inflight = s.inflight := rfl
@[simp] theorem emitAll_nextSeq (os : List Output) : (emitAll os s).nextSeq = s.nextSeq := rfl
@[simp] theorem emitAll_remotes (os : List Output) : (emitAll os s).remotes = s.remotes := rfl
@[simp] theorem emitAll_uploadSub (os : List Output) : (emitAll os s).uploadSub = s.uploadSub := rfl
@[simp] theorem emitAll_uploadHeads (os : List Output) : (emitAll os s).uploadHeads = s.uploadHeads := rfl
@[simp] theorem emitAll_fabric (os : List Output) : (emitAll os s).fabric = s.fabric := rfl
@[simp] theorem emitAll_led (os : List Output) : (emitAll os s).led = s.led := rfl
@[simp] theorem emitAll_meters (os : List Output) : (emitAll os s).meters = s.meters := rfl
@[simp] theorem emitAll_balance (os : List Output) : (emitAll os s).balance = s.balance := rfl
@[simp] theorem emitAll_met (os : List Output) : (emitAll os s).met = s.met := rfl
@[simp] theorem emitAll_zither (os : List Output) : (emitAll os s).zither = s.zither := rfl
@[simp] theorem emitAll_rf (os : List Output) : (emitAll os s).rf = s.rf := rfl
@[simp] theorem emitAll_lyre (os : List Output) : (emitAll os s).lyre = s.lyre := rfl
@[simp] theorem emitAll_tb (os : List Output) : (emitAll os s).tb = s.tb := rfl
@[simp] theorem emitAll_time (os : List Output) : (emitAll os s).time = s.time := rfl
@[simp] theorem emitAll_keys (os : List Output) : (emitAll os s).keys = s.keys := rfl
@[simp] theorem emitAll_store (os : List Output) : (emitAll os s).store = s.store := rfl
@[simp] theorem emitAll_twin (os : List Output) : (emitAll os s).twin = s.twin := rfl
@[simp] theorem emitAll_twinBuffer (os : List Output) : (emitAll os s).twinBuffer = s.twinBuffer := rfl
@[simp] theorem emitAll_keeper (os : List Output) : (emitAll os s).keeper = s.keeper := rfl
@[simp] theorem emitAll_boot (os : List Output) : (emitAll os s).boot = s.boot := rfl
@[simp] theorem emitAll_fw (os : List Output) : (emitAll os s).fw = s.fw := rfl
@[simp] theorem emitAll_panel (os : List Output) : (emitAll os s).panel = s.panel := rfl
@[simp] theorem emitAll_selfTest (os : List Output) : (emitAll os s).selfTest = s.selfTest := rfl
@[simp] theorem emitAll_counters (os : List Output) : (emitAll os s).counters = s.counters := rfl
@[simp] theorem emitAll_d2d (os : List Output) : (emitAll os s).d2d = s.d2d := rfl
@[simp] theorem emitAll_ethLinks (os : List Output) : (emitAll os s).ethLinks = s.ethLinks := rfl

@[simp] theorem onLed_pending (f : Ledger → Ledger) : (onLed f s).pending = s.pending := rfl
@[simp] theorem onLed_fresh (f : Ledger → Ledger) : (onLed f s).fresh = s.fresh := rfl
@[simp] theorem onLed_clk (f : Ledger → Ledger) : (onLed f s).clk = s.clk := rfl
@[simp] theorem onLed_out (f : Ledger → Ledger) : (onLed f s).out = s.out := rfl
@[simp] theorem onLed_fuse (f : Ledger → Ledger) : (onLed f s).fuse = s.fuse := rfl
@[simp] theorem onLed_bar0 (f : Ledger → Ledger) : (onLed f s).bar0 = s.bar0 := rfl
@[simp] theorem onLed_inflight (f : Ledger → Ledger) : (onLed f s).inflight = s.inflight := rfl
@[simp] theorem onLed_nextSeq (f : Ledger → Ledger) : (onLed f s).nextSeq = s.nextSeq := rfl
@[simp] theorem onLed_remotes (f : Ledger → Ledger) : (onLed f s).remotes = s.remotes := rfl
@[simp] theorem onLed_uploadSub (f : Ledger → Ledger) : (onLed f s).uploadSub = s.uploadSub := rfl
@[simp] theorem onLed_uploadHeads (f : Ledger → Ledger) : (onLed f s).uploadHeads = s.uploadHeads := rfl
@[simp] theorem onLed_fabric (f : Ledger → Ledger) : (onLed f s).fabric = s.fabric := rfl
@[simp] theorem onLed_led (f : Ledger → Ledger) : (onLed f s).led = f s.led := rfl
@[simp] theorem onLed_meters (f : Ledger → Ledger) : (onLed f s).meters = s.meters := rfl
@[simp] theorem onLed_balance (f : Ledger → Ledger) : (onLed f s).balance = s.balance := rfl
@[simp] theorem onLed_met (f : Ledger → Ledger) : (onLed f s).met = s.met := rfl
@[simp] theorem onLed_zither (f : Ledger → Ledger) : (onLed f s).zither = s.zither := rfl
@[simp] theorem onLed_rf (f : Ledger → Ledger) : (onLed f s).rf = s.rf := rfl
@[simp] theorem onLed_lyre (f : Ledger → Ledger) : (onLed f s).lyre = s.lyre := rfl
@[simp] theorem onLed_tb (f : Ledger → Ledger) : (onLed f s).tb = s.tb := rfl
@[simp] theorem onLed_time (f : Ledger → Ledger) : (onLed f s).time = s.time := rfl
@[simp] theorem onLed_keys (f : Ledger → Ledger) : (onLed f s).keys = s.keys := rfl
@[simp] theorem onLed_store (f : Ledger → Ledger) : (onLed f s).store = s.store := rfl
@[simp] theorem onLed_twin (f : Ledger → Ledger) : (onLed f s).twin = s.twin := rfl
@[simp] theorem onLed_twinBuffer (f : Ledger → Ledger) : (onLed f s).twinBuffer = s.twinBuffer := rfl
@[simp] theorem onLed_keeper (f : Ledger → Ledger) : (onLed f s).keeper = s.keeper := rfl
@[simp] theorem onLed_boot (f : Ledger → Ledger) : (onLed f s).boot = s.boot := rfl
@[simp] theorem onLed_fw (f : Ledger → Ledger) : (onLed f s).fw = s.fw := rfl
@[simp] theorem onLed_panel (f : Ledger → Ledger) : (onLed f s).panel = s.panel := rfl
@[simp] theorem onLed_selfTest (f : Ledger → Ledger) : (onLed f s).selfTest = s.selfTest := rfl
@[simp] theorem onLed_counters (f : Ledger → Ledger) : (onLed f s).counters = s.counters := rfl
@[simp] theorem onLed_d2d (f : Ledger → Ledger) : (onLed f s).d2d = s.d2d := rfl
@[simp] theorem onLed_ethLinks (f : Ledger → Ledger) : (onLed f s).ethLinks = s.ethLinks := rfl

@[simp] theorem onEpoch_pending (n : Nat) (f : Epoch → Epoch) : (onEpoch n f s).pending = s.pending := rfl
@[simp] theorem onEpoch_fresh (n : Nat) (f : Epoch → Epoch) : (onEpoch n f s).fresh = s.fresh := rfl
@[simp] theorem onEpoch_clk (n : Nat) (f : Epoch → Epoch) : (onEpoch n f s).clk = s.clk := rfl
@[simp] theorem onEpoch_out (n : Nat) (f : Epoch → Epoch) : (onEpoch n f s).out = s.out := rfl
@[simp] theorem onEpoch_fuse (n : Nat) (f : Epoch → Epoch) : (onEpoch n f s).fuse = s.fuse := rfl
@[simp] theorem onEpoch_bar0 (n : Nat) (f : Epoch → Epoch) : (onEpoch n f s).bar0 = s.bar0 := rfl
@[simp] theorem onEpoch_inflight (n : Nat) (f : Epoch → Epoch) : (onEpoch n f s).inflight = s.inflight := rfl
@[simp] theorem onEpoch_nextSeq (n : Nat) (f : Epoch → Epoch) : (onEpoch n f s).nextSeq = s.nextSeq := rfl
@[simp] theorem onEpoch_remotes (n : Nat) (f : Epoch → Epoch) : (onEpoch n f s).remotes = s.remotes := rfl
@[simp] theorem onEpoch_uploadSub (n : Nat) (f : Epoch → Epoch) : (onEpoch n f s).uploadSub = s.uploadSub := rfl
@[simp] theorem onEpoch_uploadHeads (n : Nat) (f : Epoch → Epoch) : (onEpoch n f s).uploadHeads = s.uploadHeads := rfl
@[simp] theorem onEpoch_fabric (n : Nat) (f : Epoch → Epoch) : (onEpoch n f s).fabric = s.fabric := rfl
@[simp] theorem onEpoch_led (n : Nat) (f : Epoch → Epoch) : (onEpoch n f s).led = { s.led with epochs := modifyFirst (fun e => e.num == n) f s.led.epochs } := rfl
@[simp] theorem onEpoch_meters (n : Nat) (f : Epoch → Epoch) : (onEpoch n f s).meters = s.meters := rfl
@[simp] theorem onEpoch_balance (n : Nat) (f : Epoch → Epoch) : (onEpoch n f s).balance = s.balance := rfl
@[simp] theorem onEpoch_met (n : Nat) (f : Epoch → Epoch) : (onEpoch n f s).met = s.met := rfl
@[simp] theorem onEpoch_zither (n : Nat) (f : Epoch → Epoch) : (onEpoch n f s).zither = s.zither := rfl
@[simp] theorem onEpoch_rf (n : Nat) (f : Epoch → Epoch) : (onEpoch n f s).rf = s.rf := rfl
@[simp] theorem onEpoch_lyre (n : Nat) (f : Epoch → Epoch) : (onEpoch n f s).lyre = s.lyre := rfl
@[simp] theorem onEpoch_tb (n : Nat) (f : Epoch → Epoch) : (onEpoch n f s).tb = s.tb := rfl
@[simp] theorem onEpoch_time (n : Nat) (f : Epoch → Epoch) : (onEpoch n f s).time = s.time := rfl
@[simp] theorem onEpoch_keys (n : Nat) (f : Epoch → Epoch) : (onEpoch n f s).keys = s.keys := rfl
@[simp] theorem onEpoch_store (n : Nat) (f : Epoch → Epoch) : (onEpoch n f s).store = s.store := rfl
@[simp] theorem onEpoch_twin (n : Nat) (f : Epoch → Epoch) : (onEpoch n f s).twin = s.twin := rfl
@[simp] theorem onEpoch_twinBuffer (n : Nat) (f : Epoch → Epoch) : (onEpoch n f s).twinBuffer = s.twinBuffer := rfl
@[simp] theorem onEpoch_keeper (n : Nat) (f : Epoch → Epoch) : (onEpoch n f s).keeper = s.keeper := rfl
@[simp] theorem onEpoch_boot (n : Nat) (f : Epoch → Epoch) : (onEpoch n f s).boot = s.boot := rfl
@[simp] theorem onEpoch_fw (n : Nat) (f : Epoch → Epoch) : (onEpoch n f s).fw = s.fw := rfl
@[simp] theorem onEpoch_panel (n : Nat) (f : Epoch → Epoch) : (onEpoch n f s).panel = s.panel := rfl
@[simp] theorem onEpoch_selfTest (n : Nat) (f : Epoch → Epoch) : (onEpoch n f s).selfTest = s.selfTest := rfl
@[simp] theorem onEpoch_counters (n : Nat) (f : Epoch → Epoch) : (onEpoch n f s).counters = s.counters := rfl
@[simp] theorem onEpoch_d2d (n : Nat) (f : Epoch → Epoch) : (onEpoch n f s).d2d = s.d2d := rfl
@[simp] theorem onEpoch_ethLinks (n : Nat) (f : Epoch → Epoch) : (onEpoch n f s).ethLinks = s.ethLinks := rfl

@[simp] theorem onOpen_pending (f : Epoch → Epoch) : (onOpen f s).pending = s.pending := rfl
@[simp] theorem onOpen_fresh (f : Epoch → Epoch) : (onOpen f s).fresh = s.fresh := rfl
@[simp] theorem onOpen_clk (f : Epoch → Epoch) : (onOpen f s).clk = s.clk := rfl
@[simp] theorem onOpen_out (f : Epoch → Epoch) : (onOpen f s).out = s.out := rfl
@[simp] theorem onOpen_fuse (f : Epoch → Epoch) : (onOpen f s).fuse = s.fuse := rfl
@[simp] theorem onOpen_bar0 (f : Epoch → Epoch) : (onOpen f s).bar0 = s.bar0 := rfl
@[simp] theorem onOpen_inflight (f : Epoch → Epoch) : (onOpen f s).inflight = s.inflight := rfl
@[simp] theorem onOpen_nextSeq (f : Epoch → Epoch) : (onOpen f s).nextSeq = s.nextSeq := rfl
@[simp] theorem onOpen_remotes (f : Epoch → Epoch) : (onOpen f s).remotes = s.remotes := rfl
@[simp] theorem onOpen_uploadSub (f : Epoch → Epoch) : (onOpen f s).uploadSub = s.uploadSub := rfl
@[simp] theorem onOpen_uploadHeads (f : Epoch → Epoch) : (onOpen f s).uploadHeads = s.uploadHeads := rfl
@[simp] theorem onOpen_fabric (f : Epoch → Epoch) : (onOpen f s).fabric = s.fabric := rfl
@[simp] theorem onOpen_led (f : Epoch → Epoch) : (onOpen f s).led = { s.led with epochs := modifyFirst (fun e => e.state == .opened) f s.led.epochs } := rfl
@[simp] theorem onOpen_meters (f : Epoch → Epoch) : (onOpen f s).meters = s.meters := rfl
@[simp] theorem onOpen_balance (f : Epoch → Epoch) : (onOpen f s).balance = s.balance := rfl
@[simp] theorem onOpen_met (f : Epoch → Epoch) : (onOpen f s).met = s.met := rfl
@[simp] theorem onOpen_zither (f : Epoch → Epoch) : (onOpen f s).zither = s.zither := rfl
@[simp] theorem onOpen_rf (f : Epoch → Epoch) : (onOpen f s).rf = s.rf := rfl
@[simp] theorem onOpen_lyre (f : Epoch → Epoch) : (onOpen f s).lyre = s.lyre := rfl
@[simp] theorem onOpen_tb (f : Epoch → Epoch) : (onOpen f s).tb = s.tb := rfl
@[simp] theorem onOpen_time (f : Epoch → Epoch) : (onOpen f s).time = s.time := rfl
@[simp] theorem onOpen_keys (f : Epoch → Epoch) : (onOpen f s).keys = s.keys := rfl
@[simp] theorem onOpen_store (f : Epoch → Epoch) : (onOpen f s).store = s.store := rfl
@[simp] theorem onOpen_twin (f : Epoch → Epoch) : (onOpen f s).twin = s.twin := rfl
@[simp] theorem onOpen_twinBuffer (f : Epoch → Epoch) : (onOpen f s).twinBuffer = s.twinBuffer := rfl
@[simp] theorem onOpen_keeper (f : Epoch → Epoch) : (onOpen f s).keeper = s.keeper := rfl
@[simp] theorem onOpen_boot (f : Epoch → Epoch) : (onOpen f s).boot = s.boot := rfl
@[simp] theorem onOpen_fw (f : Epoch → Epoch) : (onOpen f s).fw = s.fw := rfl
@[simp] theorem onOpen_panel (f : Epoch → Epoch) : (onOpen f s).panel = s.panel := rfl
@[simp] theorem onOpen_selfTest (f : Epoch → Epoch) : (onOpen f s).selfTest = s.selfTest := rfl
@[simp] theorem onOpen_counters (f : Epoch → Epoch) : (onOpen f s).counters = s.counters := rfl
@[simp] theorem onOpen_d2d (f : Epoch → Epoch) : (onOpen f s).d2d = s.d2d := rfl
@[simp] theorem onOpen_ethLinks (f : Epoch → Epoch) : (onOpen f s).ethLinks = s.ethLinks := rfl

@[simp] theorem onRing_pending (n : Nat) (f : Ring → Ring) : (onRing n f s).pending = s.pending := rfl
@[simp] theorem onRing_fresh (n : Nat) (f : Ring → Ring) : (onRing n f s).fresh = s.fresh := rfl
@[simp] theorem onRing_clk (n : Nat) (f : Ring → Ring) : (onRing n f s).clk = s.clk := rfl
@[simp] theorem onRing_out (n : Nat) (f : Ring → Ring) : (onRing n f s).out = s.out := rfl
@[simp] theorem onRing_fuse (n : Nat) (f : Ring → Ring) : (onRing n f s).fuse = s.fuse := rfl
@[simp] theorem onRing_bar0 (n : Nat) (f : Ring → Ring) : (onRing n f s).bar0 = { s.bar0 with rings := s.bar0.rings.modify n f } := rfl
@[simp] theorem onRing_inflight (n : Nat) (f : Ring → Ring) : (onRing n f s).inflight = s.inflight := rfl
@[simp] theorem onRing_nextSeq (n : Nat) (f : Ring → Ring) : (onRing n f s).nextSeq = s.nextSeq := rfl
@[simp] theorem onRing_remotes (n : Nat) (f : Ring → Ring) : (onRing n f s).remotes = s.remotes := rfl
@[simp] theorem onRing_uploadSub (n : Nat) (f : Ring → Ring) : (onRing n f s).uploadSub = s.uploadSub := rfl
@[simp] theorem onRing_uploadHeads (n : Nat) (f : Ring → Ring) : (onRing n f s).uploadHeads = s.uploadHeads := rfl
@[simp] theorem onRing_fabric (n : Nat) (f : Ring → Ring) : (onRing n f s).fabric = s.fabric := rfl
@[simp] theorem onRing_led (n : Nat) (f : Ring → Ring) : (onRing n f s).led = s.led := rfl
@[simp] theorem onRing_meters (n : Nat) (f : Ring → Ring) : (onRing n f s).meters = s.meters := rfl
@[simp] theorem onRing_balance (n : Nat) (f : Ring → Ring) : (onRing n f s).balance = s.balance := rfl
@[simp] theorem onRing_met (n : Nat) (f : Ring → Ring) : (onRing n f s).met = s.met := rfl
@[simp] theorem onRing_zither (n : Nat) (f : Ring → Ring) : (onRing n f s).zither = s.zither := rfl
@[simp] theorem onRing_rf (n : Nat) (f : Ring → Ring) : (onRing n f s).rf = s.rf := rfl
@[simp] theorem onRing_lyre (n : Nat) (f : Ring → Ring) : (onRing n f s).lyre = s.lyre := rfl
@[simp] theorem onRing_tb (n : Nat) (f : Ring → Ring) : (onRing n f s).tb = s.tb := rfl
@[simp] theorem onRing_time (n : Nat) (f : Ring → Ring) : (onRing n f s).time = s.time := rfl
@[simp] theorem onRing_keys (n : Nat) (f : Ring → Ring) : (onRing n f s).keys = s.keys := rfl
@[simp] theorem onRing_store (n : Nat) (f : Ring → Ring) : (onRing n f s).store = s.store := rfl
@[simp] theorem onRing_twin (n : Nat) (f : Ring → Ring) : (onRing n f s).twin = s.twin := rfl
@[simp] theorem onRing_twinBuffer (n : Nat) (f : Ring → Ring) : (onRing n f s).twinBuffer = s.twinBuffer := rfl
@[simp] theorem onRing_keeper (n : Nat) (f : Ring → Ring) : (onRing n f s).keeper = s.keeper := rfl
@[simp] theorem onRing_boot (n : Nat) (f : Ring → Ring) : (onRing n f s).boot = s.boot := rfl
@[simp] theorem onRing_fw (n : Nat) (f : Ring → Ring) : (onRing n f s).fw = s.fw := rfl
@[simp] theorem onRing_panel (n : Nat) (f : Ring → Ring) : (onRing n f s).panel = s.panel := rfl
@[simp] theorem onRing_selfTest (n : Nat) (f : Ring → Ring) : (onRing n f s).selfTest = s.selfTest := rfl
@[simp] theorem onRing_counters (n : Nat) (f : Ring → Ring) : (onRing n f s).counters = s.counters := rfl
@[simp] theorem onRing_d2d (n : Nat) (f : Ring → Ring) : (onRing n f s).d2d = s.d2d := rfl
@[simp] theorem onRing_ethLinks (n : Nat) (f : Ring → Ring) : (onRing n f s).ethLinks = s.ethLinks := rfl

@[simp] theorem onQueue_pending (n : Nat) (f : Queue → Queue) : (onQueue n f s).pending = s.pending := rfl
@[simp] theorem onQueue_fresh (n : Nat) (f : Queue → Queue) : (onQueue n f s).fresh = s.fresh := rfl
@[simp] theorem onQueue_clk (n : Nat) (f : Queue → Queue) : (onQueue n f s).clk = s.clk := rfl
@[simp] theorem onQueue_out (n : Nat) (f : Queue → Queue) : (onQueue n f s).out = s.out := rfl
@[simp] theorem onQueue_fuse (n : Nat) (f : Queue → Queue) : (onQueue n f s).fuse = s.fuse := rfl
@[simp] theorem onQueue_bar0 (n : Nat) (f : Queue → Queue) : (onQueue n f s).bar0 = s.bar0 := rfl
@[simp] theorem onQueue_inflight (n : Nat) (f : Queue → Queue) : (onQueue n f s).inflight = s.inflight := rfl
@[simp] theorem onQueue_nextSeq (n : Nat) (f : Queue → Queue) : (onQueue n f s).nextSeq = s.nextSeq := rfl
@[simp] theorem onQueue_remotes (n : Nat) (f : Queue → Queue) : (onQueue n f s).remotes = s.remotes := rfl
@[simp] theorem onQueue_uploadSub (n : Nat) (f : Queue → Queue) : (onQueue n f s).uploadSub = s.uploadSub := rfl
@[simp] theorem onQueue_uploadHeads (n : Nat) (f : Queue → Queue) : (onQueue n f s).uploadHeads = s.uploadHeads := rfl
@[simp] theorem onQueue_fabric (n : Nat) (f : Queue → Queue) : (onQueue n f s).fabric = s.fabric.modify n f := rfl
@[simp] theorem onQueue_led (n : Nat) (f : Queue → Queue) : (onQueue n f s).led = s.led := rfl
@[simp] theorem onQueue_meters (n : Nat) (f : Queue → Queue) : (onQueue n f s).meters = s.meters := rfl
@[simp] theorem onQueue_balance (n : Nat) (f : Queue → Queue) : (onQueue n f s).balance = s.balance := rfl
@[simp] theorem onQueue_met (n : Nat) (f : Queue → Queue) : (onQueue n f s).met = s.met := rfl
@[simp] theorem onQueue_zither (n : Nat) (f : Queue → Queue) : (onQueue n f s).zither = s.zither := rfl
@[simp] theorem onQueue_rf (n : Nat) (f : Queue → Queue) : (onQueue n f s).rf = s.rf := rfl
@[simp] theorem onQueue_lyre (n : Nat) (f : Queue → Queue) : (onQueue n f s).lyre = s.lyre := rfl
@[simp] theorem onQueue_tb (n : Nat) (f : Queue → Queue) : (onQueue n f s).tb = s.tb := rfl
@[simp] theorem onQueue_time (n : Nat) (f : Queue → Queue) : (onQueue n f s).time = s.time := rfl
@[simp] theorem onQueue_keys (n : Nat) (f : Queue → Queue) : (onQueue n f s).keys = s.keys := rfl
@[simp] theorem onQueue_store (n : Nat) (f : Queue → Queue) : (onQueue n f s).store = s.store := rfl
@[simp] theorem onQueue_twin (n : Nat) (f : Queue → Queue) : (onQueue n f s).twin = s.twin := rfl
@[simp] theorem onQueue_twinBuffer (n : Nat) (f : Queue → Queue) : (onQueue n f s).twinBuffer = s.twinBuffer := rfl
@[simp] theorem onQueue_keeper (n : Nat) (f : Queue → Queue) : (onQueue n f s).keeper = s.keeper := rfl
@[simp] theorem onQueue_boot (n : Nat) (f : Queue → Queue) : (onQueue n f s).boot = s.boot := rfl
@[simp] theorem onQueue_fw (n : Nat) (f : Queue → Queue) : (onQueue n f s).fw = s.fw := rfl
@[simp] theorem onQueue_panel (n : Nat) (f : Queue → Queue) : (onQueue n f s).panel = s.panel := rfl
@[simp] theorem onQueue_selfTest (n : Nat) (f : Queue → Queue) : (onQueue n f s).selfTest = s.selfTest := rfl
@[simp] theorem onQueue_counters (n : Nat) (f : Queue → Queue) : (onQueue n f s).counters = s.counters := rfl
@[simp] theorem onQueue_d2d (n : Nat) (f : Queue → Queue) : (onQueue n f s).d2d = s.d2d := rfl
@[simp] theorem onQueue_ethLinks (n : Nat) (f : Queue → Queue) : (onQueue n f s).ethLinks = s.ethLinks := rfl

@[simp] theorem onMet_pending (f : Metrology → Metrology) : (onMet f s).pending = s.pending := rfl
@[simp] theorem onMet_fresh (f : Metrology → Metrology) : (onMet f s).fresh = s.fresh := rfl
@[simp] theorem onMet_clk (f : Metrology → Metrology) : (onMet f s).clk = s.clk := rfl
@[simp] theorem onMet_out (f : Metrology → Metrology) : (onMet f s).out = s.out := rfl
@[simp] theorem onMet_fuse (f : Metrology → Metrology) : (onMet f s).fuse = s.fuse := rfl
@[simp] theorem onMet_bar0 (f : Metrology → Metrology) : (onMet f s).bar0 = s.bar0 := rfl
@[simp] theorem onMet_inflight (f : Metrology → Metrology) : (onMet f s).inflight = s.inflight := rfl
@[simp] theorem onMet_nextSeq (f : Metrology → Metrology) : (onMet f s).nextSeq = s.nextSeq := rfl
@[simp] theorem onMet_remotes (f : Metrology → Metrology) : (onMet f s).remotes = s.remotes := rfl
@[simp] theorem onMet_uploadSub (f : Metrology → Metrology) : (onMet f s).uploadSub = s.uploadSub := rfl
@[simp] theorem onMet_uploadHeads (f : Metrology → Metrology) : (onMet f s).uploadHeads = s.uploadHeads := rfl
@[simp] theorem onMet_fabric (f : Metrology → Metrology) : (onMet f s).fabric = s.fabric := rfl
@[simp] theorem onMet_led (f : Metrology → Metrology) : (onMet f s).led = s.led := rfl
@[simp] theorem onMet_meters (f : Metrology → Metrology) : (onMet f s).meters = s.meters := rfl
@[simp] theorem onMet_balance (f : Metrology → Metrology) : (onMet f s).balance = s.balance := rfl
@[simp] theorem onMet_met (f : Metrology → Metrology) : (onMet f s).met = f s.met := rfl
@[simp] theorem onMet_zither (f : Metrology → Metrology) : (onMet f s).zither = s.zither := rfl
@[simp] theorem onMet_rf (f : Metrology → Metrology) : (onMet f s).rf = s.rf := rfl
@[simp] theorem onMet_lyre (f : Metrology → Metrology) : (onMet f s).lyre = s.lyre := rfl
@[simp] theorem onMet_tb (f : Metrology → Metrology) : (onMet f s).tb = s.tb := rfl
@[simp] theorem onMet_time (f : Metrology → Metrology) : (onMet f s).time = s.time := rfl
@[simp] theorem onMet_keys (f : Metrology → Metrology) : (onMet f s).keys = s.keys := rfl
@[simp] theorem onMet_store (f : Metrology → Metrology) : (onMet f s).store = s.store := rfl
@[simp] theorem onMet_twin (f : Metrology → Metrology) : (onMet f s).twin = s.twin := rfl
@[simp] theorem onMet_twinBuffer (f : Metrology → Metrology) : (onMet f s).twinBuffer = s.twinBuffer := rfl
@[simp] theorem onMet_keeper (f : Metrology → Metrology) : (onMet f s).keeper = s.keeper := rfl
@[simp] theorem onMet_boot (f : Metrology → Metrology) : (onMet f s).boot = s.boot := rfl
@[simp] theorem onMet_fw (f : Metrology → Metrology) : (onMet f s).fw = s.fw := rfl
@[simp] theorem onMet_panel (f : Metrology → Metrology) : (onMet f s).panel = s.panel := rfl
@[simp] theorem onMet_selfTest (f : Metrology → Metrology) : (onMet f s).selfTest = s.selfTest := rfl
@[simp] theorem onMet_counters (f : Metrology → Metrology) : (onMet f s).counters = s.counters := rfl
@[simp] theorem onMet_d2d (f : Metrology → Metrology) : (onMet f s).d2d = s.d2d := rfl
@[simp] theorem onMet_ethLinks (f : Metrology → Metrology) : (onMet f s).ethLinks = s.ethLinks := rfl

@[simp] theorem onTime_pending (f : TimeRun → TimeRun) : (onTime f s).pending = s.pending := rfl
@[simp] theorem onTime_fresh (f : TimeRun → TimeRun) : (onTime f s).fresh = s.fresh := rfl
@[simp] theorem onTime_clk (f : TimeRun → TimeRun) : (onTime f s).clk = s.clk := rfl
@[simp] theorem onTime_out (f : TimeRun → TimeRun) : (onTime f s).out = s.out := rfl
@[simp] theorem onTime_fuse (f : TimeRun → TimeRun) : (onTime f s).fuse = s.fuse := rfl
@[simp] theorem onTime_bar0 (f : TimeRun → TimeRun) : (onTime f s).bar0 = s.bar0 := rfl
@[simp] theorem onTime_inflight (f : TimeRun → TimeRun) : (onTime f s).inflight = s.inflight := rfl
@[simp] theorem onTime_nextSeq (f : TimeRun → TimeRun) : (onTime f s).nextSeq = s.nextSeq := rfl
@[simp] theorem onTime_remotes (f : TimeRun → TimeRun) : (onTime f s).remotes = s.remotes := rfl
@[simp] theorem onTime_uploadSub (f : TimeRun → TimeRun) : (onTime f s).uploadSub = s.uploadSub := rfl
@[simp] theorem onTime_uploadHeads (f : TimeRun → TimeRun) : (onTime f s).uploadHeads = s.uploadHeads := rfl
@[simp] theorem onTime_fabric (f : TimeRun → TimeRun) : (onTime f s).fabric = s.fabric := rfl
@[simp] theorem onTime_led (f : TimeRun → TimeRun) : (onTime f s).led = s.led := rfl
@[simp] theorem onTime_meters (f : TimeRun → TimeRun) : (onTime f s).meters = s.meters := rfl
@[simp] theorem onTime_balance (f : TimeRun → TimeRun) : (onTime f s).balance = s.balance := rfl
@[simp] theorem onTime_met (f : TimeRun → TimeRun) : (onTime f s).met = s.met := rfl
@[simp] theorem onTime_zither (f : TimeRun → TimeRun) : (onTime f s).zither = s.zither := rfl
@[simp] theorem onTime_rf (f : TimeRun → TimeRun) : (onTime f s).rf = s.rf := rfl
@[simp] theorem onTime_lyre (f : TimeRun → TimeRun) : (onTime f s).lyre = s.lyre := rfl
@[simp] theorem onTime_tb (f : TimeRun → TimeRun) : (onTime f s).tb = s.tb := rfl
@[simp] theorem onTime_time (f : TimeRun → TimeRun) : (onTime f s).time = f s.time := rfl
@[simp] theorem onTime_keys (f : TimeRun → TimeRun) : (onTime f s).keys = s.keys := rfl
@[simp] theorem onTime_store (f : TimeRun → TimeRun) : (onTime f s).store = s.store := rfl
@[simp] theorem onTime_twin (f : TimeRun → TimeRun) : (onTime f s).twin = s.twin := rfl
@[simp] theorem onTime_twinBuffer (f : TimeRun → TimeRun) : (onTime f s).twinBuffer = s.twinBuffer := rfl
@[simp] theorem onTime_keeper (f : TimeRun → TimeRun) : (onTime f s).keeper = s.keeper := rfl
@[simp] theorem onTime_boot (f : TimeRun → TimeRun) : (onTime f s).boot = s.boot := rfl
@[simp] theorem onTime_fw (f : TimeRun → TimeRun) : (onTime f s).fw = s.fw := rfl
@[simp] theorem onTime_panel (f : TimeRun → TimeRun) : (onTime f s).panel = s.panel := rfl
@[simp] theorem onTime_selfTest (f : TimeRun → TimeRun) : (onTime f s).selfTest = s.selfTest := rfl
@[simp] theorem onTime_counters (f : TimeRun → TimeRun) : (onTime f s).counters = s.counters := rfl
@[simp] theorem onTime_d2d (f : TimeRun → TimeRun) : (onTime f s).d2d = s.d2d := rfl
@[simp] theorem onTime_ethLinks (f : TimeRun → TimeRun) : (onTime f s).ethLinks = s.ethLinks := rfl

@[simp] theorem onTwin_pending (f : Twin → Twin) : (onTwin f s).pending = s.pending := rfl
@[simp] theorem onTwin_fresh (f : Twin → Twin) : (onTwin f s).fresh = s.fresh := rfl
@[simp] theorem onTwin_clk (f : Twin → Twin) : (onTwin f s).clk = s.clk := rfl
@[simp] theorem onTwin_out (f : Twin → Twin) : (onTwin f s).out = s.out := rfl
@[simp] theorem onTwin_fuse (f : Twin → Twin) : (onTwin f s).fuse = s.fuse := rfl
@[simp] theorem onTwin_bar0 (f : Twin → Twin) : (onTwin f s).bar0 = s.bar0 := rfl
@[simp] theorem onTwin_inflight (f : Twin → Twin) : (onTwin f s).inflight = s.inflight := rfl
@[simp] theorem onTwin_nextSeq (f : Twin → Twin) : (onTwin f s).nextSeq = s.nextSeq := rfl
@[simp] theorem onTwin_remotes (f : Twin → Twin) : (onTwin f s).remotes = s.remotes := rfl
@[simp] theorem onTwin_uploadSub (f : Twin → Twin) : (onTwin f s).uploadSub = s.uploadSub := rfl
@[simp] theorem onTwin_uploadHeads (f : Twin → Twin) : (onTwin f s).uploadHeads = s.uploadHeads := rfl
@[simp] theorem onTwin_fabric (f : Twin → Twin) : (onTwin f s).fabric = s.fabric := rfl
@[simp] theorem onTwin_led (f : Twin → Twin) : (onTwin f s).led = s.led := rfl
@[simp] theorem onTwin_meters (f : Twin → Twin) : (onTwin f s).meters = s.meters := rfl
@[simp] theorem onTwin_balance (f : Twin → Twin) : (onTwin f s).balance = s.balance := rfl
@[simp] theorem onTwin_met (f : Twin → Twin) : (onTwin f s).met = s.met := rfl
@[simp] theorem onTwin_zither (f : Twin → Twin) : (onTwin f s).zither = s.zither := rfl
@[simp] theorem onTwin_rf (f : Twin → Twin) : (onTwin f s).rf = s.rf := rfl
@[simp] theorem onTwin_lyre (f : Twin → Twin) : (onTwin f s).lyre = s.lyre := rfl
@[simp] theorem onTwin_tb (f : Twin → Twin) : (onTwin f s).tb = s.tb := rfl
@[simp] theorem onTwin_time (f : Twin → Twin) : (onTwin f s).time = s.time := rfl
@[simp] theorem onTwin_keys (f : Twin → Twin) : (onTwin f s).keys = s.keys := rfl
@[simp] theorem onTwin_store (f : Twin → Twin) : (onTwin f s).store = s.store := rfl
@[simp] theorem onTwin_twin (f : Twin → Twin) : (onTwin f s).twin = f s.twin := rfl
@[simp] theorem onTwin_twinBuffer (f : Twin → Twin) : (onTwin f s).twinBuffer = s.twinBuffer := rfl
@[simp] theorem onTwin_keeper (f : Twin → Twin) : (onTwin f s).keeper = s.keeper := rfl
@[simp] theorem onTwin_boot (f : Twin → Twin) : (onTwin f s).boot = s.boot := rfl
@[simp] theorem onTwin_fw (f : Twin → Twin) : (onTwin f s).fw = s.fw := rfl
@[simp] theorem onTwin_panel (f : Twin → Twin) : (onTwin f s).panel = s.panel := rfl
@[simp] theorem onTwin_selfTest (f : Twin → Twin) : (onTwin f s).selfTest = s.selfTest := rfl
@[simp] theorem onTwin_counters (f : Twin → Twin) : (onTwin f s).counters = s.counters := rfl
@[simp] theorem onTwin_d2d (f : Twin → Twin) : (onTwin f s).d2d = s.d2d := rfl
@[simp] theorem onTwin_ethLinks (f : Twin → Twin) : (onTwin f s).ethLinks = s.ethLinks := rfl

@[simp] theorem onKeeper_pending (f : Keeper → Keeper) : (onKeeper f s).pending = s.pending := rfl
@[simp] theorem onKeeper_fresh (f : Keeper → Keeper) : (onKeeper f s).fresh = s.fresh := rfl
@[simp] theorem onKeeper_clk (f : Keeper → Keeper) : (onKeeper f s).clk = s.clk := rfl
@[simp] theorem onKeeper_out (f : Keeper → Keeper) : (onKeeper f s).out = s.out := rfl
@[simp] theorem onKeeper_fuse (f : Keeper → Keeper) : (onKeeper f s).fuse = s.fuse := rfl
@[simp] theorem onKeeper_bar0 (f : Keeper → Keeper) : (onKeeper f s).bar0 = s.bar0 := rfl
@[simp] theorem onKeeper_inflight (f : Keeper → Keeper) : (onKeeper f s).inflight = s.inflight := rfl
@[simp] theorem onKeeper_nextSeq (f : Keeper → Keeper) : (onKeeper f s).nextSeq = s.nextSeq := rfl
@[simp] theorem onKeeper_remotes (f : Keeper → Keeper) : (onKeeper f s).remotes = s.remotes := rfl
@[simp] theorem onKeeper_uploadSub (f : Keeper → Keeper) : (onKeeper f s).uploadSub = s.uploadSub := rfl
@[simp] theorem onKeeper_uploadHeads (f : Keeper → Keeper) : (onKeeper f s).uploadHeads = s.uploadHeads := rfl
@[simp] theorem onKeeper_fabric (f : Keeper → Keeper) : (onKeeper f s).fabric = s.fabric := rfl
@[simp] theorem onKeeper_led (f : Keeper → Keeper) : (onKeeper f s).led = s.led := rfl
@[simp] theorem onKeeper_meters (f : Keeper → Keeper) : (onKeeper f s).meters = s.meters := rfl
@[simp] theorem onKeeper_balance (f : Keeper → Keeper) : (onKeeper f s).balance = s.balance := rfl
@[simp] theorem onKeeper_met (f : Keeper → Keeper) : (onKeeper f s).met = s.met := rfl
@[simp] theorem onKeeper_zither (f : Keeper → Keeper) : (onKeeper f s).zither = s.zither := rfl
@[simp] theorem onKeeper_rf (f : Keeper → Keeper) : (onKeeper f s).rf = s.rf := rfl
@[simp] theorem onKeeper_lyre (f : Keeper → Keeper) : (onKeeper f s).lyre = s.lyre := rfl
@[simp] theorem onKeeper_tb (f : Keeper → Keeper) : (onKeeper f s).tb = s.tb := rfl
@[simp] theorem onKeeper_time (f : Keeper → Keeper) : (onKeeper f s).time = s.time := rfl
@[simp] theorem onKeeper_keys (f : Keeper → Keeper) : (onKeeper f s).keys = s.keys := rfl
@[simp] theorem onKeeper_store (f : Keeper → Keeper) : (onKeeper f s).store = s.store := rfl
@[simp] theorem onKeeper_twin (f : Keeper → Keeper) : (onKeeper f s).twin = s.twin := rfl
@[simp] theorem onKeeper_twinBuffer (f : Keeper → Keeper) : (onKeeper f s).twinBuffer = s.twinBuffer := rfl
@[simp] theorem onKeeper_keeper (f : Keeper → Keeper) : (onKeeper f s).keeper = f s.keeper := rfl
@[simp] theorem onKeeper_boot (f : Keeper → Keeper) : (onKeeper f s).boot = s.boot := rfl
@[simp] theorem onKeeper_fw (f : Keeper → Keeper) : (onKeeper f s).fw = s.fw := rfl
@[simp] theorem onKeeper_panel (f : Keeper → Keeper) : (onKeeper f s).panel = s.panel := rfl
@[simp] theorem onKeeper_selfTest (f : Keeper → Keeper) : (onKeeper f s).selfTest = s.selfTest := rfl
@[simp] theorem onKeeper_counters (f : Keeper → Keeper) : (onKeeper f s).counters = s.counters := rfl
@[simp] theorem onKeeper_d2d (f : Keeper → Keeper) : (onKeeper f s).d2d = s.d2d := rfl
@[simp] theorem onKeeper_ethLinks (f : Keeper → Keeper) : (onKeeper f s).ethLinks = s.ethLinks := rfl

@[simp] theorem onSupply_pending (f : Supply → Supply) : (onSupply f s).pending = s.pending := rfl
@[simp] theorem onSupply_fresh (f : Supply → Supply) : (onSupply f s).fresh = s.fresh := rfl
@[simp] theorem onSupply_clk (f : Supply → Supply) : (onSupply f s).clk = s.clk := rfl
@[simp] theorem onSupply_out (f : Supply → Supply) : (onSupply f s).out = s.out := rfl
@[simp] theorem onSupply_fuse (f : Supply → Supply) : (onSupply f s).fuse = s.fuse := rfl
@[simp] theorem onSupply_bar0 (f : Supply → Supply) : (onSupply f s).bar0 = s.bar0 := rfl
@[simp] theorem onSupply_inflight (f : Supply → Supply) : (onSupply f s).inflight = s.inflight := rfl
@[simp] theorem onSupply_nextSeq (f : Supply → Supply) : (onSupply f s).nextSeq = s.nextSeq := rfl
@[simp] theorem onSupply_remotes (f : Supply → Supply) : (onSupply f s).remotes = s.remotes := rfl
@[simp] theorem onSupply_uploadSub (f : Supply → Supply) : (onSupply f s).uploadSub = s.uploadSub := rfl
@[simp] theorem onSupply_uploadHeads (f : Supply → Supply) : (onSupply f s).uploadHeads = s.uploadHeads := rfl
@[simp] theorem onSupply_fabric (f : Supply → Supply) : (onSupply f s).fabric = s.fabric := rfl
@[simp] theorem onSupply_led (f : Supply → Supply) : (onSupply f s).led = s.led := rfl
@[simp] theorem onSupply_meters (f : Supply → Supply) : (onSupply f s).meters = s.meters := rfl
@[simp] theorem onSupply_balance (f : Supply → Supply) : (onSupply f s).balance = s.balance := rfl
@[simp] theorem onSupply_met (f : Supply → Supply) : (onSupply f s).met = s.met := rfl
@[simp] theorem onSupply_zither (f : Supply → Supply) : (onSupply f s).zither = s.zither := rfl
@[simp] theorem onSupply_rf (f : Supply → Supply) : (onSupply f s).rf = s.rf := rfl
@[simp] theorem onSupply_lyre (f : Supply → Supply) : (onSupply f s).lyre = s.lyre := rfl
@[simp] theorem onSupply_tb (f : Supply → Supply) : (onSupply f s).tb = s.tb := rfl
@[simp] theorem onSupply_time (f : Supply → Supply) : (onSupply f s).time = s.time := rfl
@[simp] theorem onSupply_keys (f : Supply → Supply) : (onSupply f s).keys = s.keys := rfl
@[simp] theorem onSupply_store (f : Supply → Supply) : (onSupply f s).store = s.store := rfl
@[simp] theorem onSupply_twin (f : Supply → Supply) : (onSupply f s).twin = s.twin := rfl
@[simp] theorem onSupply_twinBuffer (f : Supply → Supply) : (onSupply f s).twinBuffer = s.twinBuffer := rfl
@[simp] theorem onSupply_keeper (f : Supply → Supply) : (onSupply f s).keeper = { s.keeper with supply := f s.keeper.supply } := rfl
@[simp] theorem onSupply_boot (f : Supply → Supply) : (onSupply f s).boot = s.boot := rfl
@[simp] theorem onSupply_fw (f : Supply → Supply) : (onSupply f s).fw = s.fw := rfl
@[simp] theorem onSupply_panel (f : Supply → Supply) : (onSupply f s).panel = s.panel := rfl
@[simp] theorem onSupply_selfTest (f : Supply → Supply) : (onSupply f s).selfTest = s.selfTest := rfl
@[simp] theorem onSupply_counters (f : Supply → Supply) : (onSupply f s).counters = s.counters := rfl
@[simp] theorem onSupply_d2d (f : Supply → Supply) : (onSupply f s).d2d = s.d2d := rfl
@[simp] theorem onSupply_ethLinks (f : Supply → Supply) : (onSupply f s).ethLinks = s.ethLinks := rfl

@[simp] theorem onBoot_pending (f : Boot → Boot) : (onBoot f s).pending = s.pending := rfl
@[simp] theorem onBoot_fresh (f : Boot → Boot) : (onBoot f s).fresh = s.fresh := rfl
@[simp] theorem onBoot_clk (f : Boot → Boot) : (onBoot f s).clk = s.clk := rfl
@[simp] theorem onBoot_out (f : Boot → Boot) : (onBoot f s).out = s.out := rfl
@[simp] theorem onBoot_fuse (f : Boot → Boot) : (onBoot f s).fuse = s.fuse := rfl
@[simp] theorem onBoot_bar0 (f : Boot → Boot) : (onBoot f s).bar0 = s.bar0 := rfl
@[simp] theorem onBoot_inflight (f : Boot → Boot) : (onBoot f s).inflight = s.inflight := rfl
@[simp] theorem onBoot_nextSeq (f : Boot → Boot) : (onBoot f s).nextSeq = s.nextSeq := rfl
@[simp] theorem onBoot_remotes (f : Boot → Boot) : (onBoot f s).remotes = s.remotes := rfl
@[simp] theorem onBoot_uploadSub (f : Boot → Boot) : (onBoot f s).uploadSub = s.uploadSub := rfl
@[simp] theorem onBoot_uploadHeads (f : Boot → Boot) : (onBoot f s).uploadHeads = s.uploadHeads := rfl
@[simp] theorem onBoot_fabric (f : Boot → Boot) : (onBoot f s).fabric = s.fabric := rfl
@[simp] theorem onBoot_led (f : Boot → Boot) : (onBoot f s).led = s.led := rfl
@[simp] theorem onBoot_meters (f : Boot → Boot) : (onBoot f s).meters = s.meters := rfl
@[simp] theorem onBoot_balance (f : Boot → Boot) : (onBoot f s).balance = s.balance := rfl
@[simp] theorem onBoot_met (f : Boot → Boot) : (onBoot f s).met = s.met := rfl
@[simp] theorem onBoot_zither (f : Boot → Boot) : (onBoot f s).zither = s.zither := rfl
@[simp] theorem onBoot_rf (f : Boot → Boot) : (onBoot f s).rf = s.rf := rfl
@[simp] theorem onBoot_lyre (f : Boot → Boot) : (onBoot f s).lyre = s.lyre := rfl
@[simp] theorem onBoot_tb (f : Boot → Boot) : (onBoot f s).tb = s.tb := rfl
@[simp] theorem onBoot_time (f : Boot → Boot) : (onBoot f s).time = s.time := rfl
@[simp] theorem onBoot_keys (f : Boot → Boot) : (onBoot f s).keys = s.keys := rfl
@[simp] theorem onBoot_store (f : Boot → Boot) : (onBoot f s).store = s.store := rfl
@[simp] theorem onBoot_twin (f : Boot → Boot) : (onBoot f s).twin = s.twin := rfl
@[simp] theorem onBoot_twinBuffer (f : Boot → Boot) : (onBoot f s).twinBuffer = s.twinBuffer := rfl
@[simp] theorem onBoot_keeper (f : Boot → Boot) : (onBoot f s).keeper = s.keeper := rfl
@[simp] theorem onBoot_boot (f : Boot → Boot) : (onBoot f s).boot = f s.boot := rfl
@[simp] theorem onBoot_fw (f : Boot → Boot) : (onBoot f s).fw = s.fw := rfl
@[simp] theorem onBoot_panel (f : Boot → Boot) : (onBoot f s).panel = s.panel := rfl
@[simp] theorem onBoot_selfTest (f : Boot → Boot) : (onBoot f s).selfTest = s.selfTest := rfl
@[simp] theorem onBoot_counters (f : Boot → Boot) : (onBoot f s).counters = s.counters := rfl
@[simp] theorem onBoot_d2d (f : Boot → Boot) : (onBoot f s).d2d = s.d2d := rfl
@[simp] theorem onBoot_ethLinks (f : Boot → Boot) : (onBoot f s).ethLinks = s.ethLinks := rfl

@[simp] theorem onJournal_pending (f : Journal → Journal) : (onJournal f s).pending = s.pending := rfl
@[simp] theorem onJournal_fresh (f : Journal → Journal) : (onJournal f s).fresh = s.fresh := rfl
@[simp] theorem onJournal_clk (f : Journal → Journal) : (onJournal f s).clk = s.clk := rfl
@[simp] theorem onJournal_out (f : Journal → Journal) : (onJournal f s).out = s.out := rfl
@[simp] theorem onJournal_fuse (f : Journal → Journal) : (onJournal f s).fuse = s.fuse := rfl
@[simp] theorem onJournal_bar0 (f : Journal → Journal) : (onJournal f s).bar0 = s.bar0 := rfl
@[simp] theorem onJournal_inflight (f : Journal → Journal) : (onJournal f s).inflight = s.inflight := rfl
@[simp] theorem onJournal_nextSeq (f : Journal → Journal) : (onJournal f s).nextSeq = s.nextSeq := rfl
@[simp] theorem onJournal_remotes (f : Journal → Journal) : (onJournal f s).remotes = s.remotes := rfl
@[simp] theorem onJournal_uploadSub (f : Journal → Journal) : (onJournal f s).uploadSub = s.uploadSub := rfl
@[simp] theorem onJournal_uploadHeads (f : Journal → Journal) : (onJournal f s).uploadHeads = s.uploadHeads := rfl
@[simp] theorem onJournal_fabric (f : Journal → Journal) : (onJournal f s).fabric = s.fabric := rfl
@[simp] theorem onJournal_led (f : Journal → Journal) : (onJournal f s).led = s.led := rfl
@[simp] theorem onJournal_meters (f : Journal → Journal) : (onJournal f s).meters = s.meters := rfl
@[simp] theorem onJournal_balance (f : Journal → Journal) : (onJournal f s).balance = s.balance := rfl
@[simp] theorem onJournal_met (f : Journal → Journal) : (onJournal f s).met = s.met := rfl
@[simp] theorem onJournal_zither (f : Journal → Journal) : (onJournal f s).zither = s.zither := rfl
@[simp] theorem onJournal_rf (f : Journal → Journal) : (onJournal f s).rf = s.rf := rfl
@[simp] theorem onJournal_lyre (f : Journal → Journal) : (onJournal f s).lyre = s.lyre := rfl
@[simp] theorem onJournal_tb (f : Journal → Journal) : (onJournal f s).tb = s.tb := rfl
@[simp] theorem onJournal_time (f : Journal → Journal) : (onJournal f s).time = s.time := rfl
@[simp] theorem onJournal_keys (f : Journal → Journal) : (onJournal f s).keys = s.keys := rfl
@[simp] theorem onJournal_store (f : Journal → Journal) : (onJournal f s).store = s.store := rfl
@[simp] theorem onJournal_twin (f : Journal → Journal) : (onJournal f s).twin = s.twin := rfl
@[simp] theorem onJournal_twinBuffer (f : Journal → Journal) : (onJournal f s).twinBuffer = s.twinBuffer := rfl
@[simp] theorem onJournal_keeper (f : Journal → Journal) : (onJournal f s).keeper = s.keeper := rfl
@[simp] theorem onJournal_boot (f : Journal → Journal) : (onJournal f s).boot = { s.boot with journal := f s.boot.journal } := rfl
@[simp] theorem onJournal_fw (f : Journal → Journal) : (onJournal f s).fw = s.fw := rfl
@[simp] theorem onJournal_panel (f : Journal → Journal) : (onJournal f s).panel = s.panel := rfl
@[simp] theorem onJournal_selfTest (f : Journal → Journal) : (onJournal f s).selfTest = s.selfTest := rfl
@[simp] theorem onJournal_counters (f : Journal → Journal) : (onJournal f s).counters = s.counters := rfl
@[simp] theorem onJournal_d2d (f : Journal → Journal) : (onJournal f s).d2d = s.d2d := rfl
@[simp] theorem onJournal_ethLinks (f : Journal → Journal) : (onJournal f s).ethLinks = s.ethLinks := rfl

@[simp] theorem onStore_pending (f : Store → Store) : (onStore f s).pending = s.pending := rfl
@[simp] theorem onStore_fresh (f : Store → Store) : (onStore f s).fresh = s.fresh := rfl
@[simp] theorem onStore_clk (f : Store → Store) : (onStore f s).clk = s.clk := rfl
@[simp] theorem onStore_out (f : Store → Store) : (onStore f s).out = s.out := rfl
@[simp] theorem onStore_fuse (f : Store → Store) : (onStore f s).fuse = s.fuse := rfl
@[simp] theorem onStore_bar0 (f : Store → Store) : (onStore f s).bar0 = s.bar0 := rfl
@[simp] theorem onStore_inflight (f : Store → Store) : (onStore f s).inflight = s.inflight := rfl
@[simp] theorem onStore_nextSeq (f : Store → Store) : (onStore f s).nextSeq = s.nextSeq := rfl
@[simp] theorem onStore_remotes (f : Store → Store) : (onStore f s).remotes = s.remotes := rfl
@[simp] theorem onStore_uploadSub (f : Store → Store) : (onStore f s).uploadSub = s.uploadSub := rfl
@[simp] theorem onStore_uploadHeads (f : Store → Store) : (onStore f s).uploadHeads = s.uploadHeads := rfl
@[simp] theorem onStore_fabric (f : Store → Store) : (onStore f s).fabric = s.fabric := rfl
@[simp] theorem onStore_led (f : Store → Store) : (onStore f s).led = s.led := rfl
@[simp] theorem onStore_meters (f : Store → Store) : (onStore f s).meters = s.meters := rfl
@[simp] theorem onStore_balance (f : Store → Store) : (onStore f s).balance = s.balance := rfl
@[simp] theorem onStore_met (f : Store → Store) : (onStore f s).met = s.met := rfl
@[simp] theorem onStore_zither (f : Store → Store) : (onStore f s).zither = s.zither := rfl
@[simp] theorem onStore_rf (f : Store → Store) : (onStore f s).rf = s.rf := rfl
@[simp] theorem onStore_lyre (f : Store → Store) : (onStore f s).lyre = s.lyre := rfl
@[simp] theorem onStore_tb (f : Store → Store) : (onStore f s).tb = s.tb := rfl
@[simp] theorem onStore_time (f : Store → Store) : (onStore f s).time = s.time := rfl
@[simp] theorem onStore_keys (f : Store → Store) : (onStore f s).keys = s.keys := rfl
@[simp] theorem onStore_store (f : Store → Store) : (onStore f s).store = f s.store := rfl
@[simp] theorem onStore_twin (f : Store → Store) : (onStore f s).twin = s.twin := rfl
@[simp] theorem onStore_twinBuffer (f : Store → Store) : (onStore f s).twinBuffer = s.twinBuffer := rfl
@[simp] theorem onStore_keeper (f : Store → Store) : (onStore f s).keeper = s.keeper := rfl
@[simp] theorem onStore_boot (f : Store → Store) : (onStore f s).boot = s.boot := rfl
@[simp] theorem onStore_fw (f : Store → Store) : (onStore f s).fw = s.fw := rfl
@[simp] theorem onStore_panel (f : Store → Store) : (onStore f s).panel = s.panel := rfl
@[simp] theorem onStore_selfTest (f : Store → Store) : (onStore f s).selfTest = s.selfTest := rfl
@[simp] theorem onStore_counters (f : Store → Store) : (onStore f s).counters = s.counters := rfl
@[simp] theorem onStore_d2d (f : Store → Store) : (onStore f s).d2d = s.d2d := rfl
@[simp] theorem onStore_ethLinks (f : Store → Store) : (onStore f s).ethLinks = s.ethLinks := rfl

@[simp] theorem onFig_pending (f : StoreFigures → StoreFigures) : (onFig f s).pending = s.pending := rfl
@[simp] theorem onFig_fresh (f : StoreFigures → StoreFigures) : (onFig f s).fresh = s.fresh := rfl
@[simp] theorem onFig_clk (f : StoreFigures → StoreFigures) : (onFig f s).clk = s.clk := rfl
@[simp] theorem onFig_out (f : StoreFigures → StoreFigures) : (onFig f s).out = s.out := rfl
@[simp] theorem onFig_fuse (f : StoreFigures → StoreFigures) : (onFig f s).fuse = s.fuse := rfl
@[simp] theorem onFig_bar0 (f : StoreFigures → StoreFigures) : (onFig f s).bar0 = s.bar0 := rfl
@[simp] theorem onFig_inflight (f : StoreFigures → StoreFigures) : (onFig f s).inflight = s.inflight := rfl
@[simp] theorem onFig_nextSeq (f : StoreFigures → StoreFigures) : (onFig f s).nextSeq = s.nextSeq := rfl
@[simp] theorem onFig_remotes (f : StoreFigures → StoreFigures) : (onFig f s).remotes = s.remotes := rfl
@[simp] theorem onFig_uploadSub (f : StoreFigures → StoreFigures) : (onFig f s).uploadSub = s.uploadSub := rfl
@[simp] theorem onFig_uploadHeads (f : StoreFigures → StoreFigures) : (onFig f s).uploadHeads = s.uploadHeads := rfl
@[simp] theorem onFig_fabric (f : StoreFigures → StoreFigures) : (onFig f s).fabric = s.fabric := rfl
@[simp] theorem onFig_led (f : StoreFigures → StoreFigures) : (onFig f s).led = s.led := rfl
@[simp] theorem onFig_meters (f : StoreFigures → StoreFigures) : (onFig f s).meters = s.meters := rfl
@[simp] theorem onFig_balance (f : StoreFigures → StoreFigures) : (onFig f s).balance = s.balance := rfl
@[simp] theorem onFig_met (f : StoreFigures → StoreFigures) : (onFig f s).met = s.met := rfl
@[simp] theorem onFig_zither (f : StoreFigures → StoreFigures) : (onFig f s).zither = s.zither := rfl
@[simp] theorem onFig_rf (f : StoreFigures → StoreFigures) : (onFig f s).rf = s.rf := rfl
@[simp] theorem onFig_lyre (f : StoreFigures → StoreFigures) : (onFig f s).lyre = s.lyre := rfl
@[simp] theorem onFig_tb (f : StoreFigures → StoreFigures) : (onFig f s).tb = s.tb := rfl
@[simp] theorem onFig_time (f : StoreFigures → StoreFigures) : (onFig f s).time = s.time := rfl
@[simp] theorem onFig_keys (f : StoreFigures → StoreFigures) : (onFig f s).keys = s.keys := rfl
@[simp] theorem onFig_store (f : StoreFigures → StoreFigures) : (onFig f s).store = { s.store with fig := f s.store.fig } := rfl
@[simp] theorem onFig_twin (f : StoreFigures → StoreFigures) : (onFig f s).twin = s.twin := rfl
@[simp] theorem onFig_twinBuffer (f : StoreFigures → StoreFigures) : (onFig f s).twinBuffer = s.twinBuffer := rfl
@[simp] theorem onFig_keeper (f : StoreFigures → StoreFigures) : (onFig f s).keeper = s.keeper := rfl
@[simp] theorem onFig_boot (f : StoreFigures → StoreFigures) : (onFig f s).boot = s.boot := rfl
@[simp] theorem onFig_fw (f : StoreFigures → StoreFigures) : (onFig f s).fw = s.fw := rfl
@[simp] theorem onFig_panel (f : StoreFigures → StoreFigures) : (onFig f s).panel = s.panel := rfl
@[simp] theorem onFig_selfTest (f : StoreFigures → StoreFigures) : (onFig f s).selfTest = s.selfTest := rfl
@[simp] theorem onFig_counters (f : StoreFigures → StoreFigures) : (onFig f s).counters = s.counters := rfl
@[simp] theorem onFig_d2d (f : StoreFigures → StoreFigures) : (onFig f s).d2d = s.d2d := rfl
@[simp] theorem onFig_ethLinks (f : StoreFigures → StoreFigures) : (onFig f s).ethLinks = s.ethLinks := rfl

@[simp] theorem onCnt_pending (f : StoreCounts → StoreCounts) : (onCnt f s).pending = s.pending := rfl
@[simp] theorem onCnt_fresh (f : StoreCounts → StoreCounts) : (onCnt f s).fresh = s.fresh := rfl
@[simp] theorem onCnt_clk (f : StoreCounts → StoreCounts) : (onCnt f s).clk = s.clk := rfl
@[simp] theorem onCnt_out (f : StoreCounts → StoreCounts) : (onCnt f s).out = s.out := rfl
@[simp] theorem onCnt_fuse (f : StoreCounts → StoreCounts) : (onCnt f s).fuse = s.fuse := rfl
@[simp] theorem onCnt_bar0 (f : StoreCounts → StoreCounts) : (onCnt f s).bar0 = s.bar0 := rfl
@[simp] theorem onCnt_inflight (f : StoreCounts → StoreCounts) : (onCnt f s).inflight = s.inflight := rfl
@[simp] theorem onCnt_nextSeq (f : StoreCounts → StoreCounts) : (onCnt f s).nextSeq = s.nextSeq := rfl
@[simp] theorem onCnt_remotes (f : StoreCounts → StoreCounts) : (onCnt f s).remotes = s.remotes := rfl
@[simp] theorem onCnt_uploadSub (f : StoreCounts → StoreCounts) : (onCnt f s).uploadSub = s.uploadSub := rfl
@[simp] theorem onCnt_uploadHeads (f : StoreCounts → StoreCounts) : (onCnt f s).uploadHeads = s.uploadHeads := rfl
@[simp] theorem onCnt_fabric (f : StoreCounts → StoreCounts) : (onCnt f s).fabric = s.fabric := rfl
@[simp] theorem onCnt_led (f : StoreCounts → StoreCounts) : (onCnt f s).led = s.led := rfl
@[simp] theorem onCnt_meters (f : StoreCounts → StoreCounts) : (onCnt f s).meters = s.meters := rfl
@[simp] theorem onCnt_balance (f : StoreCounts → StoreCounts) : (onCnt f s).balance = s.balance := rfl
@[simp] theorem onCnt_met (f : StoreCounts → StoreCounts) : (onCnt f s).met = s.met := rfl
@[simp] theorem onCnt_zither (f : StoreCounts → StoreCounts) : (onCnt f s).zither = s.zither := rfl
@[simp] theorem onCnt_rf (f : StoreCounts → StoreCounts) : (onCnt f s).rf = s.rf := rfl
@[simp] theorem onCnt_lyre (f : StoreCounts → StoreCounts) : (onCnt f s).lyre = s.lyre := rfl
@[simp] theorem onCnt_tb (f : StoreCounts → StoreCounts) : (onCnt f s).tb = s.tb := rfl
@[simp] theorem onCnt_time (f : StoreCounts → StoreCounts) : (onCnt f s).time = s.time := rfl
@[simp] theorem onCnt_keys (f : StoreCounts → StoreCounts) : (onCnt f s).keys = s.keys := rfl
@[simp] theorem onCnt_store (f : StoreCounts → StoreCounts) : (onCnt f s).store = { s.store with cnt := f s.store.cnt } := rfl
@[simp] theorem onCnt_twin (f : StoreCounts → StoreCounts) : (onCnt f s).twin = s.twin := rfl
@[simp] theorem onCnt_twinBuffer (f : StoreCounts → StoreCounts) : (onCnt f s).twinBuffer = s.twinBuffer := rfl
@[simp] theorem onCnt_keeper (f : StoreCounts → StoreCounts) : (onCnt f s).keeper = s.keeper := rfl
@[simp] theorem onCnt_boot (f : StoreCounts → StoreCounts) : (onCnt f s).boot = s.boot := rfl
@[simp] theorem onCnt_fw (f : StoreCounts → StoreCounts) : (onCnt f s).fw = s.fw := rfl
@[simp] theorem onCnt_panel (f : StoreCounts → StoreCounts) : (onCnt f s).panel = s.panel := rfl
@[simp] theorem onCnt_selfTest (f : StoreCounts → StoreCounts) : (onCnt f s).selfTest = s.selfTest := rfl
@[simp] theorem onCnt_counters (f : StoreCounts → StoreCounts) : (onCnt f s).counters = s.counters := rfl
@[simp] theorem onCnt_d2d (f : StoreCounts → StoreCounts) : (onCnt f s).d2d = s.d2d := rfl
@[simp] theorem onCnt_ethLinks (f : StoreCounts → StoreCounts) : (onCnt f s).ethLinks = s.ethLinks := rfl

@[simp] theorem onFw_pending (f : Firmware → Firmware) : (onFw f s).pending = s.pending := rfl
@[simp] theorem onFw_fresh (f : Firmware → Firmware) : (onFw f s).fresh = s.fresh := rfl
@[simp] theorem onFw_clk (f : Firmware → Firmware) : (onFw f s).clk = s.clk := rfl
@[simp] theorem onFw_out (f : Firmware → Firmware) : (onFw f s).out = s.out := rfl
@[simp] theorem onFw_fuse (f : Firmware → Firmware) : (onFw f s).fuse = s.fuse := rfl
@[simp] theorem onFw_bar0 (f : Firmware → Firmware) : (onFw f s).bar0 = s.bar0 := rfl
@[simp] theorem onFw_inflight (f : Firmware → Firmware) : (onFw f s).inflight = s.inflight := rfl
@[simp] theorem onFw_nextSeq (f : Firmware → Firmware) : (onFw f s).nextSeq = s.nextSeq := rfl
@[simp] theorem onFw_remotes (f : Firmware → Firmware) : (onFw f s).remotes = s.remotes := rfl
@[simp] theorem onFw_uploadSub (f : Firmware → Firmware) : (onFw f s).uploadSub = s.uploadSub := rfl
@[simp] theorem onFw_uploadHeads (f : Firmware → Firmware) : (onFw f s).uploadHeads = s.uploadHeads := rfl
@[simp] theorem onFw_fabric (f : Firmware → Firmware) : (onFw f s).fabric = s.fabric := rfl
@[simp] theorem onFw_led (f : Firmware → Firmware) : (onFw f s).led = s.led := rfl
@[simp] theorem onFw_meters (f : Firmware → Firmware) : (onFw f s).meters = s.meters := rfl
@[simp] theorem onFw_balance (f : Firmware → Firmware) : (onFw f s).balance = s.balance := rfl
@[simp] theorem onFw_met (f : Firmware → Firmware) : (onFw f s).met = s.met := rfl
@[simp] theorem onFw_zither (f : Firmware → Firmware) : (onFw f s).zither = s.zither := rfl
@[simp] theorem onFw_rf (f : Firmware → Firmware) : (onFw f s).rf = s.rf := rfl
@[simp] theorem onFw_lyre (f : Firmware → Firmware) : (onFw f s).lyre = s.lyre := rfl
@[simp] theorem onFw_tb (f : Firmware → Firmware) : (onFw f s).tb = s.tb := rfl
@[simp] theorem onFw_time (f : Firmware → Firmware) : (onFw f s).time = s.time := rfl
@[simp] theorem onFw_keys (f : Firmware → Firmware) : (onFw f s).keys = s.keys := rfl
@[simp] theorem onFw_store (f : Firmware → Firmware) : (onFw f s).store = s.store := rfl
@[simp] theorem onFw_twin (f : Firmware → Firmware) : (onFw f s).twin = s.twin := rfl
@[simp] theorem onFw_twinBuffer (f : Firmware → Firmware) : (onFw f s).twinBuffer = s.twinBuffer := rfl
@[simp] theorem onFw_keeper (f : Firmware → Firmware) : (onFw f s).keeper = s.keeper := rfl
@[simp] theorem onFw_boot (f : Firmware → Firmware) : (onFw f s).boot = s.boot := rfl
@[simp] theorem onFw_fw (f : Firmware → Firmware) : (onFw f s).fw = f s.fw := rfl
@[simp] theorem onFw_panel (f : Firmware → Firmware) : (onFw f s).panel = s.panel := rfl
@[simp] theorem onFw_selfTest (f : Firmware → Firmware) : (onFw f s).selfTest = s.selfTest := rfl
@[simp] theorem onFw_counters (f : Firmware → Firmware) : (onFw f s).counters = s.counters := rfl
@[simp] theorem onFw_d2d (f : Firmware → Firmware) : (onFw f s).d2d = s.d2d := rfl
@[simp] theorem onFw_ethLinks (f : Firmware → Firmware) : (onFw f s).ethLinks = s.ethLinks := rfl

@[simp] theorem onKeys_pending (f : Keys → Keys) : (onKeys f s).pending = s.pending := rfl
@[simp] theorem onKeys_fresh (f : Keys → Keys) : (onKeys f s).fresh = s.fresh := rfl
@[simp] theorem onKeys_clk (f : Keys → Keys) : (onKeys f s).clk = s.clk := rfl
@[simp] theorem onKeys_out (f : Keys → Keys) : (onKeys f s).out = s.out := rfl
@[simp] theorem onKeys_fuse (f : Keys → Keys) : (onKeys f s).fuse = s.fuse := rfl
@[simp] theorem onKeys_bar0 (f : Keys → Keys) : (onKeys f s).bar0 = s.bar0 := rfl
@[simp] theorem onKeys_inflight (f : Keys → Keys) : (onKeys f s).inflight = s.inflight := rfl
@[simp] theorem onKeys_nextSeq (f : Keys → Keys) : (onKeys f s).nextSeq = s.nextSeq := rfl
@[simp] theorem onKeys_remotes (f : Keys → Keys) : (onKeys f s).remotes = s.remotes := rfl
@[simp] theorem onKeys_uploadSub (f : Keys → Keys) : (onKeys f s).uploadSub = s.uploadSub := rfl
@[simp] theorem onKeys_uploadHeads (f : Keys → Keys) : (onKeys f s).uploadHeads = s.uploadHeads := rfl
@[simp] theorem onKeys_fabric (f : Keys → Keys) : (onKeys f s).fabric = s.fabric := rfl
@[simp] theorem onKeys_led (f : Keys → Keys) : (onKeys f s).led = s.led := rfl
@[simp] theorem onKeys_meters (f : Keys → Keys) : (onKeys f s).meters = s.meters := rfl
@[simp] theorem onKeys_balance (f : Keys → Keys) : (onKeys f s).balance = s.balance := rfl
@[simp] theorem onKeys_met (f : Keys → Keys) : (onKeys f s).met = s.met := rfl
@[simp] theorem onKeys_zither (f : Keys → Keys) : (onKeys f s).zither = s.zither := rfl
@[simp] theorem onKeys_rf (f : Keys → Keys) : (onKeys f s).rf = s.rf := rfl
@[simp] theorem onKeys_lyre (f : Keys → Keys) : (onKeys f s).lyre = s.lyre := rfl
@[simp] theorem onKeys_tb (f : Keys → Keys) : (onKeys f s).tb = s.tb := rfl
@[simp] theorem onKeys_time (f : Keys → Keys) : (onKeys f s).time = s.time := rfl
@[simp] theorem onKeys_keys (f : Keys → Keys) : (onKeys f s).keys = f s.keys := rfl
@[simp] theorem onKeys_store (f : Keys → Keys) : (onKeys f s).store = s.store := rfl
@[simp] theorem onKeys_twin (f : Keys → Keys) : (onKeys f s).twin = s.twin := rfl
@[simp] theorem onKeys_twinBuffer (f : Keys → Keys) : (onKeys f s).twinBuffer = s.twinBuffer := rfl
@[simp] theorem onKeys_keeper (f : Keys → Keys) : (onKeys f s).keeper = s.keeper := rfl
@[simp] theorem onKeys_boot (f : Keys → Keys) : (onKeys f s).boot = s.boot := rfl
@[simp] theorem onKeys_fw (f : Keys → Keys) : (onKeys f s).fw = s.fw := rfl
@[simp] theorem onKeys_panel (f : Keys → Keys) : (onKeys f s).panel = s.panel := rfl
@[simp] theorem onKeys_selfTest (f : Keys → Keys) : (onKeys f s).selfTest = s.selfTest := rfl
@[simp] theorem onKeys_counters (f : Keys → Keys) : (onKeys f s).counters = s.counters := rfl
@[simp] theorem onKeys_d2d (f : Keys → Keys) : (onKeys f s).d2d = s.d2d := rfl
@[simp] theorem onKeys_ethLinks (f : Keys → Keys) : (onKeys f s).ethLinks = s.ethLinks := rfl

@[simp] theorem onLyre_pending (f : Lyre → Lyre) : (onLyre f s).pending = s.pending := rfl
@[simp] theorem onLyre_fresh (f : Lyre → Lyre) : (onLyre f s).fresh = s.fresh := rfl
@[simp] theorem onLyre_clk (f : Lyre → Lyre) : (onLyre f s).clk = s.clk := rfl
@[simp] theorem onLyre_out (f : Lyre → Lyre) : (onLyre f s).out = s.out := rfl
@[simp] theorem onLyre_fuse (f : Lyre → Lyre) : (onLyre f s).fuse = s.fuse := rfl
@[simp] theorem onLyre_bar0 (f : Lyre → Lyre) : (onLyre f s).bar0 = s.bar0 := rfl
@[simp] theorem onLyre_inflight (f : Lyre → Lyre) : (onLyre f s).inflight = s.inflight := rfl
@[simp] theorem onLyre_nextSeq (f : Lyre → Lyre) : (onLyre f s).nextSeq = s.nextSeq := rfl
@[simp] theorem onLyre_remotes (f : Lyre → Lyre) : (onLyre f s).remotes = s.remotes := rfl
@[simp] theorem onLyre_uploadSub (f : Lyre → Lyre) : (onLyre f s).uploadSub = s.uploadSub := rfl
@[simp] theorem onLyre_uploadHeads (f : Lyre → Lyre) : (onLyre f s).uploadHeads = s.uploadHeads := rfl
@[simp] theorem onLyre_fabric (f : Lyre → Lyre) : (onLyre f s).fabric = s.fabric := rfl
@[simp] theorem onLyre_led (f : Lyre → Lyre) : (onLyre f s).led = s.led := rfl
@[simp] theorem onLyre_meters (f : Lyre → Lyre) : (onLyre f s).meters = s.meters := rfl
@[simp] theorem onLyre_balance (f : Lyre → Lyre) : (onLyre f s).balance = s.balance := rfl
@[simp] theorem onLyre_met (f : Lyre → Lyre) : (onLyre f s).met = s.met := rfl
@[simp] theorem onLyre_zither (f : Lyre → Lyre) : (onLyre f s).zither = s.zither := rfl
@[simp] theorem onLyre_rf (f : Lyre → Lyre) : (onLyre f s).rf = s.rf := rfl
@[simp] theorem onLyre_lyre (f : Lyre → Lyre) : (onLyre f s).lyre = f s.lyre := rfl
@[simp] theorem onLyre_tb (f : Lyre → Lyre) : (onLyre f s).tb = s.tb := rfl
@[simp] theorem onLyre_time (f : Lyre → Lyre) : (onLyre f s).time = s.time := rfl
@[simp] theorem onLyre_keys (f : Lyre → Lyre) : (onLyre f s).keys = s.keys := rfl
@[simp] theorem onLyre_store (f : Lyre → Lyre) : (onLyre f s).store = s.store := rfl
@[simp] theorem onLyre_twin (f : Lyre → Lyre) : (onLyre f s).twin = s.twin := rfl
@[simp] theorem onLyre_twinBuffer (f : Lyre → Lyre) : (onLyre f s).twinBuffer = s.twinBuffer := rfl
@[simp] theorem onLyre_keeper (f : Lyre → Lyre) : (onLyre f s).keeper = s.keeper := rfl
@[simp] theorem onLyre_boot (f : Lyre → Lyre) : (onLyre f s).boot = s.boot := rfl
@[simp] theorem onLyre_fw (f : Lyre → Lyre) : (onLyre f s).fw = s.fw := rfl
@[simp] theorem onLyre_panel (f : Lyre → Lyre) : (onLyre f s).panel = s.panel := rfl
@[simp] theorem onLyre_selfTest (f : Lyre → Lyre) : (onLyre f s).selfTest = s.selfTest := rfl
@[simp] theorem onLyre_counters (f : Lyre → Lyre) : (onLyre f s).counters = s.counters := rfl
@[simp] theorem onLyre_d2d (f : Lyre → Lyre) : (onLyre f s).d2d = s.d2d := rfl
@[simp] theorem onLyre_ethLinks (f : Lyre → Lyre) : (onLyre f s).ethLinks = s.ethLinks := rfl

@[simp] theorem onPanel_pending (f : Panel → Panel) : (onPanel f s).pending = s.pending := rfl
@[simp] theorem onPanel_fresh (f : Panel → Panel) : (onPanel f s).fresh = s.fresh := rfl
@[simp] theorem onPanel_clk (f : Panel → Panel) : (onPanel f s).clk = s.clk := rfl
@[simp] theorem onPanel_out (f : Panel → Panel) : (onPanel f s).out = s.out := rfl
@[simp] theorem onPanel_fuse (f : Panel → Panel) : (onPanel f s).fuse = s.fuse := rfl
@[simp] theorem onPanel_bar0 (f : Panel → Panel) : (onPanel f s).bar0 = s.bar0 := rfl
@[simp] theorem onPanel_inflight (f : Panel → Panel) : (onPanel f s).inflight = s.inflight := rfl
@[simp] theorem onPanel_nextSeq (f : Panel → Panel) : (onPanel f s).nextSeq = s.nextSeq := rfl
@[simp] theorem onPanel_remotes (f : Panel → Panel) : (onPanel f s).remotes = s.remotes := rfl
@[simp] theorem onPanel_uploadSub (f : Panel → Panel) : (onPanel f s).uploadSub = s.uploadSub := rfl
@[simp] theorem onPanel_uploadHeads (f : Panel → Panel) : (onPanel f s).uploadHeads = s.uploadHeads := rfl
@[simp] theorem onPanel_fabric (f : Panel → Panel) : (onPanel f s).fabric = s.fabric := rfl
@[simp] theorem onPanel_led (f : Panel → Panel) : (onPanel f s).led = s.led := rfl
@[simp] theorem onPanel_meters (f : Panel → Panel) : (onPanel f s).meters = s.meters := rfl
@[simp] theorem onPanel_balance (f : Panel → Panel) : (onPanel f s).balance = s.balance := rfl
@[simp] theorem onPanel_met (f : Panel → Panel) : (onPanel f s).met = s.met := rfl
@[simp] theorem onPanel_zither (f : Panel → Panel) : (onPanel f s).zither = s.zither := rfl
@[simp] theorem onPanel_rf (f : Panel → Panel) : (onPanel f s).rf = s.rf := rfl
@[simp] theorem onPanel_lyre (f : Panel → Panel) : (onPanel f s).lyre = s.lyre := rfl
@[simp] theorem onPanel_tb (f : Panel → Panel) : (onPanel f s).tb = s.tb := rfl
@[simp] theorem onPanel_time (f : Panel → Panel) : (onPanel f s).time = s.time := rfl
@[simp] theorem onPanel_keys (f : Panel → Panel) : (onPanel f s).keys = s.keys := rfl
@[simp] theorem onPanel_store (f : Panel → Panel) : (onPanel f s).store = s.store := rfl
@[simp] theorem onPanel_twin (f : Panel → Panel) : (onPanel f s).twin = s.twin := rfl
@[simp] theorem onPanel_twinBuffer (f : Panel → Panel) : (onPanel f s).twinBuffer = s.twinBuffer := rfl
@[simp] theorem onPanel_keeper (f : Panel → Panel) : (onPanel f s).keeper = s.keeper := rfl
@[simp] theorem onPanel_boot (f : Panel → Panel) : (onPanel f s).boot = s.boot := rfl
@[simp] theorem onPanel_fw (f : Panel → Panel) : (onPanel f s).fw = s.fw := rfl
@[simp] theorem onPanel_panel (f : Panel → Panel) : (onPanel f s).panel = f s.panel := rfl
@[simp] theorem onPanel_selfTest (f : Panel → Panel) : (onPanel f s).selfTest = s.selfTest := rfl
@[simp] theorem onPanel_counters (f : Panel → Panel) : (onPanel f s).counters = s.counters := rfl
@[simp] theorem onPanel_d2d (f : Panel → Panel) : (onPanel f s).d2d = s.d2d := rfl
@[simp] theorem onPanel_ethLinks (f : Panel → Panel) : (onPanel f s).ethLinks = s.ethLinks := rfl

@[simp] theorem onPlacard_pending (f : Placard → Placard) : (onPlacard f s).pending = s.pending := rfl
@[simp] theorem onPlacard_fresh (f : Placard → Placard) : (onPlacard f s).fresh = s.fresh := rfl
@[simp] theorem onPlacard_clk (f : Placard → Placard) : (onPlacard f s).clk = s.clk := rfl
@[simp] theorem onPlacard_out (f : Placard → Placard) : (onPlacard f s).out = s.out := rfl
@[simp] theorem onPlacard_fuse (f : Placard → Placard) : (onPlacard f s).fuse = s.fuse := rfl
@[simp] theorem onPlacard_bar0 (f : Placard → Placard) : (onPlacard f s).bar0 = s.bar0 := rfl
@[simp] theorem onPlacard_inflight (f : Placard → Placard) : (onPlacard f s).inflight = s.inflight := rfl
@[simp] theorem onPlacard_nextSeq (f : Placard → Placard) : (onPlacard f s).nextSeq = s.nextSeq := rfl
@[simp] theorem onPlacard_remotes (f : Placard → Placard) : (onPlacard f s).remotes = s.remotes := rfl
@[simp] theorem onPlacard_uploadSub (f : Placard → Placard) : (onPlacard f s).uploadSub = s.uploadSub := rfl
@[simp] theorem onPlacard_uploadHeads (f : Placard → Placard) : (onPlacard f s).uploadHeads = s.uploadHeads := rfl
@[simp] theorem onPlacard_fabric (f : Placard → Placard) : (onPlacard f s).fabric = s.fabric := rfl
@[simp] theorem onPlacard_led (f : Placard → Placard) : (onPlacard f s).led = s.led := rfl
@[simp] theorem onPlacard_meters (f : Placard → Placard) : (onPlacard f s).meters = s.meters := rfl
@[simp] theorem onPlacard_balance (f : Placard → Placard) : (onPlacard f s).balance = s.balance := rfl
@[simp] theorem onPlacard_met (f : Placard → Placard) : (onPlacard f s).met = s.met := rfl
@[simp] theorem onPlacard_zither (f : Placard → Placard) : (onPlacard f s).zither = s.zither := rfl
@[simp] theorem onPlacard_rf (f : Placard → Placard) : (onPlacard f s).rf = s.rf := rfl
@[simp] theorem onPlacard_lyre (f : Placard → Placard) : (onPlacard f s).lyre = s.lyre := rfl
@[simp] theorem onPlacard_tb (f : Placard → Placard) : (onPlacard f s).tb = s.tb := rfl
@[simp] theorem onPlacard_time (f : Placard → Placard) : (onPlacard f s).time = s.time := rfl
@[simp] theorem onPlacard_keys (f : Placard → Placard) : (onPlacard f s).keys = s.keys := rfl
@[simp] theorem onPlacard_store (f : Placard → Placard) : (onPlacard f s).store = s.store := rfl
@[simp] theorem onPlacard_twin (f : Placard → Placard) : (onPlacard f s).twin = s.twin := rfl
@[simp] theorem onPlacard_twinBuffer (f : Placard → Placard) : (onPlacard f s).twinBuffer = s.twinBuffer := rfl
@[simp] theorem onPlacard_keeper (f : Placard → Placard) : (onPlacard f s).keeper = s.keeper := rfl
@[simp] theorem onPlacard_boot (f : Placard → Placard) : (onPlacard f s).boot = s.boot := rfl
@[simp] theorem onPlacard_fw (f : Placard → Placard) : (onPlacard f s).fw = s.fw := rfl
@[simp] theorem onPlacard_panel (f : Placard → Placard) : (onPlacard f s).panel = { s.panel with placard := f s.panel.placard } := rfl
@[simp] theorem onPlacard_selfTest (f : Placard → Placard) : (onPlacard f s).selfTest = s.selfTest := rfl
@[simp] theorem onPlacard_counters (f : Placard → Placard) : (onPlacard f s).counters = s.counters := rfl
@[simp] theorem onPlacard_d2d (f : Placard → Placard) : (onPlacard f s).d2d = s.d2d := rfl
@[simp] theorem onPlacard_ethLinks (f : Placard → Placard) : (onPlacard f s).ethLinks = s.ethLinks := rfl

@[simp] theorem onTest_pending (f : SelfTest → SelfTest) : (onTest f s).pending = s.pending := rfl
@[simp] theorem onTest_fresh (f : SelfTest → SelfTest) : (onTest f s).fresh = s.fresh := rfl
@[simp] theorem onTest_clk (f : SelfTest → SelfTest) : (onTest f s).clk = s.clk := rfl
@[simp] theorem onTest_out (f : SelfTest → SelfTest) : (onTest f s).out = s.out := rfl
@[simp] theorem onTest_fuse (f : SelfTest → SelfTest) : (onTest f s).fuse = s.fuse := rfl
@[simp] theorem onTest_bar0 (f : SelfTest → SelfTest) : (onTest f s).bar0 = s.bar0 := rfl
@[simp] theorem onTest_inflight (f : SelfTest → SelfTest) : (onTest f s).inflight = s.inflight := rfl
@[simp] theorem onTest_nextSeq (f : SelfTest → SelfTest) : (onTest f s).nextSeq = s.nextSeq := rfl
@[simp] theorem onTest_remotes (f : SelfTest → SelfTest) : (onTest f s).remotes = s.remotes := rfl
@[simp] theorem onTest_uploadSub (f : SelfTest → SelfTest) : (onTest f s).uploadSub = s.uploadSub := rfl
@[simp] theorem onTest_uploadHeads (f : SelfTest → SelfTest) : (onTest f s).uploadHeads = s.uploadHeads := rfl
@[simp] theorem onTest_fabric (f : SelfTest → SelfTest) : (onTest f s).fabric = s.fabric := rfl
@[simp] theorem onTest_led (f : SelfTest → SelfTest) : (onTest f s).led = s.led := rfl
@[simp] theorem onTest_meters (f : SelfTest → SelfTest) : (onTest f s).meters = s.meters := rfl
@[simp] theorem onTest_balance (f : SelfTest → SelfTest) : (onTest f s).balance = s.balance := rfl
@[simp] theorem onTest_met (f : SelfTest → SelfTest) : (onTest f s).met = s.met := rfl
@[simp] theorem onTest_zither (f : SelfTest → SelfTest) : (onTest f s).zither = s.zither := rfl
@[simp] theorem onTest_rf (f : SelfTest → SelfTest) : (onTest f s).rf = s.rf := rfl
@[simp] theorem onTest_lyre (f : SelfTest → SelfTest) : (onTest f s).lyre = s.lyre := rfl
@[simp] theorem onTest_tb (f : SelfTest → SelfTest) : (onTest f s).tb = s.tb := rfl
@[simp] theorem onTest_time (f : SelfTest → SelfTest) : (onTest f s).time = s.time := rfl
@[simp] theorem onTest_keys (f : SelfTest → SelfTest) : (onTest f s).keys = s.keys := rfl
@[simp] theorem onTest_store (f : SelfTest → SelfTest) : (onTest f s).store = s.store := rfl
@[simp] theorem onTest_twin (f : SelfTest → SelfTest) : (onTest f s).twin = s.twin := rfl
@[simp] theorem onTest_twinBuffer (f : SelfTest → SelfTest) : (onTest f s).twinBuffer = s.twinBuffer := rfl
@[simp] theorem onTest_keeper (f : SelfTest → SelfTest) : (onTest f s).keeper = s.keeper := rfl
@[simp] theorem onTest_boot (f : SelfTest → SelfTest) : (onTest f s).boot = s.boot := rfl
@[simp] theorem onTest_fw (f : SelfTest → SelfTest) : (onTest f s).fw = s.fw := rfl
@[simp] theorem onTest_panel (f : SelfTest → SelfTest) : (onTest f s).panel = s.panel := rfl
@[simp] theorem onTest_selfTest (f : SelfTest → SelfTest) : (onTest f s).selfTest = f s.selfTest := rfl
@[simp] theorem onTest_counters (f : SelfTest → SelfTest) : (onTest f s).counters = s.counters := rfl
@[simp] theorem onTest_d2d (f : SelfTest → SelfTest) : (onTest f s).d2d = s.d2d := rfl
@[simp] theorem onTest_ethLinks (f : SelfTest → SelfTest) : (onTest f s).ethLinks = s.ethLinks := rfl

@[simp] theorem onSub_pending (f : UploadSub → UploadSub) : (onSub f s).pending = s.pending := rfl
@[simp] theorem onSub_fresh (f : UploadSub → UploadSub) : (onSub f s).fresh = s.fresh := rfl
@[simp] theorem onSub_clk (f : UploadSub → UploadSub) : (onSub f s).clk = s.clk := rfl
@[simp] theorem onSub_out (f : UploadSub → UploadSub) : (onSub f s).out = s.out := rfl
@[simp] theorem onSub_fuse (f : UploadSub → UploadSub) : (onSub f s).fuse = s.fuse := rfl
@[simp] theorem onSub_bar0 (f : UploadSub → UploadSub) : (onSub f s).bar0 = s.bar0 := rfl
@[simp] theorem onSub_inflight (f : UploadSub → UploadSub) : (onSub f s).inflight = s.inflight := rfl
@[simp] theorem onSub_nextSeq (f : UploadSub → UploadSub) : (onSub f s).nextSeq = s.nextSeq := rfl
@[simp] theorem onSub_remotes (f : UploadSub → UploadSub) : (onSub f s).remotes = s.remotes := rfl
@[simp] theorem onSub_uploadSub (f : UploadSub → UploadSub) : (onSub f s).uploadSub = f s.uploadSub := rfl
@[simp] theorem onSub_uploadHeads (f : UploadSub → UploadSub) : (onSub f s).uploadHeads = s.uploadHeads := rfl
@[simp] theorem onSub_fabric (f : UploadSub → UploadSub) : (onSub f s).fabric = s.fabric := rfl
@[simp] theorem onSub_led (f : UploadSub → UploadSub) : (onSub f s).led = s.led := rfl
@[simp] theorem onSub_meters (f : UploadSub → UploadSub) : (onSub f s).meters = s.meters := rfl
@[simp] theorem onSub_balance (f : UploadSub → UploadSub) : (onSub f s).balance = s.balance := rfl
@[simp] theorem onSub_met (f : UploadSub → UploadSub) : (onSub f s).met = s.met := rfl
@[simp] theorem onSub_zither (f : UploadSub → UploadSub) : (onSub f s).zither = s.zither := rfl
@[simp] theorem onSub_rf (f : UploadSub → UploadSub) : (onSub f s).rf = s.rf := rfl
@[simp] theorem onSub_lyre (f : UploadSub → UploadSub) : (onSub f s).lyre = s.lyre := rfl
@[simp] theorem onSub_tb (f : UploadSub → UploadSub) : (onSub f s).tb = s.tb := rfl
@[simp] theorem onSub_time (f : UploadSub → UploadSub) : (onSub f s).time = s.time := rfl
@[simp] theorem onSub_keys (f : UploadSub → UploadSub) : (onSub f s).keys = s.keys := rfl
@[simp] theorem onSub_store (f : UploadSub → UploadSub) : (onSub f s).store = s.store := rfl
@[simp] theorem onSub_twin (f : UploadSub → UploadSub) : (onSub f s).twin = s.twin := rfl
@[simp] theorem onSub_twinBuffer (f : UploadSub → UploadSub) : (onSub f s).twinBuffer = s.twinBuffer := rfl
@[simp] theorem onSub_keeper (f : UploadSub → UploadSub) : (onSub f s).keeper = s.keeper := rfl
@[simp] theorem onSub_boot (f : UploadSub → UploadSub) : (onSub f s).boot = s.boot := rfl
@[simp] theorem onSub_fw (f : UploadSub → UploadSub) : (onSub f s).fw = s.fw := rfl
@[simp] theorem onSub_panel (f : UploadSub → UploadSub) : (onSub f s).panel = s.panel := rfl
@[simp] theorem onSub_selfTest (f : UploadSub → UploadSub) : (onSub f s).selfTest = s.selfTest := rfl
@[simp] theorem onSub_counters (f : UploadSub → UploadSub) : (onSub f s).counters = s.counters := rfl
@[simp] theorem onSub_d2d (f : UploadSub → UploadSub) : (onSub f s).d2d = s.d2d := rfl
@[simp] theorem onSub_ethLinks (f : UploadSub → UploadSub) : (onSub f s).ethLinks = s.ethLinks := rfl

@[simp] theorem onSession_pending (idx : Nat) (f : Session → Session) : (onSession idx f s).pending = s.pending := rfl
@[simp] theorem onSession_fresh (idx : Nat) (f : Session → Session) : (onSession idx f s).fresh = s.fresh := rfl
@[simp] theorem onSession_clk (idx : Nat) (f : Session → Session) : (onSession idx f s).clk = s.clk := rfl
@[simp] theorem onSession_out (idx : Nat) (f : Session → Session) : (onSession idx f s).out = s.out := rfl
@[simp] theorem onSession_fuse (idx : Nat) (f : Session → Session) : (onSession idx f s).fuse = s.fuse := rfl
@[simp] theorem onSession_bar0 (idx : Nat) (f : Session → Session) : (onSession idx f s).bar0 = s.bar0 := rfl
@[simp] theorem onSession_inflight (idx : Nat) (f : Session → Session) : (onSession idx f s).inflight = s.inflight := rfl
@[simp] theorem onSession_nextSeq (idx : Nat) (f : Session → Session) : (onSession idx f s).nextSeq = s.nextSeq := rfl
@[simp] theorem onSession_remotes (idx : Nat) (f : Session → Session) : (onSession idx f s).remotes = s.remotes := rfl
@[simp] theorem onSession_uploadSub (idx : Nat) (f : Session → Session) : (onSession idx f s).uploadSub = s.uploadSub := rfl
@[simp] theorem onSession_uploadHeads (idx : Nat) (f : Session → Session) : (onSession idx f s).uploadHeads = s.uploadHeads := rfl
@[simp] theorem onSession_fabric (idx : Nat) (f : Session → Session) : (onSession idx f s).fabric = s.fabric := rfl
@[simp] theorem onSession_led (idx : Nat) (f : Session → Session) : (onSession idx f s).led = s.led := rfl
@[simp] theorem onSession_balance (idx : Nat) (f : Session → Session) : (onSession idx f s).balance = s.balance := rfl
@[simp] theorem onSession_met (idx : Nat) (f : Session → Session) : (onSession idx f s).met = s.met := rfl
@[simp] theorem onSession_zither (idx : Nat) (f : Session → Session) : (onSession idx f s).zither = s.zither := rfl
@[simp] theorem onSession_rf (idx : Nat) (f : Session → Session) : (onSession idx f s).rf = s.rf := rfl
@[simp] theorem onSession_lyre (idx : Nat) (f : Session → Session) : (onSession idx f s).lyre = s.lyre := rfl
@[simp] theorem onSession_tb (idx : Nat) (f : Session → Session) : (onSession idx f s).tb = s.tb := rfl
@[simp] theorem onSession_time (idx : Nat) (f : Session → Session) : (onSession idx f s).time = s.time := rfl
@[simp] theorem onSession_keys (idx : Nat) (f : Session → Session) : (onSession idx f s).keys = s.keys := rfl
@[simp] theorem onSession_store (idx : Nat) (f : Session → Session) : (onSession idx f s).store = s.store := rfl
@[simp] theorem onSession_twin (idx : Nat) (f : Session → Session) : (onSession idx f s).twin = s.twin := rfl
@[simp] theorem onSession_twinBuffer (idx : Nat) (f : Session → Session) : (onSession idx f s).twinBuffer = s.twinBuffer := rfl
@[simp] theorem onSession_keeper (idx : Nat) (f : Session → Session) : (onSession idx f s).keeper = s.keeper := rfl
@[simp] theorem onSession_boot (idx : Nat) (f : Session → Session) : (onSession idx f s).boot = s.boot := rfl
@[simp] theorem onSession_fw (idx : Nat) (f : Session → Session) : (onSession idx f s).fw = s.fw := rfl
@[simp] theorem onSession_panel (idx : Nat) (f : Session → Session) : (onSession idx f s).panel = s.panel := rfl
@[simp] theorem onSession_selfTest (idx : Nat) (f : Session → Session) : (onSession idx f s).selfTest = s.selfTest := rfl
@[simp] theorem onSession_counters (idx : Nat) (f : Session → Session) : (onSession idx f s).counters = s.counters := rfl
@[simp] theorem onSession_d2d (idx : Nat) (f : Session → Session) : (onSession idx f s).d2d = s.d2d := rfl
@[simp] theorem onSession_ethLinks (idx : Nat) (f : Session → Session) : (onSession idx f s).ethLinks = s.ethLinks := rfl

@[simp] theorem journal_pending (kind stage code flags : Nat) (data : Bytes) : (journal kind stage code flags data s).pending = s.pending := rfl
@[simp] theorem journal_fresh (kind stage code flags : Nat) (data : Bytes) : (journal kind stage code flags data s).fresh = s.fresh := rfl
@[simp] theorem journal_clk (kind stage code flags : Nat) (data : Bytes) : (journal kind stage code flags data s).clk = s.clk := rfl
@[simp] theorem journal_out (kind stage code flags : Nat) (data : Bytes) : (journal kind stage code flags data s).out = s.out := rfl
@[simp] theorem journal_fuse (kind stage code flags : Nat) (data : Bytes) : (journal kind stage code flags data s).fuse = s.fuse := rfl
@[simp] theorem journal_bar0 (kind stage code flags : Nat) (data : Bytes) : (journal kind stage code flags data s).bar0 = s.bar0 := rfl
@[simp] theorem journal_inflight (kind stage code flags : Nat) (data : Bytes) : (journal kind stage code flags data s).inflight = s.inflight := rfl
@[simp] theorem journal_nextSeq (kind stage code flags : Nat) (data : Bytes) : (journal kind stage code flags data s).nextSeq = s.nextSeq := rfl
@[simp] theorem journal_remotes (kind stage code flags : Nat) (data : Bytes) : (journal kind stage code flags data s).remotes = s.remotes := rfl
@[simp] theorem journal_uploadSub (kind stage code flags : Nat) (data : Bytes) : (journal kind stage code flags data s).uploadSub = s.uploadSub := rfl
@[simp] theorem journal_uploadHeads (kind stage code flags : Nat) (data : Bytes) : (journal kind stage code flags data s).uploadHeads = s.uploadHeads := rfl
@[simp] theorem journal_fabric (kind stage code flags : Nat) (data : Bytes) : (journal kind stage code flags data s).fabric = s.fabric := rfl
@[simp] theorem journal_led (kind stage code flags : Nat) (data : Bytes) : (journal kind stage code flags data s).led = s.led := rfl
@[simp] theorem journal_meters (kind stage code flags : Nat) (data : Bytes) : (journal kind stage code flags data s).meters = s.meters := rfl
@[simp] theorem journal_balance (kind stage code flags : Nat) (data : Bytes) : (journal kind stage code flags data s).balance = s.balance := rfl
@[simp] theorem journal_met (kind stage code flags : Nat) (data : Bytes) : (journal kind stage code flags data s).met = s.met := rfl
@[simp] theorem journal_zither (kind stage code flags : Nat) (data : Bytes) : (journal kind stage code flags data s).zither = s.zither := rfl
@[simp] theorem journal_rf (kind stage code flags : Nat) (data : Bytes) : (journal kind stage code flags data s).rf = s.rf := rfl
@[simp] theorem journal_lyre (kind stage code flags : Nat) (data : Bytes) : (journal kind stage code flags data s).lyre = s.lyre := rfl
@[simp] theorem journal_tb (kind stage code flags : Nat) (data : Bytes) : (journal kind stage code flags data s).tb = s.tb := rfl
@[simp] theorem journal_time (kind stage code flags : Nat) (data : Bytes) : (journal kind stage code flags data s).time = s.time := rfl
@[simp] theorem journal_keys (kind stage code flags : Nat) (data : Bytes) : (journal kind stage code flags data s).keys = s.keys := rfl
@[simp] theorem journal_store (kind stage code flags : Nat) (data : Bytes) : (journal kind stage code flags data s).store = s.store := rfl
@[simp] theorem journal_twin (kind stage code flags : Nat) (data : Bytes) : (journal kind stage code flags data s).twin = s.twin := rfl
@[simp] theorem journal_twinBuffer (kind stage code flags : Nat) (data : Bytes) : (journal kind stage code flags data s).twinBuffer = s.twinBuffer := rfl
@[simp] theorem journal_keeper (kind stage code flags : Nat) (data : Bytes) : (journal kind stage code flags data s).keeper = s.keeper := rfl
@[simp] theorem journal_fw (kind stage code flags : Nat) (data : Bytes) : (journal kind stage code flags data s).fw = s.fw := rfl
@[simp] theorem journal_panel (kind stage code flags : Nat) (data : Bytes) : (journal kind stage code flags data s).panel = s.panel := rfl
@[simp] theorem journal_selfTest (kind stage code flags : Nat) (data : Bytes) : (journal kind stage code flags data s).selfTest = s.selfTest := rfl
@[simp] theorem journal_counters (kind stage code flags : Nat) (data : Bytes) : (journal kind stage code flags data s).counters = s.counters := rfl
@[simp] theorem journal_d2d (kind stage code flags : Nat) (data : Bytes) : (journal kind stage code flags data s).d2d = s.d2d := rfl
@[simp] theorem journal_ethLinks (kind stage code flags : Nat) (data : Bytes) : (journal kind stage code flags data s).ethLinks = s.ethLinks := rfl

@[simp] theorem note_pending (kind : Nat) (data : Bytes) : (note kind data s).pending = s.pending := rfl
@[simp] theorem note_fresh (kind : Nat) (data : Bytes) : (note kind data s).fresh = s.fresh := rfl
@[simp] theorem note_clk (kind : Nat) (data : Bytes) : (note kind data s).clk = s.clk := rfl
@[simp] theorem note_out (kind : Nat) (data : Bytes) : (note kind data s).out = s.out := rfl
@[simp] theorem note_fuse (kind : Nat) (data : Bytes) : (note kind data s).fuse = s.fuse := rfl
@[simp] theorem note_bar0 (kind : Nat) (data : Bytes) : (note kind data s).bar0 = s.bar0 := rfl
@[simp] theorem note_inflight (kind : Nat) (data : Bytes) : (note kind data s).inflight = s.inflight := rfl
@[simp] theorem note_nextSeq (kind : Nat) (data : Bytes) : (note kind data s).nextSeq = s.nextSeq := rfl
@[simp] theorem note_remotes (kind : Nat) (data : Bytes) : (note kind data s).remotes = s.remotes := rfl
@[simp] theorem note_uploadSub (kind : Nat) (data : Bytes) : (note kind data s).uploadSub = s.uploadSub := rfl
@[simp] theorem note_uploadHeads (kind : Nat) (data : Bytes) : (note kind data s).uploadHeads = s.uploadHeads := rfl
@[simp] theorem note_fabric (kind : Nat) (data : Bytes) : (note kind data s).fabric = s.fabric := rfl
@[simp] theorem note_led (kind : Nat) (data : Bytes) : (note kind data s).led = s.led := rfl
@[simp] theorem note_meters (kind : Nat) (data : Bytes) : (note kind data s).meters = s.meters := rfl
@[simp] theorem note_balance (kind : Nat) (data : Bytes) : (note kind data s).balance = s.balance := rfl
@[simp] theorem note_met (kind : Nat) (data : Bytes) : (note kind data s).met = s.met := rfl
@[simp] theorem note_zither (kind : Nat) (data : Bytes) : (note kind data s).zither = s.zither := rfl
@[simp] theorem note_rf (kind : Nat) (data : Bytes) : (note kind data s).rf = s.rf := rfl
@[simp] theorem note_lyre (kind : Nat) (data : Bytes) : (note kind data s).lyre = s.lyre := rfl
@[simp] theorem note_tb (kind : Nat) (data : Bytes) : (note kind data s).tb = s.tb := rfl
@[simp] theorem note_time (kind : Nat) (data : Bytes) : (note kind data s).time = s.time := rfl
@[simp] theorem note_keys (kind : Nat) (data : Bytes) : (note kind data s).keys = s.keys := rfl
@[simp] theorem note_store (kind : Nat) (data : Bytes) : (note kind data s).store = s.store := rfl
@[simp] theorem note_twin (kind : Nat) (data : Bytes) : (note kind data s).twin = s.twin := rfl
@[simp] theorem note_twinBuffer (kind : Nat) (data : Bytes) : (note kind data s).twinBuffer = s.twinBuffer := rfl
@[simp] theorem note_keeper (kind : Nat) (data : Bytes) : (note kind data s).keeper = s.keeper := rfl
@[simp] theorem note_fw (kind : Nat) (data : Bytes) : (note kind data s).fw = s.fw := rfl
@[simp] theorem note_panel (kind : Nat) (data : Bytes) : (note kind data s).panel = s.panel := rfl
@[simp] theorem note_selfTest (kind : Nat) (data : Bytes) : (note kind data s).selfTest = s.selfTest := rfl
@[simp] theorem note_counters (kind : Nat) (data : Bytes) : (note kind data s).counters = s.counters := rfl
@[simp] theorem note_d2d (kind : Nat) (data : Bytes) : (note kind data s).d2d = s.d2d := rfl
@[simp] theorem note_ethLinks (kind : Nat) (data : Bytes) : (note kind data s).ethLinks = s.ethLinks := rfl

@[simp] theorem setErr_pending (n : Nat) : (setErr n s).pending = s.pending := rfl
@[simp] theorem setErr_fresh (n : Nat) : (setErr n s).fresh = s.fresh := rfl
@[simp] theorem setErr_clk (n : Nat) : (setErr n s).clk = s.clk := rfl
@[simp] theorem setErr_out (n : Nat) : (setErr n s).out = s.out := rfl
@[simp] theorem setErr_fuse (n : Nat) : (setErr n s).fuse = s.fuse := rfl
@[simp] theorem setErr_inflight (n : Nat) : (setErr n s).inflight = s.inflight := rfl
@[simp] theorem setErr_nextSeq (n : Nat) : (setErr n s).nextSeq = s.nextSeq := rfl
@[simp] theorem setErr_remotes (n : Nat) : (setErr n s).remotes = s.remotes := rfl
@[simp] theorem setErr_uploadSub (n : Nat) : (setErr n s).uploadSub = s.uploadSub := rfl
@[simp] theorem setErr_uploadHeads (n : Nat) : (setErr n s).uploadHeads = s.uploadHeads := rfl
@[simp] theorem setErr_fabric (n : Nat) : (setErr n s).fabric = s.fabric := rfl
@[simp] theorem setErr_led (n : Nat) : (setErr n s).led = s.led := rfl
@[simp] theorem setErr_meters (n : Nat) : (setErr n s).meters = s.meters := rfl
@[simp] theorem setErr_balance (n : Nat) : (setErr n s).balance = s.balance := rfl
@[simp] theorem setErr_met (n : Nat) : (setErr n s).met = s.met := rfl
@[simp] theorem setErr_zither (n : Nat) : (setErr n s).zither = s.zither := rfl
@[simp] theorem setErr_rf (n : Nat) : (setErr n s).rf = s.rf := rfl
@[simp] theorem setErr_lyre (n : Nat) : (setErr n s).lyre = s.lyre := rfl
@[simp] theorem setErr_tb (n : Nat) : (setErr n s).tb = s.tb := rfl
@[simp] theorem setErr_time (n : Nat) : (setErr n s).time = s.time := rfl
@[simp] theorem setErr_keys (n : Nat) : (setErr n s).keys = s.keys := rfl
@[simp] theorem setErr_store (n : Nat) : (setErr n s).store = s.store := rfl
@[simp] theorem setErr_twin (n : Nat) : (setErr n s).twin = s.twin := rfl
@[simp] theorem setErr_twinBuffer (n : Nat) : (setErr n s).twinBuffer = s.twinBuffer := rfl
@[simp] theorem setErr_keeper (n : Nat) : (setErr n s).keeper = s.keeper := rfl
@[simp] theorem setErr_boot (n : Nat) : (setErr n s).boot = s.boot := rfl
@[simp] theorem setErr_fw (n : Nat) : (setErr n s).fw = s.fw := rfl
@[simp] theorem setErr_panel (n : Nat) : (setErr n s).panel = s.panel := rfl
@[simp] theorem setErr_selfTest (n : Nat) : (setErr n s).selfTest = s.selfTest := rfl
@[simp] theorem setErr_counters (n : Nat) : (setErr n s).counters = s.counters := rfl
@[simp] theorem setErr_d2d (n : Nat) : (setErr n s).d2d = s.d2d := rfl
@[simp] theorem setErr_ethLinks (n : Nat) : (setErr n s).ethLinks = s.ethLinks := rfl

end Sys2Proof.Machine
end

