-- ==== Sys2Proof/Laws/Completions.lean ====
section
/-! SUPPORT. Everything the shared operations of a command's end can do: outputs only grow, every unit outside the ledger,
BAR0 and the sessions stands, and the completion is delivered. -/

namespace Sys2Proof.Laws

open Sys2Proof.Machine Sys2Proof.Safety

/-! ## Still -/

/-- Nothing changed. -/
theorem still_refl (s : State) : Still s s := by
  refine ⟨?_, ?_, ?_, ?_, ?_, ?_, ?_, ?_, ?_, ?_, ?_, ?_, ?_, ?_, ?_, ?_, ?_, ?_, ?_, ?_, ?_, ?_, ?_, ?_, ?_, ?_⟩ <;> rfl

/-- Two frames follow each other. -/
theorem still_trans {s t u : State} (h : Still s t) (k : Still t u) : Still s u := by
  unfold Still at *
  grind

/-- A frame of the completion follows another. -/
theorem stillLedger_trans {s t u : State} (h : StillLedger s t) (k : StillLedger t u) : StillLedger s u :=
  ⟨still_trans h.1 k.1, k.2.1.trans h.2.1, k.2.2.trans h.2.2⟩

/-! ## What one operation keeps, as one relation -/

/-- What every operation of a completion keeps: the frame, the outputs so far, the sessions' identities and the upload
channel's connection. -/
def Grows (s t : State) : Prop :=
  Still s t ∧ (∀ o ∈ s.out, o ∈ t.out) ∧
    (∀ i, (t.remotes.any fun r => r.id == i) = (s.remotes.any fun r => r.id == i)) ∧
    t.uploadSub.connected = s.uploadSub.connected

/-- Nothing changed. -/
theorem grows_refl (s : State) : Grows s s := ⟨still_refl s, fun _ h => h, fun _ => rfl, rfl⟩

/-- Two operations follow each other. -/
theorem grows_trans {s t u : State} (h : Grows s t) (k : Grows t u) : Grows s u :=
  ⟨still_trans h.1 k.1, fun o ho => k.2.1 o (h.2.1 o ho), fun i => (k.2.2.1 i).trans (h.2.2.1 i),
    k.2.2.2.trans h.2.2.2⟩

/-- Something emitted. -/
theorem grows_emit (o : Output) (s : State) : Grows s (emit o s) :=
  ⟨still_refl s, fun _ h => List.mem_append_left _ h, fun _ => rfl, rfl⟩

/-- Several things emitted. -/
theorem grows_emitAll (os : List Output) (s : State) : Grows s (emitAll os s) :=
  ⟨still_refl s, fun _ h => List.mem_append_left _ h, fun _ => rfl, rfl⟩

/-- BAR0 changed. -/
theorem grows_bar0 (b : Bar0) (s : State) : Grows s { s with bar0 := b } :=
  ⟨still_refl s, fun _ h => h, fun _ => rfl, rfl⟩

/-- The commands in progress changed. -/
theorem grows_inflight (l : List InFlight) (s : State) : Grows s { s with inflight := l } :=
  ⟨still_refl s, fun _ h => h, fun _ => rfl, rfl⟩

/-- The ledger changed. -/
theorem grows_led (l : Ledger) (s : State) : Grows s { s with led := l } :=
  ⟨still_refl s, fun _ h => h, fun _ => rfl, rfl⟩

/-- The position in the twin's stream changed. -/
theorem grows_twin (a b c : Nat) (s : State) :
    Grows s { s with twin := { s.twin with inputSeq := a, curSeq := b, groupIndex := c } } := by
  refine ⟨?_, fun _ h => h, fun _ => rfl, rfl⟩
  refine ⟨?_, ?_, ?_, ?_, ?_, ?_, ?_, ?_, ?_, ?_, ?_, ?_, ?_, ?_, ?_, ?_, ?_, ?_, ?_, ?_, ?_, ?_, ?_, ?_, ?_, ?_⟩ <;> rfl

/-- The traffic of the upload channel noted. -/
theorem grows_upload (n : Nat) (s : State) :
    Grows s { s with uploadSub := { s.uploadSub with lastTraffic := n } } :=
  ⟨still_refl s, fun _ h => h, fun _ => rfl, rfl⟩

/-- Changing an element in place keeps which identities a list has. -/
theorem any_modifyFirst {α : Type} (p q : α → Bool) (f : α → α) (h : ∀ x, q (f x) = q x) (l : List α) :
    (modifyFirst p f l).any q = l.any q := by
  induction l with
  | nil => rfl
  | cons x xs ih =>
    simp only [modifyFirst]
    split
    · simp [h]
    · simp [ih]

/-- A ring changed. -/
theorem grows_onRing (n : Nat) (f : Ring → Ring) (s : State) : Grows s (onRing n f s) := grows_bar0 _ s

/-- The open epoch changed. -/
theorem grows_onOpen (f : Epoch → Epoch) (s : State) : Grows s (onOpen f s) := grows_led _ s

/-- An MSI-X message sent or pending. -/
theorem grows_sendMsix (v : Nat) (s : State) : Grows s (sendMsix v s) := by
  unfold sendMsix
  split
  · exact grows_bar0 _ s
  · exact grows_emit _ s

/-- An event entry written. -/
theorem grows_writeEvent (e : EvRec) (s : State) : Grows s (writeEvent e s) := by
  unfold writeEvent
  refine grows_trans ?_ (grows_sendMsix _ _)
  split
  · exact grows_trans (grows_bar0 _ s) (grows_emit _ _)
  · exact grows_trans (grows_trans (grows_bar0 _ s) (grows_emit _ _)) (grows_emit _ _)

/-- EVENTS_LOST posted once space has returned. -/
theorem grows_postLost (s : State) : Grows s (postLost s) := by
  unfold postLost
  split
  · exact grows_trans (grows_writeEvent _ s) (grows_bar0 _ _)
  · exact grows_refl s

/-- An event offered. -/
theorem grows_postEvent (e : EvRec) (s : State) : Grows s (postEvent e s) := by
  have tail (u : State) : Grows u { emitAll (u.remotes.map fun r => .remoteEvent r.id e) u with
      remotes := u.remotes.map fun r => { r with lastTraffic := u.clk } } :=
    ⟨still_refl u, fun _ h => List.mem_append_left _ h, fun i => by simp [List.any_map, Function.comp_def], rfl⟩
  have up (u : State) : Grows u (if u.uploadSub.connected && u.uploadSub.headRing.isSome then
      { emit (.uploadSub 0x03 e.bytes) u with uploadSub := { u.uploadSub with lastTraffic := u.clk } } else u) := by
    split
    · exact ⟨still_refl u, fun _ h => List.mem_append_left _ h, fun _ => rfl, rfl⟩
    · exact grows_refl u
  have ring (u : State) : Grows u (if u.bar0.ev.enable && decide (e.severity ≥ u.bar0.ev.minSeverity) then
      (if u.bar0.ev.full then { u with bar0 := { u.bar0 with ev := { u.bar0.ev with
        lost := satInc 0xFFFFFFFF u.bar0.ev.lost, lostSep := satInc 0xFFFFFFFF u.bar0.ev.lostSep } } }
      else writeEvent e u) else u) := by
    split
    · split
      · exact grows_bar0 _ u
      · exact grows_writeEvent e u
    · exact grows_refl u
  unfold postEvent
  split
  · exact grows_refl s
  · exact grows_trans (grows_trans (grows_trans (grows_postLost s) (ring _)) (up _)) (tail _)

/-- Events offered one after another. -/
theorem grows_postEvents (es : List EvRec) (s : State) : Grows s (es.foldl (fun a e => postEvent e a) s) := by
  induction es generalizing s with
  | nil => exact grows_refl s
  | cons e es ih => exact grows_trans (grows_postEvent e s) (ih _)

/-- A group appended. -/
theorem grows_addGroup (items : List Item) (mh : Option Nat) (c b : Bool) (s : State) :
    Grows s (addGroup items mh c b s) := by
  have mark (u : State) (o : Output) : Grows u (if mirroring u then emit o u else u) := by
    split
    · exact grows_emit _ u
    · exact grows_refl u
  unfold addGroup onLed onEpoch
  dsimp only
  split
  · exact grows_trans (grows_trans (grows_led _ s) (grows_trans (grows_led _ _) (grows_twin _ _ _ _))) (mark _ _)
  · exact grows_trans (grows_trans (grows_trans (grows_led _ s) (grows_trans (grows_led _ _) (grows_twin _ _ _ _)))
      (mark _ _)) (grows_postEvents _ _)

/-- The open epoch closed at its limit or by a command. -/
theorem grows_closeEpoch (k : Nat) (s : State) : Grows s (closeEpoch k s) := by
  have mark (u : State) (o : Output) : Grows u (if mirroring u then emit o u else u) := by
    split
    · exact grows_emit _ u
    · exact grows_refl u
  unfold closeEpoch
  split
  · exact grows_refl s
  · split
    · exact grows_refl s
    · unfold closeNow openNext
      exact grows_trans (grows_trans (grows_onOpen _ s) (mark _ _)) (grows_led _ _)

/-- See `grows_closeEpoch`. -/
theorem grows_limitClose (s : State) : Grows s (limitClose s) := by
  unfold limitClose
  split
  · split
    · exact grows_closeEpoch 3 s
    · exact grows_refl s
  · exact grows_refl s

/-! ## The ledger and the commands in progress under these operations -/

/-- An MSI-X message leaves the ledger, the stream and the commands in progress. -/
@[simp] theorem sendMsix_led (v : Nat) (s : State) : (sendMsix v s).led = s.led := by unfold sendMsix; split <;> rfl
/-- See `sendMsix_led`. -/
@[simp] theorem sendMsix_twin (v : Nat) (s : State) : (sendMsix v s).twin = s.twin := by unfold sendMsix; split <;> rfl
/-- See `sendMsix_led`. -/
@[simp] theorem sendMsix_inflight (v : Nat) (s : State) : (sendMsix v s).inflight = s.inflight := by
  unfold sendMsix; split <;> rfl
/-- An event entry leaves the ledger, the stream and the commands in progress. -/
@[simp] theorem writeEvent_led (e : EvRec) (s : State) : (writeEvent e s).led = s.led := by
  unfold writeEvent; simp only [sendMsix_led]; split <;> rfl
/-- See `writeEvent_led`. -/
@[simp] theorem writeEvent_twin (e : EvRec) (s : State) : (writeEvent e s).twin = s.twin := by
  unfold writeEvent; simp only [sendMsix_twin]; split <;> rfl
/-- See `writeEvent_led`. -/
@[simp] theorem writeEvent_inflight (e : EvRec) (s : State) : (writeEvent e s).inflight = s.inflight := by
  unfold writeEvent; simp only [sendMsix_inflight]; split <;> rfl
/-- EVENTS_LOST leaves the ledger, the stream and the commands in progress. -/
@[simp] theorem postLost_led (s : State) : (postLost s).led = s.led := by
  unfold postLost; split
  · simp
  · rfl
/-- See `postLost_led`. -/
@[simp] theorem postLost_twin (s : State) : (postLost s).twin = s.twin := by
  unfold postLost; split
  · simp
  · rfl
/-- See `postLost_led`. -/
@[simp] theorem postLost_inflight (s : State) : (postLost s).inflight = s.inflight := by
  unfold postLost; split
  · simp
  · rfl

/-- An event offered leaves the ledger, the stream and the commands in progress. -/
theorem postEvent_keeps (e : EvRec) (s : State) :
    (postEvent e s).led = s.led ∧ (postEvent e s).twin = s.twin ∧ (postEvent e s).inflight = s.inflight := by
  have ring (u : State) : ((if u.bar0.ev.enable && decide (e.severity ≥ u.bar0.ev.minSeverity) then
      (if u.bar0.ev.full then { u with bar0 := { u.bar0 with ev := { u.bar0.ev with
        lost := satInc 0xFFFFFFFF u.bar0.ev.lost, lostSep := satInc 0xFFFFFFFF u.bar0.ev.lostSep } } }
      else writeEvent e u) else u) : State).led = u.led ∧ ((if u.bar0.ev.enable && decide (e.severity ≥ u.bar0.ev.minSeverity) then
      (if u.bar0.ev.full then { u with bar0 := { u.bar0 with ev := { u.bar0.ev with
        lost := satInc 0xFFFFFFFF u.bar0.ev.lost, lostSep := satInc 0xFFFFFFFF u.bar0.ev.lostSep } } }
      else writeEvent e u) else u) : State).twin = u.twin ∧ ((if u.bar0.ev.enable && decide (e.severity ≥ u.bar0.ev.minSeverity) then
      (if u.bar0.ev.full then { u with bar0 := { u.bar0 with ev := { u.bar0.ev with
        lost := satInc 0xFFFFFFFF u.bar0.ev.lost, lostSep := satInc 0xFFFFFFFF u.bar0.ev.lostSep } } }
      else writeEvent e u) else u) : State).inflight = u.inflight := by
    split
    · split <;> simp
    · simp
  have up (u : State) : ((if u.uploadSub.connected && u.uploadSub.headRing.isSome then
      { emit (.uploadSub 0x03 e.bytes) u with uploadSub := { u.uploadSub with lastTraffic := u.clk } } else u) : State).led = u.led ∧
      ((if u.uploadSub.connected && u.uploadSub.headRing.isSome then
      { emit (.uploadSub 0x03 e.bytes) u with uploadSub := { u.uploadSub with lastTraffic := u.clk } } else u) : State).twin = u.twin ∧
      ((if u.uploadSub.connected && u.uploadSub.headRing.isSome then
      { emit (.uploadSub 0x03 e.bytes) u with uploadSub := { u.uploadSub with lastTraffic := u.clk } } else u) : State).inflight = u.inflight := by
    split <;> simp
  unfold postEvent
  split
  · exact ⟨rfl, rfl, rfl⟩
  · have a := ring (postLost s)
    have b := up (if (postLost s).bar0.ev.enable && decide (e.severity ≥ (postLost s).bar0.ev.minSeverity) then
      (if (postLost s).bar0.ev.full then { postLost s with bar0 := { (postLost s).bar0 with ev := { (postLost s).bar0.ev with
        lost := satInc 0xFFFFFFFF (postLost s).bar0.ev.lost, lostSep := satInc 0xFFFFFFFF (postLost s).bar0.ev.lostSep } } }
      else writeEvent e (postLost s)) else postLost s)
    exact ⟨b.1.trans (a.1.trans (postLost_led s)), b.2.1.trans (a.2.1.trans (postLost_twin s)),
      b.2.2.trans (a.2.2.trans (postLost_inflight s))⟩

/-- See `postEvent_keeps`. -/
@[simp] theorem postEvent_led (e : EvRec) (s : State) : (postEvent e s).led = s.led := (postEvent_keeps e s).1
/-- See `postEvent_keeps`. -/
@[simp] theorem postEvent_twin (e : EvRec) (s : State) : (postEvent e s).twin = s.twin := (postEvent_keeps e s).2.1
/-- See `postEvent_keeps`. -/
@[simp] theorem postEvent_inflight (e : EvRec) (s : State) : (postEvent e s).inflight = s.inflight :=
  (postEvent_keeps e s).2.2

/-- Events offered leave the ledger and the commands in progress. -/
theorem postEvents_keep (es : List EvRec) (s : State) :
    (es.foldl (fun a e => postEvent e a) s).led = s.led ∧ (es.foldl (fun a e => postEvent e a) s).inflight = s.inflight := by
  induction es generalizing s with
  | nil => exact ⟨rfl, rfl⟩
  | cons e es ih =>
    refine ⟨(ih (postEvent e s)).1.trans (postEvent_led e s), (ih (postEvent e s)).2.trans (postEvent_inflight e s)⟩

/-- A group appended: the working content is the items' effect on it, and the commands in progress stand. -/
theorem addGroup_work (items : List Item) (mh : Option Nat) (c b : Bool) (s : State) :
    (addGroup items mh c b s).led.work = contentAfter (groupEpoch s) (now s) items s.led.work ∧
      (addGroup items mh c b s).inflight = s.inflight := by
  unfold addGroup
  dsimp only
  split
  · split <;> exact ⟨rfl, rfl⟩
  · refine ⟨(congrArg Ledger.work (postEvents_keep _ _).1).trans ?_, (postEvents_keep _ _).2.trans ?_⟩
    · split <;> rfl
    · split <;> rfl

/-- A close leaves the working content and the commands in progress. -/
theorem closeEpoch_keeps (k : Nat) (s : State) :
    (closeEpoch k s).led.work = s.led.work ∧ (closeEpoch k s).inflight = s.inflight := by
  unfold closeEpoch
  split
  · exact ⟨rfl, rfl⟩
  · split
    · exact ⟨rfl, rfl⟩
    · unfold closeNow openNext
      dsimp only
      split <;> exact ⟨rfl, rfl⟩

/-- See `closeEpoch_keeps`. -/
theorem limitClose_keeps (s : State) :
    (limitClose s).led.work = s.led.work ∧ (limitClose s).inflight = s.inflight := by
  unfold limitClose
  split
  · split
    · exact closeEpoch_keeps 3 s
    · exact ⟨rfl, rfl⟩
  · exact ⟨rfl, rfl⟩

/-! ## Completions -/

/-- The interrupt of a completion. -/
theorem grows_coalesce (n k : Nat) (s : State) : Grows s (coalesce n k s) := by
  unfold coalesce
  dsimp only
  split
  · exact grows_trans (grows_onRing _ _ s) (grows_sendMsix _ _)
  · exact grows_onRing _ _ s

/-- See `grows_coalesce`. -/
theorem coalesce_keeps (n k : Nat) (s : State) :
    (coalesce n k s).led = s.led ∧ (coalesce n k s).twin = s.twin ∧ (coalesce n k s).inflight = s.inflight := by
  unfold coalesce
  dsimp only
  split
  · exact ⟨by simp, by simp, by simp⟩
  · exact ⟨rfl, rfl, rfl⟩

/-- A completion posted: the frame, and its entry among the outputs. -/
theorem postCompletion_spec (addr : Nat) (c : Completion) (s : State) :
    Grows s (postCompletion addr c s) ∧ (postCompletion addr c s).led = s.led ∧
      (postCompletion addr c s).twin = s.twin ∧ (postCompletion addr c s).inflight = s.inflight ∧
      ∃ slot phase head, Output.completion c.ring slot phase { c with crHead := head } ∈ (postCompletion addr c s).out := by
  unfold postCompletion
  dsimp only
  have k := coalesce_keeps c.ring (ringOf s c.ring).coalCount (onRing c.ring (fun r => { r with
      cpProd := (r.cpProd + 1) % 256, phase := if r.cpProd = 255 then !r.phase else r.phase,
      reserved := r.reserved - 1, unread := r.unread + 1 })
    (emit (.completion c.ring (ringOf s c.ring).cpProd (ringOf s c.ring).phase { c with crHead := (ringOf s c.ring).head })
      (if c.out.isEmpty then s else emit (.buffer addr c.out) s)))
  have b : Grows s (if c.out.isEmpty then s else emit (.buffer addr c.out) s) := by
    split
    · exact grows_refl s
    · exact grows_emit _ s
  have bl : (if c.out.isEmpty then s else emit (.buffer addr c.out) s).led = s.led := by split <;> rfl
  have bt : (if c.out.isEmpty then s else emit (.buffer addr c.out) s).twin = s.twin := by split <;> rfl
  have bi : (if c.out.isEmpty then s else emit (.buffer addr c.out) s).inflight = s.inflight := by split <;> rfl
  have g := grows_coalesce c.ring (ringOf s c.ring).coalCount (onRing c.ring (fun r => { r with
      cpProd := (r.cpProd + 1) % 256, phase := if r.cpProd = 255 then !r.phase else r.phase,
      reserved := r.reserved - 1, unread := r.unread + 1 })
    (emit (.completion c.ring (ringOf s c.ring).cpProd (ringOf s c.ring).phase { c with crHead := (ringOf s c.ring).head })
      (if c.out.isEmpty then s else emit (.buffer addr c.out) s)))
  refine ⟨grows_trans (grows_trans (grows_trans b (grows_emit _ _)) (grows_onRing _ _ _)) g, k.1.trans bl, k.2.1.trans bt,
    k.2.2.trans bi, (ringOf s c.ring).cpProd, (ringOf s c.ring).phase, (ringOf s c.ring).head, ?_⟩
  exact g.2.1 _ (List.mem_append_right _ (List.mem_singleton.mpr rfl))

/-- A delivery: the frame, and where the first copy goes. -/
theorem deliver_spec (d : Dest) (i : Option Nat) (addr : Nat) (c : Completion) (s : State) :
    Grows s (deliver d i addr c s) ∧ (deliver d i addr c s).led = s.led ∧ (deliver d i addr c s).twin = s.twin ∧
      (deliver d i addr c s).inflight = s.inflight := by
  cases d with
  | host => exact ⟨(postCompletion_spec addr c s).1, (postCompletion_spec addr c s).2.1,
      (postCompletion_spec addr c s).2.2.1, (postCompletion_spec addr c s).2.2.2.1⟩
  | remote =>
    unfold deliver
    cases i with
    | none => exact ⟨grows_refl s, rfl, rfl, rfl⟩
    | some i =>
      dsimp only
      split
      · exact ⟨⟨still_refl s, fun _ h => List.mem_append_left _ h,
          fun j => any_modifyFirst (fun r => r.id == i) (fun r => r.id == j)
            (fun r => { r with lastTraffic := s.clk }) (fun _ => rfl) s.remotes, rfl⟩, rfl, rfl, rfl⟩
      · exact ⟨grows_refl s, rfl, rfl, rfl⟩
  | upload =>
    unfold deliver
    dsimp only
    split
    · exact ⟨⟨still_refl s, fun _ h => List.mem_append_left _ h, fun _ => rfl, rfl⟩, rfl, rfl, rfl⟩
    · exact ⟨grows_refl s, rfl, rfl, rfl⟩
  | dropped => exact ⟨grows_refl s, rfl, rfl, rfl⟩

/-- A delivery's completion is among the outputs. -/
theorem deliver_mem (d : Dest) (f : InFlight) (addr : Nat) (c : Completion) (s : State) (hc : c.ring = f.cmd.ring) :
    match (motive := Dest → Prop) d with
    | .host => ∃ slot phase head,
        Output.completion f.cmd.ring slot phase { c with crHead := head } ∈ (deliver d f.session addr c s).out
    | .remote => ∀ i, f.session = some i → (s.remotes.any fun r => r.id == i) = true →
        Output.remoteCompletion i c ∈ (deliver d f.session addr c s).out
    | .upload => s.uploadSub.connected = true →
        Output.uploadSub 0x02 (c.bytes false ++ c.out) ∈ (deliver d f.session addr c s).out
    | .dropped => True := by
  cases d with
  | host => exact hc ▸ (postCompletion_spec addr c s).2.2.2.2
  | remote =>
    intro i hi hr
    simp only [deliver, hi, hr, if_true]
    exact List.mem_append_right _ (List.mem_singleton.mpr rfl)
  | upload =>
    intro h
    simp only [deliver, h, if_true]
    exact List.mem_append_right _ (List.mem_singleton.mpr rfl)
  | dropped => trivial

/-- Deliveries one after another. -/
theorem deliveries_spec (f : InFlight) (c : Completion) (ds : List (Dest × Nat)) (s : State) :
    let t := ds.foldl (fun a d => deliver d.1 f.session f.cmd.bufAddr (if d.2 = 0 then c else replayOf a c) a) s
    Grows s t ∧ t.led = s.led ∧ t.twin = s.twin ∧ t.inflight = s.inflight := by
  induction ds generalizing s with
  | nil => exact ⟨grows_refl s, rfl, rfl, rfl⟩
  | cons d ds ih =>
    have a := deliver_spec d.1 f.session f.cmd.bufAddr (if d.2 = 0 then c else replayOf s c) s
    have b := ih (deliver d.1 f.session f.cmd.bufAddr (if d.2 = 0 then c else replayOf s c) s)
    exact ⟨grows_trans a.1 b.1, b.2.1.trans a.2.1, b.2.2.1.trans a.2.2.1, b.2.2.2.trans a.2.2.2⟩

/-- Everything a completed command leaves (R34, R38): it is no longer in progress, its completion is delivered, and the
ledger and every unit stand. -/
theorem complete_spec (f : InFlight) (c : Completion) (s : State) (hc : c.ring = f.cmd.ring) :
    Answered f c s (complete f c s) ∧ StillLedger s (complete f c s) := by
  have d := deliveries_spec f c f.dests.zipIdx { s with inflight := s.inflight.filter fun g => g.seq != f.seq }
  have g := grows_trans (grows_inflight (s.inflight.filter fun g => g.seq != f.seq) s) d.1
  refine ⟨⟨?_, ?_⟩, g.1, d.2.1, d.2.2.1⟩
  · intro g hg
    have e : (complete f c s).inflight = s.inflight.filter fun g => g.seq != f.seq := d.2.2.2
    rw [e] at hg
    simpa using (List.mem_filter.mp hg).2
  · unfold Delivered
    cases hd : f.dests with
    | nil => trivial
    | cons x xs =>
      have first := deliver_mem x f f.cmd.bufAddr c
        { s with inflight := s.inflight.filter fun g => g.seq != f.seq } hc
      have rest := (deliveries_spec f c (xs.zipIdx 1) (deliver x f.session f.cmd.bufAddr c
        { s with inflight := s.inflight.filter fun g => g.seq != f.seq })).1.2.1
      have out : (complete f c s).out = ((xs.zipIdx 1).foldl (fun a d =>
          deliver d.1 f.session f.cmd.bufAddr (if d.2 = 0 then c else replayOf a c) a)
          (deliver x f.session f.cmd.bufAddr c { s with inflight := s.inflight.filter fun g => g.seq != f.seq })).out := by
        unfold complete
        rw [hd]
        rfl
      cases x with
      | host =>
        obtain ⟨a, b, e, h⟩ := first
        exact ⟨a, b, e, out ▸ rest _ h⟩
      | remote => exact fun i hi hr => out ▸ rest _ (first i hi hr)
      | upload => exact fun h => out ▸ rest _ (first h)
      | dropped => trivial

/-! ## A command that is ready -/

/-- Starting a ready command and counting its input leaves everything but the commands in progress, the stream and the
outputs. -/
theorem running_spec (op : Nat) (f : InFlight) (s : State) :
    Grows s (running op f s) ∧ (running op f s).led = s.led ∧ (running op f s).uploadSub = s.uploadSub ∧
      (running op f s).remotes = s.remotes ∧ (running op f s).bar0 = s.bar0 ∧ isStandby (running op f s) = isStandby s := by
  unfold running newInput
  dsimp only
  have plain : ∀ o ∈ s.out, o ∈ s.out := fun _ h => h
  split
  · split
    · exact ⟨⟨still_refl s, plain, fun _ => rfl, rfl⟩, rfl, rfl, rfl, rfl, rfl⟩
    · have g := grows_twin ((started f s).twin.inputSeq + 1) ((started f s).twin.inputSeq + 1) 0 (started f s)
      split
      · exact ⟨grows_trans (grows_trans (grows_inflight _ s) g) (grows_emit _ _), rfl, rfl, rfl, rfl, rfl⟩
      · exact ⟨grows_trans (grows_inflight _ s) g, rfl, rfl, rfl, rfl, rfl⟩
  · exact ⟨⟨still_refl s, plain, fun _ => rfl, rfl⟩, rfl, rfl, rfl, rfl, rfl⟩

/-- A ready command runs its body on the running state, and its answer finishes it. -/
theorem runDcs_ready {op : Nat} {c : Cmd} {f : InFlight} {s : State} {body : Cmd → State → Answer}
    (h : ready op c f s = true) (hop : (opRow op).isSome = true) (hb : body c (running op f s) ≠ .hold) :
    runDcs op c body s = finish f (body c (running op f s)) (running op f s) := by
  obtain ⟨r, hr⟩ := Option.isSome_iff_exists.mp hop
  simp only [ready, hr, Option.any_some, Bool.and_eq_true, beq_iff_eq, Bool.not_eq_true'] at h
  obtain ⟨⟨⟨⟨⟨⟨h1, h2⟩, h3⟩, h4⟩, h5⟩, h6⟩, h7⟩ := h
  have hc : sameMhClear f (started f s) = true := by
    have k : ∀ l : List InFlight, (modifyFirst (fun g => g.seq == f.seq) (fun g => { g with started := true }) l).all
        (fun g => !(g.cmd.ring == f.cmd.ring && decide (g.seq < f.seq) && g.waitCommit.isNone && cmdMh g.cmd == cmdMh f.cmd))
        = l.all (fun g => !(g.cmd.ring == f.cmd.ring && decide (g.seq < f.seq) && g.waitCommit.isNone && cmdMh g.cmd == cmdMh f.cmd)) := by
      intro l
      induction l with
      | nil => rfl
      | cons x xs ih =>
        simp only [modifyFirst]
        split
        · rfl
        · rw [List.all_cons, List.all_cons, ih]
    unfold sameMhClear started at *
    rw [k]
    exact h4
  have hs : inService (started f s) = true := h5
  have h7' : (r.head && !s.boot.headRole) = false := by
    rcases Bool.or_eq_true _ _ ▸ h7 with h | h <;> simp_all
  have ht : running op f s = (if r.chg then newInput 4 (started f s) else started f s) := by simp [running, hr]
  rw [ht] at hb ⊢
  unfold runDcs
  rw [h1]
  simp only [h2, bne_self_eq_false, h3, Bool.not_true, Bool.false_or, Bool.false_eq_true, if_false]
  change (if !sameMhClear f (started f s) then _ else _) = _
  simp only [hc, hr, Bool.not_true, Bool.false_eq_true, if_false]
  change (if (r.head && !s.boot.headRole) = true then _ else if (!inService (started f s)) = true then _ else _) = _
  simp only [h7', hs, Bool.not_true, Bool.false_eq_true, if_false]
  split
  · next e => exact absurd e hb
  · rfl

/-- Delivery seen from an earlier state with the same sessions. -/
theorem answered_from {f : InFlight} {c : Completion} {s u t : State}
    (hr : ∀ i, (u.remotes.any fun r => r.id == i) = (s.remotes.any fun r => r.id == i))
    (hu : u.uploadSub.connected = s.uploadSub.connected) (h : Answered f c u t) : Answered f c s t := by
  refine ⟨h.1, ?_⟩
  have k := h.2
  unfold Delivered at k ⊢
  split at k
  · exact k
  · exact fun i hi h => k i hi ((hr i).trans h)
  · exact fun h => k (hu.trans h)
  · trivial

/-- A command that asks for no WAIT_COMMIT. -/
theorem ready_noWait {op : Nat} {c : Cmd} {f : InFlight} {s : State} (h : ready op c f s = true) :
    f.cmd = c ∧ f.cmd.waitCommit = false := by
  simp only [ready, Bool.and_eq_true, beq_iff_eq, Bool.not_eq_true'] at h
  have k := List.find?_some h.1.1.1.1.1.1
  simp only [Bool.and_eq_true, beq_iff_eq] at k
  exact ⟨k.1.1, k.1.1 ▸ h.1.2⟩

/-- A read that replies (R37): with no WAIT_COMMIT it is answered at once; what its body left beside the commands in progress
and BAR0 stands. -/
theorem runDcs_reply {op : Nat} {c : Cmd} {f : InFlight} {s u : State} {body : Cmd → State → Answer} {r e : Nat}
    {n : Bool} {d o : Bytes} (h : ready op c f s = true) (hop : ((opRow op).map (·.chg)) = some false)
    (hb : body c (started f s) = .reply r e n d o u) (hg : Grows s u) (hl : u.led = s.led) (ht : u.twin = s.twin) :
    Reads f r e n d o s (runDcs op c body s) := by
  obtain ⟨row, hr, hc⟩ := Option.map_eq_some_iff.mp hop
  have hrun : running op f s = started f s := by simp [running, hr, hc]
  have hne : body c (running op f s) ≠ .hold := by rw [hrun, hb]; simp
  rw [runDcs_ready h (by simp [hr]) hne, hrun, hb]
  have hw := (ready_noWait h).2
  have hcm : committed u e = committed s e := by simp only [committed, hl]
  have k := complete_spec f (mkCompletion f r e (if f.cmd.bufOut then o.length else f.cmd.bufLen)
    (committed u e) n d o) u rfl
  have hf : finish f (.reply r e n d o u) (started f s) = complete f (mkCompletion f r e
      (if f.cmd.bufOut then o.length else f.cmd.bufLen) (committed u e) n d o) u := by
    simp [finish, completeOrWait, hw]
  rw [hf, hcm] at *
  exact ⟨answered_from hg.2.2.1 hg.2.2.2 k.1, still_trans hg.1 k.2.1, k.2.2.1.trans hl, k.2.2.2.trans ht⟩

/-- A read whose body leaves the state alone. -/
theorem runDcs_plain {op : Nat} {c : Cmd} {f : InFlight} {s : State} {body : Cmd → State → Answer} {r e : Nat}
    {n : Bool} {d o : Bytes} (h : ready op c f s = true) (hop : ((opRow op).map (·.chg)) = some false)
    (hb : body c (started f s) = .reply r e n d o (started f s)) : Reads f r e n d o s (runDcs op c body s) :=
  runDcs_reply h hop hb (grows_inflight _ s) rfl rfl

/-- A command that its body refuses changes nothing and completes with the result. -/
theorem runDcs_refuse {op : Nat} {c : Cmd} {f : InFlight} {s : State} {body : Cmd → State → Answer} {r : Nat}
    {d : Bytes} (h : ready op c f s = true) (hop : (opRow op).isSome = true)
    (hb : body c (running op f s) = .refuse r d) : Declines f r d s (runDcs op c body s) := by
  have hne : body c (running op f s) ≠ .hold := by rw [hb]; simp
  rw [runDcs_ready h hop hne, hb]
  have g := running_spec op f s
  have k := complete_spec f (mkCompletion f r 0 0 false false d []) (running op f s) rfl
  exact ⟨answered_from g.1.2.2.1 g.1.2.2.2 k.1, still_trans g.1.1 k.2.1, k.2.2.1.trans g.2.1⟩

/-- A change that the ledger takes (R37, R54): the group with its audit record last, and the completion with the open
epoch. `u` is the state with what the command does beside the ledger. -/
theorem runDcs_change {op : Nat} {c : Cmd} {f : InFlight} {s : State} {body : Cmd → State → Answer}
    {items : List Item} {p : AuditPart} {d : Bytes} {u : State} (h : ready op c f s = true)
    (hop : (opRow op).isSome = true) (hb : body c (running op f s) = .change items p 0 d [] f.cmd.bufLen u)
    (hu : takesGroups u = true) : Changes f items p d u (runDcs op c body s) := by
  have hne : body c (running op f s) ≠ .hold := by rw [hb]; simp
  rw [runDcs_ready h hop hne, hb]
  have hw := (ready_noWait h).2
  have hr : appendRefusal (items ++ [.audit (auditOf u f p 0)]) u = none := by
    simp only [takesGroups, Bool.and_eq_true, decide_eq_true_eq, Bool.not_eq_true'] at hu
    simp [appendRefusal, hu.2, Nat.not_le.mpr hu.1]
  have a := addGroup_work (items ++ [.audit (auditOf u f p 0)]) p.mh true false u
  have ga := grows_addGroup (items ++ [.audit (auditOf u f p 0)]) p.mh true false u
  have l := limitClose_keeps (addGroup (items ++ [.audit (auditOf u f p 0)]) p.mh true false u)
  have gl := grows_limitClose (addGroup (items ++ [.audit (auditOf u f p 0)]) p.mh true false u)
  have k := complete_spec f (mkCompletion f 0 (openNum u) f.cmd.bufLen false false d [])
    (limitClose (addGroup (items ++ [.audit (auditOf u f p 0)]) p.mh true false u)) rfl
  have hf : finish f (.change items p 0 d [] f.cmd.bufLen u) (running op f s) = complete f (mkCompletion f 0 (openNum u)
      f.cmd.bufLen false false d []) (limitClose (addGroup (items ++ [.audit (auditOf u f p 0)]) p.mh true false u)) := by
    simp [finish, hr, completeOrWait, hw]
  rw [hf]
  refine ⟨?_, answered_from (grows_trans ga gl).2.2.1 (grows_trans ga gl).2.2.2 k.1, still_trans (still_trans ga.1 gl.1) k.2.1⟩
  exact (congrArg Ledger.work k.2.2.1).trans (l.1.trans a.1)

/-- The stream's position of a standby is the active's own: starting a command does not move it (R349). -/
theorem running_standby (op : Nat) (f : InFlight) (s : State) (h : isStandby s = true) : (running op f s).twin = s.twin := by
  have k : isStandby (started f s) = true := h
  unfold running newInput
  split
  · rfl
  · rfl

/-- A change seen from the state before its input was counted: `v` is `s` with what the command does beside the ledger, `u` the
same of the running state. -/
theorem changes_from {f : InFlight} {items : List Item} {p : AuditPart} {d : Bytes} {v u t : State}
    (h : Changes f items p d u t) (led : u.led = v.led) (rem : u.remotes = v.remotes) (up : u.uploadSub = v.uploadSub)
    (st : isStandby u = isStandby v) (key : isStandby v = true → u.twin = v.twin) (hs : Still v u) :
    Changes f items p d v t := by
  have tb : u.tb = v.tb := hs.2.2.2.2.2.2.2.2.2.2.2.2.1
  have hnum : openNum u = openNum v := by simp only [openNum, openEpoch, led]
  have hgrp : groupEpoch u = groupEpoch v := by
    unfold groupEpoch
    by_cases hh : isStandby v = true
    · simp only [st, hh, if_true, nextKey, key hh, led, hnum]
    · simp only [st, hh, hnum]
      rfl
  have haud : auditOf u f p 0 = auditOf v f p 0 := by simp only [auditOf, auditOrigin, rem, up]
  obtain ⟨h1, h2, h3⟩ := h
  rw [hgrp, haud, led] at h1
  rw [hnum] at h2
  refine ⟨?_, answered_from (fun i => by rw [rem]) (by rw [up]) h2, still_trans hs h3⟩
  rw [h1]
  simp only [now, tb]

/-- A change with nothing beside the ledger. -/
theorem runDcs_plainChange {op : Nat} {c : Cmd} {f : InFlight} {s : State} {body : Cmd → State → Answer}
    {items : List Item} {p : AuditPart} {d : Bytes} (h : ready op c f s = true) (hop : (opRow op).isSome = true)
    (hb : body c (running op f s) = .change items p 0 d [] c.bufLen (running op f s)) (hu : takesGroups s = true) :
    Changes f items p d s (runDcs op c body s) := by
  obtain ⟨g, hl, hup, hrem, -, hst⟩ := running_spec op f s
  have hu' : takesGroups (running op f s) = true := by
    have a : heldCount (running op f s) = heldCount s := by simp only [heldCount, hl]
    have b : inSalvage (running op f s) = inSalvage s := by simp only [inSalvage, g.1.2.2.2.2.2.2.2.2.2.2.2.2.2.2.2.1]
    rw [takesGroups, a, b]
    exact hu
  have e := (ready_noWait h).1
  refine changes_from (runDcs_change h hop (by rw [e]; exact hb) hu') hl hrem hup hst (running_standby op f s) g.1

/-- A change that also does something beside the ledger: `v` is the state with that done. -/
theorem runDcs_sideChange {op : Nat} {c : Cmd} {f : InFlight} {s u v : State} {body : Cmd → State → Answer}
    {items : List Item} {p : AuditPart} {d : Bytes} (h : ready op c f s = true) (hop : (opRow op).isSome = true)
    (hb : body c (running op f s) = .change items p 0 d [] c.bufLen u) (hu : takesGroups v = true)
    (led : u.led = v.led) (rem : u.remotes = v.remotes) (up : u.uploadSub = v.uploadSub)
    (st : isStandby u = isStandby v) (key : isStandby v = true → u.twin = v.twin) (hs : Still v u) :
    Changes f items p d v (runDcs op c body s) := by
  have hu' : takesGroups u = true := by
    have a : heldCount u = heldCount v := by simp only [heldCount, led]
    have b : inSalvage u = inSalvage v := by simp only [inSalvage, hs.2.2.2.2.2.2.2.2.2.2.2.2.2.2.2.1]
    rw [takesGroups, a, b]
    exact hu
  have e := (ready_noWait h).1
  exact changes_from (runDcs_change h hop (by rw [e]; exact hb) hu') led rem up st key hs

/-! ## The running state, field by field -/

variable (op : Nat) (f : InFlight) (s : State)

/-- Counting an input moves the stream and nothing else but the outputs. -/
theorem newInput_same {α : Type} (g : State → α) (k : Nat) (u : State)
    (h : ∀ x o, g { u with twin := x, out := o } = g u) : g (newInput k u) = g u := by
  unfold newInput
  split
  · rfl
  · dsimp only
    split
    · exact h _ _
    · exact h _ u.out

@[simp] theorem running_pending : (running op f s).pending = s.pending := by
  unfold running
  split
  · exact newInput_same State.pending 4 (started f s) fun _ _ => rfl
  · rfl
@[simp] theorem running_fresh : (running op f s).fresh = s.fresh := by
  unfold running
  split
  · exact newInput_same State.fresh 4 (started f s) fun _ _ => rfl
  · rfl
@[simp] theorem running_clk : (running op f s).clk = s.clk := by
  unfold running
  split
  · exact newInput_same State.clk 4 (started f s) fun _ _ => rfl
  · rfl
@[simp] theorem running_fuse : (running op f s).fuse = s.fuse := by
  unfold running
  split
  · exact newInput_same State.fuse 4 (started f s) fun _ _ => rfl
  · rfl
@[simp] theorem running_bar0 : (running op f s).bar0 = s.bar0 := by
  unfold running
  split
  · exact newInput_same State.bar0 4 (started f s) fun _ _ => rfl
  · rfl
@[simp] theorem running_nextSeq : (running op f s).nextSeq = s.nextSeq := by
  unfold running
  split
  · exact newInput_same State.nextSeq 4 (started f s) fun _ _ => rfl
  · rfl
@[simp] theorem running_remotes : (running op f s).remotes = s.remotes := by
  unfold running
  split
  · exact newInput_same State.remotes 4 (started f s) fun _ _ => rfl
  · rfl
@[simp] theorem running_uploadSub : (running op f s).uploadSub = s.uploadSub := by
  unfold running
  split
  · exact newInput_same State.uploadSub 4 (started f s) fun _ _ => rfl
  · rfl
@[simp] theorem running_uploadHeads : (running op f s).uploadHeads = s.uploadHeads := by
  unfold running
  split
  · exact newInput_same State.uploadHeads 4 (started f s) fun _ _ => rfl
  · rfl
@[simp] theorem running_fabric : (running op f s).fabric = s.fabric := by
  unfold running
  split
  · exact newInput_same State.fabric 4 (started f s) fun _ _ => rfl
  · rfl
@[simp] theorem running_led : (running op f s).led = s.led := by
  unfold running
  split
  · exact newInput_same State.led 4 (started f s) fun _ _ => rfl
  · rfl
@[simp] theorem running_meters : (running op f s).meters = s.meters := by
  unfold running
  split
  · exact newInput_same State.meters 4 (started f s) fun _ _ => rfl
  · rfl
@[simp] theorem running_balance : (running op f s).balance = s.balance := by
  unfold running
  split
  · exact newInput_same State.balance 4 (started f s) fun _ _ => rfl
  · rfl
@[simp] theorem running_met : (running op f s).met = s.met := by
  unfold running
  split
  · exact newInput_same State.met 4 (started f s) fun _ _ => rfl
  · rfl
@[simp] theorem running_zither : (running op f s).zither = s.zither := by
  unfold running
  split
  · exact newInput_same State.zither 4 (started f s) fun _ _ => rfl
  · rfl
@[simp] theorem running_rf : (running op f s).rf = s.rf := by
  unfold running
  split
  · exact newInput_same State.rf 4 (started f s) fun _ _ => rfl
  · rfl
@[simp] theorem running_lyre : (running op f s).lyre = s.lyre := by
  unfold running
  split
  · exact newInput_same State.lyre 4 (started f s) fun _ _ => rfl
  · rfl
@[simp] theorem running_tb : (running op f s).tb = s.tb := by
  unfold running
  split
  · exact newInput_same State.tb 4 (started f s) fun _ _ => rfl
  · rfl
@[simp] theorem running_time : (running op f s).time = s.time := by
  unfold running
  split
  · exact newInput_same State.time 4 (started f s) fun _ _ => rfl
  · rfl
@[simp] theorem running_keys : (running op f s).keys = s.keys := by
  unfold running
  split
  · exact newInput_same State.keys 4 (started f s) fun _ _ => rfl
  · rfl
@[simp] theorem running_store : (running op f s).store = s.store := by
  unfold running
  split
  · exact newInput_same State.store 4 (started f s) fun _ _ => rfl
  · rfl
@[simp] theorem running_twinBuffer : (running op f s).twinBuffer = s.twinBuffer := by
  unfold running
  split
  · exact newInput_same State.twinBuffer 4 (started f s) fun _ _ => rfl
  · rfl
@[simp] theorem running_keeper : (running op f s).keeper = s.keeper := by
  unfold running
  split
  · exact newInput_same State.keeper 4 (started f s) fun _ _ => rfl
  · rfl
@[simp] theorem running_boot : (running op f s).boot = s.boot := by
  unfold running
  split
  · exact newInput_same State.boot 4 (started f s) fun _ _ => rfl
  · rfl
@[simp] theorem running_fw : (running op f s).fw = s.fw := by
  unfold running
  split
  · exact newInput_same State.fw 4 (started f s) fun _ _ => rfl
  · rfl
@[simp] theorem running_panel : (running op f s).panel = s.panel := by
  unfold running
  split
  · exact newInput_same State.panel 4 (started f s) fun _ _ => rfl
  · rfl
@[simp] theorem running_selfTest : (running op f s).selfTest = s.selfTest := by
  unfold running
  split
  · exact newInput_same State.selfTest 4 (started f s) fun _ _ => rfl
  · rfl
@[simp] theorem running_counters : (running op f s).counters = s.counters := by
  unfold running
  split
  · exact newInput_same State.counters 4 (started f s) fun _ _ => rfl
  · rfl
@[simp] theorem running_d2d : (running op f s).d2d = s.d2d := by
  unfold running
  split
  · exact newInput_same State.d2d 4 (started f s) fun _ _ => rfl
  · rfl
@[simp] theorem running_ethLinks : (running op f s).ethLinks = s.ethLinks := by
  unfold running
  split
  · exact newInput_same State.ethLinks 4 (started f s) fun _ _ => rfl
  · rfl

end Sys2Proof.Laws
end

