-- ==== Sys2Proof/Laws/Frames.lean ====
section
/-! SUPPORT. What each operation and each meaning leaves unchanged: the queue, the clock, the fuses, the life cycle, and the sizes of the
fabric, the rings, the MSI-X table and the boot journal. One lemma per definition that answers a state, tagged for `simp`. -/

set_option linter.unusedSimpArgs false
set_option linter.unusedVariables false
set_option linter.unusedTactic false
set_option linter.unreachableTactic false

namespace Sys2Proof.Machine

/-- What stands through every command that is not of its own kind: the queue, the clock, the fuses, the life cycle; and the sizes of the
fabric, the rings, the MSI-X table and the boot journal. -/
def core (s : State) : (List Instr × Nat × Fuse × LifeCycle × Nat) × Nat × Nat × Nat × Nat × Nat :=
  ((s.pending, s.clk, s.fuse, s.keys.lifecycle, s.keys.lcCounter), s.fabric.length, s.bar0.rings.length, s.bar0.msix.length,
    s.boot.journal.failRun.length, s.boot.journal.recs.length / 2045)

/-- The sizes of a sound state. -/
def sizes : Nat × Nat × Nat × Nat × Nat := (128, 16, 128, 9, 0)

@[simp] theorem core_mk (a1 a2 a3 a4 a5 a6 a7 a8 a9 a10 a11 a12 a13 a14 a15 a16 a17 a18 a19 a20 a21 a22 a23 a24 a25 a26 a27 a28 a29 a30 a31 a32 a33) :
    core ⟨a1, a2, a3, a4, a5, a6, a7, a8, a9, a10, a11, a12, a13, a14, a15, a16, a17, a18, a19, a20, a21, a22, a23, a24, a25, a26, a27,
      a28, a29, a30, a31, a32, a33⟩ = ((a1, a3, a5, a22.lifecycle, a22.lcCounter), a12.length, a6.rings.length, a6.msix.length,
        a27.journal.failRun.length, a27.journal.recs.length / 2045) := rfl

@[simp] theorem core_pack (s : State) : ((s.pending, s.clk, s.fuse, s.keys.lifecycle, s.keys.lcCounter), s.fabric.length,
    s.bar0.rings.length, s.bar0.msix.length, s.boot.journal.failRun.length, s.boot.journal.recs.length / 2045) = core s := rfl

@[simp] theorem core_ite {c : Prop} [Decidable c] (a b : State) : core (if c then a else b) = if c then core a else core b := by
  split <;> rfl

@[simp] theorem core_foldl {α : Type} (f : State → α → State) (h : ∀ s x, core (f s x) = core s) (l : List α) (s : State) :
    core (l.foldl f s) = core s := by
  induction l generalizing s with
  | nil => rfl
  | cons x xs ih => simp [ih, h]

@[simp] theorem core_foldl_fst {α β : Type} (f : State × β → α → State × β) (h : ∀ s x, core (f s x).1 = core s.1) (l : List α)
    (s : State × β) : core (l.foldl f s).1 = core s.1 := by
  induction l generalizing s with
  | nil => rfl
  | cons x xs ih => simp [ih, h]

/-- A fold of steps that keep a sound state's core keeps it. -/
theorem core_foldl_sound {α : Type} (f : State → α → State) (h : ∀ s x, (core s).2 = sizes → core (f s x) = core s) (l : List α) (s : State)
    (hs : (core s).2 = sizes) : core (l.foldl f s) = core s := by
  induction l generalizing s with
  | nil => rfl
  | cons x xs ih => rw [List.foldl_cons, ih _ (by rw [h s x hs]; exact hs), h s x hs]

/-- An answer that leaves the core of the state it was computed on. -/
def Answer.keeps (s : State) : Answer → Prop
  | .refuse _ _ => True
  | .reply _ _ _ _ _ s' => core s' = core s
  | .change _ _ _ _ _ _ s' => core s' = core s
  | .hold => True
  | .wait s' => core s' = core s

@[simp] theorem keeps_refuse (s r d) : Answer.keeps s (.refuse r d) := trivial
@[simp] theorem keeps_hold (s) : Answer.keeps s .hold := trivial
@[simp] theorem keeps_reply (s r e u d o s') : Answer.keeps s (.reply r e u d o s') ↔ core s' = core s := Iff.rfl
@[simp] theorem keeps_change (s i p r d o u s') : Answer.keeps s (.change i p r d o u s') ↔ core s' = core s := Iff.rfl
@[simp] theorem keeps_wait (s s') : Answer.keeps s (.wait s') ↔ core s' = core s := Iff.rfl
@[simp] theorem keeps_ite {c : Prop} [Decidable c] (s : State) (a b : Answer) :
    Answer.keeps s (if c then a else b) = if c then Answer.keeps s a else Answer.keeps s b := by split <;> rfl

@[simp] theorem keeps_no (s r) : Answer.keeps s (no r) := trivial

theorem length_lastN {α : Type} (n : Nat) (l : List α) : (lastN n l).length = min n l.length := by
  simp [lastN]; omega

@[simp] theorem draw_core : ∀ x0, core (draw x0) = core x0 := by intros; simp [draw, *]
@[simp] theorem emit_core : ∀ x0 x1, core (emit x0 x1) = core x1 := by intros; simp [emit, *]
@[simp] theorem emitAll_core : ∀ x0 x1, core (emitAll x0 x1) = core x1 := by intros; simp [emitAll, *]
@[simp] theorem onLed_core : ∀ x0 x1, core (onLed x0 x1) = core x1 := by intros; simp [onLed, *]
@[simp] theorem onOpen_core : ∀ x0 x1, core (onOpen x0 x1) = core x1 := by intros; simp [onOpen, *]
@[simp] theorem openNext_core : ∀ x0 x1 x2, core (openNext x0 x1 x2) = core x2 := by intros; simp [openNext, *]
@[simp] theorem closeNow_core : ∀ x0 x1, core (closeNow x0 x1) = core x1 := by intros; simp [closeNow, *]
@[simp] theorem closeEpoch_core : ∀ x0 x1, core (closeEpoch x0 x1) = core x1 := by intros; simp [closeEpoch, *]
@[simp] theorem sendMsix_core : ∀ x0 x1, core (sendMsix x0 x1) = core x1 := by intros; simp [sendMsix, *]
@[simp] theorem writeEvent_core : ∀ x0 x1, core (writeEvent x0 x1) = core x1 := by intros; simp [writeEvent, *]
@[simp] theorem postLost_core : ∀ x0, core (postLost x0) = core x0 := by intros; simp [postLost, *]
@[simp] theorem postEvent_core : ∀ x0 x1, core (postEvent x0 x1) = core x1 := by intros; simp [postEvent, *]
@[simp] theorem newInput_core : ∀ x0 x1, core (newInput x0 x1) = core x1 := by intros; simp [newInput, *]
@[simp] theorem resumeInput_core : ∀ x0 x1, core (resumeInput x0 x1) = core x1 := by intros; simp [resumeInput, *]
@[simp] theorem onTimer_core : ∀ x0 x1, (∀ y0, core (x0 y0) = core y0) → core (onTimer x0 x1) = core x1 := by intros; simp [onTimer, *]
@[simp] theorem timerInput_core : ∀ x0, core (timerInput x0) = core x0 := by intros; simp [timerInput, *]
@[simp] theorem onEpoch_core : ∀ x0 x1 x2, core (onEpoch x0 x1 x2) = core x2 := by intros; simp [onEpoch, *]
@[simp] theorem addGroup_core : ∀ x0 x1 x2 x3 x4, core (addGroup x0 x1 x2 x3 x4) = core x4 := by intros; unfold addGroup; (try dsimp only); (repeat' split) <;> simp [*]
@[simp] theorem limitClose_core : ∀ x0, core (limitClose x0) = core x0 := by intros; unfold limitClose; (repeat' split) <;> simp [*]
@[simp] theorem append_core : ∀ x0 x1 x2, core (append x0 x1 x2) = core x2 := by intros; unfold append; (repeat' split) <;> simp [*]
@[simp] theorem raiseEv_core : ∀ x0 x1, core (raiseEv x0 x1) = core x1 := by intros; simp [raiseEv, *]
@[simp] theorem raise_core : ∀ x0 x1 x2, core (raise x0 x1 x2) = core x2 := by intros; simp [raise, *]
@[simp] theorem raiseHw_core : ∀ x0 x1 x2, core (raiseHw x0 x1 x2) = core x2 := by intros; simp [raiseHw, *]
@[simp] theorem patchRec_core : ∀ x0 x1 x2 x3, core (patchRec x0 x1 x2 x3) = core x3 := by intros; unfold patchRec; (repeat' split) <;> simp [*]
@[simp] theorem setItem_core : ∀ x0 x1 x2, core (setItem x0 x1 x2) = core x2 := by intros; simp [setItem, *]
@[simp] theorem onRing_core : ∀ x0 x1 x2, core (onRing x0 x1 x2) = core x2 := by intros; simp [onRing, *]
@[simp] theorem coalesce_core : ∀ x0 x1 x2, core (coalesce x0 x1 x2) = core x2 := by intros; simp [coalesce, *]
@[simp] theorem postCompletion_core : ∀ x0 x1 x2, core (postCompletion x0 x1 x2) = core x2 := by intros; simp [postCompletion, *]
@[simp] theorem deliver_core : ∀ x0 x1 x2 x3 x4, core (deliver x0 x1 x2 x3 x4) = core x4 := by intros; unfold deliver; (repeat' split) <;> simp [*]
@[simp] theorem complete_core : ∀ x0 x1 x2, core (complete x0 x1 x2) = core x2 := by intros; simp [complete, *]
@[simp] theorem completeOrWait_core : ∀ x0 x1 x2, core (completeOrWait x0 x1 x2) = core x2 := by intros; simp [completeOrWait, *]
@[simp] theorem finish_core : ∀ f a s, Answer.keeps s a → core (finish f a s) = core s := by
  intro f a s h
  cases a <;> simp only [Answer.keeps] at h <;> simp [finish, h]
  split <;> simp [h]

@[simp] theorem finishKey_core : ∀ k a s, Answer.keeps s a → core (finishKey k a s) = core s := by
  intro k a s h
  unfold finishKey
  split
  · exact finish_core _ _ _ h
  · cases a <;> simp only [Answer.keeps] at h <;> simp [h]

@[simp] theorem runDcs_core : ∀ op c body s, (∀ c t, Answer.keeps t (body c t)) → core (runDcs op c body s) = core s := by
  intro op c body s h
  unfold runDcs
  split
  · rfl
  · split
    · rfl
    · dsimp only
      split
      · simp
      · split
        · simp
        · split
          · simp
          · split
            · simp
            · split
              · simp
              · rw [finish_core]
                · simp
                · exact h _ _

@[simp] theorem okData_core : ∀ x0 x1 x2 z, core x2 = core z → Answer.keeps z (okData x0 x1 x2) := by intros; simp [okData, *]
@[simp] theorem okOut_core : ∀ x0 x1 x2 x3 x4 z, core x4 = core z → Answer.keeps z (okOut x0 x1 x2 x3 x4) := by intros; simp [okOut, *]
@[simp] theorem changeParam_core : ∀ x0 x1 x2 x3 x4 z, core x4 = core z → Answer.keeps z (changeParam x0 x1 x2 x3 x4) := by intros; simp [changeParam, *]
@[simp] theorem onMeter_core : ∀ c s k z, (∀ i r, Answer.keeps z (k i r)) → Answer.keeps z (onMeter c s k) := by
  intro c s k z h; unfold onMeter; split <;> simp [h]

@[simp] theorem forwardTo_core : ∀ c r s z, core s = core z → Answer.keeps z (forwardTo c r s) := by
  intro c r s z h; unfold forwardTo; split <;> simp [h]

@[simp] theorem onOwnMeter_core : ∀ c s k z, (∀ i r, Answer.keeps z (k i r)) → core s = core z → Answer.keeps z (onOwnMeter c s k) := by
  intro c s k z h h2; unfold onOwnMeter; apply onMeter_core; intro i r; (repeat' split) <;> simp [h, h2]

@[simp] theorem atEpoch_core : ∀ s e k z, (∀ n l, Answer.keeps z (k n l)) → Answer.keeps z (atEpoch s e k) := by
  intro s e k z h; unfold atEpoch; split <;> simp [h]

@[simp] theorem onQueue_core : ∀ x0 x1 x2, core (onQueue x0 x1 x2) = core x2 := by intros; simp [onQueue, *]
@[simp] theorem releaseErr_core : ∀ x0 x1 x2, core (releaseErr x0 x1 x2) = core x2 := by intros; simp [releaseErr, *]
@[simp] theorem popNow_core : ∀ x0 x1 x2, core (popNow x0 x1 x2) = core x2 := by intros; simp [popNow, *]
@[simp] theorem opQfbPush_core : ∀ x0 x1 x2 x3, core (opQfbPush x0 x1 x2 x3) = core x3 := by intros; simp [opQfbPush, *]
@[simp] theorem opQfbEnd_core : ∀ x0 x1 x2 x3, core (opQfbEnd x0 x1 x2 x3) = core x3 := by intros; simp [opQfbEnd, *]
@[simp] theorem opQfbPop_core : ∀ x0 x1 x2 x3 x4, core (opQfbPop x0 x1 x2 x3 x4) = core x4 := by intros; simp [opQfbPop, *]
@[simp] theorem opPopStallRelease_core : ∀ x0 x1, core (opPopStallRelease x0 x1) = core x1 := by intros; simp [opPopStallRelease, *]
@[simp] theorem opQfbDrop_core : ∀ x0 x1 x2, core (opQfbDrop x0 x1 x2) = core x2 := by intros; simp [opQfbDrop, *]
@[simp] theorem opQueueEnable_core : ∀ x0 x1 x2, core (opQueueEnable x0 x1 x2) = core x2 := by intros; simp [opQueueEnable, *]
@[simp] theorem opQueueDisable_core : ∀ x0 x1 x2, core (opQueueDisable x0 x1 x2) = core x2 := by intros; simp [opQueueDisable, *]
@[simp] theorem opQfbErrRead_core : ∀ x0 x1, core (opQfbErrRead x0 x1) = core x1 := by intros; simp [opQfbErrRead, *]
@[simp] theorem setErr_core : ∀ x0 x1, core (setErr x0 x1) = core x1 := by intros; simp [setErr, *]
@[simp] theorem senseTamper_core : ∀ x0, core (senseTamper x0) = core x0 := by intros; simp [senseTamper, *]
@[simp] theorem journal_core : ∀ a b c d e s, (core s).2 = sizes → core (journal a b c d e s) = core s := by
  intro a b c d e s h
  have h2 : s.boot.journal.recs.length / 2045 = 0 := by simp only [core, sizes, Prod.mk.injEq] at h; exact h.2.2.2.2
  have h3 (l : List BootRec) : (lastN 2044 l).length / 2045 = 0 := by
    rw [length_lastN]; exact Nat.div_eq_of_lt (Nat.lt_succ_of_le (Nat.min_le_left _ _))
  simp only [journal, core_mk]
  rw [h3, ← h2]; rfl

@[simp] theorem note_core : ∀ x0 x1 x2, (core x2).2 = sizes → core (note x0 x1 x2) = core x2 := by intros; simp [note, *]
@[simp] theorem baseWrite_core : ∀ x0 x1 x2, core (baseWrite x0 x1 x2) = core x2 := by intros; simp [baseWrite, *]
@[simp] theorem evBaseWrite_core : ∀ x0 x1, core (evBaseWrite x0 x1) = core x1 := by intros; simp [evBaseWrite, *]
@[simp] theorem ringWrite_core : ∀ x0 x1 x2 x3, core (ringWrite x0 x1 x2 x3) = core x3 := by intros; unfold ringWrite; (repeat' split) <;> simp [*]
@[simp] theorem msixWrite_core : ∀ x0 x1 x2, core (msixWrite x0 x1 x2) = core x2 := by intros; simp [msixWrite, *]
@[simp] theorem bar0Write_core : ∀ x0 x1 x2, (core x2).2 = sizes → core (bar0Write x0 x1 x2) = core x2 := by intros; unfold bar0Write; (repeat' split) <;> simp [*]
@[simp] theorem qfbWrite_core : ∀ x0 x1 x2 x3, core (qfbWrite x0 x1 x2 x3) = core x3 := by intros; simp [qfbWrite, *]
@[simp] theorem kprWrite_core : ∀ x0 x1 x2, core (kprWrite x0 x1 x2) = core x2 := by intros; simp [kprWrite, *]
@[simp] theorem opRegisterWrite_core : ∀ x0 x1 x2 x3 x4, (core x4).2 = sizes → core (opRegisterWrite x0 x1 x2 x3 x4) = core x4 := by intros; unfold opRegisterWrite; (repeat' split) <;> simp [*]
@[simp] theorem completeAtOnce_core : ∀ x0 x1 x2, core (completeAtOnce x0 x1 x2) = core x2 := by intros; simp [completeAtOnce, *]
@[simp] theorem answerOnly_core : ∀ x0 x1 x2 x3, core (answerOnly x0 x1 x2 x3) = core x3 := by intros; simp [answerOnly, *]
@[simp] theorem takeFrame_core : ∀ x0 x1 x2 x3 x4 x5 x6, core (takeFrame x0 x1 x2 x3 x4 x5 x6) = core x6 := by intros; unfold takeFrame; dsimp only; (repeat' split) <;> simp [*]
@[simp] theorem dropHost_core : ∀ x0 x1, core (dropHost x0 x1) = core x1 := by intros; simp [dropHost, *]
@[simp] theorem stopRing_core : ∀ x0 x1, core (stopRing x0 x1) = core x1 := by intros; simp [stopRing, *]
@[simp] theorem stopHost_core : ∀ x0, core (stopHost x0) = core x0 := by intros; simp [stopHost, *]
@[simp] theorem detach_core : ∀ x0 x1, core (detach x0 x1) = core x1 := by intros; simp [detach, *]
@[simp] theorem opHostAttach_core : ∀ x0, core (opHostAttach x0) = core x0 := by intros; simp [opHostAttach, *]
@[simp] theorem opOrderlyDetach_core : ∀ x0, core (opOrderlyDetach x0) = core x0 := by intros; simp [opOrderlyDetach, *]
@[simp] theorem opSurpriseRemoval_core : ∀ x0, (core x0).2 = sizes → core (opSurpriseRemoval x0) = core x0 := by intros; simp [opSurpriseRemoval, *]
theorem length_reset_msix : Bar0.reset.msix.length = 128 := by simp [Bar0.reset]
@[simp] theorem opPcieHotReset_core : ∀ s, (core s).2 = sizes → core (opPcieHotReset s) = core s := by
  intro s h
  unfold opPcieHotReset
  have h1 : core (if s.bar0.linkUp = true then detach 1 s else stopHost s) = core s := by simp
  generalize (if s.bar0.linkUp = true then detach 1 s else stopHost s) = u at *
  rw [← h1] at h ⊢
  have h2 : u.bar0.msix.length = 128 := by simp only [core, sizes, Prod.mk.injEq] at h; exact h.2.2.1
  have h3 : core { u with
    bar0 := { Bar0.reset with
      dcsMinor := u.bar0.dcsMinor
      rings := u.bar0.rings.map fun r =>
        if r.remote then r else { Ring.reset with outstanding := r.outstanding, cache := r.cache, cursors := r.cursors }
      ev := { EvRing.reset with lostSep := u.bar0.ev.lostSep } } } = core u := by
    simp only [core_mk, length_reset_msix, List.length_map, ← h2]; rfl
  rw [note_core _ _ _ (by rw [h3]; exact h), h3]

@[simp] theorem opPcieLinkUp_core : ∀ x0, core (opPcieLinkUp x0) = core x0 := by intros; simp [opPcieLinkUp, *]
@[simp] theorem opCrTail_core : ∀ x0 x1 x2, core (opCrTail x0 x1 x2) = core x2 := by intros; simp [opCrTail, *]
@[simp] theorem opCpHead_core : ∀ x0 x1 x2, core (opCpHead x0 x1 x2) = core x2 := by intros; simp [opCpHead, *]
@[simp] theorem opEvCons_core : ∀ x0 x1, core (opEvCons x0 x1) = core x1 := by intros; simp [opEvCons, *]
@[simp] theorem opRingEnable_core : ∀ x0 x1 x2, core (opRingEnable x0 x1 x2) = core x2 := by intros; simp [opRingEnable, *]
@[simp] theorem opRingDisable_core : ∀ x0 x1 x2, core (opRingDisable x0 x1 x2) = core x2 := by intros; simp [opRingDisable, *]
@[simp] theorem opEvEnable_core : ∀ x0 x1, core (opEvEnable x0 x1) = core x1 := by intros; simp [opEvEnable, *]
@[simp] theorem opEvDisable_core : ∀ x0 x1, core (opEvDisable x0 x1) = core x1 := by intros; simp [opEvDisable, *]
@[simp] theorem opCommandFetch_core : ∀ x0 x1 x2, core (opCommandFetch x0 x1 x2) = core x2 := by intros; simp [opCommandFetch, *]
@[simp] theorem opCoalesced_core : ∀ x0 x1, core (opCoalesced x0 x1) = core x1 := by intros; unfold opCoalesced; dsimp only; (repeat' split) <;> simp [*]
@[simp] theorem opCursorExpiry_core : ∀ x0 x1 x2, core (opCursorExpiry x0 x1 x2) = core x2 := by intros; simp [opCursorExpiry, *]
@[simp] theorem rebindRings_core : ∀ x0, core (rebindRings x0) = core x0 := by intros; simp [rebindRings, *]
@[simp] theorem closeRemote_core : ∀ x0 x1 x2, core (closeRemote x0 x1 x2) = core x2 := by intros; unfold closeRemote; (repeat' split) <;> simp [*]
@[simp] theorem opRemoteConnect_core : ∀ x0 x1 x2, core (opRemoteConnect x0 x1 x2) = core x2 := by intros; unfold opRemoteConnect; (repeat' split) <;> simp [*]
@[simp] theorem touchRemote_core : ∀ x0 x1, core (touchRemote x0 x1) = core x1 := by intros; simp [touchRemote, *]
@[simp] theorem opRemoteMessage_core : ∀ x0 x1 x2 x3, core (opRemoteMessage x0 x1 x2 x3) = core x3 := by intros; unfold opRemoteMessage; (repeat' split) <;> simp [*]
@[simp] theorem opRemoteKeepalive_core : ∀ x0 x1, core (opRemoteKeepalive x0 x1) = core x1 := by intros; unfold opRemoteKeepalive; (repeat' split) <;> simp [*]
@[simp] theorem opRemoteIdle_core : ∀ x0 x1, core (opRemoteIdle x0 x1) = core x1 := by intros; unfold opRemoteIdle; (repeat' split) <;> simp [*]
@[simp] theorem closeUnbound_core : ∀ x0 x1, core (closeUnbound x0 x1) = core x1 := by intros; simp [closeUnbound, *]
@[simp] theorem itemEffects_core : ∀ x0 x1 x2 x3 x4, core (itemEffects x0 x1 x2 x3 x4) = core x4 := by intros; unfold itemEffects; (repeat' split) <;> simp [*]
@[simp] theorem setting_core : ∀ x0 x1 x2 x3 x4 x5 x6 x7 x8 x9 z, (∀ y0 y1, core (x9 y0 y1) = core y1) → core x1 = core z → Answer.keeps z (setting x0 x1 x2 x3 x4 x5 x6 x7 x8 x9) := by intros; simp [setting, *]
@[simp] theorem loadTable_core : ∀ x0 x1 x2 x3 x4 x5 x6 x7 z, (∀ y0, core (x7 y0) = core y0) → core x1 = core z → Answer.keeps z (loadTable x0 x1 x2 x3 x4 x5 x6 x7) := by intros; unfold loadTable; (repeat' split) <;> simp [*]
@[simp] theorem bodySysGetConfig_core : ∀ x0 x1 z, core x1 = core z → Answer.keeps z (bodySysGetConfig x0 x1) := by intros; simp [bodySysGetConfig, *]
@[simp] theorem bodySysSetConfig_core : ∀ x0 x1 z, core x1 = core z → Answer.keeps z (bodySysSetConfig x0 x1) := by intros; unfold bodySysSetConfig; dsimp only; (repeat' split) <;> simp [*]
@[simp] theorem bodySysIdentify_core : ∀ x0 x1 z, core x1 = core z → Answer.keeps z (bodySysIdentify x0 x1) := by intros; simp [bodySysIdentify, *]
@[simp] theorem bodySysGetStatus_core : ∀ x0 x1 z, core x1 = core z → Answer.keeps z (bodySysGetStatus x0 x1) := by intros; simp [bodySysGetStatus, *]
@[simp] theorem bodySysSetRole_core : ∀ x0 x1 z, core x1 = core z → Answer.keeps z (bodySysSetRole x0 x1) := by intros; simp [bodySysSetRole, *]
@[simp] theorem replyNo_core : ∀ x0 x1 z, core x1 = core z → Answer.keeps z (replyNo x0 x1) := by intros; simp [replyNo, *]
@[simp] theorem dropCursor_core : ∀ x0 x1, core (dropCursor x0 x1) = core x1 := by intros; simp [dropCursor, *]
@[simp] theorem pageOut_core : ∀ x0 x1 x2 x3 x4 x5 x6 z, core x6 = core z → Answer.keeps z (pageOut x0 x1 x2 x3 x4 x5 x6) := by intros; simp [pageOut, *]
@[simp] theorem pagedRead_core : ∀ x0 x1 x2 x3 x4 z, core x4 = core z → Answer.keeps z (pagedRead x0 x1 x2 x3 x4) := by intros; unfold pagedRead; (repeat' split) <;> simp [*]
@[simp] theorem bodyLdgPin_core : ∀ x0 x1 z, core x1 = core z → Answer.keeps z (bodyLdgPin x0 x1) := by intros; simp [bodyLdgPin, *]
@[simp] theorem bodyLdgUnpin_core : ∀ x0 x1 z, core x1 = core z → Answer.keeps z (bodyLdgUnpin x0 x1) := by intros; simp [bodyLdgUnpin, *]
@[simp] theorem bodyLdgName_core : ∀ x0 x1 z, core x1 = core z → Answer.keeps z (bodyLdgName x0 x1) := by intros; simp [bodyLdgName, *]
@[simp] theorem bodyLdgDropName_core : ∀ x0 x1 z, core x1 = core z → Answer.keeps z (bodyLdgDropName x0 x1) := by intros; simp [bodyLdgDropName, *]
@[simp] theorem bodyLdgReadSeries_core : ∀ x0 x1 z, core x1 = core z → Answer.keeps z (bodyLdgReadSeries x0 x1) := by intros; simp [bodyLdgReadSeries, *]
@[simp] theorem bodyLdgReadJournal_core : ∀ x0 x1 z, core x1 = core z → Answer.keeps z (bodyLdgReadJournal x0 x1) := by intros; simp [bodyLdgReadJournal, *]
@[simp] theorem bodyLdgReadOpen_core : ∀ x0 x1 z, core x1 = core z → Answer.keeps z (bodyLdgReadOpen x0 x1) := by intros; unfold bodyLdgReadOpen; (repeat' split) <;> simp [*]
@[simp] theorem bodyLdgCloseEpoch_core : ∀ x0 x1 z, core x1 = core z → Answer.keeps z (bodyLdgCloseEpoch x0 x1) := by intros; simp [bodyLdgCloseEpoch, *]
@[simp] theorem opLdgCloseEpoch_core : ∀ x0 x1, core (opLdgCloseEpoch x0 x1) = core x1 := by intros; simp [opLdgCloseEpoch, *]
@[simp] theorem bodyLdgSetPeriod_core : ∀ x0 x1 z, core x1 = core z → Answer.keeps z (bodyLdgSetPeriod x0 x1) := by intros; simp [bodyLdgSetPeriod, *]
@[simp] theorem bodyLdgExportBilling_core : ∀ x0 x1 z, core x1 = core z → Answer.keeps z (bodyLdgExportBilling x0 x1) := by intros; simp [bodyLdgExportBilling, *]
@[simp] theorem startResync_core : ∀ x0, core (startResync x0) = core x0 := by intros; simp [startResync, *]
@[simp] theorem leaveSync_core : ∀ x0 x1, core (leaveSync x0 x1) = core x1 := by intros; simp [leaveSync, *]
@[simp] theorem holdEpoch_core : ∀ x0 x1 x2, core (holdEpoch x0 x1 x2) = core x2 := by intros; simp [holdEpoch, *]
@[simp] theorem poolSpend_core : ∀ x0 x1, core (poolSpend x0 x1) = core x1 := by intros; simp [poolSpend, *]
@[simp] theorem countUnits_core : ∀ x0 x1, core (countUnits x0 x1) = core x1 := by intros; simp [countUnits, *]
@[simp] theorem raiseStage_core : ∀ x0 x1 x2, core (raiseStage x0 x1 x2) = core x2 := by intros; simp [raiseStage, *]
@[simp] theorem enterStage_core : ∀ x0 x1, core (enterStage x0 x1) = core x1 := by intros; simp [enterStage, *]
@[simp] theorem trimJournal_core : ∀ x0, core (trimJournal x0) = core x0 := by intros; simp [trimJournal, *]
@[simp] theorem opEpochFlushWrite_core : ∀ x0 x1 x2 x3, core (opEpochFlushWrite x0 x1 x2 x3) = core x3 := by intros; unfold opEpochFlushWrite; dsimp only; (repeat' split) <;> simp [*]
@[simp] theorem advance_core : ∀ x0, core (advance x0) = core x0 := by intros; unfold advance; (repeat' split) <;> simp [*]
@[simp] theorem opEpochFlushed_core : ∀ x0 x1, core (opEpochFlushed x0 x1) = core x1 := by intros; unfold opEpochFlushed; (repeat' split) <;> simp [*]
@[simp] theorem opCompareWait_core : ∀ x0, core (opCompareWait x0) = core x0 := by intros; simp [opCompareWait, *]
@[simp] theorem uploadMore_core : ∀ x0, core (uploadMore x0) = core x0 := by intros; simp [uploadMore, *]
@[simp] theorem pruneReadable_core : ∀ x0, core (pruneReadable x0) = core x0 := by intros; simp [pruneReadable, *]
@[simp] theorem releaseWaiting_core : ∀ s, core (releaseWaiting s) = core s := by
  intro s; unfold releaseWaiting; apply core_foldl; intro s f; split <;> simp

@[simp] theorem commitEpoch_core : ∀ x0 x1, core (commitEpoch x0 x1) = core x1 := by intros; unfold commitEpoch; dsimp only; (repeat' split) <;> simp [*]
@[simp] theorem opEpochCommitCore_core : ∀ x0 x1 x2, core (opEpochCommitCore x0 x1 x2) = core x2 := by intros; unfold opEpochCommitCore; (repeat' split) <;> simp [*]
@[simp] theorem retryHeld_core : ∀ x0, core (retryHeld x0) = core x0 := by intros; simp [retryHeld, *]
@[simp] theorem opEpochBoundary_core : ∀ x0, core (opEpochBoundary x0) = core x0 := by intros; simp [opEpochBoundary, *]
@[simp] theorem reclaimDaily_core : ∀ x0, core (reclaimDaily x0) = core x0 := by intros; simp [reclaimDaily, *]
@[simp] theorem formatLedger_core : ∀ x0, core (formatLedger x0) = core x0 := by intros; simp [formatLedger, *]
@[simp] theorem mountLedger_core : ∀ x0 x1 x2, core (mountLedger x0 x1 x2) = core x2 := by intros; unfold mountLedger; (repeat' split) <;> (first | rfl | simp)
@[simp] theorem loseEpochs_core : ∀ x0, core (loseEpochs x0) = core x0 := by intros; simp [loseEpochs, *]
@[simp] theorem onModem_core : ∀ x0 x1 x2, core (onModem x0 x1 x2) = core x2 := by intros; unfold onModem; (repeat' split) <;> simp [*]
@[simp] theorem onMac_core : ∀ x0 x1 x2, core (onMac x0 x1 x2) = core x2 := by intros; simp [onMac, *]
@[simp] theorem addMark_core : ∀ x0 x1, core (addMark x0 x1) = core x1 := by intros; simp [addMark, *]
@[simp] theorem sendDigest_core : ∀ x0 x1, core (sendDigest x0 x1) = core x1 := by intros; simp [sendDigest, *]
@[simp] theorem enqueue_core : ∀ x0 x1, core (enqueue x0 x1) = core x1 := by intros; simp [enqueue, *]
@[simp] theorem queueFrame_core : ∀ x0 x1, core (queueFrame x0 x1) = core x1 := by intros; simp [queueFrame, *]
@[simp] theorem sendShort_core : ∀ x0 x1 x2 x3 x4, core (sendShort x0 x1 x2 x3 x4) = core x4 := by intros; simp [sendShort, *]
@[simp] theorem sendTo_core : ∀ x0 x1 x2 x3, core (sendTo x0 x1 x2 x3) = core x3 := by intros; unfold sendTo; (repeat' split) <;> simp [*]
@[simp] theorem sendEui_core : ∀ x0 x1 x2 x3, core (sendEui x0 x1 x2 x3) = core x3 := by intros; simp [sendEui, *]
@[simp] theorem broadcast_core : ∀ x0 x1 x2 x3 x4, core (broadcast x0 x1 x2 x3 x4) = core x4 := by intros; simp [broadcast, *]
@[simp] theorem reserveBlock_core : ∀ x0 x1, core (reserveBlock x0 x1) = core x1 := by intros; simp [reserveBlock, *]
theorem takeCtr_core : ∀ net s n t, takeCtr net s = some (n, t) → core t = core s := by
  intro net s n t h
  simp only [takeCtr] at h
  split at h
  · simp only [Option.some.injEq, Prod.mk.injEq] at h; rw [← h.2]; simp
  · cases h

@[simp] theorem securityFail_core : ∀ x0 x1 x2 x3, core (securityFail x0 x1 x2 x3) = core x3 := by intros; unfold securityFail; (repeat' split) <;> simp [*]
@[simp] theorem failFrame_core : ∀ x0 x1 x2, core (failFrame x0 x1 x2) = core x2 := by intros; unfold failFrame; dsimp only; (repeat' split) <;> simp [*]
@[simp] theorem onNeighbour_core : ∀ x0 x1 x2 x3, core (onNeighbour x0 x1 x2 x3) = core x3 := by intros; simp [onNeighbour, *]
@[simp] theorem hearNeighbour_core : ∀ x0 x1, core (hearNeighbour x0 x1) = core x1 := by intros; unfold hearNeighbour; dsimp only; (repeat' split) <;> simp [*]
@[simp] theorem putRoute_core : ∀ x0 x1 x2, core (putRoute x0 x1 x2) = core x2 := by intros; simp [putRoute, *]
@[simp] theorem recompute_core : ∀ x0 x1, core (recompute x0 x1) = core x1 := by intros; simp [recompute, *]
@[simp] theorem failEdge_core : ∀ x0 x1 x2 x3, core (failEdge x0 x1 x2 x3) = core x3 := by intros; simp [failEdge, *]
@[simp] theorem reachAgain_core : ∀ x0 x1 x2, core (reachAgain x0 x1 x2) = core x2 := by intros; simp [reachAgain, *]
@[simp] theorem queueRx_core : ∀ x0 x1, core (queueRx x0 x1) = core x1 := by intros; simp [queueRx, *]
@[simp] theorem onRendezvous_core : ∀ x0 x1 x2, core (onRendezvous x0 x1 x2) = core x2 := by intros; simp [onRendezvous, *]
@[simp] theorem endLost_core : ∀ x0 x1, core (endLost x0 x1) = core x1 := by intros; simp [endLost, *]
@[simp] theorem noteContact_core : ∀ x0 x1, core (noteContact x0 x1) = core x1 := by intros; unfold noteContact; (repeat' split) <;> simp [*]
@[simp] theorem passFrame_core : ∀ x0 x1, core (passFrame x0 x1) = core x1 := by intros; unfold passFrame; (repeat' split) <;> simp [*]
theorem takeRx_core : ∀ f s t, takeRx f s = some t → core t = core s := by
  intro f s t h
  unfold takeRx at h
  split at h
  · simp only [Option.some.injEq] at h; subst h; split <;> simp
  · cases h

@[simp] theorem onFrame_core : ∀ f s k, (∀ i r t, core (k i r t) = core t) → core (onFrame f s k) = core s := by
  intro f s k h
  unfold onFrame
  split
  · rfl
  · split
    · rfl
    · next t ht => split <;> simp [h, takeRx_core _ _ _ ht]

@[simp] theorem airFrame_core : ∀ x0 x1 x2 x3 x4, core (airFrame x0 x1 x2 x3 x4) = core x4 := by intros; simp [airFrame, *]
@[simp] theorem dequeue_core : ∀ x0 x1, core (dequeue x0 x1) = core x1 := by intros; simp [dequeue, *]
@[simp] theorem airDone_core : ∀ x0 x1, core (airDone x0 x1) = core x1 := by intros; simp [airDone, *]
@[simp] theorem rideRequest_core : ∀ x0 x1, core (rideRequest x0 x1) = core x1 := by intros; unfold rideRequest; (repeat' split) <;> simp [*]
@[simp] theorem countersOn_core : ∀ x0, core (countersOn x0) = core x0 := by intros; simp [countersOn, *]
@[simp] theorem patchMeter_core : ∀ x0 x1 x2 x3, core (patchMeter x0 x1 x2 x3) = core x3 := by intros; unfold patchMeter; (repeat' split) <;> simp [*]
@[simp] theorem onSession_core : ∀ x0 x1 x2, core (onSession x0 x1 x2) = core x2 := by intros; simp [onSession, *]
@[simp] theorem endSession_core : ∀ x0 x1, core (endSession x0 x1) = core x1 := by intros; simp [endSession, *]
@[simp] theorem stayAwake_core : ∀ x0 x1 x2, core (stayAwake x0 x1 x2) = core x2 := by intros; unfold stayAwake; (repeat' split) <;> simp [*]
@[simp] theorem sendApdu_core : ∀ x0 x1 x2 x3, core (sendApdu x0 x1 x2 x3) = core x3 := by intros; simp [sendApdu, *]
@[simp] theorem noteOrder_core : ∀ x0 x1, core (noteOrder x0 x1) = core x1 := by intros; unfold noteOrder; (repeat' split) <;> simp [*]
@[simp] theorem sendRequest_core : ∀ x0 x1, core (sendRequest x0 x1) = core x1 := by intros; unfold sendRequest; (repeat' split) <;> simp [*]
@[simp] theorem finishField_core : ∀ x0 x1 x2 x3 x4 x5 x6, core (finishField x0 x1 x2 x3 x4 x5 x6) = core x6 := by intros; unfold finishField; (repeat' split) <;> simp [*]
@[simp] theorem finishExchange_core : ∀ x0 x1 x2 x3 x4 x5, core (finishExchange x0 x1 x2 x3 x4 x5) = core x5 := by intros; unfold finishExchange; (repeat' split) <;> simp [*]
@[simp] theorem orderRejoin_core : ∀ x0 x1, core (orderRejoin x0 x1) = core x1 := by intros; unfold orderRejoin; (repeat' split) <;> simp [*]
@[simp] theorem addRetry_core : ∀ x0 x1 x2 x3, core (addRetry x0 x1 x2 x3) = core x3 := by intros; simp [addRetry, *]
@[simp] theorem failSession_core : ∀ x0 x1 x2, core (failSession x0 x1 x2) = core x2 := by intros; unfold failSession; (repeat' split) <;> simp [*]
@[simp] theorem proceed_core : ∀ x0 x1, core (proceed x0 x1) = core x1 := by intros; unfold proceed; (repeat' split) <;> simp [*]
@[simp] theorem openSession_core : ∀ x0 x1, core (openSession x0 x1) = core x1 := by intros; simp [openSession, *]
@[simp] theorem startField_core : ∀ x0 x1 x2 x3 x4 z, core x4 = core z → Answer.keeps z (startField x0 x1 x2 x3 x4) := by intros; unfold startField; (repeat' split) <;> simp [*]
@[simp] theorem addSegment_core : ∀ x0 x1 x2 x3 x4 x5 x6, core (addSegment x0 x1 x2 x3 x4 x5 x6).1 = core x6 := by intros; unfold addSegment; dsimp only; (repeat' split) <;> simp [*]
@[simp] theorem opDlmsSegment_core : ∀ f s, core (opDlmsSegment f s) = core s := by
  intro f s
  unfold opDlmsSegment
  split
  · apply onFrame_core
    intro i r t
    split
    · rfl
    · split
      · rfl
      · dsimp only; split <;> simp
  · rfl

@[simp] theorem associated_core : ∀ x0 x1, core (associated x0 x1) = core x1 := by intros; simp [associated, *]
@[simp] theorem opCipherDone_core : ∀ x0 x1, core (opCipherDone x0 x1) = core x1 := by intros; unfold opCipherDone; (repeat' split) <;> simp [*]
@[simp] theorem opResponseTimeout_core : ∀ x0 x1, core (opResponseTimeout x0 x1) = core x1 := by intros; unfold opResponseTimeout; (repeat' split) <;> simp [*]
@[simp] theorem opSessionDeadline_core : ∀ x0 x1, core (opSessionDeadline x0 x1) = core x1 := by intros; unfold opSessionDeadline; (repeat' split) <;> simp [*]
@[simp] theorem openSlot_core : ∀ x0 x1, core (openSlot x0 x1) = core x1 := by intros; simp [openSlot, *]
@[simp] theorem deferSlot_core : ∀ x0 x1, core (deferSlot x0 x1) = core x1 := by intros; unfold deferSlot; dsimp only; (repeat' split) <;> simp [*]
@[simp] theorem startSlot_core : ∀ x0 x1, core (startSlot x0 x1) = core x1 := by intros; simp [startSlot, *]
@[simp] theorem takeSlots_core : ∀ x0 x1 x2, core (takeSlots x0 x1 x2) = core x2 := by intros; simp [takeSlots, *]
@[simp] theorem opScheduledSlot_core : ∀ x0 x1 x2, core (opScheduledSlot x0 x1 x2) = core x2 := by intros; unfold opScheduledSlot; dsimp only; (repeat' split) <;> simp [*]
@[simp] theorem opPendingSlot_core : ∀ x0 x1, core (opPendingSlot x0 x1) = core x1 := by intros; unfold opPendingSlot; (repeat' split) <;> simp [*]
@[simp] theorem opRetryGap_core : ∀ x0 x1, core (opRetryGap x0 x1) = core x1 := by intros; unfold opRetryGap; (repeat' split) <;> simp [*]
@[simp] theorem opMeterSilent_core : ∀ x0 x1, core (opMeterSilent x0 x1) = core x1 := by intros; unfold opMeterSilent; (repeat' split) <;> simp [*]
@[simp] theorem opCommandDeadline_core : ∀ x0 x1 x2, core (opCommandDeadline x0 x1 x2) = core x2 := by intros; unfold opCommandDeadline; (repeat' split) <;> simp [*]
@[simp] theorem failUnreachable_core : ∀ x0 x1 x2, core (failUnreachable x0 x1 x2) = core x2 := by intros; unfold failUnreachable; (repeat' split) <;> simp [*]
@[simp] theorem noteFine_core : ∀ x0 x1 x2 x3, core (noteFine x0 x1 x2 x3) = core x3 := by intros; simp [noteFine, *]
@[simp] theorem toQuarantine_core : ∀ x0 x1 x2, core (toQuarantine x0 x1 x2) = core x2 := by intros; simp [toQuarantine, *]
@[simp] theorem setJoin_core : ∀ x0 x1, core (setJoin x0 x1) = core x1 := by intros; simp [setJoin, *]
@[simp] theorem endJoin_core : ∀ x0 x1, core (endJoin x0 x1) = core x1 := by intros; simp [endJoin, *]
@[simp] theorem sendAccept_core : ∀ x0 x1, core (sendAccept x0 x1) = core x1 := by intros; unfold sendAccept; (repeat' split) <;> simp [*]
@[simp] theorem toJoining_core : ∀ x0 x1 x2 x3 x4, core (toJoining x0 x1 x2 x3 x4) = core x4 := by intros; simp [toJoining, *]
@[simp] theorem failRejoined_core : ∀ x0 x1, core (failRejoined x0 x1) = core x1 := by intros; simp [failRejoined, *]
@[simp] theorem dropRoute_core : ∀ x0 x1 x2, core (dropRoute x0 x1 x2) = core x2 := by intros; simp [dropRoute, *]
@[simp] theorem refuseJoin_core : ∀ x0 x1 x2 x3, core (refuseJoin x0 x1 x2 x3) = core x3 := by intros; simp [refuseJoin, *]
@[simp] theorem joinIgnored_core : ∀ x0, core (joinIgnored x0) = core x0 := by intros; simp [joinIgnored, *]
@[simp] theorem unknownJoin_core : ∀ x0 x1 x2, core (unknownJoin x0 x1 x2) = core x2 := by intros; simp [unknownJoin, *]
@[simp] theorem joinRequest_core : ∀ x0 x1 x2 x3 x4, core (joinRequest x0 x1 x2 x3 x4) = core x4 := by intros; unfold joinRequest; dsimp only; (repeat' split) <;> simp [*]
@[simp] theorem opJoinRequest_core : ∀ f s, core (opJoinRequest f s) = core s := by
  intro f s
  unfold opJoinRequest
  split
  · split
    · rfl
    · split
      · rfl
      · next t ht =>
        have h := takeRx_core _ _ _ ht
        split
        · simp [h]
        · dsimp only; split
          · simp [h]
          · simp [h]
  · rfl

@[simp] theorem opJoinConfirm_core : ∀ x0 x1, core (opJoinConfirm x0 x1) = core x1 := by intros; unfold opJoinConfirm; (repeat' split) <;> simp [*]
@[simp] theorem toAdmitted_core : ∀ x0 x1 x2, core (toAdmitted x0 x1 x2) = core x2 := by intros; unfold toAdmitted; (repeat' split) <;> simp [*]
@[simp] theorem opMeterLeave_core : ∀ x0 x1, core (opMeterLeave x0 x1) = core x1 := by intros; unfold opMeterLeave; (repeat' split) <;> simp [*]
@[simp] theorem opJoinResend_core : ∀ x0 x1, core (opJoinResend x0 x1) = core x1 := by intros; unfold opJoinResend; (repeat' split) <;> simp [*]
@[simp] theorem opJoinWindow_core : ∀ x0 x1, core (opJoinWindow x0 x1) = core x1 := by intros; unfold opJoinWindow; (repeat' split) <;> simp [*]
@[simp] theorem opJoiningWait_core : ∀ x0 x1, core (opJoiningWait x0 x1) = core x1 := by intros; unfold opJoiningWait; (repeat' split) <;> simp [*]
@[simp] theorem opQuarantine_core : ∀ x0 x1 x2, core (opQuarantine x0 x1 x2) = core x2 := by intros; simp [opQuarantine, *]
@[simp] theorem replyWindow_core : ∀ x0 x1 x2, core (replyWindow x0 x1 x2) = core x2 := by intros; unfold replyWindow; dsimp only; (repeat' split) <;> simp [*]
@[simp] theorem takePush_core : ∀ a b c d e f s, core (takePush a b c d e f s) = core s := by
  intro a b c d e f s; unfold takePush; split
  · rfl
  · dsimp only; rw [replyWindow_core, noteFine_core, patchMeter_core, core_mk, core_pack]

@[simp] theorem opLastGasp_core : ∀ x0 x1, core (opLastGasp x0 x1) = core x1 := by intros; unfold opLastGasp; (repeat' split) <;> simp [*]
@[simp] theorem opAlarm_core : ∀ x0 x1, core (opAlarm x0 x1) = core x1 := by intros; unfold opAlarm; (repeat' split) <;> simp [*]
@[simp] theorem bodyMtrAdmit_core : ∀ x0 x1 z, core x1 = core z → Answer.keeps z (bodyMtrAdmit x0 x1) := by intros; unfold bodyMtrAdmit; (repeat' split) <;> simp [*]
@[simp] theorem forgetMeter_core : ∀ x0 x1 x2, core (forgetMeter x0 x1 x2) = core x2 := by intros; unfold forgetMeter; (repeat' split) <;> simp [*]
@[simp] theorem bodyMtrRelease_core : ∀ x0 x1 z, core x1 = core z → Answer.keeps z (bodyMtrRelease x0 x1) := by intros; simp [bodyMtrRelease, *]
@[simp] theorem bodyMtrLookup_core : ∀ x0 x1 z, core x1 = core z → Answer.keeps z (bodyMtrLookup x0 x1) := by intros; unfold bodyMtrLookup; (try dsimp only); (repeat' (first | (refine onMeter_core _ _ _ _ ?_; intro _ _) | (refine atEpoch_core _ _ _ _ ?_; intro _ _) | (refine onOwnMeter_core _ _ _ _ ?_ ?_; intro _ _) | (refine (core_foldl _ ?_ _ _).trans ?_; intro _ _) | split)) <;> simp_all
@[simp] theorem bodyMtrGetRecord_core : ∀ x0 x1 z, core x1 = core z → Answer.keeps z (bodyMtrGetRecord x0 x1) := by intros; unfold bodyMtrGetRecord; (try dsimp only); (repeat' (first | (refine onMeter_core _ _ _ _ ?_; intro _ _) | (refine atEpoch_core _ _ _ _ ?_; intro _ _) | (refine onOwnMeter_core _ _ _ _ ?_ ?_; intro _ _) | (refine (core_foldl _ ?_ _ _).trans ?_; intro _ _) | split)) <;> simp_all
@[simp] theorem bodyMtrList_core : ∀ x0 x1 z, core x1 = core z → Answer.keeps z (bodyMtrList x0 x1) := by intros; simp [bodyMtrList, *]
@[simp] theorem bodyMtrReadNow_core : ∀ x0 x1 z, core x1 = core z → Answer.keeps z (bodyMtrReadNow x0 x1) := by intros; simp [bodyMtrReadNow, *]
@[simp] theorem bodyMtrDlms_core : ∀ x0 x1 z, core x1 = core z → Answer.keeps z (bodyMtrDlms x0 x1) := by intros; simp [bodyMtrDlms, *]
@[simp] theorem bodyMtrSetSchedule_core : ∀ c s z, core s = core z → Answer.keeps z (bodyMtrSetSchedule c s) := by
  intro c s z h; unfold bodyMtrSetSchedule; dsimp only; apply loadTable_core
  · intro y; rfl
  · exact h

@[simp] theorem bodyMtrListSegments_core : ∀ x0 x1 z, core x1 = core z → Answer.keeps z (bodyMtrListSegments x0 x1) := by intros; simp [bodyMtrListSegments, *]
@[simp] theorem kickOrders_core : ∀ x0 x1, core (kickOrders x0 x1) = core x1 := by intros; unfold kickOrders; (repeat' split) <;> simp [*]
@[simp] theorem meterAt_core : ∀ t f p i, core (meterAt t f p i).1 = core p.1 := by
  intro t f p i; unfold meterAt; split
  · rfl
  · dsimp only; split <;> simp

@[simp] theorem metersAt_core : ∀ t f s, core (metersAt t f s).1 = core s := by
  intro t f s; simp [metersAt]

@[simp] theorem chipPart_core : ∀ k e p, core (chipPart k e p) = core p.1 := by
  intro k e p; simp [chipPart]

@[simp] theorem tariffBoundary_core : ∀ x0 x1, core (tariffBoundary x0 x1) = core x1 := by intros; unfold tariffBoundary; dsimp only; (repeat' split) <;> simp [*]
@[simp] theorem evalAt_core : ∀ x0 x1, core (evalAt x0 x1) = core x1 := by intros; unfold evalAt; (repeat' split) <;> simp [*]
@[simp] theorem evalSteps_core : ∀ n l s, core (evalSteps n l s) = core s := by
  intro n
  induction n with
  | zero => intro l s; rfl
  | succ n ih => intro l s; unfold evalSteps; split
                 · rfl
                 · dsimp only; split <;> simp [ih]

@[simp] theorem evalDue_core : ∀ x0 x1, core (evalDue x0 x1) = core x1 := by intros; simp [evalDue, *]
@[simp] theorem rulesEffective_core : ∀ x0, core (rulesEffective x0) = core x0 := by intros; unfold rulesEffective; (repeat' split) <;> simp [*]
@[simp] theorem evalMissed_core : ∀ x0, core (evalMissed x0) = core x0 := by intros; simp [evalMissed, *]
@[simp] theorem boundaryRow_core : ∀ x0 x1 x2, core (boundaryRow x0 x1 x2) = core x2 := by intros; simp [boundaryRow, *]
@[simp] theorem opRuleTableEffective_core : ∀ x0, core (opRuleTableEffective x0) = core x0 := by intros; simp [opRuleTableEffective, *]
@[simp] theorem opTariffTableEffective_core : ∀ x0, core (opTariffTableEffective x0) = core x0 := by intros; simp [opTariffTableEffective, *]
@[simp] theorem opCalendarEffective_core : ∀ x0, core (opCalendarEffective x0) = core x0 := by intros; simp [opCalendarEffective, *]
@[simp] theorem opRateSwitch_core : ∀ x0 x1, core (opRateSwitch x0 x1) = core x1 := by intros; simp [opRateSwitch, *]
@[simp] theorem opDemandWindowClose_core : ∀ x0 x1, core (opDemandWindowClose x0 x1) = core x1 := by intros; simp [opDemandWindowClose, *]
@[simp] theorem opDisconnectDue_core : ∀ x0 x1, core (opDisconnectDue x0 x1) = core x1 := by intros; unfold opDisconnectDue; dsimp only; (repeat' split) <;> simp [*]
@[simp] theorem evalRow_core : ∀ x0 x1 x2 x3, core (evalRow x0 x1 x2 x3) = core x3 := by intros; simp [evalRow, *]
@[simp] theorem opBalanceFirst_core : ∀ x0 x1 x2, core (opBalanceFirst x0 x1 x2) = core x2 := by intros; unfold opBalanceFirst; (repeat' split) <;> simp [*]
@[simp] theorem releaseBounds_core : ∀ x0, core (releaseBounds x0) = core x0 := by intros; simp [releaseBounds, *]
@[simp] theorem opBalanceFinal_core : ∀ x0 x1 x2, core (opBalanceFinal x0 x1 x2) = core x2 := by intros; unfold opBalanceFinal; (repeat' split) <;> simp [*]
@[simp] theorem groupMeter_core : ∀ x0 x1 x2, core (groupMeter x0 x1 x2) = core x1 := by intros; unfold groupMeter; (repeat' split) <;> simp [*]
@[simp] theorem opGroupTableEffective_core : ∀ x0, core (opGroupTableEffective x0) = core x0 := by intros; unfold opGroupTableEffective; (repeat' split) <;> simp [*]
@[simp] theorem daily_core : ∀ x0 x1 x2, (∀ y0, core (x1 y0) = core y0) → core (daily x0 x1 x2) = core x2 := by intros; simp [daily, *]
@[simp] theorem opPeakDayClear_core : ∀ x0, core (opPeakDayClear x0) = core x0 := by intros; simp [opPeakDayClear, *]
@[simp] theorem opDailyReclaim_core : ∀ x0, core (opDailyReclaim x0) = core x0 := by intros; simp [opDailyReclaim, *]
@[simp] theorem placeMeter_core : ∀ x0 x1 x2, core (placeMeter x0 x1 x2) = core x2 := by intros; unfold placeMeter; (repeat' split) <;> simp [*]
@[simp] theorem onSnapshots_core : ∀ x0 x1, core (onSnapshots x0 x1) = core x1 := by intros; simp [onSnapshots, *]
@[simp] theorem onSnapshot_core : ∀ x0 x1 x2, core (onSnapshot x0 x1 x2) = core x2 := by intros; simp [onSnapshot, *]
@[simp] theorem formSnapshot_core : ∀ x0 x1 x2 x3, core (formSnapshot x0 x1 x2 x3) = core x3 := by intros; simp [formSnapshot, *]
@[simp] theorem sendFetch_core : ∀ x0 x1 x2 x3 x4, core (sendFetch x0 x1 x2 x3 x4) = core x4 := by intros; unfold sendFetch; (repeat' split) <;> simp [*]
@[simp] theorem fillFetch_core : ∀ x0 x1, core (fillFetch x0 x1) = core x1 := by intros; unfold fillFetch; (try dsimp only); (repeat' (first | (refine onMeter_core _ _ _ _ ?_; intro _ _) | (refine atEpoch_core _ _ _ _ ?_; intro _ _) | (refine onOwnMeter_core _ _ _ _ ?_ ?_; intro _ _) | (refine (core_foldl _ ?_ _ _).trans ?_; intro _ _) | split)) <;> simp_all
@[simp] theorem opPeriodicSnapshot_core : ∀ x0 x1, core (opPeriodicSnapshot x0 x1) = core x1 := by intros; unfold opPeriodicSnapshot; dsimp only; (repeat' split) <;> simp [*]
@[simp] theorem opSnapshotOrder_core : ∀ x0 x1, core (opSnapshotOrder x0 x1) = core x1 := by intros; unfold opSnapshotOrder; (repeat' split) <;> simp [*]
@[simp] theorem opSnapshotLatch_core : ∀ x0 x1 x2, core (opSnapshotLatch x0 x1 x2) = core x2 := by intros; unfold opSnapshotLatch; (repeat' split) <;> simp [*]
@[simp] theorem opSnapshotFetch_core : ∀ x0 x1, core (opSnapshotFetch x0 x1) = core x1 := by intros; unfold opSnapshotFetch; (repeat' split) <;> simp [*]
@[simp] theorem opSnapshotTimeout_core : ∀ x0 x1, core (opSnapshotTimeout x0 x1) = core x1 := by intros; unfold opSnapshotTimeout; (repeat' split) <;> simp [*]
@[simp] theorem opSnapshotReply_core : ∀ f s, core (opSnapshotReply f s) = core s := by
  intro f s; unfold opSnapshotReply; split
  · apply onFrame_core; intro i r t; split
    · rfl
    · split
      · rfl
      · dsimp only; rw [fillFetch_core]; split <;> simp
  · rfl

@[simp] theorem dropTests_core : ∀ x0 x1, core (dropTests x0 x1) = core x1 := by intros; unfold dropTests; (try dsimp only); (repeat' (first | (refine onMeter_core _ _ _ _ ?_; intro _ _) | (refine atEpoch_core _ _ _ _ ?_; intro _ _) | (refine onOwnMeter_core _ _ _ _ ?_ ?_; intro _ _) | (refine (core_foldl _ ?_ _ _).trans ?_; intro _ _) | split)) <;> simp_all
@[simp] theorem opSnapshotDone_core : ∀ x0 x1, core (opSnapshotDone x0 x1) = core x1 := by intros; unfold opSnapshotDone; dsimp only; (repeat' split) <;> simp [*]
@[simp] theorem correlateMeter_core : ∀ x0 x1, core (correlateMeter x0 x1) = core x0 := by intros; unfold correlateMeter; (repeat' split) <;> simp [*]
@[simp] theorem opPhaseCorrelation_core : ∀ x0, core (opPhaseCorrelation x0) = core x0 := by intros; simp [opPhaseCorrelation, *]
@[simp] theorem inferMeter_core : ∀ x0 x1 x2 x3, core (inferMeter x0 x1 x2 x3) = core x2 := by intros; unfold inferMeter; dsimp only; (repeat' split) <;> simp [*]
@[simp] theorem opBranchInference_core : ∀ s, core (opBranchInference s) = core s := by
  intro s; unfold opBranchInference; apply daily_core; intro s; split
  · rfl
  · simp

@[simp] theorem distribute_core : ∀ x0 x1, core (distribute x0 x1) = core x1 := by intros; simp [distribute, *]
@[simp] theorem bodyBalLoadGroups_core : ∀ x0 x1 z, core x1 = core z → Answer.keeps z (bodyBalLoadGroups x0 x1) := by intros; simp [bodyBalLoadGroups, *]
@[simp] theorem bodyBalReadResult_core : ∀ x0 x1 z, core x1 = core z → Answer.keeps z (bodyBalReadResult x0 x1) := by intros; unfold bodyBalReadResult; (try dsimp only); (repeat' (first | (refine onMeter_core _ _ _ _ ?_; intro _ _) | (refine atEpoch_core _ _ _ _ ?_; intro _ _) | (refine onOwnMeter_core _ _ _ _ ?_ ?_; intro _ _) | (refine (core_foldl _ ?_ _ _).trans ?_; intro _ _) | split)) <;> simp_all
@[simp] theorem bodyBalSnapshot_core : ∀ x0 x1 z, core x1 = core z → Answer.keeps z (bodyBalSnapshot x0 x1) := by intros; unfold bodyBalSnapshot; (repeat' split) <;> simp [*]
@[simp] theorem bodyBalReadTopology_core : ∀ x0 x1 z, core x1 = core z → Answer.keeps z (bodyBalReadTopology x0 x1) := by intros; unfold bodyBalReadTopology; (try dsimp only); (repeat' (first | (refine onMeter_core _ _ _ _ ?_; intro _ _) | (refine atEpoch_core _ _ _ _ ?_; intro _ _) | (refine onOwnMeter_core _ _ _ _ ?_ ?_; intro _ _) | (refine (core_foldl _ ?_ _ _).trans ?_; intro _ _) | split)) <;> simp_all
@[simp] theorem bodyBalReadFeeder_core : ∀ x0 x1 z, core x1 = core z → Answer.keeps z (bodyBalReadFeeder x0 x1) := by intros; simp [bodyBalReadFeeder, *]
@[simp] theorem kickPlaced_core : ∀ x0 x1 x2, core (kickPlaced x0 x1 x2) = core x2 := by intros; unfold kickPlaced; (repeat' split) <;> simp [*]
@[simp] theorem bodyValLoadRules_core : ∀ x0 x1 z, core x1 = core z → Answer.keeps z (bodyValLoadRules x0 x1) := by intros; unfold bodyValLoadRules; (repeat' split) <;> simp [*]
@[simp] theorem bodyValReadRules_core : ∀ x0 x1 z, core x1 = core z → Answer.keeps z (bodyValReadRules x0 x1) := by intros; simp [bodyValReadRules, *]
@[simp] theorem bodyValEdit_core : ∀ x0 x1 z, core x1 = core z → Answer.keeps z (bodyValEdit x0 x1) := by intros; simp [bodyValEdit, *]
@[simp] theorem bodyValRevalidate_core : ∀ x0 x1 z, core x1 = core z → Answer.keeps z (bodyValRevalidate x0 x1) := by intros; simp [bodyValRevalidate, *]
@[simp] theorem bodyTrfLoadSchedule_core : ∀ x0 x1 z, core x1 = core z → Answer.keeps z (bodyTrfLoadSchedule x0 x1) := by intros; unfold bodyTrfLoadSchedule; (repeat' split) <;> simp [*]
@[simp] theorem bodyTrfLoadCalendar_core : ∀ x0 x1 z, core x1 = core z → Answer.keeps z (bodyTrfLoadCalendar x0 x1) := by intros; unfold bodyTrfLoadCalendar; (repeat' split) <;> simp [*]
@[simp] theorem bodyTrfReadDeterminants_core : ∀ x0 x1 z, core x1 = core z → Answer.keeps z (bodyTrfReadDeterminants x0 x1) := by intros; unfold bodyTrfReadDeterminants; (try dsimp only); (repeat' (first | (refine onMeter_core _ _ _ _ ?_; intro _ _) | (refine atEpoch_core _ _ _ _ ?_; intro _ _) | (refine onOwnMeter_core _ _ _ _ ?_ ?_; intro _ _) | (refine (core_foldl _ ?_ _ _).trans ?_; intro _ _) | split)) <;> simp_all
@[simp] theorem markPush_core : ∀ x0 x1, core (markPush x0 x1) = core x1 := by intros; simp [markPush, *]
@[simp] theorem startPush_core : ∀ p i, core (startPush p i).1 = core p.1 := by
  intro p i; unfold startPush; dsimp only; split
  · rfl
  · split <;> simp

@[simp] theorem bodyTrfPush_core : ∀ c s z, core s = core z → Answer.keeps z (bodyTrfPush c s) := by
  intro c s z h
  unfold bodyTrfPush
  dsimp only
  split
  · simp
  · split
    · split <;> simp [h]
    · apply onOwnMeter_core
      · intro i r
        split
        · simp
        · split <;> simp [h]
      · exact h

@[simp] theorem bodyPpyCredit_core : ∀ x0 x1 z, core x1 = core z → Answer.keeps z (bodyPpyCredit x0 x1) := by intros; simp [bodyPpyCredit, *]
@[simp] theorem bodyPpyReadAccount_core : ∀ x0 x1 z, core x1 = core z → Answer.keeps z (bodyPpyReadAccount x0 x1) := by intros; unfold bodyPpyReadAccount; (try dsimp only); (repeat' (first | (refine onMeter_core _ _ _ _ ?_; intro _ _) | (refine atEpoch_core _ _ _ _ ?_; intro _ _) | (refine onOwnMeter_core _ _ _ _ ?_ ?_; intro _ _) | (refine (core_foldl _ ?_ _ _).trans ?_; intro _ _) | split)) <;> simp_all
@[simp] theorem bodyPpySetFriendly_core : ∀ x0 x1 z, core x1 = core z → Answer.keeps z (bodyPpySetFriendly x0 x1) := by intros; simp [bodyPpySetFriendly, *]
@[simp] theorem relayCommand_core : ∀ c k s z, core s = core z → Answer.keeps z (relayCommand c k s) := by
  intro c k s z h; unfold relayCommand; apply onOwnMeter_core
  · intro i r; dsimp only; (repeat' split) <;> simp [h]
  · exact h

@[simp] theorem bodyPpyDisconnect_core : ∀ x0 x1 z, core x1 = core z → Answer.keeps z (bodyPpyDisconnect x0 x1) := by intros; simp [bodyPpyDisconnect, *]
@[simp] theorem bodyPpyReconnect_core : ∀ x0 x1 z, core x1 = core z → Answer.keeps z (bodyPpyReconnect x0 x1) := by intros; simp [bodyPpyReconnect, *]
@[simp] theorem onCampaign_core : ∀ x0 x1 x2, core (onCampaign x0 x1 x2) = core x2 := by intros; simp [onCampaign, *]
@[simp] theorem keepCampaign_core : ∀ x0 x1, core (keepCampaign x0 x1) = core x1 := by intros; unfold keepCampaign; (repeat' split) <;> simp [*]
@[simp] theorem checkCampaign_core : ∀ x0 x1, core (checkCampaign x0 x1) = core x1 := by intros; unfold checkCampaign; (repeat' split) <;> simp [*]
@[simp] theorem setProgress_core : ∀ x0 x1 x2 x3, core (setProgress x0 x1 x2 x3) = core x3 := by intros; simp [setProgress, *]
@[simp] theorem opRoundStart_core : ∀ x0 x1, core (opRoundStart x0 x1) = core x1 := by intros; unfold opRoundStart; (repeat' split) <;> simp [*]
@[simp] theorem opBlockPace_core : ∀ x0 x1, core (opBlockPace x0 x1) = core x1 := by intros; unfold opBlockPace; (repeat' split) <;> simp [*]
@[simp] theorem opRoundGap_core : ∀ x0 x1, core (opRoundGap x0 x1) = core x1 := by intros; unfold opRoundGap; (repeat' split) <;> simp [*]
@[simp] theorem kickActivate_core : ∀ x0 x1 x2, core (kickActivate x0 x1 x2) = core x1 := by intros; unfold kickActivate; (repeat' split) <;> simp [*]
@[simp] theorem opActivateAt_core : ∀ x0 x1, core (opActivateAt x0 x1) = core x1 := by intros; unfold opActivateAt; (repeat' split) <;> simp [*]
@[simp] theorem campaignsAtStart_core : ∀ x0, core (campaignsAtStart x0) = core x0 := by intros; simp [campaignsAtStart, *]
@[simp] theorem bodyCampaignStart_core : ∀ x0 x1 z, core x1 = core z → Answer.keeps z (bodyCampaignStart x0 x1) := by intros; unfold bodyCampaignStart; (repeat' split) <;> simp [*]
@[simp] theorem bodyCampaignStatus_core : ∀ x0 x1 z, core x1 = core z → Answer.keeps z (bodyCampaignStatus x0 x1) := by intros; unfold bodyCampaignStatus; (repeat' split) <;> simp [*]
@[simp] theorem bodyCampaignAbort_core : ∀ x0 x1 z, core x1 = core z → Answer.keeps z (bodyCampaignAbort x0 x1) := by intros; unfold bodyCampaignAbort; (repeat' split) <;> simp [*]
@[simp] theorem turnSession_core : ∀ x0 x1 x2 x3, core (turnSession x0 x1 x2 x3) = core x3 := by intros; simp [turnSession, *]
@[simp] theorem rejoinForKey_core : ∀ x0 x1, core (rejoinForKey x0 x1) = core x1 := by intros; unfold rejoinForKey; (repeat' split) <;> simp [*]
@[simp] theorem nextWork_core : ∀ x0 x1 x2, core (nextWork x0 x1 x2) = core x2 := by intros; unfold nextWork; dsimp only; (repeat' split) <;> simp [*]
@[simp] theorem goOn_core : ∀ x0 x1 x2 x3, core (goOn x0 x1 x2 x3) = core x3 := by intros; simp [goOn, *]
@[simp] theorem waitRecheck_core : ∀ x0 x1, core (waitRecheck x0 x1) = core x1 := by intros; simp [waitRecheck, *]
@[simp] theorem appendExchange_core : ∀ x0 x1 x2 x3 x4 x5 x6 x7, core (appendExchange x0 x1 x2 x3 x4 x5 x6 x7) = core x7 := by intros; unfold appendExchange; (repeat' split) <;> simp [*]
@[simp] theorem afterExchange_core : ∀ x0 x1 x2, core (afterExchange x0 x1 x2) = core x2 := by intros; unfold afterExchange; (repeat' split) <;> simp [*]
@[simp] theorem refusedExchange_core : ∀ x0 x1 x2, core (refusedExchange x0 x1 x2) = core x2 := by intros; unfold refusedExchange; dsimp only; (repeat' split) <;> simp [*]
@[simp] theorem campaignAfter_core : ∀ x0 x1, core (campaignAfter x0 x1) = core x1 := by intros; unfold campaignAfter; (repeat' split) <;> simp [*]
@[simp] theorem noteClock_core : ∀ x0 x1 x2 x3, core (noteClock x0 x1 x2 x3) = core x3 := by intros; simp [noteClock, *]
@[simp] theorem opAppendGroup_core : ∀ x0 x1, core (opAppendGroup x0 x1) = core x1 := by intros; unfold opAppendGroup; (repeat' split) <;> simp [*]
@[simp] theorem opRelayRecheck_core : ∀ x0 x1 x2, core (opRelayRecheck x0 x1 x2) = core x2 := by intros; unfold opRelayRecheck; (repeat' split) <;> simp [*]
@[simp] theorem pushAck_core : ∀ x0 x1 x2 x3, core (pushAck x0 x1 x2 x3) = core x3 := by intros; simp [pushAck, *]
@[simp] theorem opDlmsPush_core : ∀ x0 x1 x2 x3, core (opDlmsPush x0 x1 x2 x3) = core x3 := by intros; unfold opDlmsPush; (repeat' split) <;> simp [*]
@[simp] theorem onPanel_core : ∀ x0 x1, core (onPanel x0 x1) = core x1 := by intros; simp [onPanel, *]
@[simp] theorem onPlacard_core : ∀ x0 x1, core (onPlacard x0 x1) = core x1 := by intros; simp [onPlacard, *]
@[simp] theorem showCode_core : ∀ x0 x1, (core x1).2 = sizes → core (showCode x0 x1) = core x1 := by intros; simp [showCode, *]
@[simp] theorem beginPhase_core : ∀ x0 x1, core (beginPhase x0 x1) = core x1 := by intros; simp [beginPhase, *]
@[simp] theorem accountFaults_core : ∀ x0 x1 x2, core (accountFaults x0 x1 x2) = core x2 := by intros; simp [accountFaults, *]
@[simp] theorem startPlacard_core : ∀ x0, core (startPlacard x0) = core x0 := by intros; simp [startPlacard, *]
@[simp] theorem opPlacardStart_core : ∀ x0 x1 x2, core (opPlacardStart x0 x1 x2) = core x2 := by intros; simp [opPlacardStart, *]
@[simp] theorem endPlacard_core : ∀ x0, core (endPlacard x0) = core x0 := by intros; simp [endPlacard, *]
@[simp] theorem opPlacardPhase_core : ∀ x0, core (opPlacardPhase x0) = core x0 := by intros; simp [opPlacardPhase, *]
@[simp] theorem cutPlacard_core : ∀ x0, core (cutPlacard x0) = core x0 := by intros; simp [cutPlacard, *]
@[simp] theorem opOledFrame_core : ∀ x0, core (opOledFrame x0) = core x0 := by intros; unfold opOledFrame; (try dsimp only); (repeat' (first | (refine onMeter_core _ _ _ _ ?_; intro _ _) | (refine atEpoch_core _ _ _ _ ?_; intro _ _) | (refine onOwnMeter_core _ _ _ _ ?_ ?_; intro _ _) | (refine (core_foldl _ ?_ _ _).trans ?_; intro _ _) | split)) <;> simp_all
@[simp] theorem onChannel_core : ∀ x0 x1 x2, core (onChannel x0 x1 x2) = core x2 := by intros; simp [onChannel, *]
@[simp] theorem emitChannels_core : ∀ x0 x1 x2, core (emitChannels x0 x1 x2) = core x2 := by intros; simp [emitChannels, *]
@[simp] theorem opBlink_core : ∀ x0, core (opBlink x0) = core x0 := by intros; simp [opBlink, *]
@[simp] theorem opAnnunciator_core : ∀ a b c s, core (opAnnunciator a b c s) = core s := by
  intro a b c s; unfold opAnnunciator; split
  · rfl
  · split
    · rfl
    · dsimp only
      split
      · rw [raiseHw_core, core_foldl]
        · simp
        · intro s x; split <;> simp
      · rw [core_foldl]
        · simp
        · intro s x; split <;> simp

@[simp] theorem panelDark_core : ∀ x0, core (panelDark x0) = core x0 := by intros; simp [panelDark, *]
@[simp] theorem panelLight_core : ∀ x0, core (panelLight x0) = core x0 := by intros; simp [panelLight, *]
@[simp] theorem opCrack_core : ∀ x0 x1 x2, core (opCrack x0 x1 x2) = core x2 := by intros; simp [opCrack, *]
@[simp] theorem appendNow_core : ∀ x0 x1 x2 z, (∀ y0 y1, core (x2 y0 y1) = core y1) → core x1 = core z → Answer.keeps z (appendNow x0 x1 x2) := by intros; unfold appendNow; dsimp only; (repeat' split) <;> simp [*]
@[simp] theorem bodyPnlOled_core : ∀ x0 x1 z, core x1 = core z → Answer.keeps z (bodyPnlOled x0 x1) := by intros; simp [bodyPnlOled, *]
@[simp] theorem bodyPnlAnnunciator_core : ∀ x0 x1 z, core x1 = core z → Answer.keeps z (bodyPnlAnnunciator x0 x1) := by intros; unfold bodyPnlAnnunciator; dsimp only; (repeat' split) <;> simp [*]
@[simp] theorem bodyPnlPlacard_core : ∀ x0 x1 z, core x1 = core z → Answer.keeps z (bodyPnlPlacard x0 x1) := by intros; simp [bodyPnlPlacard, *]
@[simp] theorem bodyPnlStatus_core : ∀ x0 x1 z, core x1 = core z → Answer.keeps z (bodyPnlStatus x0 x1) := by intros; simp [bodyPnlStatus, *]
@[simp] theorem bodyTstCalibrate_core : ∀ x0 x1 z, core x1 = core z → Answer.keeps z (bodyTstCalibrate x0 x1) := by intros; simp [bodyTstCalibrate, *]
@[simp] theorem onMet_core : ∀ x0 x1, core (onMet x0 x1) = core x1 := by intros; simp [onMet, *]
@[simp] theorem boundaryRecords_core : ∀ x0 x1, core (boundaryRecords x0 x1) = core x1 := by intros; simp [boundaryRecords, *]
@[simp] theorem takeMetFrame_core : ∀ x0 x1, core (takeMetFrame x0 x1) = core x1 := by intros; simp [takeMetFrame, *]
@[simp] theorem ownEnergy_core : ∀ x0 x1, core (ownEnergy x0 x1) = core x1 := by intros; simp [ownEnergy, *]
@[simp] theorem opMetFrame_core : ∀ x0 x1, core (opMetFrame x0 x1) = core x1 := by intros; simp [opMetFrame, *]
@[simp] theorem compareMinute_core : ∀ x0 x1, core (compareMinute x0 x1) = core x1 := by intros; simp [compareMinute, *]
@[simp] theorem minuteEnds_core : ∀ x0 x1, core (minuteEnds x0 x1) = core x1 := by intros; simp [minuteEnds, *]
@[simp] theorem opFeederMinute_core : ∀ x0 x1, core (opFeederMinute x0 x1) = core x1 := by intros; simp [opFeederMinute, *]
@[simp] theorem relayInput_core : ∀ x0, core (relayInput x0) = core x0 := by intros; simp [relayInput, *]
@[simp] theorem dropSeq_core : ∀ x0 x1, core (dropSeq x0 x1) = core x1 := by intros; simp [dropSeq, *]
@[simp] theorem onHead_core : ∀ x0 x1, core (onHead x0 x1) = core x1 := by intros; simp [onHead, *]
@[simp] theorem relayEnds_core : ∀ x0 x1 x2, core (relayEnds x0 x1 x2) = core x2 := by intros; simp [relayEnds, *]
@[simp] theorem relayInPlace_core : ∀ x0 x1, core (relayInPlace x0 x1) = core x1 := by intros; simp [relayInPlace, *]
@[simp] theorem energise_core : ∀ x0 x1, core (energise x0 x1) = core x1 := by intros; simp [energise, *]
@[simp] theorem kickCoilN_core : ∀ n s, core (kickCoilN n s) = core s := by
  intro n
  induction n with
  | zero => intro s; rfl
  | succ n ih => intro s; unfold kickCoilN; (repeat' split) <;> simp [ih]

@[simp] theorem kickCoil_core : ∀ x0, core (kickCoil x0) = core x0 := by intros; simp [kickCoil, *]
@[simp] theorem coilOff_core : ∀ x0 x1, core (coilOff x0 x1) = core x1 := by intros; simp [coilOff, *]
@[simp] theorem relayFaults_core : ∀ x0 x1 x2 x3 x4, core (relayFaults x0 x1 x2 x3 x4) = core x4 := by intros; simp [relayFaults, *]
@[simp] theorem bodyPpyOwnRelay_core : ∀ x0 x1 z, core x1 = core z → Answer.keeps z (bodyPpyOwnRelay x0 x1) := by intros; simp [bodyPpyOwnRelay, *]
@[simp] theorem opCurrentCheck_core : ∀ x0 x1 x2, core (opCurrentCheck x0 x1 x2) = core x2 := by intros; unfold opCurrentCheck; (repeat' split) <;> simp [*]
@[simp] theorem opOvercurrent_core : ∀ x0 x1 x2, core (opOvercurrent x0 x1 x2) = core x2 := by intros; unfold opOvercurrent; (repeat' split) <;> simp [*]
@[simp] theorem opPulseEnd_core : ∀ x0 x1 x2, core (opPulseEnd x0 x1 x2) = core x2 := by intros; unfold opPulseEnd; (repeat' split) <;> simp [*]
@[simp] theorem setAux_core : ∀ x0 x1 x2, core (setAux x0 x1 x2) = core x2 := by intros; simp [setAux, *]
@[simp] theorem opAuxCheck_core : ∀ x0 x1 x2, core (opAuxCheck x0 x1 x2) = core x2 := by intros; unfold opAuxCheck; (repeat' split) <;> simp [*]
@[simp] theorem opRepulse_core : ∀ x0 x1, core (opRepulse x0 x1) = core x1 := by intros; unfold opRepulse; (repeat' split) <;> simp [*]
@[simp] theorem opAuxUnstable_core : ∀ x0 x1, core (opAuxUnstable x0 x1) = core x1 := by intros; unfold opAuxUnstable; (repeat' split) <;> simp [*]
@[simp] theorem opRelayGap_core : ∀ x0 x1, core (opRelayGap x0 x1) = core x1 := by intros; unfold opRelayGap; (repeat' split) <;> simp [*]
@[simp] theorem holdCoils_core : ∀ x0, core (holdCoils x0) = core x0 := by intros; unfold holdCoils; (repeat' split) <;> simp [*]
@[simp] theorem failCoils_core : ∀ x0, core (failCoils x0) = core x0 := by intros; simp [failCoils, *]
@[simp] theorem judgeContact_core : ∀ x0 x1, core (judgeContact x0 x1) = core x1 := by intros; simp [judgeContact, *]
@[simp] theorem opAuxChange_core : ∀ x0 x1 x2, core (opAuxChange x0 x1 x2) = core x2 := by intros; simp [opAuxChange, *]
@[simp] theorem calRelayAt_core : ∀ x0 x1 x2, core (calRelayAt x0 x1 x2) = core x1 := by intros; simp [calRelayAt, *]
@[simp] theorem opCalEffective_core : ∀ x0, core (opCalEffective x0) = core x0 := by intros; unfold opCalEffective; (repeat' split) <;> simp [*]
@[simp] theorem opS0Pulse_core : ∀ x0 x1, core (opS0Pulse x0 x1) = core x1 := by intros; simp [opS0Pulse, *]
@[simp] theorem fieldReset_core : ∀ x0, core (fieldReset x0) = core x0 := by intros; simp [fieldReset, *]
@[simp] theorem opD2dLost_core : ∀ x0, core (opD2dLost x0) = core x0 := by intros; simp [opD2dLost, *]
@[simp] theorem opD2dDone_core : ∀ x0, core (opD2dDone x0) = core x0 := by intros; simp [opD2dDone, *]
@[simp] theorem opD2dFail_core : ∀ x0, (core x0).2 = sizes → core (opD2dFail x0) = core x0 := by intros; simp [opD2dFail, *]
@[simp] theorem opTsRate_core : ∀ x0 x1, core (opTsRate x0 x1) = core x1 := by intros; simp [opTsRate, *]
@[simp] theorem opTsStep_core : ∀ x0, core (opTsStep x0) = core x0 := by intros; simp [opTsStep, *]
@[simp] theorem opTsCountLo_core : ∀ x0, core (opTsCountLo x0) = core x0 := by intros; simp [opTsCountLo, *]
@[simp] theorem opTsNowNs_core : ∀ x0, core (opTsNowNs x0) = core x0 := by intros; simp [opTsNowNs, *]
@[simp] theorem opTsPpsIn_core : ∀ x0, core (opTsPpsIn x0) = core x0 := by intros; simp [opTsPpsIn, *]
@[simp] theorem onTime_core : ∀ x0 x1, core (onTime x0 x1) = core x1 := by intros; simp [onTime, *]
@[simp] theorem stepT_core : ∀ x0 x1, core (stepT x0 x1) = core x1 := by intros; simp [stepT, *]
@[simp] theorem closePassed_core : ∀ x0, core (closePassed x0) = core x0 := by intros; simp [closePassed, *]
@[simp] theorem crossed_core : ∀ x0, core (crossed x0) = core x0 := by intros; simp [crossed, *]
@[simp] theorem cancelSnapshot_core : ∀ x0 x1, core (cancelSnapshot x0 x1) = core x1 := by intros; unfold cancelSnapshot; dsimp only; (repeat' split) <;> simp [*]
@[simp] theorem afterStep_core : ∀ x0 x1, core (afterStep x0 x1) = core x1 := by intros; simp [afterStep, *]
@[simp] theorem servoStep_core : ∀ x0 x1, core (servoStep x0 x1) = core x1 := by intros; simp [servoStep, *]
@[simp] theorem bodyTimGet_core : ∀ x0 x1 z, core x1 = core z → Answer.keeps z (bodyTimGet x0 x1) := by intros; simp [bodyTimGet, *]
@[simp] theorem bodyTimSet_core : ∀ x0 x1 z, core x1 = core z → Answer.keeps z (bodyTimSet x0 x1) := by intros; simp [bodyTimSet, *]
@[simp] theorem opTimSet_core : ∀ x0 x1, core (opTimSet x0 x1) = core x1 := by intros; simp [opTimSet, *]
@[simp] theorem bodyTimLoadZone_core : ∀ x0 x1 z, core x1 = core z → Answer.keeps z (bodyTimLoadZone x0 x1) := by intros; simp [bodyTimLoadZone, *]
@[simp] theorem bodyTimPtpConfig_core : ∀ x0 x1 z, core x1 = core z → Answer.keeps z (bodyTimPtpConfig x0 x1) := by intros; simp [bodyTimPtpConfig, *]
@[simp] theorem opSysSetConfig_core : ∀ x0 x1, core (opSysSetConfig x0 x1) = core x1 := by intros; simp [opSysSetConfig, *]
@[simp] theorem acquire_core : ∀ x0 x1, core (acquire x0 x1) = core x1 := by intros; simp [acquire, *]
@[simp] theorem loseSource_core : ∀ x0, core (loseSource x0) = core x0 := by intros; simp [loseSource, *]
@[simp] theorem slew_core : ∀ x0, core (slew x0) = core x0 := by intros; simp [slew, *]
@[simp] theorem measure_core : ∀ x0 x1, core (measure x0 x1) = core x1 := by intros; simp [measure, *]
@[simp] theorem takeUtc_core : ∀ x0 x1 x2, core (takeUtc x0 x1 x2) = core x2 := by intros; simp [takeUtc, *]
@[simp] theorem opAnnounce_core : ∀ x0 x1 x2 x3 x4 x5 x6 x7, core (opAnnounce x0 x1 x2 x3 x4 x5 x6 x7) = core x7 := by intros; simp [opAnnounce, *]
@[simp] theorem opOffset_core : ∀ x0 x1 x2, core (opOffset x0 x1 x2) = core x2 := by intros; simp [opOffset, *]
@[simp] theorem opPtp_core : ∀ x0 x1, core (opPtp x0 x1) = core x1 := by intros; unfold opPtp; (repeat' split) <;> simp [*]
@[simp] theorem opAnnounceTimeout_core : ∀ x0, core (opAnnounceTimeout x0) = core x0 := by intros; simp [opAnnounceTimeout, *]
@[simp] theorem opHoldover_core : ∀ x0, core (opHoldover x0) = core x0 := by intros; simp [opHoldover, *]
@[simp] theorem opPpsEdge_core : ∀ x0, core (opPpsEdge x0) = core x0 := by intros; simp [opPpsEdge, *]
@[simp] theorem opPpsLoss_core : ∀ x0, core (opPpsLoss x0) = core x0 := by intros; simp [opPpsLoss, *]
@[simp] theorem opPpsOut_core : ∀ x0, core (opPpsOut x0) = core x0 := by intros; simp [opPpsOut, *]
@[simp] theorem opDelayReq_core : ∀ x0, core (opDelayReq x0) = core x0 := by intros; simp [opDelayReq, *]
@[simp] theorem opTransparent_core : ∀ x0 x1, core (opTransparent x0 x1) = core x1 := by intros; simp [opTransparent, *]
@[simp] theorem opLeapSecond_core : ∀ x0, core (opLeapSecond x0) = core x0 := by intros; unfold opLeapSecond; (repeat' split) <;> simp [*]
@[simp] theorem opRtcTrim_core : ∀ x0, core (opRtcTrim x0) = core x0 := by intros; simp [opRtcTrim, *]
@[simp] theorem dutySpend_core : ∀ x0 x1, core (dutySpend x0 x1) = core x1 := by intros; simp [dutySpend, *]
@[simp] theorem beaconOnAir_core : ∀ a b c s, core (beaconOnAir a b c s) = core s := by
  intro a b c s; unfold beaconOnAir; split
  · rfl
  · next ctr t h => dsimp only; split <;> simp [takeCtr_core _ _ _ _ h]

@[simp] theorem scheduleBeacon_core : ∀ x0 x1, core (scheduleBeacon x0 x1) = core x1 := by intros; unfold scheduleBeacon; (repeat' split) <;> simp [*]
@[simp] theorem opBeacon_core : ∀ x0 x1 x2 x3, core (opBeacon x0 x1 x2 x3) = core x3 := by intros; unfold opBeacon; dsimp only; (repeat' split) <;> simp [*]
@[simp] theorem opBeaconDrop_core : ∀ x0 x1, core (opBeaconDrop x0 x1) = core x1 := by intros; simp [opBeaconDrop, *]
@[simp] theorem opPrevBkey_core : ∀ x0, core (opPrevBkey x0) = core x0 := by intros; unfold opPrevBkey; (repeat' split) <;> simp [*]
@[simp] theorem onKeys_core : ∀ f s, (∀ k, (f k).lifecycle = k.lifecycle) → (∀ k, (f k).lcCounter = k.lcCounter) → core (onKeys f s) = core s := by
  intro f s h1 h2; simp [onKeys, h1, h2]

@[simp] theorem putSlot_core : ∀ x0 x1, core (putSlot x0 x1) = core x1 := by intros; simp [putSlot, *]
@[simp] theorem dropSlot_core : ∀ x0 x1, core (dropSlot x0 x1) = core x1 := by intros; simp [dropSlot, *]
@[simp] theorem savePersistent_core : ∀ x0, core (savePersistent x0) = core x0 := by intros; simp [savePersistent, *]
@[simp] theorem derivePair_core : ∀ x0, core (derivePair x0) = core x0 := by intros; simp [derivePair, *]
@[simp] theorem loadKey_core : ∀ x0 x1 x2 x3, core (loadKey x0 x1 x2 x3) = core x3 := by intros; unfold loadKey; (repeat' split) <;> simp [*]
@[simp] theorem bodyKeyDerive_core : ∀ x0 x1 z, core x1 = core z → Answer.keeps z (bodyKeyDerive x0 x1) := by intros; unfold bodyKeyDerive; dsimp only; (repeat' split) <;> simp [*]
@[simp] theorem bodyKeyImport_core : ∀ x0 x1 z, core x1 = core z → Answer.keeps z (bodyKeyImport x0 x1) := by intros; unfold bodyKeyImport; dsimp only; (repeat' split) <;> simp [*]
@[simp] theorem bodyKeyReplace_core : ∀ x0 x1 z, core x1 = core z → Answer.keeps z (bodyKeyReplace x0 x1) := by intros; unfold bodyKeyReplace; dsimp only; (repeat' split) <;> simp [*]
@[simp] theorem bodyKeyErase_core : ∀ x0 x1 z, core x1 = core z → Answer.keeps z (bodyKeyErase x0 x1) := by intros; unfold bodyKeyErase; dsimp only; (repeat' split) <;> simp [*]
@[simp] theorem bodyKeyGetAttr_core : ∀ x0 x1 z, core x1 = core z → Answer.keeps z (bodyKeyGetAttr x0 x1) := by intros; simp [bodyKeyGetAttr, *]
@[simp] theorem zeroise_core : ∀ x0, core (zeroise x0) = core x0 := by intros; simp [zeroise, *]
@[simp] theorem lifeTwin_core : ∀ x0 x1 x2, core (lifeTwin x0 x1 x2) = core x2 := by intros; simp [lifeTwin, *]
@[simp] theorem passPending_core : ∀ x0 x1, core (passPending x0 x1) = core x1 := by intros; unfold passPending; (repeat' split) <;> simp [*]
@[simp] theorem noteResult_core : ∀ x0 x1, core (noteResult x0 x1) = core x1 := by intros; simp [noteResult, *]
@[simp] theorem opCipherJob_core : ∀ x0 x1, core (opCipherJob x0 x1) = core x1 := by intros; unfold opCipherJob; dsimp only; (repeat' split) <;> simp [*]
@[simp] theorem noteKeys_core : ∀ x0 x1, core (noteKeys x0 x1) = core x1 := by intros; unfold noteKeys; dsimp only; (repeat' split) <;> simp [*]
@[simp] theorem acceptFrame_core : ∀ x0 x1, core (acceptFrame x0 x1) = core x1 := by intros; simp [acceptFrame, *]
@[simp] theorem opPublicKey_core : ∀ x0 x1, core (opPublicKey x0 x1) = core x1 := by intros; simp [opPublicKey, *]
@[simp] theorem onFw_core : ∀ x0 x1, core (onFw x0 x1) = core x1 := by intros; simp [onFw, *]
@[simp] theorem dirWrite_core : ∀ x0 x1, core (dirWrite x0 x1) = core x1 := by intros; simp [dirWrite, *]
@[simp] theorem bodyFwuStage_core : ∀ x0 x1 z, core x1 = core z → Answer.keeps z (bodyFwuStage x0 x1) := by intros; simp [bodyFwuStage, *]
@[simp] theorem opFwuStage_core : ∀ x0 x1, core (opFwuStage x0 x1) = core x1 := by intros; simp [opFwuStage, *]
@[simp] theorem verifyStaging_core : ∀ x0 x1, core (verifyStaging x0 x1).2 = core x1 := by intros; unfold verifyStaging; dsimp only; (repeat' split) <;> simp [*]
@[simp] theorem bodyFwuVerify_core : ∀ x0 x1 z, core x1 = core z → Answer.keeps z (bodyFwuVerify x0 x1) := by intros; simp [bodyFwuVerify, *]
@[simp] theorem bodyFwuActivate_core : ∀ x0 x1 z, core x1 = core z → Answer.keeps z (bodyFwuActivate x0 x1) := by intros; simp [bodyFwuActivate, *]
@[simp] theorem fwBad_core : ∀ x0 x1, core (fwBad x0 x1) = core x1 := by intros; simp [fwBad, *]
@[simp] theorem fwCopy_core : ∀ x0 x1, core (fwCopy x0 x1).2 = core x1 := by intros; unfold fwCopy; dsimp only; (repeat' split) <;> simp [*]
@[simp] theorem fwRun_core : ∀ x0 x1 x2, core (fwRun x0 x1 x2).2 = core x2 := by intros; unfold fwRun; dsimp only; (repeat' split) <;> simp [*]
@[simp] theorem fwChoose_core : ∀ x0 x1 x2 x3, core (fwChoose x0 x1 x2 x3).2 = core x3 := by intros; unfold fwChoose; dsimp only; (repeat' split) <;> simp [*]
@[simp] theorem raiseRollback_core : ∀ x0 x1, core (raiseRollback x0 x1) = core x1 := by intros; simp [raiseRollback, *]
@[simp] theorem trialGood_core : ∀ x0, core (trialGood x0) = core x0 := by intros; unfold trialGood; (repeat' split) <;> simp [*]
@[simp] theorem trialEnds_core : ∀ x0 x1, core (trialEnds x0 x1) = core x1 := by intros; unfold trialEnds; (repeat' split) <;> simp [*]
@[simp] theorem fallbackDone_core : ∀ x0, core (fallbackDone x0) = core x0 := by intros; simp [fallbackDone, *]
@[simp] theorem keeperFollows_core : ∀ x0, core (keeperFollows x0) = core x0 := by intros; simp [keeperFollows, *]
@[simp] theorem loaderSend_core : ∀ x0 x1 x2, core (loaderSend x0 x1 x2) = core x2 := by intros; simp [loaderSend, *]
@[simp] theorem loaderAck_core : ∀ x0 x1, core (loaderAck x0 x1) = core x1 := by intros; simp [loaderAck, *]
@[simp] theorem loaderDone_core : ∀ x0 x1 x2, core (loaderDone x0 x1 x2) = core x2 := by intros; simp [loaderDone, *]
@[simp] theorem opLoaderAnnounce_core : ∀ x0, core (opLoaderAnnounce x0) = core x0 := by intros; simp [opLoaderAnnounce, *]
@[simp] theorem opLoaderOffer_core : ∀ x0 x1 x2, core (opLoaderOffer x0 x1 x2) = core x2 := by intros; simp [opLoaderOffer, *]
@[simp] theorem opLoaderData_core : ∀ x0 x1 x2 x3, core (opLoaderData x0 x1 x2 x3) = core x3 := by intros; simp [opLoaderData, *]
@[simp] theorem opLoaderFinish_core : ∀ x0 x1, core (opLoaderFinish x0 x1) = core x1 := by intros; simp [opLoaderFinish, *]
@[simp] theorem opLoaderAbandon_core : ∀ x0, core (opLoaderAbandon x0) = core x0 := by intros; simp [opLoaderAbandon, *]
@[simp] theorem opLoaderSearch_core : ∀ x0 x1, core (opLoaderSearch x0 x1) = core x1 := by intros; simp [opLoaderSearch, *]
@[simp] theorem onTest_core : ∀ x0 x1, core (onTest x0 x1) = core x1 := by intros; simp [onTest, *]
@[simp] theorem startQueued_core : ∀ x0, core (startQueued x0) = core x0 := by intros; unfold startQueued; (repeat' split) <;> simp [*]
@[simp] theorem endRun_core : ∀ x0 x1, core (endRun x0 x1) = core x1 := by intros; simp [endRun, *]
@[simp] theorem abandonRun_core : ∀ x0, core (abandonRun x0) = core x0 := by intros; unfold abandonRun; (repeat' split) <;> simp [*]
@[simp] theorem testClockLost_core : ∀ x0 x1, core (testClockLost x0 x1) = core x1 := by intros; unfold testClockLost; (repeat' split) <;> simp [*]
@[simp] theorem bodyTstRun_core : ∀ x0 x1 z, core x1 = core z → Answer.keeps z (bodyTstRun x0 x1) := by intros; simp [bodyTstRun, *]
@[simp] theorem opTstRun_core : ∀ x0 x1, core (opTstRun x0 x1) = core x1 := by intros; simp [opTstRun, *]
@[simp] theorem partEnds_core : ∀ x0 x1, core (partEnds x0 x1) = core x1 := by intros; unfold partEnds; (repeat' split) <;> simp [*]
@[simp] theorem bodyTstResult_core : ∀ x0 x1 z, core x1 = core z → Answer.keeps z (bodyTstResult x0 x1) := by intros; unfold bodyTstResult; (repeat' split) <;> simp [*]
@[simp] theorem bodyTstCounters_core : ∀ x0 x1 z, core x1 = core z → Answer.keeps z (bodyTstCounters x0 x1) := by intros; simp [bodyTstCounters, *]
@[simp] theorem onKeeper_core : ∀ x0 x1, core (onKeeper x0 x1) = core x1 := by intros; simp [onKeeper, *]
@[simp] theorem onSupply_core : ∀ x0 x1, core (onSupply x0 x1) = core x1 := by intros; simp [onSupply, *]
@[simp] theorem onBoot_core : ∀ f s, (∀ b, (f b).journal.failRun.length = b.journal.failRun.length) →
    (∀ b, (f b).journal.recs.length / 2045 = b.journal.recs.length / 2045) → core (onBoot f s) = core s := by
  intro f s h1 h2; simp [onBoot, h1, h2]

@[simp] theorem onJournal_core : ∀ f s, (∀ j, (f j).failRun.length = j.failRun.length) →
    (∀ j, (f j).recs.length / 2045 = j.recs.length / 2045) → core (onJournal f s) = core s := by
  intro f s h1 h2; simp [onJournal, h1, h2]

@[simp] theorem onTwin_core : ∀ x0 x1, core (onTwin x0 x1) = core x1 := by intros; simp [onTwin, *]
@[simp] theorem raiseOwn_core : ∀ x0 x1, core (raiseOwn x0 x1) = core x1 := by intros; simp [raiseOwn, *]
@[simp] theorem owe_core : ∀ x0 x1, core (owe x0 x1) = core x1 := by intros; unfold owe; (repeat' split) <;> (first | rfl | simp)
@[simp] theorem setInhibit_core : ∀ x0 x1, core (setInhibit x0 x1) = core x1 := by intros; simp [setInhibit, *]
@[simp] theorem setRoleLine_core : ∀ x0 x1, core (setRoleLine x0 x1) = core x1 := by intros; simp [setRoleLine, *]
@[simp] theorem setAlive_core : ∀ x0 x1, core (setAlive x0 x1) = core x1 := by intros; simp [setAlive, *]
@[simp] theorem holdRelays_core : ∀ x0, core (holdRelays x0) = core x0 := by intros; simp [holdRelays, *]
@[simp] theorem stepDownOrders_core : ∀ x0 x1, (core x1).2 = sizes → core (stepDownOrders x0 x1) = core x1 := by intros; simp [stepDownOrders, *]
@[simp] theorem dropMain_core : ∀ s, (core s).2 = sizes → core (dropMain s) = core s := by
  intro s h
  unfold dropMain
  have h1 : core (setInhibit true (setAlive false (setRoleLine false (holdRelays s)))) = core s := by simp
  generalize setInhibit true (setAlive false (setRoleLine false (holdRelays s))) = u at *
  rw [← h1]
  rw [← h1] at h
  simp only [core, sizes, Prod.mk.injEq] at h
  simp [core, h.1, h.2.1, Bar0.dropped, loseEpochs, onLed]

@[simp] theorem leaveRecovery_core : ∀ s, (core s).2 = sizes → core (leaveRecovery s) = core s := by
  intro s h
  unfold leaveRecovery
  split
  · simp only [core, sizes, Prod.mk.injEq] at h
    simp [onJournal, onBoot, core, h.2.2.2.1]
  · rfl

@[simp] theorem startEnds_core : ∀ x0 x1, core (startEnds x0 x1) = core x1 := by intros; simp [startEnds, *]
@[simp] theorem mainReset_core : ∀ x0 x1, (core x1).2 = sizes → core (mainReset x0 x1) = core x1 := by intros; unfold mainReset; (repeat' split) <;> simp (maxDischargeDepth := 40) [*]
@[simp] theorem fieldDieReset_core : ∀ x0 x1, core (fieldDieReset x0 x1) = core x1 := by intros; simp [fieldDieReset, *]
@[simp] theorem bothReset_core : ∀ x0 x1, (core x1).2 = sizes → core (bothReset x0 x1) = core x1 := by intros; simp [bothReset, *]
@[simp] theorem stepDown_core : ∀ x0 x1, (core x1).2 = sizes → core (stepDown x0 x1) = core x1 := by intros; simp [stepDown, *]
@[simp] theorem bootKeys_core : ∀ x0, core (bootKeys x0) = core x0 := by intros; simp [bootKeys, *]
@[simp] theorem loaderBegins_core : ∀ x0, (core x0).2 = sizes → core (loaderBegins x0) = core x0 := by intros; unfold loaderBegins; dsimp only; (repeat' split) <;> simp [*]
@[simp] theorem enterRecovery_core : ∀ x0 x1, (core x1).2 = sizes → core (enterRecovery x0 x1) = core x1 := by intros; unfold enterRecovery; (repeat' split) <;> simp (maxDischargeDepth := 40) [*]
@[simp] theorem failMarks_core : ∀ x0 x1, (core x1).2 = sizes → core (failMarks x0 x1) = core x1 := by intros; simp [failMarks, *]
@[simp] theorem failStage_core : ∀ x0 x1 x2, (core x2).2 = sizes → core (failStage x0 x1 x2) = core x2 := by intros; simp [failStage, *]
@[simp] theorem opStageFailure_core : ∀ x0 x1, (core x1).2 = sizes → core (opStageFailure x0 x1) = core x1 := by intros; simp [opStageFailure, *]
@[simp] theorem opStageLimit_core : ∀ x0, (core x0).2 = sizes → core (opStageLimit x0) = core x0 := by intros; simp [opStageLimit, *]
@[simp] theorem degrade_core : ∀ x0 x1, (core x1).2 = sizes → core (degrade x0 x1) = core x1 := by intros; simp [degrade, *]
@[simp] theorem degradeEnd_core : ∀ x0 x1, (core x1).2 = sizes → core (degradeEnd x0 x1) = core x1 := by intros; simp [degradeEnd, *]
@[simp] theorem opDegradedEnd_core : ∀ x0, (core x0).2 = sizes → core (opDegradedEnd x0) = core x0 := by intros; simp [opDegradedEnd, *]
@[simp] theorem warnArbitration_core : ∀ x0, core (warnArbitration x0) = core x0 := by intros; simp [warnArbitration, *]
@[simp] theorem dipBegins_core : ∀ x0 x1 x2, (core x2).2 = sizes → core (dipBegins x0 x1 x2) = core x2 := by intros; simp [dipBegins, *]
@[simp] theorem opPowerWarning_core : ∀ x0 x1 x2, (core x2).2 = sizes → core (opPowerWarning x0 x1 x2) = core x2 := by intros; simp [opPowerWarning, *]
@[simp] theorem dipEvent_core : ∀ x0 x1, (core x1).2 = sizes → core (dipEvent x0 x1) = core x1 := by intros; simp [dipEvent, *]
@[simp] theorem holdEnds_core : ∀ x0, core (holdEnds x0) = core x0 := by intros; simp [holdEnds, *]
@[simp] theorem opDipEnd_core : ∀ m s, (core s).2 = sizes → core (opDipEnd m s) = core s := by
  intro m s h
  unfold opDipEnd
  dsimp only
  split
  · rfl
  · rw [onSupply_core]
    have key : ∀ (l : List Nat) u, (core u).2 = sizes → core (l.foldl (fun a r => dipEvent r a) u) = core u :=
      fun l u hu => core_foldl_sound _ (fun a x ha => dipEvent_core x a ha) l u hu
    rw [key]
    · simp
    · simp [h]

@[simp] theorem opMainSupplyReset_core : ∀ x0 x1 x2, (core x2).2 = sizes → core (opMainSupplyReset x0 x1 x2) = core x2 := by intros; simp [opMainSupplyReset, *]
@[simp] theorem opFieldSupplyReset_core : ∀ x0 x1, (core x1).2 = sizes → core (opFieldSupplyReset x0 x1) = core x1 := by intros; simp [opFieldSupplyReset, *]
@[simp] theorem opFieldRelease_core : ∀ x0, (core x0).2 = sizes → core (opFieldRelease x0) = core x0 := by intros; simp [opFieldRelease, *]
@[simp] theorem opKeeperPowerOn_core : ∀ x0 x1, (core x1).2 = sizes → core (opKeeperPowerOn x0 x1) = core x1 := by intros; simp [opKeeperPowerOn, *]
@[simp] theorem opKeeperLoss_core : ∀ s, (core s).2 = sizes → core (opKeeperLoss s) = core s := by
  intro s h
  unfold opKeeperLoss
  split
  · rfl
  · have h1 : core (dropMain (fieldReset (cutPlacard (startEnds true s)))) = core s := by simp (maxDischargeDepth := 40) [h]
    have h2 := h
    simp only [core, sizes, Prod.mk.injEq] at h2
    simp only [core, Prod.mk.injEq] at h1
    simp only [core, onKeeper, onBoot, Bar0.reset, h2.2.1, h2.2.2.1, List.length_map, List.length_range, List.length_replicate,
      h1.1.1, h1.1.2.1, h1.1.2.2.1, h1.1.2.2.2.1, h1.1.2.2.2.2, h1.2.1, h1.2.2.2.2.1, h1.2.2.2.2.2]

@[simp] theorem opSysResetN_core : ∀ x0, (core x0).2 = sizes → core (opSysResetN x0) = core x0 := by intros; simp [opSysResetN, *]
@[simp] theorem scopeReset_core : ∀ x0 x1 x2, (core x2).2 = sizes → core (scopeReset x0 x1 x2) = core x2 := by intros; simp [scopeReset, *]
@[simp] theorem opDelayedReset_core : ∀ x0, (core x0).2 = sizes → core (opDelayedReset x0) = core x0 := by intros; unfold opDelayedReset; (repeat' split) <;> simp [*]
@[simp] theorem opTamper_core : ∀ x0 x1, (core x1).2 = sizes → core (opTamper x0 x1) = core x1 := by intros; simp [opTamper, *]
@[simp] theorem watchdogNoted_core : ∀ x0 x1, (core x1).2 = sizes → core (watchdogNoted x0 x1) = core x1 := by intros; simp [watchdogNoted, *]
@[simp] theorem opAppWatchdog_core : ∀ x0, (core x0).2 = sizes → core (opAppWatchdog x0) = core x0 := by intros; unfold opAppWatchdog; (repeat' split) <;> simp (maxDischargeDepth := 40) [*]
@[simp] theorem opTwinWatchdog_core : ∀ x0, (core x0).2 = sizes → core (opTwinWatchdog x0) = core x0 := by intros; simp [opTwinWatchdog, *]
@[simp] theorem opKeeperWatchdog_core : ∀ x0, (core x0).2 = sizes → core (opKeeperWatchdog x0) = core x0 := by intros; simp [opKeeperWatchdog, *]
@[simp] theorem opWdtKick_core : ∀ x0 x1, core (opWdtKick x0 x1) = core x1 := by intros; simp [opWdtKick, *]
@[simp] theorem opBridgeTimeout_core : ∀ x0 x1 x2, (core x2).2 = sizes → core (opBridgeTimeout x0 x1 x2) = core x2 := by intros; simp [opBridgeTimeout, *]
@[simp] theorem opClockStopped_core : ∀ x0 x1, core (opClockStopped x0 x1) = core x1 := by intros; simp [opClockStopped, *]
@[simp] theorem opClockReturn_core : ∀ x0 x1, core (opClockReturn x0 x1) = core x1 := by intros; simp [opClockReturn, *]
@[simp] theorem opShowCode_core : ∀ x0 x1, (core x1).2 = sizes → core (opShowCode x0 x1) = core x1 := by intros; simp [opShowCode, *]
@[simp] theorem opDipMinRead_core : ∀ x0, core (opDipMinRead x0) = core x0 := by intros; simp [opDipMinRead, *]
@[simp] theorem opBridgeRead_core : ∀ x0, core (opBridgeRead x0) = core x0 := by intros; simp [opBridgeRead, *]
@[simp] theorem opClockStatusRead_core : ∀ x0, core (opClockStatusRead x0) = core x0 := by intros; simp [opClockStatusRead, *]
@[simp] theorem opHostUnlock_core : ∀ x0 x1, (core x1).2 = sizes → core (opHostUnlock x0 x1) = core x1 := by intros; simp [opHostUnlock, *]
@[simp] theorem hostAction_core : ∀ n f s, (∀ u, (core u).2 = sizes → core (f u) = core u) → (core s).2 = sizes → core (hostAction n f s) = core s := by
  intro n f s hf hs; unfold hostAction; split
  · simp
  · split
    · rw [hf _ (by simpa using hs)]; simp
    · exact note_core _ _ _ hs
@[simp] theorem dumpJournal_core : ∀ x0, core (dumpJournal x0) = core x0 := by intros; simp [dumpJournal, *]
@[simp] theorem opLoaderReset_core : ∀ x0, (core x0).2 = sizes → core (opLoaderReset x0) = core x0 := by intros; unfold opLoaderReset; (repeat' split) <;> simp [*]
@[simp] theorem opRecoveryEntry_core : ∀ x0, (core x0).2 = sizes → core (opRecoveryEntry x0) = core x0 := by intros; simp [opRecoveryEntry, *]
@[simp] theorem onStore_core : ∀ x0 x1, core (onStore x0 x1) = core x1 := by intros; simp [onStore, *]
@[simp] theorem onFig_core : ∀ x0 x1, core (onFig x0 x1) = core x1 := by intros; simp [onFig, *]
@[simp] theorem onCnt_core : ∀ x0 x1, core (onCnt x0 x1) = core x1 := by intros; simp [onCnt, *]
@[simp] theorem spaceStep_core : ∀ s, core (spaceStep s) = core s := by
  intro s; unfold spaceStep; split
  · simp
  · split
    · split
      · rfl
      · exact (raise_core _ _ _).trans (onLed_core _ _)
    · rfl

@[simp] theorem askSpace_core : ∀ x0, core (askSpace x0) = core x0 := by intros; simp [askSpace, *]
@[simp] theorem changeStage_core : ∀ x0 x1, core (changeStage x0 x1) = core x1 := by intros; simp [changeStage, *]
@[simp] theorem poolSpent_core : ∀ x0, core (poolSpent x0) = core x0 := by intros; simp [poolSpent, *]
@[simp] theorem opStoreStage_core : ∀ x0 x1 x2, core (opStoreStage x0 x1 x2) = core x2 := by intros; simp [opStoreStage, *]
@[simp] theorem opSalvageTimer_core : ∀ x0, core (opSalvageTimer x0) = core x0 := by intros; simp [opSalvageTimer, *]
@[simp] theorem withdraw_core : ∀ x0, core (withdraw x0) = core x0 := by intros; simp [withdraw, *]
@[simp] theorem onBlock_core : ∀ x0 x1 x2, core (onBlock x0 x1 x2) = core x2 := by intros; simp [onBlock, *]
@[simp] theorem onTarget_core : ∀ x0 x1 x2 x3, core (onTarget x0 x1 x2 x3) = core x3 := by intros; simp [onTarget, *]
@[simp] theorem loseUnits_core : ∀ x0 x1, core (loseUnits x0 x1) = core x1 := by intros; simp [loseUnits, *]
@[simp] theorem retireTarget_core : ∀ x0 x1 x2, core (retireTarget x0 x1 x2) = core x2 := by intros; simp [retireTarget, *]
@[simp] theorem retireBlock_core : ∀ x0 x1, core (retireBlock x0 x1) = core x1 := by intros; simp [retireBlock, *]
@[simp] theorem settleBlocks_core : ∀ x0, core (settleBlocks x0) = core x0 := by intros; simp [settleBlocks, *]
@[simp] theorem condemn_core : ∀ x0 x1, core (condemn x0 x1) = core x1 := by intros; simp [condemn, *]
@[simp] theorem takeSeq_core : ∀ x0 x1, core (takeSeq x0 x1) = core x1 := by intros; simp [takeSeq, *]
@[simp] theorem mapUnit_core : ∀ x0 x1, core (mapUnit x0 x1) = core x1 := by intros; simp [mapUnit, *]
@[simp] theorem answered_core : ∀ x0 x1 x2, core (answered x0 x1 x2) = core x2 := by intros; simp [answered, *]
@[simp] theorem opProgramComplete_core : ∀ x0 x1, core (opProgramComplete x0 x1) = core x1 := by intros; simp [opProgramComplete, *]
@[simp] theorem opProgramFail_core : ∀ x0 x1 x2, core (opProgramFail x0 x1 x2) = core x2 := by intros; simp [opProgramFail, *]
@[simp] theorem opEraseFail_core : ∀ x0 x1 x2 x3, core (opEraseFail x0 x1 x2 x3) = core x3 := by intros; simp [opEraseFail, *]
@[simp] theorem opEraseComplete_core : ∀ x0 x1 x2 x3, core (opEraseComplete x0 x1 x2 x3) = core x3 := by intros; simp [opEraseComplete, *]
@[simp] theorem loseUnit_core : ∀ x0 x1, core (loseUnit x0 x1) = core x1 := by intros; simp [loseUnit, *]
@[simp] theorem refreshBlock_core : ∀ x0 x1, core (refreshBlock x0 x1) = core x1 := by intros; simp [refreshBlock, *]
@[simp] theorem opNandRead_core : ∀ x0 x1 x2, core (opNandRead x0 x1 x2) = core x2 := by intros; simp [opNandRead, *]
@[simp] theorem opPatrolRead_core : ∀ x0 x1 x2, core (opPatrolRead x0 x1 x2) = core x2 := by intros; simp [opPatrolRead, *]
@[simp] theorem startMove_core : ∀ x0 x1 x2, core (startMove x0 x1 x2) = core x2 := by intros; simp [startMove, *]
@[simp] theorem opCollectionStart_core : ∀ x0 x1 x2, core (opCollectionStart x0 x1 x2) = core x2 := by intros; simp [opCollectionStart, *]
@[simp] theorem opWearMove_core : ∀ x0 x1 x2, core (opWearMove x0 x1 x2) = core x2 := by intros; simp [opWearMove, *]
@[simp] theorem opCopyVerified_core : ∀ x0 x1 x2 x3, core (opCopyVerified x0 x1 x2 x3) = core x3 := by intros; unfold opCopyVerified; (repeat' split) <;> simp [*]
@[simp] theorem opTargetFail_core : ∀ x0 x1 x2 x3, core (opTargetFail x0 x1 x2 x3) = core x3 := by intros; simp [opTargetFail, *]
@[simp] theorem opNoAnswer_core : ∀ x0 x1 x2, core (opNoAnswer x0 x1 x2) = core x2 := by intros; simp [opNoAnswer, *]
@[simp] theorem bodyStoHealth_core : ∀ x0 x1 z, core x1 = core z → Answer.keeps z (bodyStoHealth x0 x1) := by intros; simp [bodyStoHealth, *]
@[simp] theorem bodyStoVolumeInfo_core : ∀ x0 x1 z, core x1 = core z → Answer.keeps z (bodyStoVolumeInfo x0 x1) := by intros; unfold bodyStoVolumeInfo; (repeat' split) <;> simp [*]
@[simp] theorem bodyStoRead_core : ∀ x0 x1 z, core x1 = core z → Answer.keeps z (bodyStoRead x0 x1) := by intros; simp [bodyStoRead, *]
@[simp] theorem bodyStoWrite_core : ∀ x0 x1 z, core x1 = core z → Answer.keeps z (bodyStoWrite x0 x1) := by intros; unfold bodyStoWrite; (repeat' split) <;> simp [*]
@[simp] theorem bodyStoDiscard_core : ∀ x0 x1 z, core x1 = core z → Answer.keeps z (bodyStoDiscard x0 x1) := by intros; simp [bodyStoDiscard, *]
@[simp] theorem bodyStoSetThreshold_core : ∀ x0 x1 z, core x1 = core z → Answer.keeps z (bodyStoSetThreshold x0 x1) := by intros; simp [bodyStoSetThreshold, *]
@[simp] theorem onSub_core : ∀ x0 x1, core (onSub x0 x1) = core x1 := by intros; simp [onSub, *]
@[simp] theorem onHeadSide_core : ∀ x0 x1 x2, core (onHeadSide x0 x1 x2) = core x2 := by intros; simp [onHeadSide, *]
@[simp] theorem heardSub_core : ∀ x0 x1, core (heardSub x0 x1) = core x1 := by intros; simp [heardSub, *]
@[simp] theorem heardHead_core : ∀ x0, core (heardHead x0) = core x0 := by intros; simp [heardHead, *]
@[simp] theorem toSub_core : ∀ x0 x1 x2 x3, core (toSub x0 x1 x2 x3) = core x3 := by intros; simp [toSub, *]
@[simp] theorem toHead_core : ∀ x0 x1 x2, core (toHead x0 x1 x2) = core x2 := by intros; simp [toHead, *]
@[simp] theorem opAnnounceTimer_core : ∀ x0, core (opAnnounceTimer x0) = core x0 := by intros; simp [opAnnounceTimer, *]
@[simp] theorem opAnnouncement_core : ∀ x0 x1, core (opAnnouncement x0 x1) = core x1 := by intros; unfold opAnnouncement; (repeat' split) <;> simp [*]
@[simp] theorem opUploadConnect_core : ∀ x0 x1, core (opUploadConnect x0 x1) = core x1 := by intros; simp [opUploadConnect, *]
@[simp] theorem opAdmit_core : ∀ x0 x1 x2 x3, core (opAdmit x0 x1 x2 x3) = core x3 := by intros; simp [opAdmit, *]
@[simp] theorem opAdmitAck_core : ∀ x0 x1 x2, core (opAdmitAck x0 x1 x2) = core x2 := by intros; simp [opAdmitAck, *]
@[simp] theorem finishForward_core : ∀ x0 x1 x2 x3, core (finishForward x0 x1 x2 x3) = core x3 := by intros; simp [finishForward, *]
@[simp] theorem finishForwards_core : ∀ a b s, core (finishForwards a b s) = core s := by
  intro a b s; unfold finishForwards; apply core_foldl; intro s f; (repeat' split) <;> simp

@[simp] theorem takeEpoch_core : ∀ x0 x1 x2 x3, core (takeEpoch x0 x1 x2 x3) = core x3 := by intros; simp [takeEpoch, *]
@[simp] theorem loseSub_core : ∀ x0 x1, core (loseSub x0 x1) = core x1 := by intros; simp [loseSub, *]
@[simp] theorem epochAck_core : ∀ x0 x1 x2 x3 x4, core (epochAck x0 x1 x2 x3 x4) = core x4 := by intros; simp [epochAck, *]
@[simp] theorem opEpochData_core : ∀ x0 x1 x2, core (opEpochData x0 x1 x2) = core x2 := by intros; unfold opEpochData; dsimp only; (repeat' split) <;> simp [*]
@[simp] theorem opEpochGap_core : ∀ x0 x1 x2 x3, core (opEpochGap x0 x1 x2 x3) = core x3 := by intros; unfold opEpochGap; (repeat' split) <;> simp [*]
@[simp] theorem opEpochAck_core : ∀ x0 x1 x2, core (opEpochAck x0 x1 x2) = core x2 := by intros; simp [opEpochAck, *]
@[simp] theorem opEpochResend_core : ∀ x0, core (opEpochResend x0) = core x0 := by intros; unfold opEpochResend; (repeat' split) <;> simp [*]
@[simp] theorem opChannelSilent_core : ∀ x0 x1 x2, core (opChannelSilent x0 x1 x2) = core x2 := by intros; unfold opChannelSilent; (repeat' split) <;> simp [*]
@[simp] theorem takeForwarded_core : ∀ x0 x1 x2, core (takeForwarded x0 x1 x2) = core x2 := by intros; unfold takeForwarded; (repeat' split) <;> simp [*]
@[simp] theorem opForwarded_core : ∀ x0 x1 x2, core (opForwarded x0 x1 x2) = core x2 := by intros; simp [opForwarded, *]
@[simp] theorem subMessage_core : ∀ x0 x1 x2, core (subMessage x0 x1 x2) = core x2 := by intros; unfold subMessage; dsimp only; (repeat' split) <;> simp [*]
@[simp] theorem opAnyMessage_core : ∀ x0 x1 x2 x3, core (opAnyMessage x0 x1 x2 x3) = core x3 := by intros; simp [opAnyMessage, *]
@[simp] theorem opAnyKeepalive_core : ∀ x0 x1, core (opAnyKeepalive x0 x1) = core x1 := by intros; unfold opAnyKeepalive; (repeat' split) <;> simp [*]
@[simp] theorem opEthLink_core : ∀ x0 x1 x2, core (opEthLink x0 x1 x2) = core x2 := by intros; simp [opEthLink, *]
@[simp] theorem ownOrigin_core : ∀ x0 x1, (core x1).2 = sizes → core (ownOrigin x0 x1) = core x1 := by intros; simp [ownOrigin, *]
@[simp] theorem judgeFrame_core : ∀ x0 x1, core (judgeFrame x0 x1).1 = core x1 := by intros; unfold judgeFrame; dsimp only; (repeat' split) <;> simp [*]
@[simp] theorem receiveMac_core : ∀ x0 x1, core (receiveMac x0 x1).1 = core x1 := by intros; unfold receiveMac; (repeat' split) <;> simp [*]
theorem sendFirst_core : ∀ f s t, sendFirst f s = some t → core t = core s := by
  intro f s t h
  unfold sendFirst at h
  split at h
  · cases h
  · next ctr u hu =>
    simp only [Option.some.injEq] at h
    rw [← h]; split <;> simp [takeCtr_core _ _ _ _ hu]

@[simp] theorem dropLost_core : ∀ x0 x1, core (dropLost x0 x1) = core x1 := by intros; simp [dropLost, *]
@[simp] theorem giveUp_core : ∀ x0 x1, core (giveUp x0 x1) = core x1 := by intros; simp [giveUp, *]
@[simp] theorem resend_core : ∀ x0 x1, core (resend x0 x1) = core x1 := by intros; simp [resend, *]
@[simp] theorem opZitherFrame_core : ∀ x0 x1, (core x1).2 = sizes → core (opZitherFrame x0 x1) = core x1 := by intros; simp [opZitherFrame, *]
@[simp] theorem frameLimited_core : ∀ x0 x1, core (frameLimited x0 x1) = core x1 := by intros; simp [frameLimited, *]
@[simp] theorem carryRequest_core : ∀ x0 x1 x2, core (carryRequest x0 x1 x2) = core x2 := by intros; simp [carryRequest, *]
@[simp] theorem opZitherTransmit_core : ∀ l s, core (opZitherTransmit l s) = core s := by
  intro l s
  unfold opZitherTransmit
  split
  · rfl
  · dsimp only
    split
    · simp
    · split
      · simp
      · next t h => split <;> simp [sendFirst_core _ _ _ h]

@[simp] theorem opZitherAck_core : ∀ x0 x1, core (opZitherAck x0 x1) = core x1 := by intros; unfold opZitherAck; (repeat' split) <;> simp [*]
@[simp] theorem opLimitRestore_core : ∀ x0, core (opLimitRestore x0) = core x0 := by intros; simp [opLimitRestore, *]
@[simp] theorem opToneRequest_core : ∀ x0 x1 x2, core (opToneRequest x0 x1 x2) = core x2 := by intros; simp [opToneRequest, *]
@[simp] theorem opToneResponse_core : ∀ x0 x1 x2 x3 x4 x5 x6, core (opToneResponse x0 x1 x2 x3 x4 x5 x6) = core x6 := by intros; unfold opToneResponse; (repeat' split) <;> simp [*]
@[simp] theorem opToneTimeout_core : ∀ x0 x1, core (opToneTimeout x0 x1) = core x1 := by intros; unfold opToneTimeout; (repeat' split) <;> simp [*]
@[simp] theorem opToneHoldoff_core : ∀ x0 x1, core (opToneHoldoff x0 x1) = core x1 := by intros; unfold opToneHoldoff; (repeat' split) <;> simp [*]
@[simp] theorem opToneRefresh_core : ∀ x0 x1, core (opToneRefresh x0 x1) = core x1 := by intros; unfold opToneRefresh; (repeat' split) <;> simp [*]
@[simp] theorem probe_core : ∀ x0 x1, core (probe x0 x1) = core x1 := by intros; simp [probe, *]
@[simp] theorem opLinkProbe_core : ∀ x0 x1, core (opLinkProbe x0 x1) = core x1 := by intros; unfold opLinkProbe; (repeat' split) <;> simp [*]
@[simp] theorem opNeighbourExpiry_core : ∀ x0 x1 x2, core (opNeighbourExpiry x0 x1 x2) = core x2 := by intros; unfold opNeighbourExpiry; (repeat' split) <;> simp [*]
@[simp] theorem opRouteReport_core : ∀ x0 x1, core (opRouteReport x0 x1) = core x1 := by intros; unfold opRouteReport; (repeat' split) <;> simp [*]
@[simp] theorem sendRouteSet_core : ∀ x0 x1 x2, core (sendRouteSet x0 x1 x2) = core x2 := by intros; simp [sendRouteSet, *]
@[simp] theorem opRouteSet_core : ∀ x0 x1 x2, core (opRouteSet x0 x1 x2) = core x2 := by intros; simp [opRouteSet, *]
@[simp] theorem opRouteError_core : ∀ x0 x1, core (opRouteError x0 x1) = core x1 := by intros; unfold opRouteError; (repeat' split) <;> simp [*]
@[simp] theorem endRepair_core : ∀ x0 x1 x2, core (endRepair x0 x1 x2) = core x2 := by intros; unfold endRepair; (repeat' split) <;> simp [*]
@[simp] theorem opRouteRepair_core : ∀ x0 x1 x2, core (opRouteRepair x0 x1 x2) = core x2 := by intros; simp [opRouteRepair, *]
@[simp] theorem opLinkFail_core : ∀ x0 x1 x2 x3, core (opLinkFail x0 x1 x2 x3) = core x3 := by intros; simp [opLinkFail, *]
@[simp] theorem onLyre_core : ∀ x0 x1, core (onLyre x0 x1) = core x1 := by intros; simp [onLyre, *]
@[simp] theorem enterSeen_core : ∀ x0 x1, core (enterSeen x0 x1) = core x1 := by intros; simp [enterSeen, *]
@[simp] theorem nextInstant_core : ∀ x0 x1 x2, core (nextInstant x0 x1 x2) = core x2 := by intros; simp [nextInstant, *]
@[simp] theorem trainBegins_core : ∀ x0 x1 x2 x3, core (trainBegins x0 x1 x2 x3) = core x3 := by intros; simp [trainBegins, *]
@[simp] theorem opRendezvousOrder_core : ∀ x0 x1, core (opRendezvousOrder x0 x1) = core x1 := by intros; unfold opRendezvousOrder; (repeat' split) <;> simp [*]
@[simp] theorem opTrainStart_core : ∀ x0 x1, core (opTrainStart x0 x1) = core x1 := by intros; unfold opTrainStart; (repeat' split) <;> simp [*]
@[simp] theorem meterAwake_core : ∀ x0 x1 x2, core (meterAwake x0 x1 x2) = core x2 := by intros; unfold meterAwake; dsimp only; (repeat' split) <;> simp [*]
@[simp] theorem opWakeAck_core : ∀ x0 x1, core (opWakeAck x0 x1) = core x1 := by intros; unfold opWakeAck; (repeat' split) <;> simp [*]
@[simp] theorem opTrainFailed_core : ∀ x0 x1, core (opTrainFailed x0 x1) = core x1 := by intros; unfold opTrainFailed; dsimp only; (repeat' split) <;> simp [*]
@[simp] theorem opCheckIn_core : ∀ x0 x1, core (opCheckIn x0 x1) = core x1 := by intros; unfold opCheckIn; (repeat' split) <;> simp [*]
@[simp] theorem opInstallBeacon_core : ∀ x0 x1 x2, core (opInstallBeacon x0 x1 x2) = core x2 := by intros; unfold opInstallBeacon; (repeat' split) <;> simp [*]
@[simp] theorem lyreCheck_core : ∀ x0 x1, core (lyreCheck x0 x1) = core x1 := by intros; simp [lyreCheck, *]
@[simp] theorem opLyreFrame_core : ∀ x0 x1, (core x1).2 = sizes → core (opLyreFrame x0 x1) = core x1 := by intros; simp [opLyreFrame, *]
theorem lyreSend_core : ∀ f a s t, lyreSend f a s = some t → core t = core s := by
  intro f a s t h
  unfold lyreSend at h
  simp only [Option.map_eq_some_iff] at h
  obtain ⟨u, hu, rfl⟩ := h
  simp [sendFirst_core _ _ _ hu]

@[simp] theorem opLyreTransmit_core : ∀ l s, core (opLyreTransmit l s) = core s := by
  intro l s
  unfold opLyreTransmit
  split
  · rfl
  · dsimp only
    split
    · simp
    · split
      · split
        · next t h => simp [lyreSend_core _ _ _ _ h]
        · simp
      · simp

@[simp] theorem opLyreAck_core : ∀ x0 x1 x2, core (opLyreAck x0 x1 x2) = core x2 := by intros; unfold opLyreAck; (repeat' split) <;> simp [*]
@[simp] theorem opDutyRelease_core : ∀ s, core (opDutyRelease s) = core s := by
  intro s; unfold opDutyRelease; split
  · rfl
  · split
    · rfl
    · split
      · next t h => simp [lyreSend_core _ _ _ _ h]
      · rfl

@[simp] theorem opLyreBeacon_core : ∀ x0, core (opLyreBeacon x0) = core x0 := by intros; simp [opLyreBeacon, *]
@[simp] theorem opSeenExpiry_core : ∀ x0 x1 x2, core (opSeenExpiry x0 x1 x2) = core x2 := by intros; simp [opSeenExpiry, *]
@[simp] theorem asAt_core : ∀ a b f s, (∀ t, core (f t) = core t) → core (asAt a b f s) = core s := by
  intro a b f s h
  simp only [asAt, core_mk]
  have := h { s with tb := tbAt s a, clk := tickAt s a + b }
  simp only [core, Prod.mk.injEq] at this
  simp only [core, Prod.mk.injEq]
  exact ⟨⟨this.1.1, trivial, this.1.2.2⟩, this.2⟩

@[simp] theorem runChanging_core : ∀ c s, core (runChanging c s) = core s := by
  intro c s
  have h : ∀ b ∈ changingBodies, ∀ c t, Answer.keeps t (b.2 c t) := by simp [changingBodies]
  unfold runChanging; split
  · simp
  · split
    · simp
    · split
      · simp
      · split
        · next b hb => exact runDcs_core _ _ _ _ (h b (List.mem_of_find?_eq_some hb))
        · rfl

@[simp] theorem takeCommand_core : ∀ x0 x1 x2 x3, core (takeCommand x0 x1 x2 x3) = core x3 := by intros; unfold takeCommand; (repeat' split) <;> simp [*]
@[simp] theorem ledgerTimer_core : ∀ x0 x1, core (ledgerTimer x0 x1) = core x1 := by intros; unfold ledgerTimer; (repeat' split) <;> simp [*]
@[simp] theorem fieldTimer_core : ∀ x0 x1, core (fieldTimer x0 x1) = core x1 := by intros; unfold fieldTimer; (repeat' split) <;> simp [*]
@[simp] theorem takeTimer_core : ∀ x0 x1, core (takeTimer x0 x1) = core x1 := by intros; simp [takeTimer, *]
@[simp] theorem takeRelay_core : ∀ x0 x1 x2 x3, core (takeRelay x0 x1 x2 x3) = core x3 := by intros; unfold takeRelay; (repeat' split) <;> simp [*]
@[simp] theorem takeRxInput_core : ∀ x0 x1, core (takeRxInput x0 x1) = core x1 := by intros; simp [takeRxInput, *]
@[simp] theorem processInput_core : ∀ x0 x1, core (processInput x0 x1) = core x1 := by intros; unfold processInput; (repeat' split) <;> simp [*]
@[simp] theorem takeInput_core : ∀ x0 x1 x2 x3, core (takeInput x0 x1 x2 x3) = core x3 := by intros; simp [takeInput, *]
@[simp] theorem takeClose_core : ∀ x0 x1 x2 x3, core (takeClose x0 x1 x2 x3) = core x3 := by intros; simp [takeClose, *]
@[simp] theorem openBuffered_core : ∀ x0 x1 x2, core (openBuffered x0 x1 x2) = core x2 := by intros; simp [openBuffered, *]
theorem takeItem_core : ∀ i s t, takeItem i s = some t → core t = core s := by
  intro i s t h
  unfold takeItem at h
  split at h
  · split at h
    · simp only [Option.some.injEq] at h; rw [h]
    · split at h
      · cases h
      · simp only [Option.some.injEq] at h; rw [← h]; simp
  · split at h
    · split at h
      · simp only [Option.some.injEq] at h; rw [h]
      · split at h
        · simp only [Option.some.injEq] at h; rw [← h]; simp
        · cases h
    · simp only [Option.some.injEq] at h; rw [← h]; simp

@[simp] theorem drainN_core : ∀ n s, core (drainN n s) = core s := by
  intro n
  induction n with
  | zero => intro s; rfl
  | succ n ih =>
    intro s
    unfold drainN
    split
    · rfl
    · split
      · next t h => rw [ih, takeItem_core _ _ _ h, core_mk, core_pack]
      · rfl

@[simp] theorem drain_core : ∀ x0, core (drain x0) = core x0 := by intros; simp [drain, *]
@[simp] theorem breakStream_core : ∀ x0 x1, core (breakStream x0 x1) = core x1 := by intros; simp [breakStream, *]
@[simp] theorem bufferInput_core : ∀ x0 x1 x2 x3, core (bufferInput x0 x1 x2 x3) = core x3 := by intros; simp [bufferInput, *]
@[simp] theorem opInput_core : ∀ x0 x1 x2 x3, core (opInput x0 x1 x2 x3) = core x3 := by intros; simp [opInput, *]
@[simp] theorem opClose_core : ∀ x0 x1 x2 x3, core (opClose x0 x1 x2 x3) = core x3 := by intros; unfold opClose; (repeat' split) <;> simp [*]
@[simp] theorem opMark_core : ∀ x0 x1 x2, core (opMark x0 x1 x2) = core x2 := by intros; simp [opMark, *]
@[simp] theorem raiseTwinState_core : ∀ x0, core (raiseTwinState x0) = core x0 := by intros; simp [raiseTwinState, *]
@[simp] theorem dropPin_core : ∀ x0, core (dropPin x0) = core x0 := by intros; simp [dropPin, *]
@[simp] theorem endService_core : ∀ x0, core (endService x0) = core x0 := by intros; simp [endService, *]
@[simp] theorem setPartner_core : ∀ x0 x1 x2, core (setPartner x0 x1 x2) = core x2 := by intros; simp [setPartner, *]
@[simp] theorem opHeartbeatSend_core : ∀ x0, core (opHeartbeatSend x0) = core x0 := by intros; simp [opHeartbeatSend, *]
@[simp] theorem standbyHears_core : ∀ x0 x1 x2, core (standbyHears x0 x1 x2) = core x2 := by intros; simp [standbyHears, *]
@[simp] theorem opHeartbeat_core : ∀ x0 x1 x2 x3 x4 x5 x6, core (opHeartbeat x0 x1 x2 x3 x4 x5 x6) = core x6 := by intros; simp [opHeartbeat, *]
@[simp] theorem opLinkSilent_core : ∀ x0, core (opLinkSilent x0) = core x0 := by intros; simp [opLinkSilent, *]
@[simp] theorem frameMissing_core : ∀ x0, core (frameMissing x0) = core x0 := by intros; unfold frameMissing; (try dsimp only); (repeat' split) <;> simp [*]
@[simp] theorem opRetransmit_core : ∀ x0 x1, core (opRetransmit x0 x1) = core x1 := by intros; simp [opRetransmit, *]
@[simp] theorem opTwillTime_core : ∀ x0 x1, core (opTwillTime x0 x1) = core x1 := by intros; simp [opTwillTime, *]
@[simp] theorem claimAsStandby_core : ∀ x0, core (claimAsStandby x0) = core x0 := by intros; simp [claimAsStandby, *]
@[simp] theorem announceService_core : ∀ x0, core (announceService x0) = core x0 := by intros; simp [announceService, *]
@[simp] theorem claimLines_core : ∀ x0, core (claimLines x0) = core x0 := by intros; simp [claimLines, *]
@[simp] theorem claim_core : ∀ x0 x1, core (claim x0 x1) = core x1 := by intros; simp [claim, *]
@[simp] theorem becomeStandby_core : ∀ x0 x1, core (becomeStandby x0 x1) = core x1 := by intros; simp [becomeStandby, *]
@[simp] theorem sendHello_core : ∀ x0, core (sendHello x0) = core x0 := by intros; simp [sendHello, *]
@[simp] theorem sendAuth_core : ∀ x0, core (sendAuth x0) = core x0 := by intros; simp [sendAuth, *]
@[simp] theorem opHello_core : ∀ x0 x1, core (opHello x0 x1) = core x1 := by intros; simp [opHello, *]
@[simp] theorem decideRole_core : ∀ x0 x1 x2, core (decideRole x0 x1 x2) = core x2 := by intros; unfold decideRole; (repeat' split) <;> simp [*]
@[simp] theorem opHelloAuth_core : ∀ x0 x1, core (opHelloAuth x0 x1) = core x1 := by intros; unfold opHelloAuth; dsimp only; (repeat' split) <;> simp [*]
@[simp] theorem drainAll_core : ∀ x0, core (drainAll x0) = core x0 := by intros; simp [drainAll, *]
@[simp] theorem fallBack_core : ∀ x0, core (fallBack x0) = core x0 := by intros; simp [fallBack, *]
@[simp] theorem takeOver_core : ∀ x0 x1, core (takeOver x0 x1) = core x1 := by intros; simp [takeOver, *]
@[simp] theorem takeHandover_core : ∀ x0, core (takeHandover x0) = core x0 := by intros; simp [takeHandover, *]
@[simp] theorem opInhibitSensed_core : ∀ x0 x1, core (opInhibitSensed x0 x1) = core x1 := by intros; unfold opInhibitSensed; dsimp only; (repeat' split) <;> simp [*]
@[simp] theorem opAliveSilent_core : ∀ x0 x1, core (opAliveSilent x0 x1) = core x1 := by intros; unfold opAliveSilent; (try dsimp only); (repeat' split) <;> simp [*]
@[simp] theorem opAliveLow_core : ∀ x0, (core x0).2 = sizes → core (opAliveLow x0) = core x0 := by intros; simp [opAliveLow, *]
@[simp] theorem opAlivePulse_core : ∀ x0, core (opAlivePulse x0) = core x0 := by intros; simp [opAlivePulse, *]
@[simp] theorem opCoilWait_core : ∀ x0, core (opCoilWait x0) = core x0 := by intros; unfold opCoilWait; (repeat' split) <;> simp [*]
@[simp] theorem opTakeover_core : ∀ x0 x1 x2 x3, (core x3).2 = sizes → core (opTakeover x0 x1 x2 x3) = core x3 := by intros; simp [opTakeover, *]
@[simp] theorem markArbitrating_core : ∀ x0 x1, core (markArbitrating x0 x1) = core x1 := by intros; simp [markArbitrating, *]
@[simp] theorem startArbitration_core : ∀ x0 x1 x2, core (startArbitration x0 x1 x2) = core x2 := by intros; simp [startArbitration, *]
@[simp] theorem diverge_core : ∀ x0 x1 x2, core (diverge x0 x1 x2) = core x2 := by intros; simp [diverge, *]
@[simp] theorem agree_core : ∀ x0 x1, core (agree x0 x1) = core x1 := by intros; simp [agree, *]
@[simp] theorem disagree_core : ∀ x0 x1, core (disagree x0 x1) = core x1 := by intros; simp [disagree, *]
@[simp] theorem judgeDigest_core : ∀ x0 x1, core (judgeDigest x0 x1) = core x1 := by intros; unfold judgeDigest; (repeat' split) <;> simp [*]
@[simp] theorem opEpochDigest_core : ∀ x0 x1 x2, core (opEpochDigest x0 x1 x2) = core x2 := by intros; simp [opEpochDigest, *]
@[simp] theorem opEpochFlushedTwin_core : ∀ x0 x1, core (opEpochFlushedTwin x0 x1) = core x1 := by intros; simp [opEpochFlushedTwin, *]
@[simp] theorem opDigestWait_core : ∀ x0, core (opDigestWait x0) = core x0 := by intros; simp [opDigestWait, *]
@[simp] theorem opDigestDeadline_core : ∀ x0, core (opDigestDeadline x0) = core x0 := by intros; simp [opDigestDeadline, *]
@[simp] theorem opLeaveSync_core : ∀ x0 x1, core (opLeaveSync x0 x1) = core x1 := by intros; simp [opLeaveSync, *]
@[simp] theorem opPartnerEvent_core : ∀ x0 x1, core (opPartnerEvent x0 x1) = core x1 := by intros; simp [opPartnerEvent, *]
@[simp] theorem matchFrames_core : ∀ x0, core (matchFrames x0) = core x0 := by intros; simp [matchFrames, *]
@[simp] theorem opFrameDigest_core : ∀ x0 x1 x2 x3 x4 x5, core (opFrameDigest x0 x1 x2 x3 x4 x5) = core x5 := by intros; simp [opFrameDigest, *]
@[simp] theorem opFrameUnmatched_core : ∀ x0 x1 x2 x3 x4, core (opFrameUnmatched x0 x1 x2 x3 x4) = core x4 := by intros; simp [opFrameUnmatched, *]
@[simp] theorem rootArbitrated_core : ∀ x0, core (rootArbitrated x0) = core x0 := by intros; simp [rootArbitrated, *]
@[simp] theorem loseArbitrated_core : ∀ x0, core (loseArbitrated x0) = core x0 := by intros; simp [loseArbitrated, *]
@[simp] theorem activeOutcome_core : ∀ x0 x1 x2, (core x2).2 = sizes → core (activeOutcome x0 x1 x2) = core x2 := by intros; simp [activeOutcome, *]
@[simp] theorem standbyOutcome_core : ∀ x0 x1 x2, core (standbyOutcome x0 x1 x2) = core x2 := by intros; simp [standbyOutcome, *]
@[simp] theorem judgeArbitration_core : ∀ x0, (core x0).2 = sizes → core (judgeArbitration x0) = core x0 := by intros; unfold judgeArbitration; (repeat' split) <;> simp [*]
@[simp] theorem sendSignature_core : ∀ x0 x1, core (sendSignature x0 x1) = core x1 := by intros; simp [sendSignature, *]
@[simp] theorem opPartEnd_core : ∀ x0 x1, (core x1).2 = sizes → core (opPartEnd x0 x1) = core x1 := by intros; unfold opPartEnd; dsimp only; (repeat' split) <;> simp [*]
@[simp] theorem opSignature_core : ∀ x0 x1, (core x1).2 = sizes → core (opSignature x0 x1) = core x1 := by intros; unfold opSignature; (repeat' split) <;> simp [*]
@[simp] theorem opArbitrationTimeout_core : ∀ x0, (core x0).2 = sizes → core (opArbitrationTimeout x0) = core x0 := by intros; unfold opArbitrationTimeout; (repeat' split) <;> simp [*]
@[simp] theorem warnedArbitration_core : ∀ x0, core (warnedArbitration x0) = core x0 := by intros; simp [warnedArbitration, *]
@[simp] theorem opDiverged_core : ∀ x0 x1 x2, core (opDiverged x0 x1 x2) = core x2 := by intros; simp [opDiverged, *]
@[simp] theorem sendContents_core : ∀ x0 x1, core (sendContents x0 x1) = core x1 := by intros; simp [sendContents, *]
@[simp] theorem sendPlan_core : ∀ x0 x1 x2, core (sendPlan x0 x1 x2) = core x2 := by intros; simp [sendPlan, *]
@[simp] theorem sendDone_core : ∀ x0 x1, core (sendDone x0 x1) = core x1 := by intros; simp [sendDone, *]
@[simp] theorem answerResync_core : ∀ x0 x1, core (answerResync x0 x1) = core x1 := by intros; unfold answerResync; dsimp only; (repeat' split) <;> simp [*]
@[simp] theorem planResync_core : ∀ x0 x1, core (planResync x0 x1) = core x1 := by intros; unfold planResync; (repeat' split) <;> simp [*]
@[simp] theorem opRoots_core : ∀ x0 x1, core (opRoots x0 x1) = core x1 := by intros; simp [opRoots, *]
@[simp] theorem resyncCommit_core : ∀ x0 x1, core (resyncCommit x0 x1) = core x1 := by intros; unfold resyncCommit; (repeat' split) <;> simp [*]
@[simp] theorem opStoreStageTwin_core : ∀ x0 x1 x2, core (opStoreStageTwin x0 x1 x2) = core x2 := by intros; unfold opStoreStageTwin; dsimp only; (repeat' split) <;> simp [*]
@[simp] theorem standAside_core : ∀ x0, core (standAside x0) = core x0 := by intros; simp [standAside, *]
@[simp] theorem takeHigh_core : ∀ x0, core (takeHigh x0) = core x0 := by intros; simp [takeHigh, *]
@[simp] theorem opPlan_core : ∀ x0 x1 x2, core (opPlan x0 x1 x2) = core x2 := by intros; unfold opPlan; (repeat' split) <;> simp [*]
@[simp] theorem opUnits_core : ∀ x0 x1 x2 x3 x4, core (opUnits x0 x1 x2 x3 x4) = core x4 := by intros; unfold opUnits; (repeat' split) <;> simp [*]
@[simp] theorem commitReceived_core : ∀ x0 x1, core (commitReceived x0 x1) = core x1 := by intros; simp [commitReceived, *]
@[simp] theorem opResyncEpoch_core : ∀ x0 x1, core (opResyncEpoch x0 x1) = core x1 := by intros; unfold opResyncEpoch; (repeat' split) <;> simp [*]
@[simp] theorem startNet_core : ∀ x0 x1, core (startNet x0 x1) = core x1 := by intros; simp [startNet, *]
@[simp] theorem startNets_core : ∀ x0, core (startNets x0) = core x0 := by intros; unfold startNets; (repeat' split) <;> (first | rfl | simp)
@[simp] theorem applyItems_core : ∀ x0, core (applyItems x0) = core x0 := by intros; simp [applyItems, *]
@[simp] theorem opDone_core : ∀ x0 x1, core (opDone x0 x1) = core x1 := by intros; unfold opDone; (repeat' split) <;> simp [*]
@[simp] theorem beginSwitchover_core : ∀ x0, core (beginSwitchover x0) = core x0 := by intros; simp [beginSwitchover, *]
@[simp] theorem bodyTwnSwitchover_core : ∀ x0 x1 z, core x1 = core z → Answer.keeps z (bodyTwnSwitchover x0 x1) := by intros; unfold bodyTwnSwitchover; dsimp only; (repeat' split) <;> simp [*]
@[simp] theorem handOver_core : ∀ x0, (core x0).2 = sizes → core (handOver x0) = core x0 := by intros; simp [handOver, *]
@[simp] theorem switchCommit_core : ∀ x0, (core x0).2 = sizes → core (switchCommit x0) = core x0 := by intros; unfold switchCommit; (repeat' split) <;> simp [*]
@[simp] theorem opSwitchover_core : ∀ x0 x1, core (opSwitchover x0 x1) = core x1 := by intros; simp [opSwitchover, *]
@[simp] theorem bodyTwnStatus_core : ∀ x0 x1 z, core x1 = core z → Answer.keeps z (bodyTwnStatus x0 x1) := by intros; simp [bodyTwnStatus, *]
@[simp] theorem bodyTwnResync_core : ∀ x0 x1 z, core x1 = core z → Answer.keeps z (bodyTwnResync x0 x1) := by intros; simp [bodyTwnResync, *]
@[simp] theorem bodyTwnSetSolo_core : ∀ x0 x1 z, core x1 = core z → Answer.keeps z (bodyTwnSetSolo x0 x1) := by intros; simp [bodyTwnSetSolo, *]
@[simp] theorem opTwnSetSolo_core : ∀ x0 x1, core (opTwnSetSolo x0 x1) = core x1 := by intros; simp [opTwnSetSolo, *]
@[simp] theorem bodySysReset_core : ∀ x0 x1 z, core x1 = core z → Answer.keeps z (bodySysReset x0 x1) := by intros; simp [bodySysReset, *]
@[simp] theorem opSysReset_core : ∀ x0 x1, core (opSysReset x0 x1) = core x1 := by intros; simp [opSysReset, *]
@[simp] theorem opEpochCommitTwin_core : ∀ x0 x1 x2, (core x2).2 = sizes → core (opEpochCommitTwin x0 x1 x2) = core x2 := by intros; simp [opEpochCommitTwin, *]
@[simp] theorem resetQueue_core : ∀ x0 x1, core (resetQueue x0 x1) = core x1 := by intros; simp [resetQueue, *]
@[simp] theorem loseRx_core : ∀ x0 x1 x2, core (loseRx x0 x1 x2) = core x2 := by intros; simp [loseRx, *]
@[simp] theorem loseTx_core : ∀ x0 x1 x2, core (loseTx x0 x1 x2) = core x2 := by intros; simp [loseTx, *]
@[simp] theorem losesWork_core : ∀ x0 x1 x2, (∀ y0 y1, core (x1 y0 y1) = core y1) → core (losesWork x0 x1 x2) = core x2 := by intros; simp [losesWork, *]
@[simp] theorem repeatExchange_core : ∀ x0 x1, core (repeatExchange x0 x1) = core x1 := by intros; simp [repeatExchange, *]
@[simp] theorem loseTwill_core : ∀ x0, core (loseTwill x0) = core x0 := by intros; simp [loseTwill, *]
@[simp] theorem ownerRecovers_core : ∀ x0 x1, core (ownerRecovers x0 x1) = core x1 := by intros; simp [ownerRecovers, *]
@[simp] theorem opQfbReset_core : ∀ x0 x1, core (opQfbReset x0 x1) = core x1 := by intros; simp [opQfbReset, *]
@[simp] theorem opPointerMismatch_core : ∀ x0 x1 x2, core (opPointerMismatch x0 x1 x2) = core x2 := by intros; simp [opPointerMismatch, *]
@[simp] theorem opStart_core : ∀ x0, (core x0).2 = sizes → core (opStart x0) = core x0 := by intros; simp [opStart, *]
@[simp] theorem opDebugToken_core : ∀ x0 x1, (core x1).2 = sizes → core (opDebugToken x0 x1) = core x1 := by intros; simp [opDebugToken, *]
theorem length_programFrom : ∀ l f b, (programFrom f b l).length = l.length := by
  intro l; induction l with
  | nil => intro f b; rfl
  | cons r rs ih => intro f b; simp [programFrom, ih]

@[simp] theorem programQueues_core : ∀ s, (core s).2 = sizes → core (programQueues s) = core s := by
  intro s h
  have h1 : s.fabric.length = 128 := by simp only [core, sizes, Prod.mk.injEq] at h; exact h.1
  have h2 : (programFrom s.fresh 0 queueTable ++ List.replicate 32 Queue.reset).length = s.fabric.length := by
    rw [h1, List.length_append, length_programFrom]; decide
  simp only [programQueues, core_mk, h2]; rfl

@[simp] theorem formatStore_core : ∀ x0 x1, core (formatStore x0 x1) = core x1 := by intros; simp [formatStore, *]
@[simp] theorem mountStore_core : ∀ x0 x1, core (mountStore x0 x1) = core x1 := by intros; simp [mountStore, *]
@[simp] theorem afterMount_core : ∀ x0, core (afterMount x0) = core x0 := by intros; unfold afterMount; (repeat' split) <;> (first | rfl | simp)
@[simp] theorem startPanel_core : ∀ x0, core (startPanel x0) = core x0 := by intros; simp [startPanel, *]
/-- A stage's work that leaves the core. -/
def StageWork.keeps (s : Sys2Proof.Machine.State) : StageWork → Prop
  | .fail _ u => core u = core s
  | .done u => core u = core s
theorem stageWork_core : ∀ r s, (core s).2 = sizes → StageWork.keeps s (stageWork r s) := by
  intro r s h
  unfold stageWork
  split
  · unfold workS0; dsimp only; split <;> split <;> simp [StageWork.keeps, h]
  · unfold workS1; (repeat' split) <;> simp [StageWork.keeps]
  · unfold workS2; (repeat' split) <;> simp [StageWork.keeps]
  · unfold workS3; dsimp only; (repeat' split) <;> simp [StageWork.keeps]
  · unfold workS4; dsimp only; (repeat' split) <;> simp [StageWork.keeps, h]
  · unfold workS5; (repeat' split) <;> simp (maxDischargeDepth := 40) [StageWork.keeps, h]
  · unfold workS6; dsimp only; (repeat' split) <;> simp [StageWork.keeps]
  · unfold workS7; (repeat' split) <;> simp [StageWork.keeps, h]

@[simp] theorem stagePasses_core : ∀ x0 x1, (core x1).2 = sizes → core (stagePasses x0 x1) = core x1 := by intros; simp [stagePasses, *]
@[simp] theorem loadTime_core : ∀ x0, core (loadTime x0) = core x0 := by intros; simp [loadTime, *]
@[simp] theorem raiseOwed_core : ∀ x0, core (raiseOwed x0) = core x0 := by intros; simp [raiseOwed, *]
@[simp] theorem rebuildCaches_core : ∀ x0, core (rebuildCaches x0) = core x0 := by intros; simp [rebuildCaches, *]
@[simp] theorem joinsAtStart_core : ∀ x0, core (joinsAtStart x0) = core x0 := by intros; simp [joinsAtStart, *]
@[simp] theorem clearCode_core : ∀ x0, (core x0).2 = sizes → core (clearCode x0) = core x0 := by intros; simp [clearCode, *]
@[simp] theorem deviceReady_core : ∀ x0, core (deviceReady x0) = core x0 := by intros; simp [deviceReady, *]
@[simp] theorem serviceActive_core : ∀ x0, core (serviceActive x0) = core x0 := by intros; simp [serviceActive, *]
@[simp] theorem serviceStandby_core : ∀ x0, core (serviceStandby x0) = core x0 := by intros; simp [serviceStandby, *]
@[simp] theorem passS8_core : ∀ x0, (core x0).2 = sizes → core (passS8 x0) = core x0 := by intros; simp [passS8, *]
@[simp] theorem workS8_core : ∀ x0, (core x0).2 = sizes → core (workS8 x0) = core x0 := by intros; simp [workS8, *]
@[simp] theorem opStage_core : ∀ r s, (core s).2 = sizes → core (opStage r s) = core s := by
  intro r s h
  have k := stageWork_core r s h
  unfold opStage
  split
  · rfl
  · split
    · split <;> simp [h]
    · split
      · next c u hu => rw [hu] at k; rw [failStage_core _ _ _ (by rw [k]; exact h), k]
      · next u hu => rw [hu] at k; rw [stagePasses_core _ _ (by rw [k]; exact h), k]

@[simp] theorem passCheck_core : ∀ x0 x1, (core x1).2 = sizes → core (passCheck x0 x1) = core x1 := by intros; simp [passCheck, *]
@[simp] theorem opEpochCommit_core : ∀ x0 x1 x2, (core x2).2 = sizes → core (opEpochCommit x0 x1 x2) = core x2 := by intros; simp [opEpochCommit, *]
@[simp] theorem opResyncReceived_core : ∀ x0 x1, (core x1).2 = sizes → core (opResyncReceived x0 x1) = core x1 := by intros; simp [opResyncReceived, *]

end Sys2Proof.Machine
end

