-- ==== Sys2Proof/WellFormed.lean ====
section
/-! DEFINITION. Which commands are well formed: each operand within the range its place in the spec has. A term
outside it stands for nothing the block can meet. -/

namespace Sys2Proof

open Sys2Proof.Machine

/-- A command frame's fields lie in their widths (Table CI.8) and its ring is one of 16. -/
def Cmd.wf (c : Cmd) : Bool :=
  decide (c.ring < 16) && decide (c.opcode < 2 ^ 16) && decide (c.deadline < 2 ^ 32) && decide (c.tag < 2 ^ 64) &&
    decide (c.bufAddr < 2 ^ 64) && decide (c.bufLen < 2 ^ 32) && c.param.length == 32

/-- A fetched entry is 64 bytes (R31, R36). -/
def fetchedWf (f : Fetched) : Bool := f.frame.length == 64

/-- A register access of a space: its offset and size. A queue's number lies below 128 (R55). -/
def spaceWf : RegSpace → Bool
  | .bar0 => true
  | .qfb n => decide (n < 128)
  | .ts => true
  | .kpr => true

/-- Whether a command's operands lie in their ranges: a command frame's fields, and the rings, queues, relays, ports, channels and
inputs that exist. -/
def Instr.wf : Instr → Bool
  | .sysIdentify c | .sysGetStatus c | .sysGetConfig c | .sysSetConfig c
  | .sysSetRole c | .sysReset c | .mtrAdmit c | .mtrRelease c
  | .mtrLookup c | .mtrGetRecord c | .mtrList c | .mtrReadNow c
  | .mtrDlms c | .mtrSetSchedule c | .mtrListSegments c | .ldgPin c
  | .ldgUnpin c | .ldgName c | .ldgDropName c | .ldgReadSeries c
  | .ldgReadJournal c | .ldgReadOpen c | .ldgCloseEpoch c | .ldgSetPeriod c
  | .ldgExportBilling c | .valLoadRules c | .valReadRules c | .valEdit c
  | .valRevalidate c | .trfLoadSchedule c | .trfLoadCalendar c | .trfReadDeterminants c
  | .trfPush c | .ppyCredit c | .ppyReadAccount c | .ppySetFriendly c
  | .ppyDisconnect c | .ppyReconnect c | .ppyOwnRelay c | .balLoadGroups c
  | .balReadResult c | .balSnapshot c | .balReadTopology c | .balReadFeeder c
  | .timGet c | .timSet c | .timLoadZone c | .timPtpConfig c
  | .keyDerive c | .keyImportWrapped c | .keyReplace c | .keyErase c
  | .keyGetAttr c | .keySetLifecycle c | .fwuStage c | .fwuVerify c
  | .fwuActivate c | .fwuCampaignStart c | .fwuCampaignStatus c | .fwuCampaignAbort c
  | .twnStatus c | .twnSwitchover c | .twnResync c | .twnSetSolo c
  | .stoHealth c | .stoVolumeInfo c | .stoRead c | .stoWrite c
  | .stoDiscard c | .stoSetThreshold c | .pnlOledWrite c | .pnlAnnunciator c
  | .pnlPlacardWrite c | .pnlStatus c | .tstRun c | .tstResult c
  | .tstCounters c | .tstCalibrate c => c.wf
  | .registerWrite sp off _ v => spaceWf sp && decide (off < 4096) && (match v with
      | some x => decide (x < 2 ^ 32)
      | none => true)
  | .mbxCrTailWrite r v => decide (r < 16) && decide (v < 2 ^ 32)
  | .mbxCpHeadWrite r v => decide (r < 16) && decide (v < 2 ^ 32)
  | .commandFetch r f => decide (r < 16) && fetchedWf f
  | .ringEnable r v => decide (r < 16) && decide (v < 2 ^ 32)
  | .ringDisable r v => decide (r < 16) && decide (v < 2 ^ 32)
  | .coalescedInterruptTimer r => decide (r < 16)
  | .qfbPush q p _ => decide (q < 128) && decide (p < 128)
  | .qfbEnd q p _ => decide (q < 128) && decide (p < 128)
  | .qfbPop q p _ _ => decide (q < 128) && decide (p < 128)
  | .popStallRelease q => decide (q < 128)
  | .qfbDrop q p => decide (q < 128) && decide (p < 128)
  | .qfbReset q => decide (q < 128)
  | .queuePointerMismatch q _ => decide (q < 128)
  | .queueEnable q v => decide (q < 128) && decide (v < 2 ^ 32)
  | .queueDisable q v => decide (q < 128) && decide (v < 2 ^ 32)
  | .qfbErrRead q => decide (q < 128)
  | .ownRelayCurrentCheck r _ => decide (r < 2)
  | .coilOvercurrent r _ => decide (r < 2)
  | .ownRelayPulseEnd r _ => decide (r < 2)
  | .ownRelayAuxCheck r _ => decide (r < 2)
  | .ownRelayRepulse r => decide (r < 2)
  | .auxUnstableTimeout r => decide (r < 2)
  | .auxContactChange r _ => decide (r < 2)
  | .relayPulseGap r => decide (r < 2)
  | .s0Pulse i => decide (i < 8)
  | .annunciatorMeasurement c _ _ => decide (c < 8)
  | .crackSample p _ => decide (p < 2)
  | .tamperAccepted i => decide (i < 4)
  | .ethernetLinkChange p _ => decide (p < 2)
  | .mbxEvConsWrite v => decide (v < 2 ^ 32)
  | _ => true

end Sys2Proof
end

section
/-! PROOF. The keeper window (R53): what lasts through a MAIN reset, what the window's commands do while the window is open and
while it is closed, and the statement about them. -/

namespace Sys2Proof.KeeperWindow

open Sys2Proof.Machine Sys2Proof.Safety

/-! ## What lasts through a MAIN reset (R393, R394) -/

/-- What every step that leads to a MAIN reset leaves as it is: the ledger, the store, the keys, the fuses, the clock, the queue, the
field die's pulse totals and the keeper window. -/
def lasting (s : State) : Ledger × Store × Keys × Fuse × Nat × List Instr × List (BitVec 64) × Option Nat :=
  (s.led, s.store, s.keys, s.fuse, s.clk, s.pending, s.met.totals, s.keeper.unlockUntil)

theorem unlockUntil_of_lasting {s u : State} (h : lasting u = lasting s) : u.keeper.unlockUntil = s.keeper.unlockUntil := by
  simp only [lasting, Prod.mk.injEq] at h
  obtain ⟨-, -, -, -, -, -, -, hwindow⟩ := h
  exact hwindow

@[simp] theorem holdCoils_lasting (s : State) : lasting (holdCoils s) = lasting s := by
  unfold holdCoils
  split
  · split <;> rfl
  · rfl

@[simp] theorem holdRelays_lasting (s : State) : lasting (holdRelays s) = lasting s := holdCoils_lasting _

@[simp] theorem setInhibit_lasting (low : Bool) (s : State) : lasting (setInhibit low s) = lasting s := by
  unfold setInhibit; split <;> rfl

@[simp] theorem setRoleLine_lasting (low : Bool) (s : State) : lasting (setRoleLine low s) = lasting s := by
  unfold setRoleLine; split <;> rfl

@[simp] theorem setAlive_lasting (low : Bool) (s : State) : lasting (setAlive low s) = lasting s := by
  unfold setAlive; split <;> rfl

@[simp] theorem note_lasting (kind : Nat) (data : Bytes) (s : State) : lasting (note kind data s) = lasting s := rfl

@[simp] theorem stepDownOrders_lasting (cause : Nat) (s : State) : lasting (stepDownOrders cause s) = lasting s := by
  calc lasting (stepDownOrders cause s)
      = lasting (setAlive false (setRoleLine false (holdRelays (setInhibit true s)))) := rfl
    _ = lasting s := by simp

@[simp] theorem leaveRecovery_lasting (s : State) : lasting (leaveRecovery s) = lasting s := by
  unfold leaveRecovery; split <;> rfl

@[simp] theorem satisfied_unlockUntil (scope : Nat) (k : Keeper) : (k.satisfied scope).unlockUntil = k.unlockUntil := by
  unfold Keeper.satisfied
  split
  · split <;> rfl
  · rfl

@[simp] theorem onKeeper_satisfied_lasting (scope : Nat) (s : State) :
    lasting (onKeeper (Keeper.satisfied scope) s) = lasting s := by
  simp [lasting]

@[simp] theorem trialEnds_lasting (power : Bool) (s : State) : lasting (trialEnds power s) = lasting s := by
  unfold trialEnds
  split
  · rfl
  · split <;> rfl

@[simp] theorem startEnds_lasting (power : Bool) (s : State) : lasting (startEnds power s) = lasting s := by
  unfold startEnds
  split
  · exact trialEnds_lasting power _
  · rfl

/-! ## What a MAIN reset leaves (R394) -/

@[simp] theorem holdCoils_keeper (s : State) : (holdCoils s).keeper = s.keeper := by
  unfold holdCoils
  split
  · split <;> rfl
  · rfl

@[simp] theorem setInhibit_keeper (low : Bool) (s : State) : (setInhibit low s).keeper = s.keeper := by
  unfold setInhibit; split <;> rfl

@[simp] theorem setRoleLine_keeper (low : Bool) (s : State) : (setRoleLine low s).keeper = s.keeper := by
  unfold setRoleLine; split <;> rfl

@[simp] theorem setAlive_keeper (low : Bool) (s : State) : (setAlive low s).keeper = s.keeper := by
  unfold setAlive; split <;> rfl

@[simp] theorem holdRelays_relayHold (s : State) : (holdRelays s).keeper.supply.relayHold = true := by
  simp [holdRelays]

/-- The main domains dropped from a state in which everything that lasts is as in `s`. -/
theorem dropMain_afterMainReset {s u : State} (h : lasting u = lasting s) :
    AfterMainReset s (dropMain u) ∧ (dropMain u).keeper.unlockUntil = s.keeper.unlockUntil := by
  have hlast : lasting (setInhibit true (setAlive false (setRoleLine false (holdRelays u)))) = lasting s := by simp [h]
  have hhold : (setInhibit true (setAlive false (setRoleLine false (holdRelays u)))).keeper.supply.relayHold = true := by simp
  unfold dropMain
  generalize setInhibit true (setAlive false (setRoleLine false (holdRelays u))) = v at hlast hhold
  simp only [lasting, Prod.mk.injEq] at hlast
  obtain ⟨hled, hstore, hkeys, hfuse, hclk, hpending, htotals, hwindow⟩ := hlast
  simp [AfterMainReset, loseEpochs, Bar0.dropped, Store.dropped, Metrology.dropped, Twin.blank, *]

/-- A MAIN reset from any source leaves what R394 gives, and the keeper window as it was. -/
theorem mainReset_spec {s u : State} (source : Nat) (h : lasting u = lasting s) :
    AfterMainReset s (mainReset source u) ∧ (mainReset source u).keeper.unlockUntil = s.keeper.unlockUntil := by
  unfold mainReset
  refine dropMain_afterMainReset ?_
  split <;> simp [h]

/-! ## Recovery mode keeps the keeper window (R404) -/

@[simp] theorem mainReset_unlockUntil (source : Nat) (s : State) :
    (mainReset source s).keeper.unlockUntil = s.keeper.unlockUntil := (mainReset_spec source rfl).2

@[simp] theorem startEnds_unlockUntil (power : Bool) (s : State) :
    (startEnds power s).keeper.unlockUntil = s.keeper.unlockUntil :=
  unlockUntil_of_lasting (startEnds_lasting power s)

@[simp] theorem bootKeys_keeper (s : State) : (bootKeys s).keeper = s.keeper := rfl

@[simp] theorem loaderBegins_unlockUntil (s : State) :
    (loaderBegins s).keeper.unlockUntil = s.keeper.unlockUntil := by
  unfold loaderBegins
  dsimp only
  split <;> split <;> simp

@[simp] theorem enterRecovery_unlockUntil (cause : Nat) (s : State) :
    (enterRecovery cause s).keeper.unlockUntil = s.keeper.unlockUntil := by
  unfold enterRecovery
  split <;> simp [showCode]

/-! ## The window's commands (R53) -/

theorem exec_kprHostUnlockWrite (v : Nat) (s : State) : exec (.kprHostUnlockWrite v) s = .next (opHostUnlock v s) := rfl

theorem exec_hostActionReset (s : State) :
    exec .hostActionReset s = .next (hostAction 1 (fun s => mainReset 0x08 (startEnds false s)) s) := rfl

theorem exec_hostActionRecovery (s : State) :
    exec .hostActionRecovery s = .next (hostAction 2 (enterRecovery 2) s) := rfl

theorem exec_hostActionDumpJournal (s : State) :
    exec .hostActionDumpJournal s = .next (hostAction 3 dumpJournal s) := rfl

theorem exec_registerWrite (space : RegSpace) (off size : Nat) (write : Option Nat) (s : State) :
    exec (.registerWrite space off size write) s = .next (opRegisterWrite space off size write s) := rfl

/-- The state with the keeper window closed. -/
def closeWindow (s : State) : State := onKeeper (fun k => { k with unlockUntil := none }) s

@[simp] theorem closeWindow_unlockUntil (s : State) : (closeWindow s).keeper.unlockUntil = none := rfl

/-- What a MAIN reset leaves does not depend on the keeper window it starts from. -/
theorem afterMainReset_of_closeWindow {s t : State} (h : AfterMainReset (closeWindow s) t) : AfterMainReset s t := h

/-- A host action while the window is closed is ignored and recorded. -/
theorem hostAction_closed (n : Nat) (f : State → State) {s : State} (hlink : s.bar0.linkUp = true) (hrun : keeperRuns s = true)
    (hclosed : ∀ u, s.keeper.unlockUntil = some u → u < s.clk) : hostAction n f s = note 0x0C (putLe 2 n) s := by
  unfold hostAction
  cases hu : s.keeper.unlockUntil with
  | none => simp [hlink, hrun]
  | some u =>
    have hlate := hclosed u hu
    simp [hlink, hrun, hlate]

/-- A host action while the window is open closes it and is performed. -/
theorem hostAction_open (n : Nat) (f : State → State) {s : State} {u : Nat} (hlink : s.bar0.linkUp = true)
    (hrun : keeperRuns s = true) (hopen : s.keeper.unlockUntil = some u) (hintime : s.clk ≤ u) :
    hostAction n f s = f (closeWindow s) := by
  simp [hostAction, closeWindow, hlink, hrun, hopen, hintime]

/-- The key opens the window for 10 ms. -/
theorem opHostUnlock_key {v : Nat} {s : State} (hlink : s.bar0.linkUp = true) (hrun : keeperRuns s = true)
    (hkey : v % 65536 = 0xC0DE) :
    opHostUnlock v s = onKeeper (fun k => { k with unlockUntil := some (s.clk + msTicks 10) }) s := by
  simp [opHostUnlock, hlink, hrun, hkey]

/-- Any other value opens nothing and is recorded. -/
theorem opHostUnlock_other {v : Nat} {s : State} (hlink : s.bar0.linkUp = true) (hrun : keeperRuns s = true)
    (hkey : v % 65536 ≠ 0xC0DE) : opHostUnlock v s = note 0x0C (putLe 2 (v % 65536)) s := by
  simp [opHostUnlock, hlink, hrun, hkey]

/-- KPR_HOST_ACTION written with an ACTION that is none of 1 to 3 is recorded. -/
theorem opRegisterWrite_unknownAction {v : Nat} {s : State} (hlink : s.bar0.linkUp = true) (hon : s.boot.phase ≠ .off)
    (haction : bitsOf v 2 0 = 0 ∨ 3 < bitsOf v 2 0) :
    opRegisterWrite .bar0 0xC08 4 (some v) s = note 0x0C (putLe 2 v) s := by
  simp [opRegisterWrite, bar0Write, hlink, hon, haction]

/-! ## The statement -/

/-- Settles O50: the window's state decides between `hostAction_open` and `hostAction_closed`; an action performed starts from a
state whose window is closed, and neither the MAIN reset nor recovery mode opens it again. -/
theorem keeperActionsNeedTheKey : Obligations.KeeperActionsNeedTheKey := by
  unfold Obligations.KeeperActionsNeedTheKey
  refine ⟨?key, ?otherKey, ?closed, ?unknown, ?reset, ?recovery, ?dump⟩
  case key =>
    intro s v hlink hrun hkey
    rw [exec_kprHostUnlockWrite, opHostUnlock_key hlink hrun hkey, onKeeper]
  case otherKey =>
    intro s v hlink hrun hkey
    rw [exec_kprHostUnlockWrite, opHostUnlock_other hlink hrun hkey, note]
  case closed =>
    rintro s c n (⟨rfl, rfl⟩ | ⟨rfl, rfl⟩ | ⟨rfl, rfl⟩) hlink hrun hclosed
    · rw [exec_hostActionReset, hostAction_closed 1 _ hlink hrun hclosed, note]
    · rw [exec_hostActionRecovery, hostAction_closed 2 _ hlink hrun hclosed, note]
    · rw [exec_hostActionDumpJournal, hostAction_closed 3 _ hlink hrun hclosed, note]
  case unknown =>
    intro s v hlink hon haction
    rw [exec_registerWrite, opRegisterWrite_unknownAction hlink hon haction, note]
  case reset =>
    intro s u hlink hrun hopen hintime
    obtain ⟨hafter, hwindow⟩ := mainReset_spec 0x08 (startEnds_lasting false (closeWindow s))
    rw [exec_hostActionReset, hostAction_open 1 _ hlink hrun hopen hintime]
    exact ⟨_, rfl, afterMainReset_of_closeWindow hafter, hwindow⟩
  case recovery =>
    intro s u hlink hrun hopen hintime
    rw [exec_hostActionRecovery, hostAction_open 2 _ hlink hrun hopen hintime]
    exact ⟨_, rfl, enterRecovery_unlockUntil 2 (closeWindow s), rfl⟩
  case dump =>
    intro s u hlink hrun hopen hintime
    rw [exec_hostActionDumpJournal, hostAction_open 3 _ hlink hrun hopen hintime]
    rfl

end Sys2Proof.KeeperWindow
end

section
/-! PROOF. The queue fabric (R57 to R64): what a push, an END, a pop and a DROP make of one queue, that each of them keeps the cells
accounted for, and the statements about credits and about the order of packets. -/

namespace Sys2Proof.QueueFabric

open Sys2Proof.Machine Sys2Proof.Safety

/-! ## One queue of the state -/

theorem queueOf_onQueue_self {s : State} {n : Nat} (hn : n < s.fabric.length) (f : Queue → Queue) :
    queueOf (onQueue n f s) n = f (queueOf s n) := by
  simp [queueOf, hn]

theorem queueOf_onQueue_of_ne {n m : Nat} (hne : m ≠ n) (f : Queue → Queue) (s : State) :
    queueOf (onQueue n f s) m = queueOf s m := by
  simp [queueOf, List.getElem?_modify_ne f s.fabric hne.symm]

theorem onQueue_of_length_le {s : State} {n : Nat} (hn : s.fabric.length ≤ n) (f : Queue → Queue) : onQueue n f s = s := by
  simp [onQueue, List.modify_eq_self hn]

@[simp] theorem queueOf_emit (o : Output) (s : State) (n : Nat) : queueOf (emit o s) n = queueOf s n := rfl

/-- A change of a queue that keeps a figure of it keeps that figure in the state, whether the queue exists or not. -/
theorem queueOf_onQueue_keeps {α : Type} (g : Queue → α) {f : Queue → Queue} {s : State} {n : Nat}
    (hkeep : g (f (queueOf s n)) = g (queueOf s n)) : g (queueOf (onQueue n f s) n) = g (queueOf s n) := by
  by_cases hn : n < s.fabric.length
  · rw [queueOf_onQueue_self hn, hkeep]
  · rw [onQueue_of_length_le (Nat.le_of_not_lt hn)]

/-- A change that leaves a queue as it is leaves the state as it is. -/
theorem onQueue_eq_self {s : State} {n : Nat} {f : Queue → Queue} (hn : n < s.fabric.length)
    (hfix : f (queueOf s n) = queueOf s n) : onQueue n f s = s := by
  have hq : f s.fabric[n] = s.fabric[n] := by simpa [queueOf, hn] using hfix
  simp [onQueue, List.modify_eq_set_getElem?, hn, hq]

/-! ## The pointers -/

@[simp] theorem moveRd_building (q : Queue) (k : Nat) : (q.moveRd k).building = q.building := rfl
@[simp] theorem moveRd_maxPktCells (q : Queue) (k : Nat) : (q.moveRd k).maxPktCells = q.maxPktCells := rfl
@[simp] theorem moveRd_enable (q : Queue) (k : Nat) : (q.moveRd k).enable = q.enable := rfl
@[simp] theorem moveRd_consumer (q : Queue) (k : Nat) : (q.moveRd k).consumer = q.consumer := rfl

/-! ## Push (R57, R60) -/

/-- What a push can do: nothing, a further word of the packet under production, or the start of a packet on the credits held. -/
theorem push_cases (q : Queue) (w : BitVec 32) :
    q.push w = q ∨
    (∃ b, q.building = some b ∧ q.push w = { q with building := some (b ++ putLe 4 w.toNat) }) ∨
    (q.building = none ∧ q.maxPktCells ≤ q.creditCells ∧ 1 ≤ q.creditItems ∧ q.push w = { q with
      building := some (putLe 4 w.toNat)
      creditCells := q.creditCells - q.maxPktCells
      creditItems := q.creditItems - 1 }) := by
  unfold Queue.push
  split
  case isTrue => exact .inl rfl
  case isFalse =>
    cases hb : q.building with
    | some b => exact .inr (.inl ⟨b, rfl, rfl⟩)
    | none =>
      dsimp only
      split
      case isTrue hcredit =>
        obtain ⟨hcells, hitem⟩ : q.maxPktCells ≤ q.creditCells ∧ 1 ≤ q.creditItems := by simpa using hcredit
        exact .inr (.inr ⟨rfl, hcells, hitem, rfl⟩)
      case isFalse => exact .inl rfl

theorem push_starts {q : Queue} (w : BitVec 32) (hon : q.enable = true) (hgood : q.abandoned = false) (hb : q.building = none)
    (hcells : q.maxPktCells ≤ q.creditCells) (hitem : 1 ≤ q.creditItems) :
    (q.push w).building = some (putLe 4 w.toNat) := by
  simp [Queue.push, hon, hgood, hb, hcells, hitem]

theorem push_items (q : Queue) (w : BitVec 32) : (q.push w).items = q.items := by
  obtain h | ⟨b, -, h⟩ | ⟨-, -, -, h⟩ := push_cases q w <;> rw [h]

theorem queueCells_push (q : Queue) (w : BitVec 32) : queueCells (q.push w) = queueCells q := by
  obtain h | ⟨b, hb, h⟩ | ⟨hb, hcells, -, h⟩ := push_cases q w
  · rw [h]
  · simp [h, queueCells, hb]
  · simp only [h, queueCells, hb, Option.isSome_some, Option.isSome_none, if_true, Bool.false_eq_true, if_false]
    omega

/-! ## END (R59, R61) -/

theorem packetWords_length (b : Bytes) : (packetWords b).length = cellsOf b.length := by simp [packetWords]

/-- What an END can do: it closes no packet, discards the packet under production with its credits returned, or makes it visible behind
the others with the cells not used returned. -/
theorem finish_cases (q : Queue) (k : Nat) :
    (∃ a, q.finish k = { q with abandoned := a }) ∨
    (∃ b, q.building = some b ∧ q.finish k = { q with
      building := none
      creditCells := q.creditCells + q.maxPktCells
      creditItems := q.creditItems + 1
      oversize := satInc 255 q.oversize }) ∨
    (∃ b, q.building = some b ∧ k ≤ 4 ∧ cellsOf (b.length - 4 + k) ≤ q.maxPktCells ∧
      q.finish k = { q.moveWr (cellsOf (b.length - 4 + k)) with
        building := none
        creditCells := q.creditCells + (q.maxPktCells - cellsOf (b.length - 4 + k))
        items := q.items ++ [packetWords (b.take (b.length - 4 + k))] }) := by
  unfold Queue.finish
  split
  case isTrue => exact .inl ⟨q.abandoned, rfl⟩
  case isFalse =>
    split
    case isTrue => exact .inl ⟨false, rfl⟩
    case isFalse =>
      cases hb : q.building with
      | none => exact .inl ⟨q.abandoned, by cases q; cases hb; rfl⟩
      | some b =>
        by_cases hbad : k = 0 ∨ 4 < k ∨ q.maxPktCells < cellsOf (b.length - 4 + k)
        · exact .inr (.inl ⟨b, rfl, by simp [hbad, or_assoc]⟩)
        · obtain ⟨hzero, hlast, hfits⟩ : k ≠ 0 ∧ k ≤ 4 ∧ cellsOf (b.length - 4 + k) ≤ q.maxPktCells := by omega
          exact .inr (.inr ⟨b, rfl, hlast, hfits, by simp [hzero, hlast, hfits, Nat.not_lt.mpr]⟩)

theorem finish_items (q : Queue) (k : Nat) : (q.finish k).items = q.items ∨
    ∃ b, q.building = some b ∧ (q.finish k).items = q.items ++ [packetWords (b.take (b.length - 4 + k))] := by
  obtain ⟨a, h⟩ | ⟨b, hb, h⟩ | ⟨b, hb, -, -, h⟩ := finish_cases q k
  · exact .inl (by rw [h])
  · exact .inl (by rw [h])
  · exact .inr ⟨b, hb, by rw [h]⟩

/-- At the end of a packet that becomes visible, the cells it did not use return. -/
theorem finish_returns_unused {q : Queue} {k : Nat} {b : Bytes} (hb : q.building = some b)
    (hvisible : (q.finish k).items.length = q.items.length + 1) :
    (q.finish k).creditCells + cellsOf (b.length - 4 + k) = q.creditCells + q.maxPktCells := by
  obtain ⟨a, h⟩ | ⟨b', -, h⟩ | ⟨b', hb', -, hfits, h⟩ := finish_cases q k
  · simp [h] at hvisible
  · simp [h] at hvisible
  · obtain rfl : b = b' := Option.some.inj (hb.symm.trans hb')
    simp only [h]
    omega

/-- The packet an END makes visible holds as many words as cells it was charged: its length is within the bytes pushed. -/
theorem finished_length {b : Bytes} {k : Nat} (hlast : k ≤ 4) (hword : 4 ≤ b.length) :
    (packetWords (b.take (b.length - 4 + k))).length = cellsOf (b.length - 4 + k) := by
  rw [packetWords_length, List.length_take_of_le (by omega)]

theorem queueCells_finish {q : Queue} (k : Nat) (hword : ∀ b, q.building = some b → 4 ≤ b.length) :
    queueCells (q.finish k) = queueCells q := by
  obtain ⟨a, h⟩ | ⟨b, hb, h⟩ | ⟨b, hb, hlast, hfits, h⟩ := finish_cases q k
  · simp [h, queueCells]
  · simp only [h, queueCells, hb, Option.isSome_some, Option.isSome_none, if_true, Bool.false_eq_true, if_false]
    omega
  · simp only [h, queueCells, hb, List.map_append, List.map_cons, List.map_nil, List.sum_append, List.sum_singleton,
      finished_length hlast (hword b hb), Option.isSome_some, Option.isSome_none, if_true, Bool.false_eq_true, if_false]
    omega

/-! ## Pop (R62) -/

/-- A pop of a queue whose first packet has words: one cell returns, and with the packet's last word its item. -/
theorem popWord_of_items {q : Queue} {w : CellWord} {rest : List CellWord} {more : List (List CellWord)} (hurt : Bool)
    (h : q.items = (w :: rest) :: more) : q.popWord hurt = ({ q.moveRd 1 with
      items := if rest.isEmpty then more else rest :: more
      popped := if rest.isEmpty then 0 else q.popped + 1
      creditCells := q.creditCells + 1
      creditItems := if rest.isEmpty then q.creditItems + 1 else q.creditItems
      poisoned := if hurt then satInc 255 q.poisoned else q.poisoned
      popTag := popTagOf w.valid rest.isEmpty (q.popped == 0) hurt }, w.bytes) := by
  simp [Queue.popWord, h]

/-- What a pop can do: nothing, or take the first word of the first packet. -/
theorem popWord_cases (q : Queue) (hurt : Bool) :
    q.popWord hurt = (q, []) ∨ ∃ w rest more, q.items = (w :: rest) :: more := by
  rcases h : q.items with _ | ⟨_ | ⟨w, rest⟩, more⟩
  · exact .inl (by simp [Queue.popWord, h])
  · exact .inl (by simp [Queue.popWord, h])
  · exact .inr ⟨w, rest, more, rfl⟩

theorem queueCells_popWord (q : Queue) (hurt : Bool) : queueCells (q.popWord hurt).1 = queueCells q := by
  obtain h | ⟨w, rest, more, h⟩ := popWord_cases q hurt
  · rw [h]
  · cases rest with
    | nil =>
      simp only [popWord_of_items hurt h, queueCells, h, moveRd_building, moveRd_maxPktCells, List.isEmpty_nil, if_true,
        List.map_cons, List.sum_cons, List.length_cons, List.length_nil]
      omega
    | cons w' rest =>
      simp only [popWord_of_items hurt h, queueCells, h, moveRd_building, moveRd_maxPktCells, List.isEmpty_cons,
        Bool.false_eq_true, if_false, List.map_cons, List.sum_cons, List.length_cons]
      omega

/-! ## DROP (R64) -/

theorem drop_of_empty {q : Queue} (h : q.items = []) : q.drop = q := by simp [Queue.drop, h]

theorem drop_of_items {q : Queue} {p : List CellWord} {more : List (List CellWord)} (h : q.items = p :: more) :
    q.drop = { q.moveRd p.length with
      items := more
      popped := 0
      creditCells := q.creditCells + p.length
      creditItems := q.creditItems + 1 } := by
  simp [Queue.drop, h]

theorem queueCells_drop (q : Queue) : queueCells q.drop = queueCells q := by
  cases h : q.items with
  | nil => rw [drop_of_empty h]
  | cons p more =>
    simp only [drop_of_items h, queueCells, h, moveRd_building, moveRd_maxPktCells, List.map_cons, List.sum_cons]
    omega

/-! ## ENABLE (R57, R69) -/

theorem turnOn_of_valid {q : Queue} (hsize : q.maxPktCells ≤ q.sizeCells) (hlimit : q.itemLimit ≠ 0) :
    q.turnOn = { q.emptied q.sizeCells q.itemLimit with enable := true, abandoned := false } := by
  simp [Queue.turnOn, hlimit, Nat.not_lt.mpr hsize]

/-! ## The commands on a queue -/

theorem exec_qfbPush (n p : Nat) (w : BitVec 32) (s : State) : exec (.qfbPush n p w) s = .next (opQfbPush n p w s) := rfl
theorem exec_qfbEnd (n p k : Nat) (s : State) : exec (.qfbEnd n p k) s = .next (opQfbEnd n p k s) := rfl
theorem exec_qfbPop (n p : Nat) (whole hurt : Bool) (s : State) :
    exec (.qfbPop n p whole hurt) s = .next (opQfbPop n p whole hurt s) := rfl
theorem exec_qfbDrop (n p : Nat) (s : State) : exec (.qfbDrop n p) s = .next (opQfbDrop n p s) := rfl
theorem exec_queueEnable (n v : Nat) (s : State) : exec (.queueEnable n v) s = .next (opQueueEnable n v s) := rfl

theorem opQfbPush_producer (n : Nat) (w : BitVec 32) (s : State) :
    opQfbPush n (queueOf s n).producer w s = onQueue n (fun q => q.push w) s := by
  simp [opQfbPush]

theorem opQfbEnd_producer (n k : Nat) (s : State) :
    opQfbEnd n (queueOf s n).producer k s = onQueue n (fun q => q.finish k) s := by
  simp [opQfbEnd]

theorem opQfbDrop_consumer (n : Nat) (s : State) : opQfbDrop n (queueOf s n).consumer s = onQueue n Queue.drop s := by
  simp [opQfbDrop]

theorem opQfbPop_consumer {s : State} {n : Nat} (hurt : Bool) (hon : (queueOf s n).enable = true)
    (hitems : (queueOf s n).items ≠ []) : opQfbPop n (queueOf s n).consumer true hurt s = popNow n hurt s := by
  simp [opQfbPop, hon, hitems]

theorem opQueueEnable_of_disabled {s : State} {n v : Nat} (hset : bitOf v 31 = true) (hoff : (queueOf s n).enable = false) :
    opQueueEnable n v s = onQueue n (fun q => (q.takeCfg v).turnOn) s := by
  simp [opQueueEnable, hset, hoff]

/-- What QFB_PUSH can do: nothing from another port, the push from the producer's. -/
theorem opQfbPush_cases (n p : Nat) (w : BitVec 32) (s : State) :
    opQfbPush n p w s = s ∨ opQfbPush n p w s = onQueue n (fun q => q.push w) s :=
  (ite_eq_or_eq _ _ _).symm

/-- What QFB_END can do: nothing from another port, the END from the producer's. -/
theorem opQfbEnd_cases (n p k : Nat) (s : State) :
    opQfbEnd n p k s = s ∨ opQfbEnd n p k s = onQueue n (fun q => q.finish k) s :=
  (ite_eq_or_eq _ _ _).symm

/-- What QFB_DROP can do: nothing from another port, the DROP from the consumer's. -/
theorem opQfbDrop_cases (n p : Nat) (s : State) : opQfbDrop n p s = s ∨ opQfbDrop n p s = onQueue n Queue.drop s :=
  (ite_eq_or_eq _ _ _).symm

/-- What QFB_POP can do: nothing, zero for a pop of less than 256 bits, a stall, or the pop. -/
theorem opQfbPop_cases (n p : Nat) (whole hurt : Bool) (s : State) :
    opQfbPop n p whole hurt s = s ∨
    opQfbPop n p whole hurt s = emit (.popWord n (zeros 32) (queueOf s n).popTag) s ∨
    opQfbPop n p whole hurt s = onQueue n (fun q => { q with stalled := true }) s ∨
    opQfbPop n p whole hurt s = popNow n hurt s := by
  unfold opQfbPop
  dsimp only
  split
  case isTrue => exact .inl rfl
  case isFalse =>
    split
    case isTrue => exact .inr (.inl rfl)
    case isFalse =>
      split
      case isTrue => exact .inr (.inr (.inl rfl))
      case isFalse => exact .inr (.inr (.inr rfl))

/-! ## The pop of the state -/

theorem queueOf_popNow {s : State} {n : Nat} (hn : n < s.fabric.length) (hurt : Bool) :
    queueOf (popNow n hurt s) n = { ((queueOf s n).popWord hurt).1 with stalled := false } := by
  simp [popNow, queueOf_onQueue_self hn]

theorem popNow_out_of_items {s : State} {n : Nat} {w : CellWord} {rest : List CellWord} {more : List (List CellWord)}
    (hurt : Bool) (h : (queueOf s n).items = (w :: rest) :: more) : (popNow n hurt s).out =
      s.out ++ [.popWord n w.bytes (popTagOf w.valid rest.isEmpty ((queueOf s n).popped == 0) hurt)] := by
  simp [popNow, popWord_of_items hurt h]

/-- A pop of the state takes nothing from the queue, or the first word of its first packet. -/
theorem popNow_items {s : State} {n : Nat} (hn : n < s.fabric.length) (hurt : Bool) :
    (queueOf (popNow n hurt s) n).items = (queueOf s n).items ∨ ∃ w rest more tag,
      (queueOf s n).items = (w :: rest) :: more ∧
      (queueOf (popNow n hurt s) n).items = (if rest.isEmpty then more else rest :: more) ∧
      (popNow n hurt s).out = s.out ++ [.popWord n w.bytes tag] := by
  obtain h | ⟨w, rest, more, h⟩ := popWord_cases (queueOf s n) hurt
  · exact .inl (by rw [queueOf_popNow hn, h])
  · exact .inr ⟨w, rest, more, _, h, by rw [queueOf_popNow hn, popWord_of_items hurt h], popNow_out_of_items hurt h⟩

/-! ## The cells accounted for -/

theorem queueCells_opQfbPush (n p : Nat) (w : BitVec 32) (s : State) :
    queueCells (queueOf (opQfbPush n p w s) n) = queueCells (queueOf s n) := by
  obtain h | h := opQfbPush_cases n p w s
  · rw [h]
  · rw [h, queueOf_onQueue_keeps queueCells (queueCells_push _ w)]

theorem queueCells_opQfbEnd {s : State} {n : Nat} (p k : Nat)
    (hword : ∀ b, (queueOf s n).building = some b → 4 ≤ b.length) :
    queueCells (queueOf (opQfbEnd n p k s) n) = queueCells (queueOf s n) := by
  obtain h | h := opQfbEnd_cases n p k s
  · rw [h]
  · rw [h, queueOf_onQueue_keeps queueCells (queueCells_finish k hword)]

theorem queueCells_opQfbDrop (n p : Nat) (s : State) :
    queueCells (queueOf (opQfbDrop n p s) n) = queueCells (queueOf s n) := by
  obtain h | h := opQfbDrop_cases n p s
  · rw [h]
  · rw [h, queueOf_onQueue_keeps queueCells (queueCells_drop _)]

theorem queueCells_popNow (n : Nat) (hurt : Bool) (s : State) :
    queueCells (queueOf (popNow n hurt s) n) = queueCells (queueOf s n) :=
  queueOf_onQueue_keeps queueCells (queueCells_popWord (queueOf s n) hurt)

theorem queueCells_opQfbPop (n p : Nat) (whole hurt : Bool) (s : State) :
    queueCells (queueOf (opQfbPop n p whole hurt s) n) = queueCells (queueOf s n) := by
  obtain h | h | h | h := opQfbPop_cases n p whole hurt s
  · rw [h]
  · rw [h, queueOf_emit]
  · rw [h]
    exact queueOf_onQueue_keeps queueCells rfl
  · rw [h, queueCells_popNow]

/-! ## The statements -/

/-- Settles O17: each command changes its queue as the lemma about that operation says, and each operation keeps `queueCells`. -/
theorem creditsFollowThePackets : Obligations.CreditsFollowThePackets := by
  unfold Obligations.CreditsFollowThePackets
  refine ⟨?enable, ?startDebits, ?starts, ?endReturns, ?popReturns, ?dropReturns, ?conserved⟩
  case enable =>
    intro s n v hn hset hoff hsize hlimit
    have hvalid := turnOn_of_valid (q := (queueOf s n).takeCfg v) hsize hlimit
    refine ⟨_, exec_queueEnable n v s, ?_⟩
    rw [opQueueEnable_of_disabled hset hoff, queueOf_onQueue_self hn, hvalid]
    exact ⟨rfl, rfl, rfl, rfl⟩
  case startDebits =>
    intro s n p w t hn hnone ht hstarted
    obtain rfl := Host.Outcome.next.inj ht
    obtain h | h := opQfbPush_cases n p w s
    · simp [h, hnone] at hstarted
    · rw [h, queueOf_onQueue_self hn] at hstarted ⊢
      obtain hq | ⟨b, hb, -⟩ | ⟨-, hcells, hitem, hq⟩ := push_cases (queueOf s n) w
      · simp [hq, hnone] at hstarted
      · simp [hnone] at hb
      · exact ⟨hcells, hitem, by rw [hq], by rw [hq]⟩
  case starts =>
    intro s n w hn hon hgood hnone hcells hitem
    refine ⟨_, exec_qfbPush n _ w s, ?_⟩
    rw [opQfbPush_producer, queueOf_onQueue_self hn]
    exact push_starts w hon hgood hnone hcells hitem
  case endReturns =>
    intro s n k b t hn _ _ hb ht hvisible
    obtain rfl := Host.Outcome.next.inj ht
    rw [opQfbEnd_producer, queueOf_onQueue_self hn] at hvisible ⊢
    exact finish_returns_unused hb hvisible
  case popReturns =>
    intro s n hurt w rest more t hn hon hitems ht
    obtain rfl := Host.Outcome.next.inj ht
    rw [opQfbPop_consumer hurt hon (by simp [hitems]), queueOf_popNow hn, popWord_of_items hurt hitems, hitems]
    cases rest with
    | nil => simp [Nat.add_assoc, Nat.add_comm 1]
    | cons w' rest => simp
  case dropReturns =>
    intro s n p more t hn hitems ht
    obtain rfl := Host.Outcome.next.inj ht
    rw [opQfbDrop_consumer, queueOf_onQueue_self hn, drop_of_items hitems]
    exact ⟨rfl, rfl⟩
  case conserved =>
    rintro s n t hword (⟨p, w, ht⟩ | ⟨p, k, ht⟩ | ⟨p, whole, hurt, ht⟩ | ⟨p, ht⟩) <;> obtain rfl := Host.Outcome.next.inj ht
    · exact queueCells_opQfbPush n p w s
    · exact queueCells_opQfbEnd p k hword
    · exact queueCells_opQfbPop n p whole hurt s
    · exact queueCells_opQfbDrop n p s

/-- Settles O18: `push_items`, `finish_items`, `popNow_items` and `drop_of_items` say what each command makes of the visible packets. -/
theorem packetsLeaveWholeAndInOrder : Obligations.PacketsLeaveWholeAndInOrder := by
  unfold Obligations.PacketsLeaveWholeAndInOrder
  refine ⟨?push, ?finish, ?pop, ?dropThenPop, ?dropEmpty⟩
  case push =>
    intro s n p w t _ ht
    obtain rfl := Host.Outcome.next.inj ht
    obtain h | h := opQfbPush_cases n p w s
    · rw [h]
    · rw [h, queueOf_onQueue_keeps Queue.items (push_items _ w)]
  case finish =>
    intro s n p k t hn ht
    obtain rfl := Host.Outcome.next.inj ht
    obtain h | h := opQfbEnd_cases n p k s
    · exact .inl (by rw [h])
    · rw [h, queueOf_onQueue_self hn]
      exact finish_items _ k
  case pop =>
    intro s n p whole hurt t hn ht
    obtain rfl := Host.Outcome.next.inj ht
    obtain h | h | h | h := opQfbPop_cases n p whole hurt s
    · exact .inl (by rw [h])
    · exact .inl (by rw [h, queueOf_emit])
    · exact .inl (by rw [h, queueOf_onQueue_self hn])
    · rw [h]
      exact popNow_items hn hurt
  case dropThenPop =>
    intro s n p more hn hitems
    have hdrop : queueOf (onQueue n Queue.drop s) n = _ := (queueOf_onQueue_self hn _).trans (drop_of_items hitems)
    refine ⟨onQueue n Queue.drop s, by rw [exec_qfbDrop, opQfbDrop_consumer], by rw [hdrop], by rw [hdrop], by rw [hdrop],
      fun m hm => queueOf_onQueue_of_ne hm _ s, ?_⟩
    intro w rest later hurt hon hmore
    have hconsumer : (queueOf s n).consumer = (queueOf (onQueue n Queue.drop s) n).consumer := by simp [hdrop]
    have hfirst : (queueOf (onQueue n Queue.drop s) n).items = (w :: rest) :: later := by rw [hdrop, hmore]
    refine ⟨_, exec_qfbPop n _ true hurt _, ?_⟩
    rw [hconsumer, opQfbPop_consumer hurt (by simp [hdrop, hon]) (by simp [hfirst]), popNow_out_of_items hurt hfirst]
    simp [hdrop]
  case dropEmpty =>
    intro s n p hn hempty
    obtain h | h := opQfbDrop_cases n p s
    · rw [exec_qfbDrop, h]
    · rw [exec_qfbDrop, h, onQueue_eq_self hn (drop_of_empty hempty)]

end Sys2Proof.QueueFabric
end

section
/-! PROOF. Ledger time (R266): the seconds and the fraction of an LTIME, each read off the count of ns it stands for. -/

namespace Sys2Proof.LedgerTime

open Sys2Proof.Machine

/-! ## The LTIME of a count of ns -/

/-- The fraction of a second in 1/65,536 is short of a whole second, so that it never carries into the seconds. -/
theorem ltimeFraction_lt (ns : Nat) : ns % 1000000000 * 65536 / 1000000000 < 65536 := by
  have hsub : ns % 1000000000 < 1000000000 := Nat.mod_lt ns (by decide)
  exact Nat.div_lt_of_lt_mul (Nat.mul_lt_mul_of_pos_right hsub (by decide))

theorem ltimeOfNs_div (ns : Nat) : ltimeOfNs ns / 65536 = ns / 1000000000 - 946684800 := by
  rw [ltimeOfNs, Nat.mul_comm, Nat.mul_add_div (by decide), Nat.div_eq_of_lt (ltimeFraction_lt ns), Nat.add_zero]

theorem ltimeOfNs_mod (ns : Nat) : ltimeOfNs ns % 65536 = ns % 1000000000 * 65536 / 1000000000 := by
  rw [ltimeOfNs, Nat.mul_add_mod_self_right, Nat.mod_eq_of_lt (ltimeFraction_lt ns)]

/-- LTIME is 0 at 2000-01-01T00:00:00 TAI, 946,684,800 s into the timebase. -/
theorem ltimeOfNs_epoch : ltimeOfNs (946684800 * 1000000000) = 0 := by
  simp [ltimeOfNs]

/-! ## The statement -/

/-- Settles O42: the fraction never reaches a second (`ltimeFraction_lt`), so dividing LTIME by 65,536 parts it from the seconds. -/
theorem ltimeCountsFromItsEpoch : Obligations.LtimeCountsFromItsEpoch := by
  unfold Obligations.LtimeCountsFromItsEpoch
  intro s _
  refine ⟨?seconds, ?fraction, ?epoch⟩
  case seconds => exact ltimeOfNs_div (chipNs s.tb)
  case fraction => exact ltimeOfNs_mod (chipNs s.tb)
  case epoch =>
    intro hepoch
    rw [now, hepoch, ltimeOfNs_epoch]

/-! ## The spec's example -/

/-- The timebase of the example under R263: 1,000,000,000 s and 999,999,990 ns at C0, and one second of C later at +1,000 ns/s. -/
def exampleTimebase : Timebase :=
  { Timebase.reset with c := 250000000, t0 := 1000000000999999990 * 65536, rate := 65536000 }

theorem chipNs_exampleTimebase : chipNs exampleTimebase = 1000000002000000990 := by
  simp [chipNs, chipT, exampleTimebase, Timebase.reset]

/-- The example under R266 meets the statement's premise: that instant's LTIME is 0x0000_032D_8682_0000. -/
theorem now_exampleTimebase (s : State) : now { s with tb := exampleTimebase } = 0x0000032D86820000 := by
  have hlate : 946684800 ≤ chipSec exampleTimebase := by simp [chipSec, chipNs_exampleTimebase]
  obtain ⟨hsec, hfrac, -⟩ := ltimeCountsFromItsEpoch { s with tb := exampleTimebase } hlate
  rw [← Nat.div_add_mod (now _) 65536, hsec, hfrac, chipSec, chipNs_exampleTimebase]

end Sys2Proof.LedgerTime
end

section
/-! PROOF. What a step leaves (R31, R56, R307, R400): every command but KEY_SET_LIFECYCLE keeps the core of a sound state, and
KEY_SET_LIFECYCLE moves the life cycle by one transition of Table KC.9; the statements about the sizes and the life cycle. -/

namespace Sys2Proof.StepFrame

open Sys2Proof Sys2Proof.Machine Sys2Proof.Safety

/-! ## Sound states by their core -/

theorem sound_iff (s : State) : Sound s ↔ (Machine.core s).2 = sizes := by
  simp only [Sound, Machine.core, sizes, Prod.mk.injEq, Nat.div_eq_zero_iff]
  omega

/-- The life cycle, the counter and the sizes are read off the core. -/
theorem core_eq_iff {s t : State} : Machine.core t = Machine.core s ↔
    t.pending = s.pending ∧ t.clk = s.clk ∧ t.fuse = s.fuse ∧ t.keys.lifecycle = s.keys.lifecycle ∧
      t.keys.lcCounter = s.keys.lcCounter ∧ (Machine.core t).2 = (Machine.core s).2 := by
  simp [Machine.core, and_assoc, -core_pack]

/-! ## Commands but KEY_SET_LIFECYCLE -/

theorem exec_hostActionReset_core {s t : State} (hs : (Machine.core s).2 = sizes) (h : exec .hostActionReset s = .next t) :
    Machine.core t = Machine.core s := by
  obtain rfl := Host.Outcome.next.inj h
  exact hostAction_core _ _ _ (fun u hu => by simp [hu]) hs

theorem exec_hostActionRecovery_core {s t : State} (hs : (Machine.core s).2 = sizes) (h : exec .hostActionRecovery s = .next t) :
    Machine.core t = Machine.core s := by
  obtain rfl := Host.Outcome.next.inj h
  exact hostAction_core _ _ _ (fun u hu => enterRecovery_core _ _ hu) hs

/-- The frame of every meaning, gathered over the rows of the table: each arm's own law (Laws.Frames) says that it keeps the core. -/
theorem exec_core {i : Instr} {s t : State} (hs : (Machine.core s).2 = sizes) (hi : ∀ c, i ≠ .keySetLifecycle c)
    (h : exec i s = .next t) : Machine.core t = Machine.core s := by
  cases i
  case keySetLifecycle c => exact absurd rfl (hi c)
  case hostActionReset => exact exec_hostActionReset_core hs h
  case hostActionRecovery => exact exec_hostActionRecovery_core hs h
  all_goals
    obtain rfl := Host.Outcome.next.inj h
    simp [hs]

/-! ## KEY_SET_LIFECYCLE (R307) -/

/-- An answer finished leaves the core of the state before it or that of the answer's own state. -/
theorem finish_core_or (f : InFlight) {a : Answer} {s u : State} (ha : Answer.keeps u a) :
    Machine.core (finish f a s) = Machine.core s ∨ Machine.core (finish f a s) = Machine.core u := by
  cases a with
  | refuse r d => exact .inl (finish_core f _ s trivial)
  | hold => exact .inl rfl
  | wait v => exact .inr ha
  | reply r e n d o v => exact .inr (by simpa [finish] using ha)
  | change is p r d o k v =>
    rw [keeps_change] at ha
    simp only [finish]
    split
    · exact .inl (by simp)
    · exact .inr (by simpa using ha)

/-- A command of the host leaves the core, or finishes its body's answer to a state of the same core. -/
theorem runDcs_core_or (op : Nat) (c : Cmd) (body : Cmd → State → Answer) (s : State) :
    Machine.core (runDcs op c body s) = Machine.core s ∨
      ∃ f t, Machine.core t = Machine.core s ∧ runDcs op c body s = finish f (body c t) t := by
  unfold runDcs
  split
  · exact .inl rfl
  next f _ =>
    dsimp only
    split
    · exact .inl rfl
    split
    · exact .inl rfl
    split
    · exact .inl rfl
    split
    · exact .inl (by simp)
    split
    · exact .inl (by simp)
    split
    · exact .inl rfl
    · exact .inr ⟨f, _, by simp, rfl⟩

/-- What a transition of Table KC.9 leaves of the core. -/
theorem core_lifeKeys (a b : LifeCycle) (s : State) : Machine.core (onKeys (lifeKeys b a) s) =
    ((s.pending, s.clk, s.fuse, b, s.keys.lcCounter + 1), (Machine.core s).2) := by
  cases a <;> cases b <;> rfl

/-- The record that KEY_SET_LIFECYCLE takes moves the life cycle by a transition of Table KC.9; any other is refused. -/
theorem bodyKeyLifecycle_keeps (c : Cmd) (s : State) (hs : (Machine.core s).2 = sizes) : Answer.keeps s (bodyKeyLifecycle c s) ∨
    ∃ b signer, transitionSigner s.keys.lifecycle b = some signer ∧
      Answer.keeps (onKeys (lifeKeys b s.keys.lifecycle) s) (bodyKeyLifecycle c s) := by
  unfold bodyKeyLifecycle
  dsimp only
  generalize (if le c.buf 0x18 1 = 0 then Config.lifecycleKey else s.keys.operatorAuthority) = key
  split
  · exact .inl trivial
  split
  · exact .inl trivial
  next b _ =>
    split
    · exact .inl trivial
    split
    · exact .inl trivial
    next hsig =>
      split
      · exact .inl trivial
      · refine .inr ⟨b, le c.buf 0x18 1, by simpa using hsig, ?_⟩
        have hlife : (Machine.core (onKeys (lifeKeys b s.keys.lifecycle) s)).2 = sizes := by rw [core_lifeKeys, hs]
        refine changeParam_core _ _ _ _ _ _ ?_
        generalize onKeys (lifeKeys b s.keys.lifecycle) s = u at hlife ⊢
        split <;> split <;> simp [hlife]

theorem exec_keySetLifecycle_core {c : Cmd} {s t : State} (hs : (Machine.core s).2 = sizes)
    (h : exec (.keySetLifecycle c) s = .next t) : Machine.core t = Machine.core s ∨
      ∃ b signer, transitionSigner s.keys.lifecycle b = some signer ∧
        Machine.core t = ((s.pending, s.clk, s.fuse, b, s.keys.lcCounter + 1), (Machine.core s).2) := by
  obtain rfl := Host.Outcome.next.inj h
  rcases runDcs_core_or 0x0906 c bodyKeyLifecycle s with hsame | ⟨f, u, hu, hrun⟩
  · exact .inl hsame
  obtain ⟨hpend, hclk, hfuse, hlc, hctr, -⟩ := core_eq_iff.mp hu
  rw [hrun]
  rcases bodyKeyLifecycle_keeps c u (by rw [hu, hs]) with hkeep | ⟨b, signer, hsig, hmove⟩
  · exact .inl ((finish_core f _ u hkeep).trans hu)
  · refine (finish_core_or f hmove).imp (·.trans hu) fun hcore => ⟨b, signer, hlc ▸ hsig, ?_⟩
    rw [hcore, core_lifeKeys, hpend, hclk, hfuse, hctr, hu]

/-! ## One step -/

theorem step_nil {s : State} (h : s.pending = []) : Machine.step s = .next (tick s) := by rw [Machine.step, h]

theorem step_cons {s : State} {c : Instr} {rest : List Instr} (h : s.pending = c :: rest) :
    Machine.step s = exec c (s.withQueue rest) := by rw [Machine.step, h]

/-- What a step makes of a sound state's core: on an empty queue one edge of the clock; with a command the queue's rest, and the life
cycle moved by one transition where the command is KEY_SET_LIFECYCLE. -/
theorem step_core {s t : State} (hs : (Machine.core s).2 = sizes) (h : Machine.step s = .next t) :
    (s.pending = [] ∧ t = tick s) ∨ ∃ c rest, s.pending = c :: rest ∧
      (Machine.core t = Machine.core (s.withQueue rest) ∨ ∃ k b signer, c = .keySetLifecycle k ∧
        transitionSigner s.keys.lifecycle b = some signer ∧
        Machine.core t = ((rest, s.clk, s.fuse, b, s.keys.lcCounter + 1), (Machine.core s).2)) := by
  cases hp : s.pending with
  | nil =>
    rw [step_nil hp] at h
    exact .inl ⟨rfl, (Host.Outcome.next.inj h).symm⟩
  | cons c rest =>
    rw [step_cons hp] at h
    refine .inr ⟨c, rest, rfl, ?_⟩
    by_cases hc : ∃ k, c = .keySetLifecycle k
    · obtain ⟨k, rfl⟩ := hc
      exact (exec_keySetLifecycle_core (s := s.withQueue rest) hs h).imp_right fun ⟨b, signer, hsig, hcore⟩ =>
        ⟨k, b, signer, rfl, hsig, hcore⟩
    · exact .inl (exec_core (s := s.withQueue rest) hs (fun k hk => hc ⟨k, hk⟩) h)

theorem transitionSigner_decommissioned (b : LifeCycle) : transitionSigner .decommissioned b = none := by
  cases b <;> rfl

/-! ## The statements -/

/-- Settles O59: the sizes are part of the core, which `step_core` gives for every command and for an empty queue. -/
theorem soundStatesStaySound : Obligations.SoundStatesStaySound := by
  unfold Obligations.SoundStatesStaySound
  intro s t hsound hstep
  rw [sound_iff] at hsound ⊢
  rcases step_core hsound hstep with ⟨-, rfl⟩ | ⟨c, rest, -, hcore | ⟨k, b, signer, -, -, hcore⟩⟩
  · exact hsound
  · rw [hcore]; exact hsound
  · rw [hcore]; exact hsound

/-- Settles O60: the queue, the clock, the fuses and the life cycle are part of the core too; only the transition of
KEY_SET_LIFECYCLE changes it (`step_core`), and none starts at DECOMMISSIONED. -/
theorem onlyItsCommandMovesTheLifeCycle : Obligations.OnlyItsCommandMovesTheLifeCycle := by
  unfold Obligations.OnlyItsCommandMovesTheLifeCycle
  intro s t hsound hstep
  rcases step_core ((sound_iff s).mp hsound) hstep with ⟨hnil, rfl⟩ | ⟨c, rest, hcons, hcore | ⟨k, b, signer, rfl, hsig, hcore⟩⟩
  · simp [hnil, tick]
  · obtain ⟨hpend, hclk, hfuse, hlc, hctr, -⟩ := core_eq_iff.mp hcore
    simp_all [State.withQueue]
  · simp only [Machine.core, Prod.mk.injEq] at hcore
    obtain ⟨⟨hpend, hclk, hfuse, hlc, hctr⟩, -⟩ := hcore
    refine ⟨by simp [hpend, hcons], hfuse, fun _ => hclk, fun hno => absurd hcons (hno k rest), fun _ => hctr, fun hdec => ?_⟩
    rw [hdec, transitionSigner_decommissioned] at hsig
    cases hsig

/-- Settles O58: each size of the reset state is the length of a list that State.reset writes out. -/
theorem resetIsSound : Obligations.ResetIsSound := by
  unfold Obligations.ResetIsSound Sound
  refine ⟨?fabric, ?rings, ?msix, ?failRun, ?recs⟩
  case fabric => exact List.length_replicate
  case rings => exact List.length_replicate
  case msix => exact length_reset_msix
  case failRun => rfl
  case recs => exact Nat.zero_le _

end Sys2Proof.StepFrame
end

section
/-! PROOF. What the shared operations of the ledger leave (R22, R46, R349): an input of the stream moves the stream's position and the
outputs, and a group, an event or a close changes neither what has committed nor any unit outside the ledger. -/

namespace Sys2Proof.LedgerFrame

open Sys2Proof Sys2Proof.Machine Sys2Proof.Safety

/-! ## An input of the stream -/

/-- An input of the stream moves the stream's position and what was emitted, and nothing else. -/
theorem newInput_eq (k : Nat) (s : State) : ∃ i c g o, newInput k s =
    { s with twin := { s.twin with inputSeq := i, curSeq := c, groupIndex := g }, out := o } := by
  unfold newInput
  split
  · exact ⟨_, _, _, _, rfl⟩
  · dsimp only
    split <;> exact ⟨_, _, _, _, rfl⟩

theorem timerInput_eq (s : State) : ∃ i c g o, timerInput s =
    { s with twin := { s.twin with inputSeq := i, curSeq := c, groupIndex := g }, out := o } := by
  unfold timerInput
  split
  · exact newInput_eq 6 s
  · exact ⟨_, _, _, _, rfl⟩

/-- A reading of the state that neither the stream's position nor the outputs move. -/
theorem newInput_reads {α : Type} (g : State → α) (k : Nat) (s : State)
    (h : ∀ i c x o, g { s with twin := { s.twin with inputSeq := i, curSeq := c, groupIndex := x }, out := o } = g s) :
    g (newInput k s) = g s := by
  obtain ⟨i, c, x, o, heq⟩ := newInput_eq k s
  rw [heq, h]

theorem timerInput_reads {α : Type} (g : State → α) (s : State)
    (h : ∀ i c x o, g { s with twin := { s.twin with inputSeq := i, curSeq := c, groupIndex := x }, out := o } = g s) :
    g (timerInput s) = g s := by
  obtain ⟨i, c, x, o, heq⟩ := timerInput_eq s
  rw [heq, h]

@[simp] theorem newInput_led (k : Nat) (s : State) : (newInput k s).led = s.led := newInput_reads State.led k s fun _ _ _ _ => rfl
@[simp] theorem newInput_clk (k : Nat) (s : State) : (newInput k s).clk = s.clk := newInput_reads State.clk k s fun _ _ _ _ => rfl
@[simp] theorem newInput_tb (k : Nat) (s : State) : (newInput k s).tb = s.tb := newInput_reads State.tb k s fun _ _ _ _ => rfl
@[simp] theorem newInput_time (k : Nat) (s : State) : (newInput k s).time = s.time := newInput_reads State.time k s fun _ _ _ _ => rfl
@[simp] theorem newInput_store (k : Nat) (s : State) : (newInput k s).store = s.store := newInput_reads State.store k s fun _ _ _ _ => rfl
@[simp] theorem newInput_keys (k : Nat) (s : State) : (newInput k s).keys = s.keys := newInput_reads State.keys k s fun _ _ _ _ => rfl
@[simp] theorem newInput_meters (k : Nat) (s : State) : (newInput k s).meters = s.meters := newInput_reads State.meters k s fun _ _ _ _ => rfl
@[simp] theorem newInput_balance (k : Nat) (s : State) : (newInput k s).balance = s.balance := newInput_reads State.balance k s fun _ _ _ _ => rfl
@[simp] theorem newInput_met (k : Nat) (s : State) : (newInput k s).met = s.met := newInput_reads State.met k s fun _ _ _ _ => rfl
@[simp] theorem newInput_keeper (k : Nat) (s : State) : (newInput k s).keeper = s.keeper := newInput_reads State.keeper k s fun _ _ _ _ => rfl
@[simp] theorem newInput_boot (k : Nat) (s : State) : (newInput k s).boot = s.boot := newInput_reads State.boot k s fun _ _ _ _ => rfl
@[simp] theorem newInput_inflight (k : Nat) (s : State) : (newInput k s).inflight = s.inflight := newInput_reads State.inflight k s fun _ _ _ _ => rfl
@[simp] theorem newInput_role (k : Nat) (s : State) : (newInput k s).twin.role = s.twin.role :=
  newInput_reads (·.twin.role) k s fun _ _ _ _ => rfl

@[simp] theorem timerInput_led (s : State) : (timerInput s).led = s.led := timerInput_reads State.led s fun _ _ _ _ => rfl
@[simp] theorem timerInput_clk (s : State) : (timerInput s).clk = s.clk := timerInput_reads State.clk s fun _ _ _ _ => rfl
@[simp] theorem timerInput_tb (s : State) : (timerInput s).tb = s.tb := timerInput_reads State.tb s fun _ _ _ _ => rfl
@[simp] theorem timerInput_time (s : State) : (timerInput s).time = s.time := timerInput_reads State.time s fun _ _ _ _ => rfl
@[simp] theorem timerInput_store (s : State) : (timerInput s).store = s.store := timerInput_reads State.store s fun _ _ _ _ => rfl
@[simp] theorem timerInput_keys (s : State) : (timerInput s).keys = s.keys := timerInput_reads State.keys s fun _ _ _ _ => rfl
@[simp] theorem timerInput_meters (s : State) : (timerInput s).meters = s.meters := timerInput_reads State.meters s fun _ _ _ _ => rfl
@[simp] theorem timerInput_balance (s : State) : (timerInput s).balance = s.balance := timerInput_reads State.balance s fun _ _ _ _ => rfl
@[simp] theorem timerInput_met (s : State) : (timerInput s).met = s.met := timerInput_reads State.met s fun _ _ _ _ => rfl
@[simp] theorem timerInput_keeper (s : State) : (timerInput s).keeper = s.keeper := timerInput_reads State.keeper s fun _ _ _ _ => rfl
@[simp] theorem timerInput_boot (s : State) : (timerInput s).boot = s.boot := timerInput_reads State.boot s fun _ _ _ _ => rfl
@[simp] theorem timerInput_inflight (s : State) : (timerInput s).inflight = s.inflight := timerInput_reads State.inflight s fun _ _ _ _ => rfl
@[simp] theorem timerInput_role (s : State) : (timerInput s).twin.role = s.twin.role :=
  timerInput_reads (·.twin.role) s fun _ _ _ _ => rfl

/-- A timer of the stream runs on every chip but a standby. -/
theorem onTimer_of_not_standby {s : State} (f : State → State) (h : isStandby s = false) : onTimer f s = f s := by
  simp [onTimer, h]

/-- An active is no standby. -/
theorem not_standby_of_active {s : State} (h : isActive s = true) : isStandby s = false := by
  simp only [isActive, isStandby, beq_iff_eq] at h ⊢
  rw [h]; rfl

/-- On an active a timer is an input of the stream. -/
theorem timerInput_of_active {s : State} (h : isActive s = true) : timerInput s = newInput 6 s := by
  simp [timerInput, h]

/-! ## Groups: what they make of the ledger -/

/-- A group goes into the working content and into its epoch; the rest of the ledger stands. -/
theorem addGroup_led (items : List Item) (mh : Option Nat) (c b : Bool) (s : State) : (addGroup items mh c b s).led = { s.led with
    work := contentAfter (groupEpoch s) (now s) items s.led.work
    epochs := modifyFirst (fun e => e.num == groupEpoch s) (Epoch.take
      ⟨mh, now s, nextKey s, c, b, items⟩) s.led.epochs } := by
  unfold addGroup
  dsimp only
  split
  · split <;> rfl
  · refine (Laws.postEvents_keep _ _).1.trans ?_
    split <;> rfl

/-- A close of the open epoch: it is CLOSED with the working content, and the next one opens under the next number. -/
theorem closeNow_led (k : Nat) (s : State) : (closeNow k s).led = { s.led with
    highA := some (epochHigh s + 1)
    highB := some (epochHigh s + 1)
    epochs := modifyFirst (fun e => e.state == .opened) (fun e => { e with
      state := .closed
      closed := now s
      after := s.led.work
      closedTick := s.clk
      byWarning := k == 2 }) s.led.epochs ++
      [⟨epochHigh s + 1, now s, 0, .opened, [], 112, s.led.work, false, false, false, [], false, 0⟩] } := by
  unfold closeNow openNext
  dsimp only
  split <;> rfl

/-! ## What has committed -/

/-- The part of the ledger that only a commit moves: the last committed epoch, both root slots, the root log, what may be read and
the contents held for upload. -/
def committedPart (s : State) : Nat × Option Root × Option Root × List Root × List (Nat × LState) × List Held :=
  (s.led.lastCommitted, s.led.slot0, s.led.slot1, s.led.rootLog, s.led.readable, s.led.contents)

theorem committedPart_of_led {s t : State} (h : t.led = s.led) : committedPart t = committedPart s := by
  simp only [committedPart, h]

@[simp] theorem newInput_committedPart (k : Nat) (s : State) : committedPart (newInput k s) = committedPart s :=
  committedPart_of_led (newInput_led k s)

@[simp] theorem timerInput_committedPart (s : State) : committedPart (timerInput s) = committedPart s :=
  committedPart_of_led (timerInput_led s)

@[simp] theorem addGroup_committedPart (items : List Item) (mh : Option Nat) (c b : Bool) (s : State) :
    committedPart (addGroup items mh c b s) = committedPart s := by
  simp only [committedPart, addGroup_led]

@[simp] theorem closeEpoch_committedPart (k : Nat) (s : State) : committedPart (closeEpoch k s) = committedPart s := by
  unfold closeEpoch
  split
  · rfl
  split
  · rfl
  · simp only [committedPart, closeNow_led]

@[simp] theorem limitClose_committedPart (s : State) : committedPart (limitClose s) = committedPart s := by
  unfold limitClose
  split
  · split
    · exact closeEpoch_committedPart 3 s
    · rfl
  · rfl

@[simp] theorem append_committedPart (items : List Item) (mh : Option Nat) (s : State) :
    committedPart (append items mh s) = committedPart s := by
  unfold append
  split
  · rfl
  split
  · rfl
  · simp

@[simp] theorem raiseEv_committedPart (e : EvRec) (s : State) : committedPart (raiseEv e s) = committedPart s :=
  append_committedPart _ _ s

@[simp] theorem raiseHw_committedPart (code : Nat) (data : Bytes) (s : State) :
    committedPart (raiseHw code data s) = committedPart s := by
  unfold raiseHw
  split
  · rfl
  · simp [raise]

/-! ## Flushes, retries and comparisons (R98 to R100) -/

@[simp] theorem leaveSync_committedPart (reason : Nat) (s : State) : committedPart (leaveSync reason s) = committedPart s := by
  unfold leaveSync startResync
  split
  · split <;> rfl
  · rfl

@[simp] theorem holdEpoch_committedPart (e : Epoch) (r : Nat) (s : State) : committedPart (holdEpoch e r s) = committedPart s := by
  simp only [holdEpoch, leaveSync_committedPart, raiseHw_committedPart]
  rfl

@[simp] theorem raiseStage_committedPart (st : Stage) (back : Bool) (s : State) :
    committedPart (raiseStage st back s) = committedPart s := by
  unfold raiseStage
  dsimp only
  split
  · rfl
  · simp

@[simp] theorem enterStage_committedPart (st : Stage) (s : State) : committedPart (enterStage st s) = committedPart s := by
  unfold enterStage
  split
  · rfl
  · rw [raiseStage_committedPart]; rfl

@[simp] theorem countUnits_committedPart (n : Nat) (s : State) : committedPart (countUnits n s) = committedPart s := rfl
@[simp] theorem poolSpend_committedPart (n : Nat) (s : State) : committedPart (poolSpend n s) = committedPart s := rfl

@[simp] theorem trimJournal_committedPart (s : State) : committedPart (trimJournal s) = committedPart s := by
  unfold trimJournal
  split <;> rfl

theorem opEpochFlushWrite_committedPart (n pages : Nat) (failed : Bool) (s : State) :
    committedPart (opEpochFlushWrite n pages failed s) = committedPart s := by
  unfold opEpochFlushWrite
  dsimp only
  split
  · exact trimJournal_committedPart s
  split
  · exact trimJournal_committedPart s
  split
  · exact trimJournal_committedPart s
  split
  · split <;> simp
  split
  · split <;> split <;> simp
  · simp

@[simp] theorem advance_committedPart (s : State) : committedPart (advance s) = committedPart s := by
  unfold advance
  split
  · split <;> rfl
  · rfl

theorem opCompareWait_committedPart (s : State) : committedPart (opCompareWait s) = committedPart s := by
  unfold opCompareWait
  split
  · rw [advance_committedPart]; rfl
  · rfl

theorem retryHeld_committedPart (s : State) : committedPart (retryHeld s) = committedPart s := rfl

theorem opEpochBoundary_committedPart (s : State) : committedPart (opEpochBoundary s) = committedPart s := by
  unfold opEpochBoundary
  split
  · rw [closeEpoch_committedPart, newInput_committedPart]; rfl
  · rfl

theorem opDailyReclaim_committedPart (s : State) : committedPart (opDailyReclaim s) = committedPart s := by
  unfold opDailyReclaim daily
  dsimp only
  split
  · rfl
  · exact (timerInput_committedPart _).trans rfl

theorem onTimer_committedPart {f : State → State} (hf : ∀ s, committedPart (f s) = committedPart s) (s : State) :
    committedPart (onTimer f s) = committedPart s := by
  unfold onTimer
  split
  · rfl
  · exact hf s

/-- Settles O25: each of the five rows keeps `committedPart`, as nothing but a commit writes it. -/
theorem onlyACommitMovesTheRoots : Obligations.OnlyACommitMovesTheRoots := by
  unfold Obligations.OnlyACommitMovesTheRoots
  intro s t hrow
  have hpart : committedPart t = committedPart s := by
    rcases hrow with h | ⟨n, k, f, h⟩ | h | h | h
    · obtain rfl := Host.Outcome.next.inj h
      exact onTimer_committedPart opEpochBoundary_committedPart s
    · obtain rfl := Host.Outcome.next.inj h
      exact opEpochFlushWrite_committedPart n k f s
    · obtain rfl := Host.Outcome.next.inj h
      exact retryHeld_committedPart s
    · obtain rfl := Host.Outcome.next.inj h
      exact opCompareWait_committedPart s
    · obtain rfl := Host.Outcome.next.inj h
      exact onTimer_committedPart opDailyReclaim_committedPart s
  simpa only [committedPart, Prod.mk.injEq] using hpart

end Sys2Proof.LedgerFrame
end

section
/-! PROOF. Boundaries (R155, R274): the next boundary due is the least key, its evaluation moves on, and the evaluation of all that is due
does not depend on its fuel; the rows that wait for a boundary evaluate up to it. -/

namespace Sys2Proof.Boundaries

open Sys2Proof Sys2Proof.Machine Sys2Proof.Safety Sys2Proof.LedgerFrame

/-! ## The next boundary -/

theorem nextDue_eq_min? (l : LState) (limit : Nat) : l.nextDue limit = (l.dueKeys limit).min? := by
  have hfold (ks : List Nat) (x : Nat) : ks.foldl (fun a k => match a with
      | some x => some (min x k)
      | none => some k) (some x) = some (ks.foldl min x) := by
    induction ks generalizing x with
    | nil => rfl
    | cons k ks ih => exact ih (min x k)
  unfold LState.nextDue
  cases l.dueKeys limit with
  | nil => rfl
  | cons k ks => exact hfold ks k

theorem mem_dueKeys_bounds {l : LState} {limit k : Nat} (h : k ∈ l.dueKeys limit) : @LT.lt Nat _ l.lastBoundary k ∧ k ≤ limit := by
  simp only [LState.dueKeys, List.mem_filter, Bool.and_eq_true, decide_eq_true_eq] at h
  exact h.2

/-- The next boundary due lies after the latest one evaluated, within the limit, and before every other. -/
theorem nextDue_spec {l : LState} {limit key : Nat} (h : l.nextDue limit = some key) :
    (@LT.lt Nat _ l.lastBoundary key ∧ key ≤ limit) ∧ ∀ k ∈ l.dueKeys limit, key ≤ k := by
  rw [nextDue_eq_min?, List.min?_eq_some_iff] at h
  exact ⟨mem_dueKeys_bounds h.1, h.2⟩

/-! ## Evaluating all that is due -/

theorem evalSteps_of_none {n limit : Nat} {s : State} (h : s.led.work.nextDue limit = none) : evalSteps n limit s = s := by
  cases n with
  | zero => rfl
  | succ n => rw [evalSteps, h]

theorem evalSteps_of_moved {n limit key : Nat} {s : State} (h : s.led.work.nextDue limit = some key)
    (hmoved : (evalAt key s).led.work.lastBoundary = key) : evalSteps (n + 1) limit s = evalSteps n limit (evalAt key s) := by
  simp only [evalSteps, h, hmoved, if_true]

theorem evalSteps_of_stuck {n limit key : Nat} {s : State} (h : s.led.work.nextDue limit = some key)
    (hstuck : (evalAt key s).led.work.lastBoundary ≠ key) : evalSteps (n + 1) limit s = evalAt key s := by
  simp only [evalSteps, h, hstuck, if_false]

/-- Fuel for every key between the latest boundary and the limit is enough: each step that goes on moves the latest boundary. -/
theorem evalSteps_fuel {limit n m : Nat} {s : State} (hn : limit - s.led.work.lastBoundary ≤ n)
    (hm : limit - s.led.work.lastBoundary ≤ m) : evalSteps n limit s = evalSteps m limit s := by
  induction n generalizing m s with
  | zero =>
    cases hdue : s.led.work.nextDue limit with
    | none => rw [evalSteps_of_none hdue, evalSteps_of_none hdue]
    | some key =>
      obtain ⟨⟨hlow, hhigh⟩, -⟩ := nextDue_spec hdue
      omega
  | succ n ih =>
    cases hdue : s.led.work.nextDue limit with
    | none => rw [evalSteps_of_none hdue, evalSteps_of_none hdue]
    | some key =>
      obtain ⟨⟨hlow, hhigh⟩, -⟩ := nextDue_spec hdue
      obtain ⟨m, rfl⟩ : ∃ k, m = k + 1 := ⟨m - 1, by omega⟩
      by_cases hmoved : (evalAt key s).led.work.lastBoundary = key
      · rw [evalSteps_of_moved hdue hmoved, evalSteps_of_moved hdue hmoved]
        exact ih (by rw [hmoved]; omega) (by rw [hmoved]; omega)
      · rw [evalSteps_of_stuck hdue hmoved, evalSteps_of_stuck hdue hmoved]

theorem evalDue_of_set {limit : Nat} {s : State} (h : s.time.unset = false) :
    evalDue limit s = evalSteps (limit - s.led.work.lastBoundary) limit s := by
  simp [evalDue, h]

theorem evalDue_of_unset {limit : Nat} {s : State} (h : s.time.unset = true) : evalDue limit s = s := by
  simp [evalDue, h]

theorem evalDue_of_none {limit : Nat} {s : State} (h : s.led.work.nextDue limit = none) : evalDue limit s = s := by
  unfold evalDue
  split
  · rfl
  · exact evalSteps_of_none h

/-- The first boundary due is evaluated, then what is due after it. -/
theorem evalDue_of_some {limit key : Nat} {s : State} (hset : s.time.unset = false) (hdue : s.led.work.nextDue limit = some key)
    (hmoved : (evalAt key s).led.work.lastBoundary = key) (hafter : (evalAt key s).time.unset = false) :
    evalDue limit s = evalDue limit (evalAt key s) := by
  obtain ⟨⟨hlow, hhigh⟩, -⟩ := nextDue_spec hdue
  obtain ⟨n, hn⟩ : ∃ n, limit - s.led.work.lastBoundary = n + 1 := ⟨limit - s.led.work.lastBoundary - 1, by omega⟩
  rw [evalDue_of_set hset, evalDue_of_set hafter, hn, evalSteps_of_moved hdue hmoved]
  exact evalSteps_fuel (by rw [hmoved]; omega) (by rw [hmoved])

/-- Settles O27: the next boundary is the minimum of the keys due (`nextDue_spec`), and `evalDue_of_some` parts it from the rest. -/
theorem boundariesGoInOrder : Obligations.BoundariesGoInOrder := by
  unfold Obligations.BoundariesGoInOrder
  refine ⟨?first, ?least, ?none, ?unset⟩
  case first => exact fun s limit key => evalDue_of_some
  case least =>
    intro s limit key hdue
    obtain ⟨⟨hlow, hhigh⟩, hleast⟩ := nextDue_spec hdue
    exact ⟨hlow, hhigh, hleast⟩
  case none => exact fun s limit => evalDue_of_none
  case unset => exact fun s limit => evalDue_of_unset

end Sys2Proof.Boundaries
end

section
/-! PROOF. Wake trains (R256 to R258): the step of the ladder is the least that covers the uncertainty, and the half-width a train uses
covers it too or is half the wake period. -/

namespace Sys2Proof.WakeTrains

open Sys2Proof Sys2Proof.Machine Sys2Proof.Safety

/-- Within 2^31 ms the ladder has a step that covers the uncertainty; the step it answers is the least. -/
theorem trainStep_spec {guard u : Nat} (hguard : 0 < guard) (hu : u ≤ 2 ^ 31) :
    u ≤ guard * 2 ^ trainStep guard u ∧ ∀ j, j < trainStep guard u → guard * 2 ^ j < u := by
  have htop : u ≤ guard * 2 ^ 31 := hu.trans (Nat.le_mul_of_pos_left _ hguard)
  have hsome : ((List.range 32).find? fun j => decide (guard * 2 ^ j ≥ u)).isSome := by
    rw [List.find?_isSome]
    exact ⟨31, by decide, decide_eq_true htop⟩
  obtain ⟨j, hj⟩ := Option.isSome_iff_exists.mp hsome
  have hstep : trainStep guard u = j := by rw [trainStep, hj]; rfl
  rw [List.find?_range_eq_some] at hj
  obtain ⟨hcover, -, hleast⟩ := hj
  rw [hstep]
  exact ⟨of_decide_eq_true hcover, fun i hi => by simpa using hleast i hi⟩

/-- A step at or above the ladder's covers the uncertainty. -/
theorem trainStep_covers {guard u j : Nat} (hguard : 0 < guard) (hu : u ≤ 2 ^ 31) (hj : trainStep guard u ≤ j) :
    u ≤ guard * 2 ^ j :=
  (trainStep_spec hguard hu).1.trans (Nat.mul_le_mul_left _ (Nat.pow_le_pow_right (by decide) hj))

/-- Settles O39: the train's step is the greater of the one reached and the ladder's (`trainStep_spec`), its half-width the lesser of the
step's and half the wake period. -/
theorem trainsCoverTheUncertainty : Obligations.TrainsCoverTheUncertainty := by
  unfold Obligations.TrainsCoverTheUncertainty
  rintro v p c q m t rfl hguard hu
  obtain ⟨-, hleast⟩ := trainStep_spec hguard hu
  refine ⟨Nat.le_max_left _ _, Nat.min_le_right _ _, ?covers, rfl, rfl, ?least⟩
  case covers =>
    rcases Nat.le_total (p.guardMs * 2 ^ (trainFor v p c q m).step) (p.wakePeriodS * 500) with hle | hle
    · exact .inl ((trainStep_covers hguard hu (Nat.le_max_right _ _)).trans_eq (Nat.min_eq_left hle).symm)
    · exact .inr (Nat.min_eq_right hle)
  case least =>
    intro hlt
    have hstep : (trainFor v p c q m).step = trainStep p.guardMs (uncertainty q c (predict c m)) :=
      Nat.max_eq_right (Nat.le_of_not_lt fun hgt => absurd hlt (by simp [trainFor, Nat.max_eq_left (Nat.le_of_lt hgt)]))
    exact hleast _ (by rw [hstep] at hlt ⊢; omega)

end Sys2Proof.WakeTrains
end

section
/-! PROOF. The timebase (R263 to R265): RATE re-anchors, a step adds its amount, and an edge of the clock moves chip time forwards. -/

namespace Sys2Proof.TimebaseMoves

open Sys2Proof Sys2Proof.Machine Sys2Proof.Safety Sys2Proof.LedgerTime

/-! ## Chip time after each register row -/

/-- Re-anchored at C, chip time is what it was, whatever the rate. -/
theorem chipT_setRate (r : Int) (tb : Timebase) : chipT (tb.setRate r) = chipT tb := by
  simp [chipT, Timebase.setRate]

theorem chipT_addT0 (d : Int) (tb : Timebase) : chipT { tb with t0 := tb.t0 + d } = chipT tb + d := by
  simp only [chipT]
  ring

/-- LTIME is read off chip time. -/
theorem now_eq_of_chipT {s t : State} (h : chipT t.tb = chipT s.tb) : now t = now s := by
  simp only [now, chipNs, h]

theorem opTsRate_of_runs {s : State} (h : mainRuns s = true) (v : Nat) :
    opTsRate v s = { s with tb := s.tb.setRate (signed32 v) } := by simp [opTsRate, h]

theorem opTsStep_of_runs {s : State} (h : mainRuns s = true) :
    opTsStep s = { s with tb := { s.tb with t0 := s.tb.t0 + s.tb.stepUnits } } := by simp [opTsStep, h]

theorem chipT_opTsRate (v : Nat) (s : State) : chipT (opTsRate v s).tb = chipT s.tb ∧ (opTsRate v s).tb.c = s.tb.c := by
  unfold opTsRate
  split
  · exact ⟨chipT_setRate _ _, rfl⟩
  · exact ⟨rfl, rfl⟩

theorem chipT_opTsCountLo (s : State) : chipT (opTsCountLo s).tb = chipT s.tb := by unfold opTsCountLo; split <;> rfl
theorem chipT_opTsNowNs (s : State) : chipT (opTsNowNs s).tb = chipT s.tb := by unfold opTsNowNs; split <;> rfl
theorem chipT_opTsPpsIn (s : State) : chipT (opTsPpsIn s).tb = chipT s.tb := by unfold opTsPpsIn; split <;> rfl

theorem signed32_bounds (v : Nat) : -(2 ^ 31) ≤ signed32 v ∧ signed32 v < 2 ^ 31 := by
  have hlow := BitVec.le_toInt (BitVec.ofNat 32 v)
  have hhigh := BitVec.toInt_lt (x := BitVec.ofNat 32 v)
  exact ⟨hlow, hhigh⟩

/-! ## One edge of the clock -/

theorem tick_tb_of_running {s : State} (h : s.boot.phase = .running) : (tick s).tb = { s.tb with c := s.tb.c + 1 } := by
  simp [tick, h]

/-- One edge moves T by 2^18 units and the rate's part, which lies within 9 units either way. -/
theorem chipT_edge (tb : Timebase) (hlow : -(2 ^ 31) ≤ tb.rate) (hhigh : tb.rate < 2 ^ 31) :
    chipT tb + 262135 ≤ chipT { tb with c := tb.c + 1 } ∧ chipT { tb with c := tb.c + 1 } ≤ chipT tb + 262153 := by
  have hnext : ((tb.c + 1 : Nat) : Int) - tb.c0 = (tb.c : Int) - tb.c0 + 1 := by push_cast; ring
  simp only [chipT, hnext, add_mul, one_mul]
  generalize ((tb.c : Int) - tb.c0) * tb.rate = x
  omega

theorem chipNs_mono {a b : Timebase} (h : chipT a ≤ chipT b) : chipNs a ≤ chipNs b :=
  Int.toNat_le_toNat (Int.ediv_le_ediv (by decide) h)

/-- From its epoch on, LTIME never falls while ns rise. -/
theorem ltimeOfNs_mono {a b : Nat} (hepoch : 946684800 ≤ a / 1000000000) (h : a ≤ b) : ltimeOfNs a ≤ ltimeOfNs b := by
  have hfraction := ltimeFraction_lt a
  have hsec : a / 1000000000 ≤ b / 1000000000 := Nat.div_le_div_right h
  show @LE.le Nat _ (ltimeOfNs a) (ltimeOfNs b)
  unfold ltimeOfNs
  rcases Nat.lt_or_ge (a / 1000000000) (b / 1000000000) with hlt | hge
  · omega
  · have hsame : a / 1000000000 = b / 1000000000 := Nat.le_antisymm hsec hge
    have hsub : a % 1000000000 ≤ b % 1000000000 := by omega
    have hfrac : a % 1000000000 * 65536 / 1000000000 ≤ b % 1000000000 * 65536 / 1000000000 :=
      Nat.div_le_div_right (Nat.mul_le_mul_right _ hsub)
    omega

/-- Settles O41: RATE's new anchor is T(C) itself (`chipT_setRate`), and one edge adds between 262,135 and 262,153 units (`chipT_edge`). -/
theorem chipTimeMovesOnlyAsStated : Obligations.ChipTimeMovesOnlyAsStated := by
  unfold Obligations.ChipTimeMovesOnlyAsStated
  refine ⟨?anchor, ?stands, ?step, ?reads, ?edge⟩
  case anchor =>
    intro s v t hruns h
    obtain rfl := Host.Outcome.next.inj h
    rw [opTsRate_of_runs hruns]
    obtain ⟨hlow, hhigh⟩ := signed32_bounds v
    exact ⟨rfl, rfl, rfl, hlow, hhigh⟩
  case stands =>
    intro s v t h
    obtain rfl := Host.Outcome.next.inj h
    obtain ⟨htime, hcount⟩ := chipT_opTsRate v s
    exact ⟨htime, hcount, now_eq_of_chipT htime⟩
  case step =>
    intro s hruns
    refine ⟨_, congrArg Host.Outcome.next (opTsStep_of_runs hruns), rfl, chipT_addT0 _ _, rfl, rfl⟩
  case reads =>
    rintro s c t (rfl | rfl | rfl) h <;> obtain rfl := Host.Outcome.next.inj h
    · exact chipT_opTsCountLo s
    · exact chipT_opTsNowNs s
    · exact chipT_opTsPpsIn s
  case edge =>
    intro s hrunning hlow hhigh
    obtain ⟨hmin, hmax⟩ := chipT_edge s.tb hlow hhigh
    rw [tick_tb_of_running hrunning]
    have hns := chipNs_mono (Int.le_trans (Int.le_add_of_nonneg_right (by decide)) hmin)
    refine ⟨hmin, hmax, hns, fun hepoch => ?_⟩
    rw [now, now, tick_tb_of_running hrunning]
    exact ltimeOfNs_mono hepoch hns

end Sys2Proof.TimebaseMoves
end

section
/-! PROOF. The block's own step and its reset: a step takes the front of the queue or lets one edge of the clock pass, and the state
after reset holds the spec's values. -/

namespace Sys2Proof.StepAndReset

open Sys2Proof Sys2Proof.Machine Sys2Proof.Safety Sys2Proof.StepFrame

/-- One edge of the clock changes the clock, the timebase's count and the keeper's RTC only. -/
theorem tick_eq (s : State) : tick s = { s with
    clk := s.clk + 1
    tb := { s.tb with c := (tick s).tb.c }
    keeper := { s.keeper with rtc := (tick s).keeper.rtc } } := by
  unfold tick
  dsimp only
  split <;> split <;> rfl

theorem tick_count (s : State) : (tick s).tb.c = if s.boot.phase = .running then s.tb.c + 1 else s.tb.c := by
  by_cases h : s.boot.phase = .running <;> simp [tick, h]

theorem tick_rtc_off {s : State} (h : s.keeper.supply.kprOn = false) : (tick s).keeper.rtc = s.keeper.rtc := by
  simp [tick, h]

theorem rtc_le_tick (s : State) : s.keeper.rtc ≤ (tick s).keeper.rtc := by
  cases h : s.keeper.supply.kprOn with
  | false => exact (tick_rtc_off h).ge
  | true => simp [tick, h]

/-- Settles O56: the two cases of `step` (`step_cons`, `step_nil`), the second by the laws of `tick`. -/
theorem stepTakesTheFront : Obligations.StepTakesTheFront := by
  unfold Obligations.StepTakesTheFront
  refine ⟨fun c rest s hp => step_cons hp, fun s hp => ?_⟩
  exact ⟨tick s, step_nil hp, rfl, tick_count s, tick_eq s, tick_rtc_off, rtc_le_tick s⟩

/-- Settles O57: every value is a field that State.reset writes out. -/
theorem resetLeavesTheSpecsValues : Obligations.ResetLeavesTheSpecsValues := by
  unfold Obligations.ResetLeavesTheSpecsValues
  rintro s rfl
  repeat' constructor

end Sys2Proof.StepAndReset
end

section
/-! PROOF. How commands of the host answer (R37, R42, R45, R105): what a body's common parts answer once their conditions are known, and
the statements about the reads of the system, of meter records, of the ledger and of tables. -/

namespace Sys2Proof.HostReads

open Sys2Proof Sys2Proof.Machine Sys2Proof.Safety Sys2Proof.Laws Sys2Proof.LedgerFrame

/-! ## The common parts of a body -/

theorem atEpoch_some {s : State} {e n : Nat} {l : LState} {k : Nat → LState → Answer} (h : readAt s e = some (n, l)) :
    atEpoch s e k = k n l := by
  rw [atEpoch, h]

theorem onMeter_some {c : Cmd} {s : State} {i : Nat} {r : Rec} {k : Nat → Rec → Answer}
    (h : s.led.work.recOf (c.p 0x20 4) = some (i, r)) : onMeter c s k = k i r := by
  rw [onMeter, h]

theorem onMeter_none {c : Cmd} {s : State} {k : Nat → Rec → Answer} (h : s.led.work.recOf (c.p 0x20 4) = none) :
    onMeter c s k = no 0x0202 := by
  rw [onMeter, h]

/-- A read of a meter's record at an epoch, by a handle that is good now. -/
theorem onMeter_atEpoch {c : Cmd} {s : State} {e n : Nat} {l : LState} {k : Nat → LState → Answer}
    (h : (s.led.work.recOf (c.p 0x20 4)).isSome = true) (hread : readAt s e = some (n, l)) :
    (onMeter c s fun _ _ => atEpoch s e k) = k n l := by
  obtain ⟨⟨i, r⟩, hrec⟩ := Option.isSome_iff_exists.mp h
  rw [onMeter_some hrec, atEpoch_some hread]

/-! ## The system and the meter records -/

/-- A list that neither COUNT nor the buffer cuts is answered whole. -/
theorem bodyMtrList_whole {c : Cmd} {s : State} {n : Nat} {l : LState} {all : List (Nat × Rec)} (hcount : c.p 0x24 4 ≠ 0)
    (hstart : c.p 0x20 4 ≤ maxIndex s) (hread : readAt s 0 = some (n, l))
    (hall : all = l.recs.filter (fun e => decide (e.1 ≥ c.p 0x20 4))) (hroom : c.p 0x24 4 ≤ c.bufLen / 4)
    (hfit : all.length ≤ c.p 0x24 4) : bodyMtrList c s = .reply 0 n false (putLe 4 all.length ++ putLe 4 0xFFFFFFFF)
      (all.flatMap fun e => putLe 4 (recMh e.1 e.2)) s := by
  have htake : all.take (min (c.p 0x24 4) (c.bufLen / 4)) = all :=
    List.take_of_length_le (by rw [Nat.min_eq_left hroom]; exact hfit)
  have hgood : ¬((c.p 0x24 4 = 0 || decide (c.p 0x20 4 > maxIndex s)) = true) := by simp [hcount, hstart]
  unfold bodyMtrList
  rw [if_neg hgood, atEpoch_some hread]
  dsimp only
  rw [← hall, htake]
  cases all.getLast? <;> simp [Nat.not_lt.mpr hroom]

/-- Settles O1: each body answers from the state that the command found (`atEpoch_some`, `onMeter_atEpoch`), and a read changes nothing
else (`runDcs_plain`, `runDcs_refuse`). -/
theorem systemAndMeterReadsAnswer : Obligations.SystemAndMeterReadsAnswer := by
  unfold Obligations.SystemAndMeterReadsAnswer
  refine ⟨?identify, ?status, ?config, ?found, ?notFound, ?record, ?stale, ?list, ?segments⟩
  case identify => exact fun c f s h => ⟨_, rfl, runDcs_plain h rfl rfl⟩
  case status => exact fun c f s h => ⟨_, rfl, runDcs_plain h rfl rfl⟩
  case config =>
    intro c f s n l h hitem hread
    refine ⟨_, rfl, runDcs_plain h rfl ?_⟩
    simp only [bodySysGetConfig, Option.isNone_iff_eq_none, Option.isSome_iff_ne_none.mp hitem, if_false]
    exact atEpoch_some hread
  case found =>
    intro c f s n l i r h hread hid
    refine ⟨_, rfl, runDcs_plain h rfl ((atEpoch_some hread).trans ?_)⟩
    rw [hid]; rfl
  case notFound =>
    intro c f s n l h hread hid
    refine ⟨_, rfl, runDcs_refuse h rfl ((atEpoch_some hread).trans ?_)⟩
    rw [hid]; rfl
  case record =>
    intro c f s n l i r h hnow hread hrec
    refine ⟨_, rfl, runDcs_plain h rfl ((onMeter_atEpoch hnow hread).trans ?_)⟩
    rw [hrec]; rfl
  case stale => exact fun c f s h hrec => ⟨_, rfl, runDcs_refuse h rfl (onMeter_none hrec)⟩
  case list =>
    intro c f s n l all h hcount hstart hread hall hroom hfit
    exact ⟨_, rfl, runDcs_plain h rfl (bodyMtrList_whole hcount hstart hread hall hroom hfit)⟩
  case segments => exact fun c f s n l h hread => ⟨_, rfl, runDcs_plain h rfl (atEpoch_some hread)⟩

end Sys2Proof.HostReads
end

section
/-! PROOF. How a changing command runs (R37, R42, R54, R349): its body answers on the state with the command started and its input
counted, and what the answer leaves beside the ledger is what it leaves of the state the command found. -/

namespace Sys2Proof.HostChanges

open Sys2Proof Sys2Proof.Machine Sys2Proof.Safety Sys2Proof.Laws

/-! ## The running state -/

/-- A state with other commands in progress, another position in the stream and other outputs: all that starting a command moves. -/
def restarted (fl : List InFlight) (i k g : Nat) (o : List Output) (s : State) : State :=
  { s with inflight := fl, twin := { s.twin with inputSeq := i, curSeq := k, groupIndex := g }, out := o }

theorem running_eq (op : Nat) (f : InFlight) (s : State) : ∃ fl i k g o, running op f s = restarted fl i k g o s := by
  unfold running
  split
  · obtain ⟨i, k, g, o, h⟩ := LedgerFrame.newInput_eq 4 (started f s)
    exact ⟨_, i, k, g, o, h⟩
  · exact ⟨_, _, _, _, _, rfl⟩

theorem restarted_still (fl : List InFlight) (i k g : Nat) (o : List Output) (s : State) : Still s (restarted fl i k g o s) :=
  ⟨rfl, rfl, rfl, rfl, rfl, rfl, rfl, rfl, rfl, rfl, rfl, rfl, rfl, rfl, rfl, rfl, rfl, rfl, rfl, rfl, rfl, rfl, rfl, rfl, rfl, rfl⟩

/-- A statement about every restarted state holds of the running one. -/
theorem running_of_restarted {P : State → Prop} {op : Nat} {f : InFlight} {s : State} (h : ∀ fl i k g o, P (restarted fl i k g o s)) :
    P (running op f s) := by
  obtain ⟨fl, i, k, g, o, heq⟩ := running_eq op f s
  rw [heq]
  exact h fl i k g o

/-- What a command leaves beside the ledger that neither depends on its start nor moves the twin. -/
def Beside (e : State → State) (s : State) : Prop :=
  (∀ fl i k g o, e (restarted fl i k g o s) = restarted fl i k g o (e s)) ∧ (e s).twin = s.twin

/-- A changing command whose body changes the ledger by a group and the rest by `e`. -/
theorem change_answers {op : Nat} {c : Cmd} {f : InFlight} {s : State} {body : Cmd → State → Answer} {items : List Item}
    {p : AuditPart} {d : Bytes} {e : State → State} (h : ready op c f s = true) (hop : (opRow op).isSome = true)
    (he : Beside e s)
    (hb : ∀ fl i k g o, body c (restarted fl i k g o s) = .change items p 0 d [] c.bufLen (e (restarted fl i k g o s)))
    (hu : takesGroups (e s) = true) : Changes f items p d (e s) (runDcs op c body s) := by
  obtain ⟨hcomm, htwin⟩ := he
  obtain ⟨fl, i, k, g, o, hrun⟩ := running_eq op f s
  have hbody : body c (running op f s) = .change items p 0 d [] c.bufLen (restarted fl i k g o (e s)) := by
    rw [hrun, hb, hcomm]
  refine runDcs_sideChange h hop hbody hu rfl rfl rfl rfl (fun hstandby => ?_) (restarted_still _ _ _ _ _ _)
  have hs : isStandby s = true := by simpa only [isStandby, htwin] using hstandby
  have hstand := running_standby op f s hs
  rw [hrun] at hstand
  rw [htwin, ← hstand]
  simp only [restarted, htwin]

theorem beside_id (s : State) : Beside id s := ⟨fun _ _ _ _ _ => rfl, rfl⟩

/-- A changing command that changes the ledger only. -/
theorem plain_answers {op : Nat} {c : Cmd} {f : InFlight} {s : State} {body : Cmd → State → Answer} {items : List Item}
    {p : AuditPart} {d : Bytes} (h : ready op c f s = true) (hop : (opRow op).isSome = true)
    (hb : ∀ fl i k g o, body c (restarted fl i k g o s) = .change items p 0 d [] c.bufLen (restarted fl i k g o s))
    (hu : takesGroups s = true) : Changes f items p d s (runDcs op c body s) :=
  change_answers (e := id) h hop (beside_id s) hb hu

/-! ## A setting under its version (R42) -/

theorem setting_changes {c : Cmd} {s : State} {expect oldV item : Nat} {old new : Bytes} {items : Nat → List Item}
    {data : Nat → Bytes} {effect : Nat → State → State} (hver : versionOk expect oldV = true) (hnew : old ≠ new) :
    setting c s expect oldV old new item items data effect = .change
      (items (nextVersion oldV) ++ if item = 0 then [] else [.event (configEvent s item (nextVersion oldV) c.ring)])
      (auditChange item oldV (nextVersion oldV) old new) 0 (data (nextVersion oldV)) [] c.bufLen (effect (nextVersion oldV) s) := by
  simp [setting, hver, hnew]

theorem bodySysSetConfig_changes {c : Cmd} {s : State} {item size : Nat} {b : Bytes} (hitem : item = c.p 0x20 4)
    (hsize : itemSize item = some size) (hb : b = (if itemInParam item then c.pBytes 0x28 size else c.buf))
    (hzero : itemInParam item = true → zeroAt c.param (8 + size) (16 - size) = true) (hstate : itemState s item = none)
    (hread : readOnlyItem s item = false) (hlen : size ≠ 0 → b.length = size) (hres : itemReserved item b = true)
    (hcheck : itemCheck s item b = 0) (hver : versionOk (c.p 0x24 4) (readVersion s s.led.work item) = true)
    (hnew : readItem s s.led.work item ≠ b) : bodySysSetConfig c s = .change
      (itemItems s item (nextVersion (readVersion s s.led.work item)) b ++
        if item = 0 then [] else [.event (configEvent s item (nextVersion (readVersion s s.led.work item)) c.ring)])
      (auditChange item (readVersion s s.led.work item) (nextVersion (readVersion s s.led.work item))
        (readItem s s.led.work item) b) 0 (putLe 4 (nextVersion (readVersion s s.led.work item))) [] c.bufLen
      (itemEffects item (nextVersion (readVersion s s.led.work item)) (readItem s s.led.work item) b s) := by
  have hparam : (itemInParam item && !zeroAt c.param (8 + size) (16 - size)) = false := by
    cases hp : itemInParam item <;> simp_all
  have hlength : (size != 0 && b.length != size) = false := by
    by_cases h0 : size = 0 <;> simp_all
  unfold bodySysSetConfig
  simp only [← hitem, hsize, Option.getD_some, ← hb, hparam, hstate, hread, hlength, hres, hcheck, Option.isNone_some,
    Bool.or_self, Bool.not_true, Bool.false_eq_true, if_false, bne_self_eq_false]
  exact setting_changes hver hnew

/-- The effects of an item beside the binding tables leave the start of the command and the twin alone. -/
theorem itemEffects_beside {item : Nat} (h7 : item ≠ 0x0107) (h8 : item ≠ 0x0108) (h9 : item ≠ 0x0109) (v : Nat) (old b : Bytes)
    (s : State) : Beside (itemEffects item v old b) s := by
  unfold Beside itemEffects
  constructor
  · intro fl i k g o
    split
    · exact absurd rfl h7
    · exact absurd rfl h8
    · exact absurd rfl h9
    · rfl
    · split <;> rfl
    all_goals rfl
  · split
    · exact absurd rfl h7
    · exact absurd rfl h8
    · exact absurd rfl h9
    · rfl
    · split <;> rfl
    all_goals rfl

/-! ## The settings with commands of their own (R42, R340, R369, R395) -/

theorem bodySysSetRole_changes {c : Cmd} {s : State} (hrole : c.p 0x20 1 ≤ 1) (hhead : c.p 0x20 1 = 1 → s.fuse.ordering = 0x48)
    (hdips : degradedByDips s = false) (hver : versionOk (c.p 0x24 4) (s.led.work.itemVersion roleItem) = true)
    (hnew : putLe 1 (s.led.work.itemNat roleItem 1 0) ≠ putLe 1 (c.p 0x20 1)) : bodySysSetRole c s = .change
      [.config roleItem (nextVersion (s.led.work.itemVersion roleItem)) (putLe 1 (c.p 0x20 1))]
      (auditChange 0 (s.led.work.itemVersion roleItem) (nextVersion (s.led.work.itemVersion roleItem))
        (putLe 1 (s.led.work.itemNat roleItem 1 0)) (putLe 1 (c.p 0x20 1))) 0 [] [] c.bufLen s := by
  have hallowed : ¬((decide (c.p 0x20 1 = 1) && s.fuse.ordering != 0x48) = true) := by
    simp only [Bool.and_eq_true, decide_eq_true_eq, bne_iff_ne, not_and, not_not]
    exact hhead
  unfold bodySysSetRole
  dsimp only
  rw [if_neg hallowed, if_neg (by simp [hdips]), if_neg (Nat.not_lt.mpr hrole)]
  exact setting_changes hver hnew

theorem bodyLdgSetPeriod_changes {c : Cmd} {s : State} (hrange : within 1 3600 (c.p 0x20 4) = true)
    (hver : versionOk (c.p 0x24 4) s.led.work.periodVersion = true) (hnew : putLe 4 s.led.work.period ≠ putLe 4 (c.p 0x20 4)) :
    bodyLdgSetPeriod c s = .change [.period (c.p 0x20 4) (nextVersion s.led.work.periodVersion)]
      (auditChange 0 s.led.work.periodVersion (nextVersion s.led.work.periodVersion) (putLe 4 s.led.work.period)
        (putLe 4 (c.p 0x20 4))) 0 [] [] c.bufLen s := by
  unfold bodyLdgSetPeriod
  dsimp only
  rw [if_neg (by simp [hrange])]
  exact setting_changes hver hnew

theorem bodyTwnSetSolo_changes {c : Cmd} {s : State} {b : Nat} (hb : c.p 0x20 1 = b) (hrange : b ≤ 1)
    (hver : versionOk (c.p 0x24 4) (s.led.work.itemVersion 0x0F03) = true)
    (hnew : putLe 1 (itemVal s 0x0F03) ≠ putLe 1 b) : bodyTwnSetSolo c s = .change
      [.config 0x0F03 (nextVersion (s.led.work.itemVersion 0x0F03)) (putLe 1 b),
        .event (configEvent s 0x0F03 (nextVersion (s.led.work.itemVersion 0x0F03)) c.ring)]
      (auditChange 0x0F03 (s.led.work.itemVersion 0x0F03) (nextVersion (s.led.work.itemVersion 0x0F03))
        (putLe 1 (itemVal s 0x0F03)) (putLe 1 b)) 0
      (putLe 4 (nextVersion (s.led.work.itemVersion 0x0F03))) [] c.bufLen s := by
  unfold bodyTwnSetSolo
  subst hb
  dsimp only
  rw [if_neg (Nat.not_lt.mpr hrange)]
  exact setting_changes hver hnew

theorem bodyStoSetThreshold_changes {c : Cmd} {s : State} (hrange : within 1 100 (c.p 0x20 1) = true)
    (hver : versionOk (c.p 0x24 4) (s.led.work.itemVersion 0x0E03) = true) (hnew : itemNow s 0x0E03 ≠ putLe 1 (c.p 0x20 1)) :
    bodyStoSetThreshold c s = .change [.config 0x0E03 (nextVersion (s.led.work.itemVersion 0x0E03)) (putLe 1 (c.p 0x20 1)),
        .event (configEvent s 0x0E03 (nextVersion (s.led.work.itemVersion 0x0E03)) c.ring)]
      (auditChange 0x0E03 (s.led.work.itemVersion 0x0E03) (nextVersion (s.led.work.itemVersion 0x0E03))
        (itemNow s 0x0E03) (putLe 1 (c.p 0x20 1))) 0 [] [] c.bufLen s := by
  unfold bodyStoSetThreshold
  dsimp only
  rw [if_neg (by simp [hrange])]
  exact setting_changes hver hnew

theorem bodySysReset_changes {c : Cmd} {s : State} (hscope : within 1 3 (c.p 0x20 1) = true) (hdelay : c.p 0x24 4 ≤ 60000) :
    bodySysReset c s = .change [] (auditParam c none) 0 [] [] c.bufLen
      (onKeeper (fun k => { k with resetWanted := some (openNum s, c.p 0x20 1, c.p 0x24 4) }) s) := by
  unfold bodySysReset
  dsimp only
  rw [if_neg (by simp [hscope, hdelay])]
  rfl

/-! ## SOLO after its change (R369) -/

theorem lookupNat_insertNat_self {α : Type} (k : Nat) (v : α) (l : List (Nat × α)) : lookupNat k (insertNat k v l) = some v := by
  induction l with
  | nil => simp [insertNat, lookupNat]
  | cons x xs ih =>
    obtain ⟨j, w⟩ := x
    unfold insertNat
    split
    · simp [lookupNat]
    split
    · simp [lookupNat]
    · rename_i hne
      simp [lookupNat, ih, Ne.symm hne]

/-- After the group of a SOLO of `b`, SOLO stands as `b` says: the event and the audit record after it do not write it. -/
theorem soloSet_changed {f : InFlight} {v b : Nat} {e : EvRec} {p : AuditPart} {d : Bytes} {s t : State} (hb : b ≤ 1)
    (h : Changes f [.config 0x0F03 v (putLe 1 b), .event e] p d s t) : soloSet t = (b == 1) := by
  obtain ⟨hwork, -, -⟩ := h
  have hraw : t.led.work.itemRaw 0x0F03 = some (putLe 1 b) := by
    rw [hwork]
    simp only [contentAfter, List.cons_append, List.nil_append, List.foldl_cons, List.foldl_nil, Item.apply, LState.itemRaw,
      lookupNat_insertNat_self]
    rfl
  rw [soloSet, LState.itemNat, hraw]
  interval_cases b <;> rfl

/-- A change leaves the partner as it is. -/
theorem changes_partner {f : InFlight} {items : List Item} {p : AuditPart} {d : Bytes} {s t : State}
    (h : Changes f items p d s t) : t.twin.partner = s.twin.partner := by
  obtain ⟨-, -, hstill⟩ := h
  have htwin := hstill.2.2.2.2.2.2.2.2.2.2.2.2.2.2.2.2.2.2.2.2.2.2.2.2.2
  rw [htwin]

/-- The group of a TWN_SET_SOLO that changes SOLO to `b`. -/
theorem twnSetSolo_answers {c : Cmd} {f : InFlight} {s : State} {b : Nat} (h : ready 0x0B04 c f s = true) (hb : c.p 0x20 1 = b)
    (hrange : b ≤ 1) (hver : versionOk (c.p 0x24 4) (s.led.work.itemVersion 0x0F03) = true)
    (hnew : putLe 1 (itemVal s 0x0F03) ≠ putLe 1 b) (hu : takesGroups s = true) :
    Changes f [.config 0x0F03 (nextVersion (s.led.work.itemVersion 0x0F03)) (putLe 1 b),
        .event (configEvent s 0x0F03 (nextVersion (s.led.work.itemVersion 0x0F03)) c.ring)]
      (auditChange 0x0F03 (s.led.work.itemVersion 0x0F03) (nextVersion (s.led.work.itemVersion 0x0F03))
        (putLe 1 (itemVal s 0x0F03)) (putLe 1 b)) (putLe 4 (nextVersion (s.led.work.itemVersion 0x0F03))) s
      (runDcs 0x0B04 c bodyTwnSetSolo s) :=
  plain_answers h rfl (fun fl i k g o => bodyTwnSetSolo_changes (s := restarted fl i k g o s) hb hrange hver hnew) hu

/-- Settles O2: each body changes what its row says on the state it runs on (the `_changes` laws), and `change_answers` carries that
to the state the command found. -/
theorem settingsChange : Obligations.SettingsChange := by
  unfold Obligations.SettingsChange
  refine ⟨?config, ?role, ?reset, ?period, ?solo, ?noSolo, ?threshold⟩
  case config =>
    rintro c f s item size b old v h hitem hsize h7 h8 h9 hb hzero hstate hread hlen hres hcheck hver rfl hnew rfl hu
    have hne : item ≠ 0 := by rintro rfl; cases hsize
    refine ⟨_, rfl, change_answers h rfl (itemEffects_beside h7 h8 h9 _ _ _ s) (fun fl i k g o => ?_) hu⟩
    refine (bodySysSetConfig_changes (s := restarted fl i k g o s) hitem hsize hb hzero hstate hread hlen hres hcheck hver hnew).trans ?_
    rw [if_neg hne]
    rfl
  case role =>
    rintro c f s v h hrole hhead hdips hver hnew rfl hu
    exact ⟨_, rfl, plain_answers h rfl (fun _ _ _ _ _ => bodySysSetRole_changes hrole hhead hdips hver hnew) hu⟩
  case reset =>
    intro c f s h hscope hdelay hu hpartner
    have hchange := change_answers (e := onKeeper fun k => { k with resetWanted := some (openNum s, c.p 0x20 1, c.p 0x24 4) })
      h rfl ⟨fun _ _ _ _ _ => rfl, rfl⟩ (fun _ _ _ _ _ => bodySysReset_changes hscope hdelay) hu
    refine ⟨_, congrArg Host.Outcome.next (if_neg ?_), hchange⟩
    have hstays : (runDcs 0x0106 c bodySysReset s).twin.partner ≠ .standby := by rw [changes_partner hchange]; exact hpartner
    simp [hstays]
  case period =>
    rintro c f s v h hrange hver hnew rfl hu
    exact ⟨_, rfl, plain_answers h rfl (fun _ _ _ _ _ => bodyLdgSetPeriod_changes hrange hver hnew) hu⟩
  case solo =>
    rintro c f s v h hone hwas hver hnew rfl hu
    have hchange := twnSetSolo_answers h hone le_rfl hver hnew hu
    refine ⟨_, congrArg Host.Outcome.next (?_ : opTwnSetSolo c s = _), hchange⟩
    have hset : soloSet (runDcs 0x0B04 c bodyTwnSetSolo s) = true := soloSet_changed le_rfl hchange
    simp [opTwnSetSolo, hset, hwas, changes_partner hchange]
  case noSolo =>
    rintro c f s v h hzero hver hnew rfl hu
    have hchange := twnSetSolo_answers h hzero (Nat.zero_le 1) hver hnew hu
    refine ⟨_, congrArg Host.Outcome.next (if_pos ?_), hchange⟩
    have hclear : soloSet (runDcs 0x0B04 c bodyTwnSetSolo s) = false := soloSet_changed (Nat.zero_le 1) hchange
    simp [hclear]
  case threshold =>
    rintro c f s v h hrange hver hnew rfl hu
    exact ⟨_, rfl, plain_answers h rfl (fun _ _ _ _ _ => bodyStoSetThreshold_changes hrange hver hnew) hu⟩

end Sys2Proof.HostChanges
end

section
/-! PROOF. What a frame that the chip generates leaves (R27, R354): it moves the modems, the marks of generated frames and the outputs,
and nothing else. -/

namespace Sys2Proof.NetFrames

open Sys2Proof Sys2Proof.Machine Sys2Proof.Safety

/-- A state with other modems, other marks of generated frames and other outputs. -/
def resent (z r : Modem) (m : List FrameMark) (o : List Output) (s : State) : State :=
  { s with zither := z, rf := r, twin := { s.twin with ownFrames := m }, out := o }

theorem onModem_eq (net : Net) (f : Modem → Modem) (s : State) : ∃ z r, onModem net f s = { s with zither := z, rf := r } := by
  cases net <;> exact ⟨_, _, rfl⟩

theorem queueFrame_eq (f : TxFrame) (s : State) : ∃ z r m o, queueFrame f s = resent z r m o s := by
  unfold queueFrame
  split
  · exact ⟨_, _, _, _, rfl⟩
  split
  · exact ⟨_, _, _, _, rfl⟩
  split
  · obtain ⟨z, r, h⟩ := onModem_eq f.net (fun m => { m with queues := m.queues.modify f.priority (· ++ [f]) })
      (sendDigest (markOf f 0 s) (addMark (markOf f 0 s) s))
    exact ⟨z, r, _, _, h⟩
  · obtain ⟨z, r, h⟩ := onModem_eq f.net (fun m => { m with queues := m.queues.modify f.priority (· ++ [f]) }) s
    exact ⟨z, r, _, _, h⟩

/-- A reading of the state that no generated frame moves. -/
def Unsent {α : Type} (g : State → α) : Prop := ∀ z r m o s, g (resent z r m o s) = g s

section
variable {α : Type} {g : State → α} (h : Unsent g)
include h

theorem queueFrame_reads (f : TxFrame) (s : State) : g (queueFrame f s) = g s := by
  obtain ⟨z, r, m, o, heq⟩ := queueFrame_eq f s
  rw [heq, h]

theorem sendTo_reads (r : Rec) (prio : Nat) (m : Msg) (s : State) : g (sendTo r prio m s) = g s := by
  unfold sendTo
  split
  · exact queueFrame_reads h _ s
  · rfl

theorem onModem_reads (net : Net) (f : Modem → Modem) (s : State) : g (onModem net f s) = g s := by
  obtain ⟨z, r, heq⟩ := onModem_eq net f s
  rw [heq]
  exact h z r s.twin.ownFrames s.out s

end

@[simp] theorem queueFrame_led (f : TxFrame) (s : State) : (queueFrame f s).led = s.led :=
  queueFrame_reads (g := State.led) (fun _ _ _ _ _ => rfl) f s
@[simp] theorem queueFrame_clk (f : TxFrame) (s : State) : (queueFrame f s).clk = s.clk :=
  queueFrame_reads (g := State.clk) (fun _ _ _ _ _ => rfl) f s
@[simp] theorem queueFrame_meters (f : TxFrame) (s : State) : (queueFrame f s).meters = s.meters :=
  queueFrame_reads (g := State.meters) (fun _ _ _ _ _ => rfl) f s
@[simp] theorem queueFrame_store (f : TxFrame) (s : State) : (queueFrame f s).store = s.store :=
  queueFrame_reads (g := State.store) (fun _ _ _ _ _ => rfl) f s
@[simp] theorem sendTo_led (r : Rec) (prio : Nat) (m : Msg) (s : State) : (sendTo r prio m s).led = s.led :=
  sendTo_reads (g := State.led) (fun _ _ _ _ _ => rfl) r prio m s
@[simp] theorem sendTo_store (r : Rec) (prio : Nat) (m : Msg) (s : State) : (sendTo r prio m s).store = s.store :=
  sendTo_reads (g := State.store) (fun _ _ _ _ _ => rfl) r prio m s

end Sys2Proof.NetFrames
end

section
/-! PROOF. Meters admitted and released (R71, R72, R154, R298) and the tables loaded by commands (R42, R74, R125, R144, R146, R147, R166, R171,
R211, R269, R276): the body's answer, and the statements about both. -/

namespace Sys2Proof.MetersAndTables

open Sys2Proof Sys2Proof.Machine Sys2Proof.Safety Sys2Proof.Laws Sys2Proof.HostReads Sys2Proof.HostChanges Sys2Proof.NetFrames

/-! ## MTR_ADMIT (R71, R298) -/

/-- An admission without a key of its own. -/
theorem bodyMtrAdmit_derived {c : Cmd} {s : State} {d : ClassDesc} {i : Nat} (hnet : c.p 0x32 1 ≤ 2) (hsrc : c.p 0x33 1 = 0)
    (hclass : s.led.work.classOf (c.p 0x30 2) = some d) (hallows : ((netOfCode (c.p 0x32 1)).map d.allows).getD true = true)
    (hid : s.led.work.byIdentity (c.pBytes 0x20 16) = none) (hfree : freeIndex s = some i) (hfull : ownFull s = false) :
    bodyMtrAdmit c s = changeParam c (some (recMh i (newRec s i (c.pBytes 0x20 16) d (netOfCode (c.p 0x32 1)) 0 [])))
      [.create i (newRec s i (c.pBytes 0x20 16) d (netOfCode (c.p 0x32 1)) 0 [])]
      (putLe 4 (recMh i (newRec s i (c.pBytes 0x20 16) d (netOfCode (c.p 0x32 1)) 0 []))) s := by
  simp [bodyMtrAdmit, Nat.not_lt.mpr hnet, hsrc, hclass, hallows, hid, hfree, hfull]

/-- An admission with the wrapped key in the buffer. -/
theorem bodyMtrAdmit_wrapped {c : Cmd} {s : State} {d : ClassDesc} {i : Nat} (hnet : c.p 0x32 1 ≤ 2) (hsrc : c.p 0x33 1 = 1)
    (hclass : s.led.work.classOf (c.p 0x30 2) = some d) (hallows : ((netOfCode (c.p 0x32 1)).map d.allows).getD true = true)
    (hid : s.led.work.byIdentity (c.pBytes 0x20 16) = none) (hfree : freeIndex s = some i) (hfull : ownFull s = false)
    (hsuite : d.suite ≠ 2) (hlen : c.buf.length = 48) (h0 : le c.buf 0 1 = 1) (h1 : le c.buf 1 1 = 5) (h2 : le c.buf 2 1 = 0)
    (hkey : (unwrapMeter s c.buf).isSome = true) :
    bodyMtrAdmit c s = changeParam c (some (recMh i (newRec s i (c.pBytes 0x20 16) d (netOfCode (c.p 0x32 1)) 1 c.buf)))
      [.create i (newRec s i (c.pBytes 0x20 16) d (netOfCode (c.p 0x32 1)) 1 c.buf)]
      (putLe 4 (recMh i (newRec s i (c.pBytes 0x20 16) d (netOfCode (c.p 0x32 1)) 1 c.buf))) s := by
  have hsome : (unwrapMeter s c.buf).isNone = false := by rw [← Option.not_isSome, hkey]; rfl
  simp [bodyMtrAdmit, Nat.not_lt.mpr hnet, hsrc, hclass, hallows, hid, hfree, hfull, hsuite, hlen, h0, h1, h2, hsome]

/-! ## MTR_RELEASE (R72, R154) -/

/-- A command on an own meter that no session holds. -/
theorem onOwnMeter_idle {c : Cmd} {s : State} {i : Nat} {r : Rec} {k : Nat → Rec → Answer}
    (hrec : s.led.work.recOf (c.p 0x20 4) = some (i, r)) (hown : r.segment = 0) (hserves : servesCmd s c = false)
    (hidle : sessionOf s i = none) : onOwnMeter c s k = k i r := by
  rw [onOwnMeter, onMeter_some hrec]
  simp [hown, hserves, hidle]

theorem bodyMtrRelease_changes {c : Cmd} {s : State} {i : Nat} {r : Rec}
    (hrec : s.led.work.recOf (c.p 0x20 4) = some (i, r)) (hown : r.segment = 0) (hserves : servesCmd s c = false)
    (hidle : sessionOf s i = none) : bodyMtrRelease c s = changeParam c (some (recMh i r)) (releaseItems i r s)
      (putLe 2 ((r.gen + 1) % 4096)) (forgetMeter i r s) :=
  onOwnMeter_idle hrec hown hserves hidle

/-- Forgetting a meter that is only ADMITTED sends nothing. -/
theorem forgetMeter_beside {i : Nat} {r : Rec} (hadmitted : r.net.state = .admitted) (s : State) : Beside (forgetMeter i r) s := by
  constructor
  · intro fl j k g o
    unfold forgetMeter
    split <;> simp only [hadmitted, beq_self_eq_true, if_true] <;> rfl
  · unfold forgetMeter
    split <;> simp only [hadmitted, beq_self_eq_true, if_true]

/-- Forgetting a meter leaves the ledger and the store. -/
theorem forgetMeter_keeps (i : Nat) (r : Rec) (s : State) :
    (forgetMeter i r s).led = s.led ∧ (forgetMeter i r s).store = s.store := by
  have hquarantine (net : Net) (u : State) : (toQuarantine net r.net.short u).led = u.led ∧
      (toQuarantine net r.net.short u).store = u.store := by
    unfold toQuarantine
    split <;> exact ⟨rfl, rfl⟩
  have hdrop (net : Net) (u : State) : (dropRoute net r.net.short u).led = u.led ∧
      (dropRoute net r.net.short u).store = u.store :=
    ⟨onModem_reads (g := State.led) (fun _ _ _ _ _ => rfl) _ _ u, onModem_reads (g := State.store) (fun _ _ _ _ _ => rfl) _ _ u⟩
  unfold forgetMeter
  split
  · dsimp only
    split
    · exact ⟨rfl, rfl⟩
    · split <;> simp [hquarantine, hdrop]
  · exact ⟨rfl, rfl⟩

/-- Whether the ledger takes groups is read off the ledger and the store. -/
theorem takesGroups_of {s t : State} (hled : t.led = s.led) (hstore : t.store = s.store) : takesGroups t = takesGroups s := by
  have hheld : heldCount t = heldCount s := by simp only [heldCount, hled]
  have hsalvage : inSalvage t = inSalvage s := by simp only [inSalvage, hstore]
  rw [takesGroups, takesGroups, hheld, hsalvage]

theorem lookupNat_eraseNat_self {α : Type} (k : Nat) (l : List (Nat × α)) : lookupNat k (eraseNat k l) = none := by
  induction l with
  | nil => rfl
  | cons x xs ih =>
    obtain ⟨j, w⟩ := x
    rw [eraseNat] at ih
    by_cases hj : j = k
    · simp [eraseNat, hj, ih]
    · simp [eraseNat, hj, ih, lookupNat]

/-- A release's items, whatever goes before them, leave no record at the index and the next generation. -/
theorem contentAfter_release (n : Nat) (t : LTime) (items : List Item) (i g e : Nat) (a : Audit) (l : LState) :
    lookupNat i (contentAfter n t (items ++ [.release i g e] ++ [.audit a]) l).recs = none ∧
      lookupNat i (contentAfter n t (items ++ [.release i g e] ++ [.audit a]) l).gens = some g := by
  simp only [contentAfter, List.foldl_append, List.foldl_cons, List.foldl_nil, Item.apply]
  exact ⟨lookupNat_eraseNat_self _ _, lookupNat_insertNat_self _ _ _⟩

/-! ## Tables loaded (R42, R54, R114) -/

/-- A table of a good form that EXPECT_VERSION admits and that differs from the one loaded last. -/
theorem loadTable_changes {c : Cmd} {s : State} {oldV : Nat} {oldRaw : Bytes} {mk : Nat → TableLoad} {extra : Nat → List Item}
    {effect : State → State} (hver : versionOk (c.p 0x20 4) oldV = true) (hnew : oldV = 0 ∨ oldRaw ≠ c.buf) :
    loadTable c s oldV oldRaw (some mk) none extra effect = .change (.table (mk (nextVersion oldV)) :: extra (nextVersion oldV))
      (tableAudit oldV oldRaw c.buf) 0 (putLe 4 (nextVersion oldV)) [] c.bufLen (effect s) := by
  have hdiffers : (oldV != 0 && oldRaw == c.buf) = false := by
    rcases hnew with h | h <;> simp [h]
  simp [loadTable, hver, hdiffers, tableAudit]

/-- Settles O3: `bodyMtrAdmit_derived` and its like say what each body answers; of a release only the ledger's part is stated where the
meter had joined (`forgetMeter_keeps`). -/
theorem metersAdmittedAndReleased : Obligations.MetersAdmittedAndReleased := by
  unfold Obligations.MetersAdmittedAndReleased
  refine ⟨?derived, ?wrapped, ?release, ?released, ?schedule⟩
  case derived =>
    rintro c f s d i r h hnet hsrc hclass hallows hid hfree hfull rfl hu
    exact ⟨_, rfl, plain_answers h rfl (fun fl j k g o =>
      bodyMtrAdmit_derived (s := restarted fl j k g o s) hnet hsrc hclass hallows hid hfree hfull) hu⟩
  case wrapped =>
    rintro c f s d i r h hnet hsrc hclass hallows hid hfree hfull hsuite hlen h0 h1 h2 hkey rfl hu
    exact ⟨_, rfl, plain_answers h rfl (fun fl j k g o => bodyMtrAdmit_wrapped (s := restarted fl j k g o s) hnet hsrc hclass hallows
      hid hfree hfull hsuite hlen h0 h1 h2 hkey) hu⟩
  case release =>
    intro c f s i r h hrec hown hadmitted hidle hserves hu
    refine ⟨_, rfl, change_answers h rfl (forgetMeter_beside hadmitted s) (fun fl j k g o =>
      bodyMtrRelease_changes (s := restarted fl j k g o s) hrec hown ?_ hidle) ?_⟩
    · exact hserves
    · obtain ⟨hled, hstore⟩ := forgetMeter_keeps i r s
      exact (takesGroups_of hled hstore).trans hu
  case released =>
    intro c f s i r h hrec hown hidle hserves hu
    obtain ⟨fl, j, k, g, o, hrun⟩ := running_eq 0x0202 f s
    obtain ⟨hled, hstore⟩ := forgetMeter_keeps i r (running 0x0202 f s)
    have hbody : bodyMtrRelease c (running 0x0202 f s) = changeParam c (some (recMh i r)) (releaseItems i r (running 0x0202 f s))
        (putLe 2 ((r.gen + 1) % 4096)) (forgetMeter i r (running 0x0202 f s)) := by
      rw [hrun]
      exact bodyMtrRelease_changes (s := restarted fl j k g o s) hrec hown hserves hidle
    have htakes : takesGroups (forgetMeter i r (running 0x0202 f s)) = true :=
      (takesGroups_of (hled.trans (running_led _ _ _)) (hstore.trans (running_store _ _ _))).trans hu
    have hcmd := (ready_noWait h).1
    obtain ⟨hwork, -, -⟩ := runDcs_change h rfl (by rw [hcmd]; exact hbody) htakes
    refine ⟨_, rfl, ?_⟩
    rw [hwork]
    exact contentAfter_release _ _ _ _ _ _ _ _
  case schedule =>
    intro c f s x h hparse hver hnew hu
    refine ⟨_, rfl, change_answers (e := fun u => { u with meters := { u.meters with slots := [] } }) h rfl
      ⟨fun _ _ _ _ _ => rfl, rfl⟩ (fun fl j k g o => ?_) hu⟩
    have hparsed : parseSched (restarted fl j k g o s) c.buf = some x := hparse
    unfold bodyMtrSetSchedule
    rw [hparsed]
    exact loadTable_changes hver hnew

end Sys2Proof.MetersAndTables
end

section
/-! PROOF. LDG_CLOSE_EPOCH and an epoch that its limit closes (R97, R351, R475): where a second epoch of the same number is open, the CLOSE
that the command gives its cause is never sent. -/

namespace Sys2Proof.CloseAtTheLimit

open Sys2Proof Sys2Proof.Machine Sys2Proof.Safety

/-- An output is a CLOSE to the partner (R351). -/
def isClose : Output → Bool
  | .twill kind _ => kind == 0x12
  | _ => false

/-- What a close sends last while inputs are mirrored. -/
theorem closeNow_out_last {cause : Nat} {s : State} (h : mirroring s = true) :
    (closeNow cause s).out.getLast?.map isClose = some true := by
  have hm : ∀ f, mirroring (onOpen f s) = true := fun _ => h
  simp [closeNow, hm, openNext, onLed, emit, isClose]

/-- A close keeps whether inputs are mirrored. -/
theorem mirroring_closeNow (cause : Nat) (s : State) : mirroring (closeNow cause s) = mirroring s := by
  unfold closeNow
  dsimp only
  split <;> rfl

/-- A state that holds fewer than two epochs, is no standby, mirrors and did not just send a CLOSE is no result of a close. -/
theorem closeEpoch_ne {cause : Nat} {s t : State} (hheld : heldCount t < 2) (hstandby : isStandby t = false)
    (hmirror : mirroring t = true) (hopen : (openEpoch s).isNone = false) (hout : t.out.getLast?.map isClose = some false) :
    closeEpoch cause s ≠ t := by
  intro h
  unfold closeEpoch at h
  split at h
  next hnone =>
    subst h
    simp [hopen, hstandby] at hnone
  next =>
    split at h
    next hfull =>
      subst h
      simp only [ge_iff_le, Bool.and_eq_true, decide_eq_true_eq] at hfull
      omega
    next =>
      subst h
      rw [closeNow_out_last (by rwa [mirroring_closeNow] at hmirror)] at hout
      cases hout

/-- A state whose open epoch has a number other than 0 has one. -/
theorem openEpoch_of_openNum {s : State} (h : openNum s ≠ 0) : (openEpoch s).isNone = false := by
  unfold openNum at h
  cases hopen : openEpoch s with
  | none => simp [hopen] at h
  | some e => rfl

/-! ## The state -/

/-- LDG_CLOSE_EPOCH on the host's ring 0. -/
def closeCommand : Cmd := ⟨0, 0x0308, false, false, false, 0, 0, 0, 0, [], []⟩

/-- The command in progress. -/
def closeInFlight : InFlight := ⟨0, closeCommand, [], [.host], none, false, none, none, 0⟩

/-- Epoch 1, open, with content of the given size. -/
def openOf (size : Nat) : Epoch := ⟨1, 0, 0, .opened, [], size, State.reset.led.work, false, false, false, [], false, 0⟩

/-- A mirroring active with an epoch 1 at its limit, and a second open epoch of that number behind it. -/
def twiceOpen : State :=
  { State.reset with
    inflight := [closeInFlight]
    led := { State.reset.led with epochs := [openOf epochLimit, openOf 112], highA := some 1 }
    twin := { State.reset.twin with role := .active, partner := .standby, mirror := true }
    boot := { State.reset.boot with openedFirst := true, phase := .running } }

/-- The limit closes the first epoch 1 before the command can; the completion is the last output. -/
theorem opLdgCloseEpoch_twiceOpen_out :
    (opLdgCloseEpoch closeCommand twiceOpen).out.getLast?.map isClose = some false := by rfl

theorem opLdgCloseEpoch_twiceOpen_openNum : openNum (opLdgCloseEpoch closeCommand twiceOpen) = 1 := by rfl

/-- Refutes O5: with two open epochs of one number, on a mirroring active, the epoch reaches its 256 MiB in the command's own group and
closes with cause 3; the second epoch of that number stands open, its groups were not added to, so the command closes nothing, yet
the open epoch's number is the one before it. -/
theorem not_pinsNamesAndCloses : ¬ Obligations.PinsNamesAndCloses := by
  unfold Obligations.PinsNamesAndCloses
  rintro ⟨-, -, -, -, h⟩
  obtain ⟨u, hu, -⟩ := h closeCommand closeInFlight twiceOpen (openOf epochLimit) (by rfl) (by rfl) (by rfl) (by rfl) (by rfl)
    (Nat.le_refl 1)
  have hu : opLdgCloseEpoch closeCommand twiceOpen = if openNum u = 1 then closeEpoch 1 u else u := Host.Outcome.next.inj hu
  by_cases hnum : openNum u = 1
  · rw [if_pos hnum] at hu
    exact closeEpoch_ne (t := opLdgCloseEpoch closeCommand twiceOpen) (by decide) (by rfl) (by rfl)
      (openEpoch_of_openNum (by rw [hnum]; decide)) opLdgCloseEpoch_twiceOpen_out hu.symm
  · rw [if_neg hnum] at hu
    exact hnum (hu ▸ opLdgCloseEpoch_twiceOpen_openNum)

end Sys2Proof.CloseAtTheLimit
end

section
/-! PROOF. The reads of the ledger, of tariffs, accounts, balances and time (R106 to R108, R125, R146, R153, R154, R164, R180, R196, R270):
a paged read answers its page and changes only its ring's cursors. -/

namespace Sys2Proof.LedgerReads

open Sys2Proof Sys2Proof.Machine Sys2Proof.Safety Sys2Proof.Laws Sys2Proof.HostReads

/-! ## Pages (R106) -/

/-- A page: as many whole entries as the buffer holds; only the ring's cursors change. -/
theorem pageOut_eq (c : Cmd) (n pos : Nat) (entries : List Bytes) (data : Nat → Bytes) (uncommitted : Bool) (s : State) :
    ∃ b, pageOut c n pos entries data uncommitted s =
      .reply (if fitCount c.bufLen (entries.drop pos) = (entries.drop pos).length then 0 else 0x0001) n uncommitted
        (data (fitCount c.bufLen (entries.drop pos)))
        ((entries.drop pos).take (fitCount c.bufLen (entries.drop pos))).flatten { s with bar0 := b } := by
  unfold pageOut
  dsimp only
  split
  · exact ⟨_, rfl⟩
  · exact ⟨_, rfl⟩

/-- A paged read goes on at its cursor's epoch and place, or starts at the epoch asked for. -/
theorem pagedRead_eq {c : Cmd} {epoch n : Nat} {entries : LState → List Bytes} {data : Nat → Bytes} {s : State} {l : LState}
    {p : Nat × Nat} (hp : p = ((cursorOf c s).map fun x => (x.epoch, x.pos)).getD (epoch, 0)) (hread : readAt s p.1 = some (n, l)) :
    pagedRead c epoch entries data s = pageOut c n p.2 (entries l) data false s := by
  unfold pagedRead
  cases hcursor : cursorOf c s with
  | some x =>
    simp only [hcursor, Option.map_some, Option.getD_some] at hp
    subst hp
    simp only [hread]
  | none =>
    simp only [hcursor, Option.map_none, Option.getD_none] at hp
    subst hp
    simp only [hread]

/-- A command whose body answers a page reads that page. -/
theorem page_answers {op n pos k : Nat} {c : Cmd} {f : InFlight} {s : State} {body : Cmd → State → Answer} {entries es : List Bytes}
    {data : Nat → Bytes} {uncommitted : Bool} (h : ready op c f s = true) (hop : ((opRow op).map (·.chg)) = some false)
    (hb : body c (started f s) = pageOut c n pos entries data uncommitted (started f s)) (hes : es = entries.drop pos)
    (hk : k = fitCount c.bufLen es) :
    Reads f (if k = es.length then 0 else 0x0001) n uncommitted (data k) (es.take k).flatten s (runDcs op c body s) := by
  subst hk hes
  obtain ⟨b, hpage⟩ := pageOut_eq c n pos entries data uncommitted (started f s)
  exact runDcs_reply h hop (hb.trans hpage) (grows_trans (grows_inflight _ s) (grows_bar0 b _)) rfl rfl

/-- A command whose body is a paged read of committed content. -/
theorem paged_answers {op epoch n k : Nat} {c : Cmd} {f : InFlight} {s : State} {body : Cmd → State → Answer} {es : List Bytes}
    {entries : LState → List Bytes} {data : Nat → Bytes} {l : LState} {p : Nat × Nat} (h : ready op c f s = true)
    (hop : ((opRow op).map (·.chg)) = some false)
    (hb : body c (started f s) = pagedRead c epoch entries data (started f s))
    (hp : p = ((cursorOf c s).map fun x => (x.epoch, x.pos)).getD (epoch, 0)) (hread : readAt s p.1 = some (n, l))
    (hes : es = (entries l).drop p.2) (hk : k = fitCount c.bufLen es) :
    Reads f (if k = es.length then 0 else 0x0001) n false (data k) (es.take k).flatten s (runDcs op c body s) :=
  page_answers h hop (hb.trans (pagedRead_eq (s := started f s) hp hread)) hes hk

/-! ## The bodies -/

theorem bodyLdgReadSeries_eq {c : Cmd} {s : State} (hmeter : (s.led.work.recOf (c.p 0x20 4)).isSome = true)
    (hspan : c.p 0x28 8 < c.p 0x30 8) : bodyLdgReadSeries c s =
      pagedRead c (c.p 0x38 8) (seriesSlice (c.p 0x20 4) (c.p 0x24 1) (c.p 0x28 8) (c.p 0x30 8)) (putLe 4) s := by
  obtain ⟨x, hx⟩ := Option.isSome_iff_exists.mp hmeter
  simp [bodyLdgReadSeries, hx, hspan]

theorem bodyLdgReadJournal_eq {c : Cmd} {s : State} (hkind : c.p 0x30 1 ≤ 2) : bodyLdgReadJournal c s =
    pagedRead c 0 (journalSlice (c.p 0x30 1) (c.p 0x20 8) (if c.p 0x28 8 = 0 then
      ((cursorOf c s).map (·.epoch)).getD s.led.lastCommitted else c.p 0x28 8)) (putLe 4) s := by
  simp [bodyLdgReadJournal, Nat.not_lt.mpr hkind]

/-- A read of the open epoch's groups: its cursor, if it has one, names that epoch. -/
theorem bodyLdgReadOpen_eq {c : Cmd} {s : State} {e : Epoch} (hmeter : (s.led.work.recOf (c.p 0x20 4)).isSome = true)
    (hopen : openEpoch s = some e) (hcursor : ∀ x, cursorOf c s = some x → x.epoch = e.num) : bodyLdgReadOpen c s =
      pageOut c e.num (((cursorOf c s).map (·.pos)).getD 0)
        ((e.groups.filter fun g => g.mh == some (c.p 0x20 4)).map Group.bytes) (putLe 4) true s := by
  obtain ⟨x, hx⟩ := Option.isSome_iff_exists.mp hmeter
  unfold bodyLdgReadOpen
  rw [hx, hopen]
  cases hcur : cursorOf c s with
  | some y => simp [hcursor y hcur]
  | none => rfl

theorem bodyBalReadFeeder_eq {c : Cmd} {s : State} (hspan : c.p 0x20 8 < c.p 0x28 8) : bodyBalReadFeeder c s =
    pagedRead c 0 (fun l => (l.minutesIn (c.p 0x20 8) (c.p 0x28 8)).map FeederMinute.bytes) (putLe 4) s := by
  simp [bodyBalReadFeeder, Nat.not_le.mpr hspan]

theorem bodyBalReadResult_eq {c : Cmd} {s : State} {n : Nat} {l : LState} {g : GroupDesc} {r : BalResult}
    (hread : readAt s 0 = some (n, l))
    (hgroup : ((l.tables.groups.now.map fun t => t.groups.any fun g => g.ref.group == c.p 0x20 4).getD false) = true)
    (hx : c.p 0x28 8 ≠ 0) (hg : l.groupAt (c.p 0x20 4) (c.p 0x28 8) = some g) (hslot : l.slotOf g.sec (c.p 0x28 8) = c.p 0x28 8)
    (hr : l.resultOf (c.p 0x20 4) (c.p 0x28 8) = some r) : bodyBalReadResult c s = okOut c n (putLe 1 r.status) r.bytes s := by
  unfold bodyBalReadResult
  rw [atEpoch_some hread]
  simp [hgroup, hx, hg, hslot, hr]

/-- Settles O6: what each body answers, as a page (`paged_answers`, `page_answers`) or whole (`runDcs_plain`). -/
theorem ledgerReadsAnswer : Obligations.LedgerReadsAnswer := by
  unfold Obligations.LedgerReadsAnswer
  refine ⟨?series, ?journal, ?groups, ?billing, ?feeder, ?rules, ?determinants, ?account, ?result, ?topology, ?time⟩
  case series =>
    intro c f s p n l es k h hmeter hspan hp hread hes hk
    exact ⟨_, rfl, paged_answers h rfl (bodyLdgReadSeries_eq (s := started f s) hmeter hspan) hp hread hes hk⟩
  case journal =>
    intro c f s p n l es k h hkind hp hread hes hk
    exact ⟨_, rfl, paged_answers h rfl (bodyLdgReadJournal_eq (s := started f s) hkind) hp hread hes hk⟩
  case groups =>
    intro c f s e es k h hmeter hopen hcursor hes hk
    exact ⟨_, rfl, page_answers h rfl (bodyLdgReadOpen_eq (s := started f s) hmeter hopen hcursor) hes hk⟩
  case billing =>
    intro c f s p n l es k h hp hread hes hk
    exact ⟨_, rfl, paged_answers h rfl rfl hp hread hes hk⟩
  case feeder =>
    intro c f s p n l es k h hspan hp hread hes hk
    exact ⟨_, rfl, paged_answers h rfl (bodyBalReadFeeder_eq hspan) hp hread hes hk⟩
  case rules => exact fun c f s n l h hread => ⟨_, rfl, runDcs_plain h rfl (atEpoch_some hread)⟩
  case determinants =>
    intro c f s n l i r b h hmeter hread hrec hb
    refine ⟨_, rfl, runDcs_plain h rfl ((onMeter_atEpoch hmeter hread).trans ?_)⟩
    simp only [hrec, hb]
    rfl
  case account =>
    intro c f s n l i r h hmeter hread hrec
    refine ⟨_, rfl, runDcs_plain h rfl ((onMeter_atEpoch hmeter hread).trans ?_)⟩
    simp only [hrec]
    rfl
  case result =>
    intro c f s n l g r h hread hgroup hx hg hslot hr
    exact ⟨_, rfl, runDcs_plain h rfl (bodyBalReadResult_eq hread hgroup hx hg hslot hr)⟩
  case topology =>
    intro c f s n l i r h hmeter hread hrec
    refine ⟨_, rfl, runDcs_plain h rfl ((onMeter_atEpoch hmeter hread).trans ?_)⟩
    simp only [hrec]
    rfl
  case time => exact fun c f s h => ⟨_, rfl, runDcs_plain h rfl rfl⟩

end Sys2Proof.LedgerReads
end

section
/-! PROOF. The tables loaded by commands (R42, R125, R144, R146, R147, R166, R172, R211, R269, R276): what each body answers, and that a
head's distribution only sends. -/

namespace Sys2Proof.TableLoads

open Sys2Proof Sys2Proof.Machine Sys2Proof.Safety Sys2Proof.Laws Sys2Proof.HostChanges Sys2Proof.MetersAndTables

/-! ## Changes that also send -/

/-- A changing command whose items may be read off the running state, and which beside the ledger only sends. -/
theorem sending_answers {op : Nat} {c : Cmd} {f : InFlight} {s : State} {body : Cmd → State → Answer} {items : State → List Item}
    {p : AuditPart} {d : Bytes} {e : State → State} (h : ready op c f s = true) (hop : (opRow op).isSome = true)
    (he : ∀ t, ∃ o, e t = { t with out := o })
    (hb : ∀ fl i k g o, body c (restarted fl i k g o s) =
      .change (items (restarted fl i k g o s)) p 0 d [] c.bufLen (e (restarted fl i k g o s)))
    (hu : takesGroups s = true) : Changes f (items (running op f s)) p d (e s) (runDcs op c body s) := by
  obtain ⟨fl, i, k, g, o, hrun⟩ := running_eq op f s
  obtain ⟨o₁, hsent⟩ := he (restarted fl i k g o s)
  obtain ⟨o₂, hsent'⟩ := he s
  have hbody : body c (running op f s) = .change (items (running op f s)) p 0 d [] c.bufLen (restarted fl i k g o₁ s) := by
    rw [hrun, hb, hsent]
    rfl
  rw [hsent']
  exact runDcs_sideChange (v := s) h hop hbody hu rfl rfl rfl rfl
    (fun hs => (congrArg State.twin hrun).symm.trans (running_standby op f s hs)) (restarted_still fl i k g o₁ s)

/-- Events sent one after the other to a list of heads. -/
theorem foldl_emit_out {α : Type} (g : α → Output) (l : List α) (s : State) :
    ∃ o, l.foldl (fun s u => emit (g u) s) s = { s with out := o } := by
  induction l generalizing s with
  | nil => exact ⟨_, rfl⟩
  | cons x xs ih => exact ih (emit (g x) s)

/-- A head's distribution only sends. -/
theorem distribute_out (c : Cmd) (s : State) : ∃ o, distribute c s = { s with out := o } := by
  unfold distribute
  split
  · exact ⟨_, rfl⟩
  · exact foldl_emit_out _ _ _

theorem id_out (s : State) : ∃ o, id s = { s with out := o } := ⟨_, rfl⟩

/-! ## The bodies -/

theorem loadTable_loads {c : Cmd} {s : State} {oldV : Nat} {oldRaw : Bytes} {mk : Nat → TableLoad} {extra : Nat → List Item}
    {effect : State → State} (h : loadable c oldV oldRaw = true) : loadTable c s oldV oldRaw (some mk) none extra effect =
      .change (.table (mk (nextVersion oldV)) :: extra (nextVersion oldV)) (tableAudit oldV oldRaw c.buf) 0
        (putLe 4 (nextVersion oldV)) [] c.bufLen (effect s) := by
  simp only [loadable, Bool.and_eq_true, Bool.or_eq_true, beq_iff_eq, bne_iff_ne] at h
  exact loadTable_changes h.1 h.2

theorem bodyValLoadRules_loads {c : Cmd} {s : State} {x : RuleTable} (hparse : parseRules c.buf = some x)
    (hload : loadable c s.led.work.tables.rules.version s.led.work.tables.rules.raw = true) : bodyValLoadRules c s =
      .change (.table (.rules (nextVersion s.led.work.tables.rules.version) c.buf x) :: atOnce .rules x.effective s)
        (tableAudit s.led.work.tables.rules.version s.led.work.tables.rules.raw c.buf) 0
        (putLe 4 (nextVersion s.led.work.tables.rules.version)) [] c.bufLen (distribute c s) := by
  unfold bodyValLoadRules
  rw [hparse]
  exact loadTable_loads hload

theorem bodyTrfLoadSchedule_loads {c : Cmd} {s : State} {x : TariffTable} (hparse : parseTariff s c.buf = some x)
    (hload : loadable c s.led.work.tables.tariff.version s.led.work.tables.tariff.raw = true) : bodyTrfLoadSchedule c s =
      .change (.table (.tariff (nextVersion s.led.work.tables.tariff.version) c.buf x) ::
          tariffLoadItems (.tariff (nextVersion s.led.work.tables.tariff.version) c.buf x) .tariff x.effective s)
        (tableAudit s.led.work.tables.tariff.version s.led.work.tables.tariff.raw c.buf) 0
        (putLe 4 (nextVersion s.led.work.tables.tariff.version)) [] c.bufLen (distribute c s) := by
  unfold bodyTrfLoadSchedule
  rw [hparse]
  exact loadTable_loads hload

theorem bodyTrfLoadCalendar_loads {c : Cmd} {s : State} {x : Calendar} (hparse : parseCalendar c.buf = some x)
    (hload : loadable c s.led.work.tables.calendar.version s.led.work.tables.calendar.raw = true) : bodyTrfLoadCalendar c s =
      .change (.table (.calendar (nextVersion s.led.work.tables.calendar.version) c.buf x) ::
          tariffLoadItems (.calendar (nextVersion s.led.work.tables.calendar.version) c.buf x) .calendar x.effective s)
        (tableAudit s.led.work.tables.calendar.version s.led.work.tables.calendar.raw c.buf) 0
        (putLe 4 (nextVersion s.led.work.tables.calendar.version)) [] c.bufLen (distribute c s) := by
  unfold bodyTrfLoadCalendar
  rw [hparse]
  exact loadTable_loads hload

/-- A table whose load changes nothing else, from its parser's answer. -/
theorem loadTable_alone {α : Type} {c : Cmd} {s : State} {oldV : Nat} {oldRaw : Bytes} {o : Option α} {x : α}
    {mk : α → Nat → TableLoad} {effect : State → State} (hparse : o = some x) (h : loadable c oldV oldRaw = true) :
    loadTable c s oldV oldRaw (o.map mk) none (fun _ => []) effect =
      .change [.table (mk x (nextVersion oldV))] (tableAudit oldV oldRaw c.buf) 0 (putLe 4 (nextVersion oldV)) [] c.bufLen
        (effect s) := by
  rw [hparse]
  exact loadTable_loads h

/-- Settles O7: each body is a load of a table in a good form (`loadTable_loads`), and what it does beside the ledger only sends. -/
theorem tableLoadsChange : Obligations.TableLoadsChange := by
  unfold Obligations.TableLoadsChange
  refine ⟨?rules, ?tariff, ?calendar, ?friendly, ?groups, ?zone, ?ptp, ?cal⟩
  case rules =>
    intro c f s x h hparse hload hu
    exact ⟨_, rfl, sending_answers (items := fun _ => _) h rfl (distribute_out c)
      (fun fl i k g o => bodyValLoadRules_loads (s := restarted fl i k g o s) hparse hload) hu⟩
  case tariff =>
    intro c f s x h hparse hload hu
    exact ⟨_, rfl, sending_answers (items := fun u => _ :: tariffLoadItems _ .tariff x.effective u) h rfl (distribute_out c)
      (fun fl i k g o => bodyTrfLoadSchedule_loads (s := restarted fl i k g o s) hparse hload) hu⟩
  case calendar =>
    intro c f s x h hparse hload hu
    exact ⟨_, rfl, sending_answers (items := fun u => _ :: tariffLoadItems _ .calendar x.effective u) h rfl (distribute_out c)
      (fun fl i k g o => bodyTrfLoadCalendar_loads (s := restarted fl i k g o s) hparse hload) hu⟩
  case friendly =>
    intro c f s x h hparse hload hu
    exact ⟨_, rfl, sending_answers (items := fun _ => _) h rfl (distribute_out c)
      (fun fl i k g o => loadTable_alone (s := restarted fl i k g o s) hparse hload) hu⟩
  case groups =>
    intro c f s x h hparse hload hu
    exact ⟨_, rfl, sending_answers (items := fun _ => _) h rfl (distribute_out c)
      (fun fl i k g o => loadTable_alone (s := restarted fl i k g o s) hparse hload) hu⟩
  case zone =>
    intro c f s x h hparse hload hu
    exact ⟨_, rfl, sending_answers (items := fun _ => _) h rfl id_out
      (fun fl i k g o => loadTable_alone (s := restarted fl i k g o s) hparse hload) hu⟩
  case ptp =>
    intro c f s x h hparse hload hu
    exact ⟨_, rfl, sending_answers (items := fun _ => _) h rfl id_out
      (fun fl i k g o => loadTable_alone (s := restarted fl i k g o s) hparse hload) hu⟩
  case cal =>
    intro c f s x h hparse hload hu
    exact ⟨_, rfl, sending_answers (items := fun _ => _) h rfl id_out
      (fun fl i k g o => loadTable_alone (s := restarted fl i k g o s) hparse hload) hu⟩

end Sys2Proof.TableLoads
end

section
/-! PROOF. Edits, revalidation, credit and the step of the clock by command (R136, R137, R165, R272, R273). -/

namespace Sys2Proof.ValuesAndClock

open Sys2Proof Sys2Proof.Machine Sys2Proof.Safety Sys2Proof.Laws Sys2Proof.HostChanges Sys2Proof.MetersAndTables Sys2Proof.TableLoads

/-- A command on an own meter with no session and good handle. -/
theorem onOwnMeter_of_ownIdle {c : Cmd} {s : State} {i : Nat} {r : Rec} {k : Nat → Rec → Answer} (h : ownIdle i r c s = true) :
    onOwnMeter c s k = k i r := by
  simp only [ownIdle, Bool.and_eq_true, beq_iff_eq, Bool.not_eq_true', Option.isNone_iff_eq_none] at h
  obtain ⟨⟨⟨hrec, hown⟩, hserves⟩, hidle⟩ := h
  exact onOwnMeter_idle hrec hown hserves hidle

/-- Work on a record starts alike whatever the position in the stream. -/
theorem startWork_running (i : Nat) (r : Rec) (rx : LTime) (op : Nat) (f : InFlight) (s : State) :
    startWork i r rx (running op f s) = startWork i r rx s :=
  running_of_restarted (P := fun u => startWork i r rx u = startWork i r rx s) fun _ _ _ _ _ => rfl

/-! ## The bodies -/

theorem bodyValEdit_changes {c : Cmd} {s : State} {i : Nat} {r : Rec} (h : ownIdle i r c s = true)
    (hgood : (startWork i r (now s) s).editBad (c.p 0x24 1) (c.p 0x25 1) (c.p 0x28 8) (c.pInt 0x30 8) = false) :
    bodyValEdit c s = changeParam c (some (recMh i r))
      (((startWork i r (now s) s).edit (c.p 0x24 1) (c.p 0x25 1) (c.p 0x28 8) (c.pInt 0x30 8)).corrected s).items [] s := by
  rw [bodyValEdit, onOwnMeter_of_ownIdle h]
  simp [hgood]

theorem bodyValRevalidate_changes {c : Cmd} {s : State} {i : Nat} {r : Rec} (h : ownIdle i r c s = true)
    (hspan : c.p 0x28 8 < c.p 0x30 8) : bodyValRevalidate c s = changeParam c (some (recMh i r))
      (((startWork i r (now s) s).revalidate (c.p 0x28 8) (c.p 0x30 8)).corrected s).items
      (putLe 4 ((startWork i r (now s) s).revalidate (c.p 0x28 8) (c.p 0x30 8)).net.length) s := by
  rw [bodyValRevalidate, onOwnMeter_of_ownIdle h]
  simp [hspan]

theorem bodyPpyCredit_changes {c : Cmd} {s : State} {i : Nat} {r : Rec} (h : ownIdle i r c s = true) (hprepay : r.prepay = true)
    (href : c.p 0x30 8 ≠ 0 → r.credit.references.contains (c.p 0x30 8) = false)
    (hfits : fits64 (r.credit.balance + c.pInt 0x28 8) = true) : bodyPpyCredit c s =
      .change ((startWork i r 0 s).onCredit (Credit.credited (c.pInt 0x28 8) (c.p 0x30 8) (now s))).judgeAccount.items
        ⟨0, false, false, some (recMh i r), 0, 0, putInt 8 r.credit.balance,
          putInt 8 (r.credit.balance + c.pInt 0x28 8) ++ putLe 8 (c.p 0x30 8)⟩ 0
        (putInt 8 (r.credit.balance + c.pInt 0x28 8)) [] c.bufLen s := by
  have hnew : (c.p 0x30 8 != 0 && r.credit.references.contains (c.p 0x30 8)) = false := by
    by_cases h0 : c.p 0x30 8 = 0
    · simp [h0]
    · simp only [href h0, Bool.and_false]
  rw [bodyPpyCredit, onOwnMeter_of_ownIdle h]
  simp only [hprepay, hnew, hfits, Bool.not_true, Bool.false_eq_true, if_false]

theorem bodyTimSet_changes {c : Cmd} {s : State} {d : Int} (hlocked : ptpLocked s = false) (hd : d = (c.p 0x20 8 : Int) - now s)
    (hne : d ≠ 0) : bodyTimSet c s = changeParam c none (stepItems d 2 (stepT d s)) (putInt 8 d) (stepT d s) := by
  subst hd
  unfold bodyTimSet
  simp [hlocked, hne]

/-! ## TIM_SET whole (R272, R274) -/

/-- Once the group has completed and T0 has moved by the step, what follows a step is done. -/
theorem opTimSet_stepped {c : Cmd} {s : State} {d : Int} (hd : d ≠ 0) (htb : (runDcs 0x0802 c bodyTimSet s).tb = (stepT d s).tb) :
    opTimSet c s = afterStep d (runDcs 0x0802 c bodyTimSet s) := by
  have ht0 : (runDcs 0x0802 c bodyTimSet s).tb.t0 = s.tb.t0 + d * 1000000000 := by rw [htb]; rfl
  have hmoved : ¬(runDcs 0x0802 c bodyTimSet s).tb.t0 = s.tb.t0 := by omega
  have hstep : ((runDcs 0x0802 c bodyTimSet s).tb.t0 - s.tb.t0) / 1000000000 = d := by omega
  unfold opTimSet
  dsimp only
  rw [if_neg hmoved, hstep]

/-- Settles O8: the bodies' answers, and for TIM_SET the step that its group brings (`opTimSet_stepped`). -/
theorem valuesAccountsAndClockChange : Obligations.ValuesAccountsAndClockChange := by
  unfold Obligations.ValuesAccountsAndClockChange
  refine ⟨?edit, ?revalidate, ?credit, ?clock⟩
  case edit =>
    rintro c f s i r w h hidle rfl hgood hu
    rw [startWork_running] at hgood ⊢
    exact ⟨_, rfl, sending_answers (e := id)
      (items := fun u => (((startWork i r (now s) s).edit (c.p 0x24 1) (c.p 0x25 1) (c.p 0x28 8) (c.pInt 0x30 8)).corrected u).items)
      h rfl id_out (fun fl j k g o => bodyValEdit_changes (s := restarted fl j k g o s) hidle hgood) hu⟩
  case revalidate =>
    rintro c f s i r w h hidle hspan rfl hu
    rw [startWork_running]
    exact ⟨_, rfl, sending_answers (e := id)
      (items := fun u => (((startWork i r (now s) s).revalidate (c.p 0x28 8) (c.p 0x30 8)).corrected u).items)
      h rfl id_out (fun fl j k g o => bodyValRevalidate_changes (s := restarted fl j k g o s) hidle hspan) hu⟩
  case credit =>
    rintro c f s i r w h hidle hprepay href hfits rfl hu
    rw [startWork_running]
    exact ⟨_, rfl, plain_answers h rfl (fun fl j k g o =>
      bodyPpyCredit_changes (s := restarted fl j k g o s) hidle hprepay href hfits) hu⟩
  case clock =>
    intro c f s d h hlocked hd hne hu
    have hchanges : Changes f (stepItems d 2 (stepT d s)) (auditParam c none) (putInt 8 d) (stepT d s) (runDcs 0x0802 c bodyTimSet s) :=
      change_answers h rfl ⟨fun _ _ _ _ _ => rfl, rfl⟩ (fun fl i k g o =>
        bodyTimSet_changes (s := restarted fl i k g o s) hlocked hd hne) hu
    obtain ⟨-, -, -, -, -, -, -, -, -, -, -, -, -, -, htb, -⟩ := id hchanges
    exact ⟨_, congrArg Host.Outcome.next (opTimSet_stepped hne htb), hchanges⟩

end Sys2Proof.ValuesAndClock
end

section
/-! PROOF. Commands that need an exchange (R84, R86, R162, R167, R170, R471): a session opens at once where field work may start. -/

namespace Sys2Proof.Exchanges

open Sys2Proof Sys2Proof.Machine Sys2Proof.Safety Sys2Proof.Laws Sys2Proof.HostChanges Sys2Proof.ValuesAndClock

/-- An exchange that collects nothing wants no interval data. -/
theorem bitOf_zero : bitOf 0 0 = false := by decide

/-- Field work opens its session where an exchange may start, a place is free and the command is in progress. -/
theorem startField_opens {c : Cmd} {i prio taken : Nat} {p : Purpose} {s : State} (hmay : mayExchange s = true)
    (hroom : s.meters.sessions.length < 1024) (htaken : (inflightOf s (c.ring, c.tag)).map (·.takenAt) = some taken)
    (hadmitted : bitOf p.what 0 = false ∨ inSalvage s = false) : startField c i p prio s =
      .wait (openSession (mkSession s i p prio (taken + secTicks (cmdDeadline c)) (some (c.ring, c.tag))) s) := by
  obtain ⟨f, hf, rfl⟩ := Option.map_eq_some_iff.mp htaken
  have hheld : heldCount s < 2 := by
    simp only [mayExchange, Bool.and_eq_true, decide_eq_true_eq] at hmay
    exact hmay.2
  have hsalvage : (inSalvage s && bitOf p.what 0) = false := by
    rcases hadmitted with h | h <;> simp [h]
  simp [startField, hf, Nat.not_le.mpr hheld, hsalvage, hmay, Nat.not_le.mpr hroom]

/-- The parts of `startable`. -/
theorem startable_iff {i : Nat} {r : Rec} {c : Cmd} {f : InFlight} {s : State} : startable i r c f s = true ↔
    ownIdle i r c s = true ∧ mayExchange s = true ∧ s.meters.sessions.length < 1024 ∧
      (inflightOf s (c.ring, c.tag)).map (·.takenAt) = some f.takenAt := by
  simp [startable, and_assoc]

theorem startField_of_startable {c : Cmd} {i prio : Nat} {r : Rec} {f : InFlight} {p : Purpose} {s : State}
    (h : startable i r c f s = true) (hadmitted : bitOf p.what 0 = false ∨ inSalvage s = false) : startField c i p prio s =
      .wait (openSession (mkSession s i p prio (f.takenAt + secTicks (cmdDeadline c)) (some (c.ring, c.tag))) s) := by
  obtain ⟨-, hmay, hroom, htaken⟩ := startable_iff.mp h
  exact startField_opens hmay hroom htaken hadmitted

/-- A command whose body waits has started and stays in progress. -/
theorem runDcs_wait {op : Nat} {c : Cmd} {f : InFlight} {s u : State} {body : Cmd → State → Answer} (h : ready op c f s = true)
    (hop : (opRow op).isSome = true) (hb : body c (running op f s) = .wait u) : runDcs op c body s = u := by
  rw [runDcs_ready h hop (by rw [hb]; simp), hb]
  rfl

/-- A session made in the running state is made as in the state before. -/
theorem mkSession_running (op : Nat) (f : InFlight) (s : State) (i : Nat) (p : Purpose) (prio deadline : Nat)
    (cmd : Option (Nat × Nat)) : mkSession (running op f s) i p prio deadline cmd = mkSession s i p prio deadline cmd :=
  running_of_restarted (P := fun u => mkSession u i p prio deadline cmd = mkSession s i p prio deadline cmd) fun _ _ _ _ _ => rfl

/-! ## The bodies -/

theorem bodyMtrReadNow_waits {c : Cmd} {i : Nat} {r : Rec} {f : InFlight} {s : State} (h : startable i r c f s = true)
    (hadmitted : bitOf (c.p 0x24 4) 0 = false ∨ inSalvage s = false) : bodyMtrReadNow c s =
      .wait (openSession (mkSession s i (.collect (c.p 0x24 4) (c.p 0x28 8)) 3 (f.takenAt + secTicks (cmdDeadline c))
        (some (c.ring, c.tag))) s) := by
  rw [bodyMtrReadNow, onOwnMeter_of_ownIdle (startable_iff.mp h).1]
  exact startField_of_startable h hadmitted

theorem bodyMtrDlms_waits {c : Cmd} {i : Nat} {r : Rec} {f : InFlight} {s : State} (h : startable i r c f s = true)
    (hservice : c.p 0x24 1 ≤ 2) : bodyMtrDlms c s = .wait (openSession (mkSession s i
      (.dlms (c.p 0x24 1) (c.pBytes 0x28 6) (c.p 0x25 1) (c.p 0x26 2)
        (if c.p 0x24 1 = 2 ∧ c.p 0x25 1 = 2 ∧ c.p 0x26 2 = 64 ∧ c.buf = [] then keyTransfer s i r else c.buf))
      sessionPriority (f.takenAt + secTicks (cmdDeadline c)) (some (c.ring, c.tag))) s) := by
  rw [bodyMtrDlms, if_neg (Nat.not_lt.mpr hservice), onOwnMeter_of_ownIdle (startable_iff.mp h).1]
  simp only [Bool.and_eq_true, beq_iff_eq, List.isEmpty_iff, and_assoc]
  exact startField_of_startable h (.inl bitOf_zero)

/-- A push of one meter is marked pending first (R162). -/
theorem bodyTrfPush_waits {c : Cmd} {i : Nat} {r : Rec} {f : InFlight} {s : State} (h : startable i r c f s = true)
    (hone : c.p 0x24 1 = 0) (hform : (residentForm s.led.work r.cls).isSome = true) (hmay : mayExchange (markPush i s) = true)
    (hroom : (markPush i s).meters.sessions.length < 1024)
    (htaken : (inflightOf (markPush i s) (c.ring, c.tag)).map (·.takenAt) = some f.takenAt) : bodyTrfPush c s =
      .wait (openSession (mkSession (markPush i s) i .push sessionPriority (f.takenAt + secTicks (cmdDeadline c))
        (some (c.ring, c.tag))) (markPush i s)) := by
  have hresident : (residentForm s.led.work r.cls).isNone = false := by rw [← Option.not_isSome, hform]; rfl
  unfold bodyTrfPush
  simp only [hone, gt_iff_lt, Nat.not_lt_zero, if_false, Nat.zero_ne_one]
  rw [onOwnMeter_of_ownIdle (startable_iff.mp h).1]
  simp only [hresident, Bool.false_eq_true, if_false, startField_of_startable (p := .push) h (.inl bitOf_zero)]
  exact startField_opens hmay hroom htaken (.inl bitOf_zero)

/-- A relay order is placed first (R170). -/
theorem relayCommand_waits {c : Cmd} {kind i : Nat} {k : OrderKind} {r : Rec} {f : InFlight} {s u : State} {w : Work}
    (h : startable i r c f s = true) (hrelay : r.hasRelay = true) (hkind : Machine.orderOf kind = some k) (hpos : kind ≠ 0)
    (hplaced : orderPlaced c s = false) (hdisc : r.place.relay ≠ .disconnecting) (hrec : r.place.relay ≠ .reconnecting)
    (htarget : atTarget kind r.place.relay = false) (hcredit : kind = 1 ∨ r.credit.state ≠ .exhausted)
    (hw : w = (startWork i r 0 s).order kind 1 c.tag) (hstill : atTarget kind w.r.place.relay = false)
    (hu : u = append w.items (some (recMh i r)) s) (hmay : mayExchange u = true) (hroom : u.meters.sessions.length < 1024)
    (htaken : (inflightOf u (c.ring, c.tag)).map (·.takenAt) = some f.takenAt) : relayCommand c kind s =
      .wait (openSession (mkSession u i (.relay k) 3 (f.takenAt + secTicks (cmdDeadline c)) (some (c.ring, c.tag))) u) := by
  have hhold : (kind != 1 && r.credit.state == .exhausted) = false := by
    rcases hcredit with h | h <;> simp [h]
  rw [relayCommand, onOwnMeter_of_ownIdle (startable_iff.mp h).1]
  simp only [hrelay, hpos, hplaced, beq_false_of_ne hdisc, beq_false_of_ne hrec, htarget, hhold, Bool.not_true, decide_false,
    Bool.or_self, Bool.false_eq_true, if_false, ← hw, hstill, hkind, startField_of_startable (p := .relay k) h (.inl bitOf_zero), ← hu]
  exact startField_opens hmay hroom htaken (.inl bitOf_zero)

/-- Settles O4: each body waits with its session open, and the run leaves what the body left (`runDcs_wait`). -/
theorem exchangesStart : Obligations.ExchangesStart := by
  unfold Obligations.ExchangesStart
  refine ⟨?readNow, ?dlms, ?push, ?disconnect, ?reconnect⟩
  case readNow =>
    intro c f s i r h hstart hadmitted
    rw [← mkSession_running 0x0206 f]
    exact congrArg Host.Outcome.next (runDcs_wait h rfl (bodyMtrReadNow_waits hstart
      (hadmitted.imp_right fun hs => by rwa [inSalvage, running_store])))
  case dlms =>
    rintro c f s i r data h hstart hservice rfl
    rw [← mkSession_running 0x0207 f]
    exact congrArg Host.Outcome.next (runDcs_wait h rfl (bodyMtrDlms_waits hstart hservice))
  case push =>
    rintro c f s i r u h hstart hone hform rfl hmay hroom htaken
    exact congrArg Host.Outcome.next (runDcs_wait h rfl (bodyTrfPush_waits hstart hone (by rwa [running_led]) hmay hroom htaken))
  case disconnect =>
    intro c f s i r w u h hstart hrelay hplaced hdisc hrec htarget hw hstill hu hmay hroom htaken
    exact congrArg Host.Outcome.next (runDcs_wait h rfl (relayCommand_waits hstart hrelay rfl (by decide)
      (by rwa [orderPlaced, running_led]) hdisc hrec htarget (.inl rfl) hw hstill hu hmay hroom htaken))
  case reconnect =>
    intro c f s i r w u h hstart hrelay hmode hplaced hdisc hrec htarget hcredit hw hstill hu hmay hroom htaken
    have hbody : bodyPpyReconnect c (running 0x0605 f s) = relayCommand c 3 (running 0x0605 f s) := by
      simp [bodyPpyReconnect, hmode]
    exact congrArg Host.Outcome.next (runDcs_wait h rfl (hbody.trans (relayCommand_waits hstart hrelay rfl (by decide)
      (by rwa [orderPlaced, running_led]) hdisc hrec htarget (.inr hcredit) hw hstill hu hmay hroom htaken)))

end Sys2Proof.Exchanges
end

section
/-! PROOF. The front-panel and self-test commands (R424, R425, R429, R438, R440, R443, R444, R446). -/

namespace Sys2Proof.PanelCommands

open Sys2Proof Sys2Proof.Machine Sys2Proof.Safety Sys2Proof.Laws Sys2Proof.LedgerFrame Sys2Proof.HostChanges
  Sys2Proof.MetersAndTables Sys2Proof.Exchanges

/-! ## Commands that append their audit record and wait -/

/-- A changing command that beside the ledger leaves `v` and may send. -/
theorem sends_answers {op : Nat} {c : Cmd} {f : InFlight} {s v : State} {body : Cmd → State → Answer} {items : List Item}
    {p : AuditPart} {d : Bytes} (h : ready op c f s = true) (hop : (opRow op).isSome = true) (htwin : v.twin = s.twin)
    (hb : ∀ fl i k g o, ∃ o', body c (restarted fl i k g o s) = .change items p 0 d [] c.bufLen (restarted fl i k g o' v))
    (hu : takesGroups v = true) : Changes f items p d v (runDcs op c body s) := by
  obtain ⟨fl, i, k, g, o, hrun⟩ := running_eq op f s
  obtain ⟨o', hbody⟩ := hb fl i k g o
  have hbody' : body c (running op f s) = .change items p 0 d [] c.bufLen (restarted fl i k g o' v) := by rw [hrun, hbody]
  refine runDcs_sideChange (v := v) h hop hbody' hu rfl rfl rfl rfl (fun hstandby => ?_) (restarted_still fl i k g o' v)
  have hs : isStandby s = true := by rwa [isStandby, htwin] at hstandby
  have hstand := running_standby op f s hs
  rw [hrun] at hstand
  calc (restarted fl i k g o' v).twin = (restarted fl i k g o s).twin := by simp only [restarted, htwin]
    _ = v.twin := hstand.trans htwin.symm

/-- The ledger refuses no audit record while it takes groups. -/
theorem appendRefusal_none {items : List Item} {s : State} (h : takesGroups s = true) : appendRefusal items s = none := by
  simp only [takesGroups, Bool.and_eq_true, decide_eq_true_eq, Bool.not_eq_true'] at h
  simp [appendRefusal, Nat.not_le.mpr h.1, h.2]

/-- A command that appends its audit record and waits: what follows acts on a state that differs in no unit. -/
theorem appendNow_waits {c : Cmd} {s : State} {k : Nat → State → State} (hfly : (inflightOf s (c.ring, c.tag)).isSome = true)
    (hu : takesGroups s = true) : ∃ t, appendNow c s k = .wait (k (openNum s) t) ∧ Grows s t := by
  obtain ⟨f, hf⟩ := Option.isSome_iff_exists.mp hfly
  refine ⟨limitClose (addGroup [.audit (auditOf s f (auditParam c none) 0)] none true false s), ?_,
    grows_trans (grows_addGroup _ _ _ _ _) (grows_limitClose _)⟩
  unfold appendNow
  rw [hf]
  simp only [appendRefusal_none hu]

/-- A command in progress still is when it has started. -/
theorem inflightOf_running {op : Nat} {f : InFlight} {s : State} {key : Nat × Nat} (h : (inflightOf s key).isSome = true) :
    (inflightOf (running op f s) key).isSome = true := by
  have hfly : (running op f s).inflight = (started f s).inflight := by
    unfold running
    split
    · exact newInput_inflight 4 _
    · rfl
  simp only [inflightOf, List.find?_isSome, ← List.any_eq_true, hfly, started] at h ⊢
  exact (any_modifyFirst (f := fun g : InFlight => { g with started := true }) _ _ (fun _ => rfl) _).trans h

/-- A command that waits after its audit record: the units of the state on which the rest acts are those of the state before. -/
theorem runDcs_appendNow {op : Nat} {c : Cmd} {f : InFlight} {s : State} {body : Cmd → State → Answer} {k : Nat → State → State}
    (h : ready op c f s = true) (hop : (opRow op).isSome = true) (hb : body c (running op f s) = appendNow c (running op f s) k)
    (hfly : (inflightOf s (c.ring, c.tag)).isSome = true) (hu : takesGroups s = true) :
    ∃ t, runDcs op c body s = k (openNum s) t ∧ Still s t := by
  obtain ⟨t, hwait, hgrows⟩ := appendNow_waits (k := k) (inflightOf_running (op := op) (f := f) hfly)
    ((takesGroups_of (running_led _ _ _) (running_store _ _ _)).trans hu)
  have hopen : openNum (running op f s) = openNum s := running_of_restarted (P := fun u => openNum u = openNum s) fun _ _ _ _ _ => rfl
  have hstill : Still s (running op f s) := running_of_restarted (restarted_still · · · · · s)
  exact ⟨t, (runDcs_wait h hop (hb.trans hwait)).trans (by rw [hopen]), still_trans hstill hgrows.1⟩

/-! ## The bodies -/

theorem bodyPnlOled_eq {c : Cmd} {s : State} (hnew : (s.panel.writes.any fun p => p.cmd == (c.ring, c.tag)) = false)
    (hlen : c.buf.length = c.p 0x22 1 * c.p 0x23 1) (hw : c.p 0x22 1 ≠ 0) (hh : c.p 0x23 1 ≠ 0)
    (hx : c.p 0x20 1 + c.p 0x22 1 ≤ s.panel.columns) (hy : c.p 0x21 1 + c.p 0x23 1 ≤ s.panel.rows)
    (hpix : (c.buf.all fun b => decide (b.toNat < 16)) = true) : bodyPnlOled c s = appendNow c s fun n s =>
      onPanel (fun p => { p with writes := p.writes ++
        [⟨c.p 0x20 1, c.p 0x21 1, c.p 0x22 1, c.p 0x23 1, c.buf, (c.ring, c.tag), n⟩] }) s := by
  have hcolumns : s.panel.columns ≠ 0 := by omega
  unfold bodyPnlOled
  simp [hnew, hlen, hw, hh, Nat.not_lt.mpr hx, Nat.not_lt.mpr hy, hcolumns, hpix]

/-- The channels' drives are sent only. -/
theorem emitChannels_out (before after : List Annunciator) (s : State) : ∃ o, emitChannels before after s = { s with out := o } := by
  unfold emitChannels
  generalize (before.zip after).zipIdx = l
  induction l generalizing s with
  | nil => exact ⟨_, rfl⟩
  | cons x xs ih =>
    rw [List.foldl_cons]
    split
    · exact ih (emit _ s)
    · exact ih s

/-- A channel whose state a command sets. -/
def channelSet (n st : Nat) (w : List (Nat × Nat × Nat)) (s : State) : State :=
  onChannel n (fun a => { a with state := st, phaseOn := blinkOn s st, waiting := w }) s

theorem channelSet_panel {n st : Nat} {w : List (Nat × Nat × Nat)} {s : State} {a : Annunciator} (h : s.panel.anns[n]? = some a) :
    ((channelSet n st w s).panel.anns[n]?).map (·.state) = some st ∧
      (channelSet n st w s).panel.anns.length = s.panel.anns.length ∧
      (channelSet n st w s).panel.placard = s.panel.placard := by
  refine ⟨?_, ?_, rfl⟩
  · simp [channelSet, onChannel, onPanel, h]
  · simp [channelSet, onChannel, onPanel]

/-- What a set channel leaves, however the completion and the outputs go on. -/
theorem annunciator_set {n st : Nat} {w : List (Nat × Nat × Nat)} {s u t : State} {a : Annunciator} (h : s.panel.anns[n]? = some a)
    (hu : Still s u) (ht : Still (channelSet n st w u) t) : (t.panel.anns[n]?).map (·.state) = some st ∧
      t.panel.anns.length = s.panel.anns.length ∧ t.panel.placard = s.panel.placard ∧ t.keys = s.keys ∧
      t.store = s.store ∧ t.meters = s.meters ∧ t.keeper = s.keeper ∧ t.tb = s.tb := by
  obtain ⟨-, -, -, -, -, -, hmeters, -, -, -, -, -, htb, -, hkeys, hstore, -, hkeeper, -, -, hpanel, -⟩ := hu
  obtain ⟨-, -, -, -, -, -, hmeters', -, -, -, -, -, htb', -, hkeys', hstore', -, hkeeper', -, -, hpanel', -⟩ := ht
  obtain ⟨hstate, hlen, hplacard⟩ := channelSet_panel (st := st) (w := w) (s := u) (by rw [hpanel]; exact h)
  rw [hpanel']
  exact ⟨hstate, hlen.trans (by rw [hpanel]), hplacard.trans (by rw [hpanel]), hkeys'.trans hkeys, hstore'.trans hstore,
    hmeters'.trans hmeters, hkeeper'.trans hkeeper, htb'.trans htb⟩

/-- PNL_ANNUNCIATOR: a standby completes at once, an active once the channel has been measured. -/
theorem bodyPnlAnnunciator_eq {c : Cmd} {s : State} {a : Annunciator} (ha : s.panel.anns[c.p 0x20 1]? = some a)
    (hst : c.p 0x21 1 ≤ 3) (hidle : a.waiting = []) (hnew : c.p 0x21 1 ≠ a.state) : bodyPnlAnnunciator c s =
      if isStandby s then changeParam c none [] (putLe 1 a.readback)
        (emitChannels s.panel.anns (channelSet (c.p 0x20 1) (c.p 0x21 1) [] s).panel.anns
          (channelSet (c.p 0x20 1) (c.p 0x21 1) [] s))
      else appendNow c s fun e s => emitChannels s.panel.anns
        (channelSet (c.p 0x20 1) (c.p 0x21 1) [(c.ring, c.tag, e)] s).panel.anns
        (channelSet (c.p 0x20 1) (c.p 0x21 1) [(c.ring, c.tag, e)] s) := by
  unfold bodyPnlAnnunciator
  simp only [ha, gt_iff_lt, Nat.not_lt.mpr hst, hidle, List.isEmpty_nil, Bool.not_true, Bool.false_eq_true, if_false, hnew]
  rfl

theorem bodyPnlPlacard_changes {c : Cmd} {s : State} (hlen : c.buf.length = 16) (hlow : leNat c.buf % 2 ^ 28 = 0)
    (hhigh : leNat c.buf < 2 ^ 112) (hfitted : s.panel.placard.fitted = true) (hactive : isStandby s = false)
    (hnew : imageOf c.buf ≠ s.panel.placard.wanted &&& hostMask) : bodyPnlPlacard c s = changeParam c none [] []
      (onPlacard (Placard.request hostMask (imageOf c.buf)) (onPanel (fun p => { p with hostImage := imageOf c.buf }) s)) := by
  have hactive' : isStandby (onPanel (fun p => { p with hostImage := imageOf c.buf }) s) = false := hactive
  have hgood : ((leNat c.buf % 2 ^ 28 != 0 || decide (leNat c.buf ≥ 2 ^ 112)) || !s.panel.placard.fitted) = false := by
    simp only [hlow, bne_self_eq_false, ge_iff_le, Nat.not_le.mpr hhigh, decide_false, hfitted, Bool.not_true, Bool.or_self]
  unfold bodyPnlPlacard
  dsimp only
  rw [if_neg (by simp [hlen]), if_neg (by rw [hgood]; simp), hactive, hactive']
  simp [hnew]

theorem bodyTstRun_changes {c : Cmd} {s : State} (hmask : c.p 0x20 4 ≠ 0) (hlisted : maskListed (c.p 0x20 4) = true)
    (hroom : s.selfTest.queue.length < 4) (hdips : degradedByDips s = false) (hfree : arbitrating s = false) : bodyTstRun c s =
      changeParam c none [] (putLe 4 (newRun false (c.p 0x20 4) s).id) (onTest (fun t => { t with
        nextId := t.nextId + 1
        queue := t.queue ++ [newRun false (c.p 0x20 4) s] }) s) := by
  unfold bodyTstRun
  simp [hmask, hlisted, Nat.not_le.mpr hroom, hdips, hfree]

/-- Settles O11: what each body answers; the two that wait keep every unit beside the panel (`appendNow_waits`). -/
theorem panelAndTestCommandsComplete : Obligations.PanelAndTestCommandsComplete := by
  unfold Obligations.PanelAndTestCommandsComplete
  refine ⟨?oled, ?annunciator, ?placard, ?status, ?run, ?result, ?counters⟩
  case oled =>
    intro c f s h hnew hlen hw hh hx hy hpix hfly hu
    obtain ⟨t, hrun, hstill⟩ := runDcs_appendNow h rfl (bodyPnlOled_eq (s := running 0x0D01 f s) (by rwa [running_panel]) hlen hw hh
      (by rwa [running_panel]) (by rwa [running_panel]) hpix) hfly hu
    obtain ⟨-, -, -, -, -, -, hmeters, -, -, -, -, -, htb, -, hkeys, hstore, -, hkeeper, -, -, hpanel, -⟩ := hstill
    refine ⟨_, rfl, ?_⟩
    rw [hrun, ← hpanel]
    exact ⟨rfl, hkeys, hstore, hmeters, hkeeper, htb⟩
  case annunciator =>
    intro c f s a h ha hst hidle hnew hfly hu
    refine ⟨_, rfl, ?_⟩
    cases hrole : isStandby s with
    | true =>
      have hchanges : Changes f [] (auditParam c none) (putLe 1 a.readback) (channelSet (c.p 0x20 1) (c.p 0x21 1) [] s)
          (runDcs 0x0D02 c bodyPnlAnnunciator s) := by
        refine sends_answers h rfl rfl (fun fl i k g o => ?_) hu
        have hstandby : isStandby (restarted fl i k g o s) = true := hrole
        obtain ⟨o', hsent⟩ := emitChannels_out s.panel.anns (channelSet (c.p 0x20 1) (c.p 0x21 1) [] (restarted fl i k g o s)).panel.anns
          (channelSet (c.p 0x20 1) (c.p 0x21 1) [] (restarted fl i k g o s))
        refine ⟨o', ?_⟩
        rw [bodyPnlAnnunciator_eq (s := restarted fl i k g o s) ha hst hidle hnew, hstandby, if_pos rfl]
        exact congrArg (changeParam c none [] (putLe 1 a.readback)) hsent
      exact annunciator_set ha (still_refl s) hchanges.2.2
    | false =>
      have hactive : isStandby (running 0x0D02 f s) = false :=
        running_of_restarted (P := fun u => isStandby u = false) fun _ _ _ _ _ => hrole
      have hbody := bodyPnlAnnunciator_eq (s := running 0x0D02 f s) (by rwa [running_panel]) hst hidle hnew
      rw [hactive, if_neg (by simp)] at hbody
      obtain ⟨t, hrun, hstill⟩ := runDcs_appendNow h rfl hbody hfly hu
      rw [hrun]
      obtain ⟨o, hsent⟩ := emitChannels_out t.panel.anns (channelSet (c.p 0x20 1) (c.p 0x21 1) [(c.ring, c.tag, openNum s)] t).panel.anns
        (channelSet (c.p 0x20 1) (c.p 0x21 1) [(c.ring, c.tag, openNum s)] t)
      rw [hsent]
      exact annunciator_set ha hstill (still_refl _)
  case placard =>
    rintro c f s v h rfl hlen hlow hhigh hfitted hactive hnew hu
    exact ⟨_, rfl, change_answers (e := fun u => onPlacard (Placard.request hostMask (imageOf c.buf))
      (onPanel (fun p => { p with hostImage := imageOf c.buf }) u)) h rfl ⟨fun _ _ _ _ _ => rfl, rfl⟩ (fun fl i k g o =>
      bodyPnlPlacard_changes (s := restarted fl i k g o s) hlen hlow hhigh hfitted hactive hnew) hu⟩
  case status => exact fun c f s h => ⟨_, rfl, runDcs_plain h rfl rfl⟩
  case run =>
    intro c f s h hmask hlisted hroom hdips hfree hu
    exact ⟨_, rfl, change_answers (e := fun u => onTest (fun t => { t with
      nextId := t.nextId + 1
      queue := t.queue ++ [newRun false (c.p 0x20 4) u] }) u) h rfl ⟨fun _ _ _ _ _ => rfl, rfl⟩ (fun fl i k g o =>
      bodyTstRun_changes (s := restarted fl i k g o s) hmask hlisted hroom hdips hfree) hu⟩
  case result =>
    intro c f s r h hr
    refine ⟨_, rfl, runDcs_plain h rfl ?_⟩
    have hfound : ((started f s).selfTest.finished.find? fun r => r.id == c.p 0x20 4) = some r := hr
    rw [bodyTstResult, hfound]
    rfl
  case counters => exact fun c f s h => ⟨_, rfl, runDcs_plain h rfl rfl⟩

end Sys2Proof.PanelCommands
end

section
/-! PROOF. What an append group, an event and a close leave (R22, R46, R97, R349): every unit outside the ledger, the host's and the head's
side, the stream's position, the owed events and the count of refused groups. -/

namespace Sys2Proof.AppendFrame

open Sys2Proof Sys2Proof.Machine Sys2Proof.Safety Sys2Proof.Laws Sys2Proof.LedgerFrame

/-- All that appending may move. -/
def appended (n : Nat) (l : Ledger) (i k g : Nat) (b : Bar0) (r : List Remote) (u : UploadSub) (o : List Output) (w : List EvRec)
    (c : Nat) (s : State) : State :=
  { s with
    fresh := n, led := l, twin := { s.twin with inputSeq := i, curSeq := k, groupIndex := g }, bar0 := b, remotes := r,
    uploadSub := u, out := o, boot := { s.boot with owed := w }, counters := { s.counters with refusedGroups := c } }

/-- A state that differs from another by appending only. -/
def Appends (s t : State) : Prop := ∃ n l i k g b r u o w c, t = appended n l i k g b r u o w c s

theorem appends_refl (s : State) : Appends s s := ⟨_, _, _, _, _, _, _, _, _, _, _, rfl⟩

theorem appends_trans {s t u : State} (h : Appends s t) (k : Appends t u) : Appends s u := by
  obtain ⟨_, _, _, _, _, _, _, _, _, _, _, rfl⟩ := h
  obtain ⟨_, _, _, _, _, _, _, _, _, _, _, rfl⟩ := k
  exact ⟨_, _, _, _, _, _, _, _, _, _, _, rfl⟩

/-- What touches no unit and no command in progress has only appended. -/
theorem appends_of_still {s t : State} (h : Still s t) (hfly : t.inflight = s.inflight) : Appends s t := by
  obtain ⟨h1, h2, h3, h4, h5, h6, h7, h8, h9, h10, h11, h12, h13, h14, h15, h16, h17, h18, h19, h20, h21, h22, h23, h24, h25, h26⟩ := h
  refine ⟨t.fresh, t.led, t.twin.inputSeq, t.twin.curSeq, t.twin.groupIndex, t.bar0, t.remotes, t.uploadSub, t.out, t.boot.owed,
    t.counters.refusedGroups, ?_⟩
  cases s
  cases t
  simp only at *
  subst_vars
  simp only [appended, ← h26]

theorem appends_newInput (k : Nat) (s : State) : Appends s (newInput k s) := by
  obtain ⟨i, c, g, o, h⟩ := newInput_eq k s
  exact ⟨_, _, i, c, g, _, _, _, o, _, _, h⟩

theorem appends_emit (o : Output) (s : State) : Appends s (emit o s) := ⟨_, _, _, _, _, _, _, _, _, _, _, rfl⟩

theorem appends_addGroup (items : List Item) (mh : Option Nat) (c b : Bool) (s : State) : Appends s (addGroup items mh c b s) :=
  appends_of_still (grows_addGroup items mh c b s).1 (addGroup_work items mh c b s).2

theorem appends_limitClose (s : State) : Appends s (limitClose s) :=
  appends_of_still (grows_limitClose s).1 (limitClose_keeps s).2

theorem appends_append (items : List Item) (mh : Option Nat) (s : State) : Appends s (append items mh s) := by
  unfold append
  split
  · exact ⟨_, _, _, _, _, _, _, _, _, _, _, rfl⟩
  · split
    · exact ⟨_, _, _, _, _, _, _, _, _, _, _, rfl⟩
    · exact appends_trans (appends_addGroup _ _ _ _ s) (appends_limitClose _)

theorem appends_raiseEv (e : EvRec) (s : State) : Appends s (raiseEv e s) := appends_append _ _ s

theorem appends_raise (code : Nat) (data : Bytes) (s : State) : Appends s (raise code data s) := appends_raiseEv _ s

theorem appends_raiseHw (code : Nat) (data : Bytes) (s : State) : Appends s (raiseHw code data s) := by
  unfold raiseHw
  split
  · exact appends_emit _ s
  · exact appends_trans (appends_newInput 8 s) (appends_raise _ _ _)

/-- A reading of the state that no append moves is the same afterwards. -/
theorem reads_of_appends {α : Type} {g : State → α} (hg : ∀ n l i k x b r u o w c s, g (appended n l i k x b r u o w c s) = g s)
    {s t : State} (h : Appends s t) : g t = g s := by
  obtain ⟨n, l, i, k, x, b, r, u, o, w, c, rfl⟩ := h
  exact hg n l i k x b r u o w c s

end Sys2Proof.AppendFrame
end

section
/-! PROOF. Fetching, interrupts, and the host's and the remote sessions' coming and going (R31, R33, R38, R48 to R52, R90, R106, R393). -/

namespace Sys2Proof.HostComings

open Sys2Proof Sys2Proof.Machine Sys2Proof.Safety Sys2Proof.Laws Sys2Proof.AppendFrame

/-! ## Stopping the host's rings (R52) -/

theorem ringOf_onRing (m n : Nat) (f : Ring → Ring) (s : State) :
    ringOf (onRing m f s) n = if n = m ∧ n < s.bar0.rings.length then f (ringOf s n) else ringOf s n := by
  simp only [ringOf, onRing, List.getD_eq_getElem?_getD, List.getElem?_modify]
  by_cases hm : m = n
  · subst hm
    by_cases hlen : m < s.bar0.rings.length
    · simp [hlen]
    · simp [hlen]
  · simp [hm, Ne.symm hm]

/-- A stopped ring is disabled, and no stop changes which rings are remote or enables one. -/
theorem stopRing_ring (m n : Nat) (s : State) : (ringOf (stopRing m s) n).remote = (ringOf s n).remote ∧
    ((ringOf s n).enable = false ∨ m = n → (ringOf (stopRing m s) n).enable = false) := by
  have hring : ringOf (stopRing m s) n = ringOf (onRing m Ring.disabled s) n := rfl
  rw [hring, ringOf_onRing]
  split
  · exact ⟨rfl, fun _ => rfl⟩
  next hout =>
    refine ⟨rfl, fun h => h.elim id fun hmn => ?_⟩
    have hlen : s.bar0.rings.length ≤ n := Nat.le_of_not_lt fun hlt => hout ⟨hmn.symm, hlt⟩
    simp only [ringOf, List.getD_eq_default _ _ hlen]
    rfl

/-- The rings of a list stopped where they are the host's. -/
def stopRings (l : List Nat) (s : State) : State := l.foldl (fun a n => if (ringOf a n).remote then a else stopRing n a) s

theorem stopRings_ring (l : List Nat) (n : Nat) (s : State) (hhost : (ringOf s n).remote = false)
    (h : (ringOf s n).enable = false ∨ n ∈ l) : (ringOf (stopRings l s) n).enable = false := by
  induction l generalizing s with
  | nil => exact h.resolve_right (by simp)
  | cons m l ih =>
    rw [stopRings, List.foldl_cons]
    split
    next hm =>
      refine ih s hhost (h.imp_right fun hn => (List.mem_cons.mp hn).resolve_left fun hnm => ?_)
      rw [← hnm, hhost] at hm
      cases hm
    next =>
      obtain ⟨hremote, hstop⟩ := stopRing_ring m n s
      refine ih (stopRing m s) (hremote.trans hhost) ?_
      rcases h with hoff | hn
      · exact .inl (hstop (.inl hoff))
      · exact (List.mem_cons.mp hn).imp (fun hnm => hstop (.inr hnm.symm)) id

theorem stopRings_eq (l : List Nat) (s : State) : ∃ b fl, stopRings l s = { s with bar0 := b, inflight := fl } := by
  induction l generalizing s with
  | nil => exact ⟨_, _, rfl⟩
  | cons m l ih =>
    rw [stopRings, List.foldl_cons]
    split
    · exact ih s
    · obtain ⟨b, fl, h⟩ := ih (stopRing m s)
      exact ⟨b, fl, h⟩

/-- The host's side is left with its rings stopped, not attached and without event ring. -/
theorem stopHost_stopRings (s : State) : stopHost s = { stopRings (List.range 16) s with
    bar0 := { (stopRings (List.range 16) s).bar0 with attached := false, ev := (stopRings (List.range 16) s).bar0.ev.disabled } } := by
  unfold stopHost stopRings
  rfl

theorem stopHost_eq (s : State) : ∃ b fl, stopHost s = { s with bar0 := b, inflight := fl } := by
  obtain ⟨b, fl, h⟩ := stopRings_eq (List.range 16) s
  rw [stopHost_stopRings, h]
  exact ⟨_, _, rfl⟩

/-- A stop of the host ends its attachment and its event ring, and disables every ring of the host. -/
theorem stopHost_leaves (s : State) : (stopHost s).bar0.attached = false ∧ (stopHost s).bar0.ev.enable = false ∧
    ∀ n, n < 16 → (ringOf s n).remote = false → (ringOf (stopHost s) n).enable = false := by
  have hstop : ∀ n, n < 16 → (ringOf s n).remote = false → (ringOf (stopRings (List.range 16) s) n).enable = false :=
    fun n hn hhost => stopRings_ring (List.range 16) n s hhost (.inr (List.mem_range.mpr hn))
  rw [stopHost_stopRings]
  generalize stopRings (List.range 16) s = u at hstop
  exact ⟨rfl, rfl, hstop⟩

/-- The end of the host's attachment on a hot reset (R393). -/
def hostGone (s : State) : State := if s.bar0.linkUp then detach 1 s else stopHost s

/-- A reading of the state that neither BAR0, commands in progress nor appending move stands when the host goes. -/
theorem hostGone_reads {α : Type} {g : State → α} (hg : ∀ n l i k x b r u o w c s, g (appended n l i k x b r u o w c s) = g s)
    (hstop : ∀ b fl s, g { s with bar0 := b, inflight := fl } = g s) (s : State) : g (hostGone s) = g s := by
  have hstopped : g (stopHost s) = g s := by
    obtain ⟨b, fl, h⟩ := stopHost_eq s
    rw [h, hstop]
  unfold hostGone
  split
  · exact (reads_of_appends hg (appends_raise _ _ _)).trans hstopped
  · exact hstopped

/-- A hot reset, once the host is gone: BAR0 at its reset values and an entry in the boot journal. -/
theorem opPcieHotReset_eq (s : State) : ∃ rings ev minor, opPcieHotReset s = note 0x04 [0x0D] { hostGone s with
    bar0 := { Bar0.reset with dcsMinor := minor, rings := rings, ev := { EvRing.reset with lostSep := ev } } } := ⟨_, _, _, rfl⟩

theorem opPcieHotReset_leaves (s : State) : (opPcieHotReset s).bar0.err = 0 ∧ (opPcieHotReset s).bar0.attached = false ∧
    (opPcieHotReset s).bar0.ev.enable = false ∧ (opPcieHotReset s).bar0.linkUp = false ∧
    (opPcieHotReset s).meters = s.meters ∧ (opPcieHotReset s).keys = s.keys ∧ (opPcieHotReset s).store = s.store := by
  obtain ⟨rings, ev, minor, h⟩ := opPcieHotReset_eq s
  rw [h]
  exact ⟨rfl, rfl, rfl, rfl, hostGone_reads (g := State.meters) (fun _ _ _ _ _ _ _ _ _ _ _ _ => rfl) (fun _ _ _ => rfl) s,
    hostGone_reads (g := State.keys) (fun _ _ _ _ _ _ _ _ _ _ _ _ => rfl) (fun _ _ _ => rfl) s,
    hostGone_reads (g := State.store) (fun _ _ _ _ _ _ _ _ _ _ _ _ => rfl) (fun _ _ _ => rfl) s⟩

/-! ## Remote sessions (R48 to R50) -/

/-- A COMMAND message of the stated length is taken on the session's ring. -/
theorem opAnyMessage_command {s : State} {i : Nat} {r : Remote} {h b : Bytes} (hi : i < uploadSession)
    (hr : (s.remotes.find? fun r => r.id == i) = some r) (hlen : h.length = 8) (hzero : zeroAt h 1 3 = true)
    (hsize : le h 4 4 = b.length) (htype : le h 0 1 = 1)
    (hbody : b.length = 64 + (if bitOf (le (b.take 64) 2 1) 2 then 0 else le (b.take 64) 0x18 4)) :
    opAnyMessage i h b s = takeFrame r.ring (b.take 64) (b.drop 64) true .remote (some i) (touchRemote i s) := by
  have hgood : (h.length != 8 || !zeroAt h 1 3 || le h 4 4 != b.length || decide (le h 0 1 = 0) || decide (le h 0 1 > 4)) = false := by
    simp [hlen, hzero, hsize, htype]
  unfold opAnyMessage opRemoteMessage
  rw [if_pos hi, hr]
  dsimp only
  rw [if_neg (by simpa using hgood), if_pos htype, if_neg (by simp only [bne_iff_ne, ne_eq, not_not]; exact hbody)]

/-- A message that does not hold to its header closes the session. -/
theorem opAnyMessage_bad {s : State} {i : Nat} {r : Remote} {h b : Bytes} (hi : i < uploadSession)
    (hr : (s.remotes.find? fun r => r.id == i) = some r)
    (hbad : h.length ≠ 8 ∨ zeroAt h 1 3 = false ∨ le h 4 4 ≠ b.length ∨ le h 0 1 = 0 ∨ 4 < le h 0 1) :
    opAnyMessage i h b s = closeRemote i 1 (touchRemote i s) := by
  unfold opAnyMessage opRemoteMessage
  rw [if_pos hi, hr]
  dsimp only
  rw [if_pos]
  simpa [or_assoc] using hbad

/-- Settles O14: each row by its conditions; what a stop of the host leaves is `stopRings_ring` and `stopHost_eq`. -/
theorem hostsComeAndGo : Obligations.HostsComeAndGo := by
  unfold Obligations.HostsComeAndGo
  refine ⟨?fetch, ?fetchFails, ?coalesced, ?cursor, ?attach, ?detach, ?removal, ?hotReset, ?linkUp, ?connect, ?unbound, ?command,
    ?bad, ?keepalive, ?idle, ?close, ?ethernet⟩
  case fetch =>
    intro s n f hmay hok
    exact congrArg Host.Outcome.next (by simp [opCommandFetch, hmay, hok])
  case fetchFails =>
    intro s n f hmay hbad
    exact congrArg Host.Outcome.next (by simp [opCommandFetch, hmay, hbad])
  case coalesced =>
    intro s n d hdue hpast
    exact congrArg Host.Outcome.next (by simp [opCoalesced, hdue, hpast])
  case cursor => exact fun s n op => rfl
  case attach =>
    intro s hup hoff
    exact congrArg Host.Outcome.next (by simp [opHostAttach, hup, hoff])
  case detach =>
    intro s hup
    obtain ⟨hattached, hev, hrings⟩ := stopHost_leaves s
    exact ⟨stopHost s, congrArg Host.Outcome.next (if_pos hup), rfl, hattached, hev, hrings⟩
  case removal =>
    intro s hup
    exact congrArg Host.Outcome.next (if_pos hup)
  case hotReset => exact fun s => ⟨opPcieHotReset s, rfl, opPcieHotReset_leaves s⟩
  case linkUp =>
    intro s hon
    exact congrArg Host.Outcome.next (by simp [opPcieLinkUp, hon])
  case connect =>
    intro s i k ring hserved hbound hfree hroom
    exact congrArg Host.Outcome.next (by simp [opRemoteConnect, hserved, hbound, hfree, Nat.not_le.mpr hroom])
  case unbound =>
    intro s i k hserved hbound
    exact congrArg Host.Outcome.next (by simp [opRemoteConnect, hserved, hbound])
  case command =>
    intro s i r h b hi hr hlen hzero hsize htype hbody
    exact congrArg Host.Outcome.next (opAnyMessage_command hi hr hlen hzero hsize htype hbody)
  case bad =>
    intro s i r h b hi hr hbad
    exact congrArg Host.Outcome.next (opAnyMessage_bad hi hr hbad)
  case keepalive =>
    intro s i r hi hr hquiet
    refine ⟨_, congrArg Host.Outcome.next (?_ : opAnyKeepalive i s = { emit (.remote i 4 []) s with
      remotes := modifyFirst (fun r => r.id == i) (fun r => { r with lastTraffic := s.clk }) s.remotes }), rfl, rfl, rfl⟩
    simp [opAnyKeepalive, opRemoteKeepalive, hi, hr, hquiet]
  case idle =>
    intro s i r hr hquiet
    exact congrArg Host.Outcome.next (by simp [opRemoteIdle, hr, hquiet])
  case close =>
    intro s i r why hr
    exact congrArg Host.Outcome.next (by simp [closeRemote, hr])
  case ethernet =>
    intro s p up hphase
    exact congrArg Host.Outcome.next (by simp [opEthLink, hphase])

end Sys2Proof.HostComings
end

section
/-! PROOF. The fabric's rows on one queue (R56, R57, R60 to R66, R69): the queue's next state, that the other queues stand, and what goes
out. -/

namespace Sys2Proof.QueueRows

open Sys2Proof Sys2Proof.Machine Sys2Proof.Safety Sys2Proof.QueueFabric

/-! ## What one row does to one queue -/

theorem push_starts_eq {q : Queue} (w : BitVec 32) (hon : q.enable = true) (hgood : q.abandoned = false) (hb : q.building = none)
    (hcells : q.maxPktCells ≤ q.creditCells) (hitem : 1 ≤ q.creditItems) : q.push w = { q with
      building := some (putLe 4 w.toNat)
      creditCells := q.creditCells - q.maxPktCells
      creditItems := q.creditItems - 1 } := by
  obtain h | ⟨b, hb', -⟩ | ⟨-, -, -, h⟩ := push_cases q w
  · have hstarts := push_starts w hon hgood hb hcells hitem
    rw [h, hb] at hstarts
    cases hstarts
  · rw [hb] at hb'
    cases hb'
  · exact h

theorem finish_good {q : Queue} {k : Nat} {b : Bytes} (hon : q.enable = true) (hgood : q.abandoned = false)
    (hb : q.building = some b) (hfirst : 1 ≤ k) (hlast : k ≤ 4) (hfits : cellsOf (b.length - 4 + k) ≤ q.maxPktCells) :
    q.finish k = { q.moveWr (cellsOf (b.length - 4 + k)) with
      building := none
      creditCells := q.creditCells + (q.maxPktCells - cellsOf (b.length - 4 + k))
      items := q.items ++ [packetWords (b.take (b.length - 4 + k))] } := by
  have hzero : k ≠ 0 := by omega
  simp [Queue.finish, hon, hgood, hb, hzero, Nat.not_lt.mpr hlast, Nat.not_lt.mpr hfits]

theorem finish_bad {q : Queue} {k : Nat} {b : Bytes} (hon : q.enable = true) (hgood : q.abandoned = false)
    (hb : q.building = some b) (hbad : k = 0 ∨ 4 < k ∨ q.maxPktCells < cellsOf (b.length - 4 + k)) :
    q.finish k = { q with
      building := none
      creditCells := q.creditCells + q.maxPktCells
      creditItems := q.creditItems + 1
      oversize := satInc 255 q.oversize } := by
  simp [Queue.finish, hon, hgood, hb, hbad, or_assoc]

/-- A row that acts on one queue leaves the others and everything outside the fabric. -/
theorem onQueue_frame (n : Nat) (f : Queue → Queue) (s : State) : (∀ m, m ≠ n → queueOf (onQueue n f s) m = queueOf s m) ∧
    onQueue n f s = { s with fabric := (onQueue n f s).fabric } :=
  ⟨fun _ hne => queueOf_onQueue_of_ne hne f s, rfl⟩

/-! ## Pops (R62) -/

/-- A pop of a packet's first word. -/
theorem popNow_of_items {s : State} {n : Nat} {w : CellWord} {rest : List CellWord} {more : List (List CellWord)} (hurt : Bool)
    (hn : n < s.fabric.length) (h : (queueOf s n).items = (w :: rest) :: more) :
    (popNow n hurt s).out = s.out ++ [.popWord n w.bytes (popTagOf w.valid rest.isEmpty ((queueOf s n).popped == 0) hurt)] ∧
      (queueOf (popNow n hurt s) n).items = (if rest.isEmpty then more else rest :: more) ∧
      (queueOf (popNow n hurt s) n).creditCells = (queueOf s n).creditCells + 1 ∧
      (queueOf (popNow n hurt s) n).creditItems = (queueOf s n).creditItems + bit rest.isEmpty ∧
      (queueOf (popNow n hurt s) n).stalled = false ∧ ∀ m, m ≠ n → queueOf (popNow n hurt s) m = queueOf s m := by
  simp only [popNow, queueOf_emit, queueOf_onQueue_self hn, popWord_of_items hurt h]
  refine ⟨rfl, trivial, trivial, ?_, trivial, fun m hne => queueOf_onQueue_of_ne hne _ s⟩
  cases rest <;> rfl

theorem popNow_frame (n : Nat) (hurt : Bool) (s : State) :
    popNow n hurt s = { s with out := (popNow n hurt s).out, fabric := (popNow n hurt s).fabric } := rfl

/-! ## Resets and disabling (R62, R65, R66) -/

/-- A pop that was stalled is answered with ERR; nothing else happens. -/
theorem releaseErr_eq (n : Nat) (was : Queue) (s : State) : releaseErr n was s =
    { s with out := if was.stalled then s.out ++ [.popWord n (zeros 32) 0x200] else s.out } := by
  unfold releaseErr
  split <;> rfl

theorem queueOf_releaseErr (n m : Nat) (was : Queue) (s : State) : queueOf (releaseErr n was s) m = queueOf s m := by
  rw [releaseErr_eq]
  rfl

theorem resetQueue_self {s : State} {n : Nat} (hn : n < s.fabric.length) : queueOf (resetQueue n s) n = (queueOf s n).resetNow := by
  rw [resetQueue, queueOf_releaseErr, queueOf_onQueue_self hn]

theorem resetQueue_frame (n : Nat) (s : State) : (∀ m, m ≠ n → queueOf (resetQueue n s) m = queueOf s m) ∧
    (resetQueue n s).out = (if (queueOf s n).stalled then s.out ++ [.popWord n (zeros 32) 0x200] else s.out) ∧
    resetQueue n s = { s with out := (resetQueue n s).out, fabric := (resetQueue n s).fabric } := by
  refine ⟨fun m hne => ?_, ?_, ?_⟩
  · rw [resetQueue, queueOf_releaseErr, queueOf_onQueue_of_ne hne]
  · rw [resetQueue, releaseErr_eq]
    rfl
  · rw [resetQueue, releaseErr_eq]
    rfl

/-- Settles O16: the rows of one queue, each by what it makes of the queue (`push_starts_eq`, `finish_good`, `finish_bad`,
`popNow_of_items`, `resetQueue_self`) and by what it leaves (`onQueue_frame`, `resetQueue_frame`). -/
theorem queuesWork : Obligations.QueuesWork := by
  unfold Obligations.QueuesWork
  refine ⟨?push, ?pushElsewhere, ?endGood, ?endBad, ?pop, ?popEmpty, ?stallRelease, ?drop, ?enable, ?disable, ?errRead, ?reset,
    ?mismatch⟩
  case push =>
    intro s n w hn hon hgood hb hcells hitem
    refine ⟨_, congrArg Host.Outcome.next (opQfbPush_producer n w s), ?_, onQueue_frame n _ s⟩
    rw [queueOf_onQueue_self hn, push_starts_eq w hon hgood hb hcells hitem]
  case pushElsewhere =>
    intro s n p w hp
    exact congrArg Host.Outcome.next (if_neg hp.symm)
  case endGood =>
    rintro s n b k len hn hon hgood hb hfirst hlast rfl hfits
    obtain ⟨hothers, hrest⟩ := onQueue_frame n (fun q => q.finish k) s
    refine ⟨_, congrArg Host.Outcome.next (opQfbEnd_producer n k s), ?_, ?_, ?_, ?_, hothers, hrest⟩
    all_goals rw [queueOf_onQueue_self hn, finish_good hon hgood hb hfirst hlast hfits]
    rfl
  case endBad =>
    rintro s n b k len hn hon hgood hb rfl hbad
    refine ⟨_, congrArg Host.Outcome.next (opQfbEnd_producer n k s), ?_⟩
    rw [queueOf_onQueue_self hn, finish_bad hon hgood hb hbad]
  case pop =>
    intro s n w rest more hurt hn hon hitems
    obtain ⟨hout, hleft, hcells, hitem, -, hothers⟩ := popNow_of_items hurt hn hitems
    exact ⟨_, congrArg Host.Outcome.next (opQfbPop_consumer hurt hon (by simp [hitems])), hout, hleft, hcells, hitem, hothers,
      popNow_frame n hurt s⟩
  case popEmpty =>
    intro s n hurt hn hon hitems
    refine ⟨onQueue n (fun q => { q with stalled := true }) s, congrArg Host.Outcome.next ?_, queueOf_onQueue_self hn _, rfl⟩
    simp [opQfbPop, hon, hitems]
  case stallRelease =>
    intro s n w rest more hn hstalled hitems
    obtain ⟨hout, -, -, -, hgoes, -⟩ := popNow_of_items false hn hitems
    refine ⟨popNow n false s, congrArg Host.Outcome.next ?_, hgoes, hout⟩
    simp [opPopStallRelease, hstalled, hitems]
  case drop =>
    intro s n p more hn hitems
    refine ⟨_, congrArg Host.Outcome.next (opQfbDrop_consumer n s), ?_, ?_, ?_, ?_, rfl⟩
    all_goals rw [queueOf_onQueue_self hn, drop_of_items hitems]
  case enable =>
    intro s n v hn hset hoff hsize hlimit
    obtain ⟨hothers, hrest⟩ := onQueue_frame n (fun q => (q.takeCfg v).turnOn) s
    have hq := (queueOf_onQueue_self hn fun q => (q.takeCfg v).turnOn).trans
      (turnOn_of_valid (q := (queueOf s n).takeCfg v) hsize hlimit)
    exact ⟨_, congrArg Host.Outcome.next (opQueueEnable_of_disabled hset hoff), congrArg Queue.enable hq,
      congrArg Queue.creditCells hq, congrArg Queue.creditItems hq, congrArg Queue.items hq, congrArg Queue.building hq,
      congrArg Queue.wr hq, hothers, hrest⟩
  case disable =>
    intro s n v hn hclear hon
    have hop : opQueueDisable n v s = releaseErr n (queueOf s n) (onQueue n Queue.turnOff s) := by simp [opQueueDisable, hclear, hon]
    have hq := (queueOf_releaseErr n n (queueOf s n) (onQueue n Queue.turnOff s)).trans (queueOf_onQueue_self hn Queue.turnOff)
    have hrest := releaseErr_eq n (queueOf s n) (onQueue n Queue.turnOff s)
    exact ⟨_, congrArg Host.Outcome.next hop, congrArg Queue.enable hq, congrArg Queue.items hq, congrArg Queue.creditCells hq,
      congrArg Queue.creditItems hq, congrArg Queue.stalled hq, congrArg State.out hrest, by rw [hrest]; rfl⟩
  case errRead => exact fun s n hn => ⟨_, rfl, rfl, queueOf_onQueue_self hn _⟩
  case reset =>
    intro s n hn
    obtain ⟨hothers, hout, hrest⟩ := resetQueue_frame n s
    have hq := resetQueue_self hn
    exact ⟨resetQueue n s, rfl, congrArg Queue.items hq, congrArg Queue.creditCells hq, congrArg Queue.creditItems hq,
      congrArg Queue.building hq, congrArg Queue.abandoned hq, (congrArg Queue.enable hq :), hothers, hout, hrest⟩
  case mismatch =>
    intro s n rd hn
    have hn' : n < (resetQueue n s).fabric.length := by
      rw [resetQueue, releaseErr_eq]
      simpa [onQueue] using hn
    obtain ⟨hothers, -, hrest⟩ := resetQueue_frame n s
    have hq := queueOf_onQueue_self hn' fun q => { q with mismatches := satInc 255 q.mismatches, lastMismatch := rd }
    rw [resetQueue_self hn] at hq
    exact ⟨onQueue n (fun q => { q with mismatches := satInc 255 q.mismatches, lastMismatch := rd }) (resetQueue n s), rfl,
      congrArg Queue.items hq, congrArg Queue.mismatches hq, congrArg Queue.lastMismatch hq,
      fun m hne => (queueOf_onQueue_of_ne hne _ _).trans (hothers m hne), by rw [hrest]; rfl⟩

end Sys2Proof.QueueRows
end

section
/-! PROOF. What the session engine does of its own accord (R75 to R77, R83, R84, R170): slots, waiting slots, retries, silent meters and
deadlines. -/

namespace Sys2Proof.ScheduledWork

open Sys2Proof Sys2Proof.Machine Sys2Proof.Safety Sys2Proof.LedgerFrame

/-- A timer of a chip that is no standby. -/
theorem next_onTimer {s t : State} {op : State → State} (hs : isStandby s = false) (h : op s = t) :
    (Host.Outcome.next (onTimer op s) : Host.Outcome State Fault Refusal) = .next t := by
  rw [onTimer_of_not_standby op hs, h]

/-- A slot starts at once where no session with the meter runs and a place is free. -/
theorem startSlot_eq (p : PendingSlot) (s : State) :
    startSlot p s = if (sessionOf s p.idx).isNone && slotPlace s then openSlot p s else deferSlot p s := by
  unfold startSlot
  cases sessionOf s p.idx <;> cases slotPlace s <;> rfl

theorem mkNetEv_timerInput (s : State) (code : Nat) (d : Bytes) (mh : Option Nat) (net : Option Net) :
    mkNetEv (timerInput s) code d mh net = mkNetEv s code d mh net :=
  timerInput_reads (mkNetEv · code d mh net) s fun _ _ _ _ => rfl

/-- A due slot of an own meter takes every slot of its second. -/
theorem opScheduledSlot_due {s : State} {idx entry : Nat} {r : Rec} {e : Nat × SchedEntry × LTime} (hr : getRec s idx = some r)
    (he : (slotsDue s idx r).find? (fun x => x.1 == entry) = some e) (hown : r.segment = 0)
    (hclass : (s.led.work.classOf r.cls).map (·.stateless) = some false)
    (hmay : mayCollect s (mergedSlot idx ((slotsDue s idx r).filter fun x => x.2.2 / 65536 == e.2.2 / 65536)).what = true) :
    opScheduledSlot idx entry s = startSlot (mergedSlot idx ((slotsDue s idx r).filter fun x => x.2.2 / 65536 == e.2.2 / 65536))
      (takeSlots idx ((slotsDue s idx r).filter fun x => x.2.2 / 65536 == e.2.2 / 65536) (timerInput s)) := by
  unfold opScheduledSlot
  simp only [hr, he, hown, hclass, hmay, Option.getD_some, Bool.not_true, bne_self_eq_false, Bool.or_self, Bool.false_eq_true,
    if_false]

/-- A meter silent beyond its limit, not noted before. -/
theorem opMeterSilent_beyond {s : State} {idx since : Nat} {r : Rec} {d : ClassDesc} (hr : getRec s idx = some r)
    (hown : r.segment = 0) (hclass : s.led.work.classOf r.cls = some d)
    (hsince : since = if r.clock.lastSuccess = 0 then r.clock.admittedAt else r.clock.lastSuccess) (hlimit : d.silentLimitS ≠ 0)
    (hpast : since + ltSec d.silentLimitS ≤ now s) (hnew : (idx, since) ∉ s.meters.silent) (hservice : inService s = true) :
    opMeterSilent idx s = raiseEv (mkNetEv s 0x0105 (putLe 8 ((lookupNat idx s.meters.contact).getD r.clock.lastContact))
        (some (recMh idx r)) r.net.network) { timerInput s with meters := { s.meters with
          silent := (s.meters.silent.filter fun x => x.1 != idx) ++ [(idx, since)] } } := by
  unfold opMeterSilent
  simp only [hr, hown, hclass, ← hsince, Option.map_some, Option.getD_some, hlimit, hservice, Bool.not_true, bne_self_eq_false,
    Nat.not_lt.mpr hpast, decide_false, List.contains_eq_mem, hnew, Bool.or_self, Bool.false_eq_true, if_false,
    timerInput_meters, mkNetEv_timerInput]

/-- Settles O19: each timer by its conditions, on a chip that is no standby. -/
theorem scheduledWorkStarts : Obligations.ScheduledWorkStarts := by
  unfold Obligations.ScheduledWorkStarts
  refine ⟨?slot, ?waiting, ?waitingLate, ?retry, ?retryLate, ?silent, ?deadline⟩
  case slot =>
    rintro s idx entry r e p hs hr he hown hclass rfl hmay
    refine ⟨takeSlots idx ((slotsDue s idx r).filter fun x => x.2.2 / 65536 == e.2.2 / 65536) (timerInput s), ?_, ?_, ?_,
      next_onTimer hs ?_⟩
    · simp [takeSlots]
    · simp [takeSlots]
    · simp [takeSlots]
    · rw [opScheduledSlot_due hr he hown hclass hmay, startSlot_eq]
      simp only [sessionOf, slotPlace, scheduledUsed, takeSlots, timerInput_meters]
      rfl
  case waiting =>
    intro s idx p hs hp hearly hidle hplace hmay
    refine next_onTimer hs ?_
    simp [opPendingSlot, hp, Nat.not_le.mpr hearly, hidle, hplace, hmay]
  case waitingLate =>
    intro s idx p hs hp hlate
    refine next_onTimer hs ?_
    simp [opPendingSlot, hp, hlate]
  case retry =>
    intro s idx x hs hx hearly hmay
    refine next_onTimer (not_standby_of_active hs) ?_
    simp [opRetryGap, hx, Nat.not_le.mpr hearly, hmay, hs]
  case retryLate =>
    intro s idx x hs hx hlate
    refine next_onTimer (not_standby_of_active hs) ?_
    simp [opRetryGap, hx, hlate]
  case silent =>
    intro s idx r d since hs hr hown hclass hsince hlimit hpast hnew hservice
    exact ⟨{ timerInput s with meters := { s.meters with silent := (s.meters.silent.filter fun x => x.1 != idx) ++ [(idx, since)] } },
      rfl, timerInput_led s, timerInput_clk s,
      next_onTimer hs (opMeterSilent_beyond hr hown hclass hsince hlimit hpast hnew hservice)⟩
  case deadline =>
    intro s ring tag f hs hf hop hstarted hhere hserves hpast hplaced
    refine next_onTimer hs ?_
    have hop' : [0x0206, 0x0207, 0x0504, 0x0604, 0x0605].contains f.cmd.opcode = true := List.contains_iff_mem.mpr hop
    simp only [opCommandDeadline, hf, hop', hstarted, hhere, hserves, hpast, hplaced, Option.isNone_none, Bool.not_false,
      decide_true, Bool.and_self, if_true, Bool.false_eq_true, if_false]

end Sys2Proof.ScheduledWork
end

section
/-! PROOF. The cipher's result of an exchange (R87, R303): the completion of a job is kept among the last 16 results besides what it means
for its session. -/

namespace Sys2Proof.CipherResults

open Sys2Proof Sys2Proof.Machine Sys2Proof.Safety

/-- A cipher job of session 0 whose authentication failed. -/
def failedJob : CipherDone :=
  { job := ⟨0, 0, true, false, false, 0, 0⟩, idx := 0,
    response := ⟨0, 0, [], [], [], [], [], none, false, false, 0, none, 0, [], none, none, false⟩ }

/-- A push with meter 0 whose response is in the cipher. -/
def decryptingSession : Session := { mkSession State.reset 0 .push 0 0 none with state := .decrypting }

/-- A plain record of meter 0. -/
def plainRec : Rec := newRec State.reset 0 [] (classDesc []) none 0 []

/-- The device after reset, with meter 0 and its session. -/
def decryptingState : State :=
  { State.reset with
    meters := { State.reset.meters with sessions := [decryptingSession] }
    led := { State.reset.led with work := { State.reset.led.work with recs := [(0, plainRec)] } } }

theorem opCipherJob_keeps_result : (opCipherJob failedJob decryptingState).keys.jobResults.length = 1 := by rfl

theorem failSession_keeps_no_result :
    (failSession 0 0x0402 (resumeInput decryptingSession.seq decryptingState)).keys.jobResults.length = 0 := by rfl

/-- Refutes O20: a job whose authentication failed fails its session, and its result is also the last of the 16 that are kept, which the
failed session alone does not bring. -/
theorem not_sessionsRun : ¬ Obligations.SessionsRun := by
  unfold Obligations.SessionsRun
  rintro ⟨-, hfails, -⟩
  have h : opCipherJob failedJob decryptingState = failSession 0 0x0402 (resumeInput decryptingSession.seq decryptingState) :=
    Host.Outcome.next.inj (hfails decryptingState failedJob decryptingSession plainRec (by rfl) (by rfl) (by rfl) (by rfl))
  have hlen := opCipherJob_keeps_result
  rw [h, failSession_keeps_no_result] at hlen
  cases hlen

end Sys2Proof.CipherResults
end

section
/-! PROOF. Frames that meters send of themselves (R79 to R81, R88, R237, R250, R252): joining and leaving, alarms, last gasps and
pushes. -/

namespace Sys2Proof.MeterFrames

open Sys2Proof Sys2Proof.Machine Sys2Proof.Safety Sys2Proof.Laws Sys2Proof.LedgerFrame Sys2Proof.HostChanges
  Sys2Proof.AppendFrame Sys2Proof.NetFrames Sys2Proof.ScheduledWork Sys2Proof.MetersAndTables

/-! ## Frames of a known meter -/

/-- A frame whose source has a record, where the chip processes its meters' frames. -/
theorem onFrame_known {f : RxFrame} {s s' : State} {idx : Nat} {r : Rec} {k : Nat → Rec → State → State}
    (hmay : mayProcess s = true) (hrx : takeRx f s = some s') (hsource : sourceOf s' f = some (idx, r)) :
    onFrame f s k = k idx r s' := by
  simp [onFrame, hmay, hrx, hsource]

/-! ## Joining (R79 to R81) -/

/-- A join request over RF of a known own meter, where keys and the ledger allow an answer. -/
theorem opJoinRequest_known {f : RxFrame} {s s' : State} {identity : Bytes} {ver prev idx : Nat} {r : Rec}
    (hmsg : f.msg = .joinRequest identity ver prev) (hnet : f.net = .rf) (hmay : mayProcess s = true)
    (hrx : takeRx f s = some s') (hid : s'.led.work.byIdentity identity = some (idx, r)) (hsalvage : inSalvage s' = false)
    (hkey : bkeyIndex s' ≠ 0) (hown : r.segment = 0) : opJoinRequest f s = joinRequest idx r f prev s' := by
  simp [opJoinRequest, hmsg, hnet, hmay, hrx, hid, hsalvage, hkey, hown]

theorem joinRequest_permitted {idx prev a : Nat} {r : Rec} {f : RxFrame} {s : State} (hstate : r.net.state = .admitted)
    (hpermitted : permitted s r f.net = true) (ha : assignShort s f.net prev false = some a) :
    joinRequest idx r f prev s = toJoining idx f.net a false s := by
  simp [joinRequest, hstate, hpermitted, ha]

theorem joinRequest_notPermitted {idx prev : Nat} {r : Rec} {f : RxFrame} {s : State} (hstate : r.net.state = .admitted)
    (hpermitted : permitted s r f.net = false) : joinRequest idx r f prev s = refuseJoin r f.net 1 s := by
  simp [joinRequest, hstate, hpermitted]

theorem joinRequest_noAddress {idx prev : Nat} {r : Rec} {f : RxFrame} {s : State} (hstate : r.net.state = .admitted)
    (hpermitted : permitted s r f.net = true) (ha : assignShort s f.net prev false = none) :
    joinRequest idx r f prev s = refuseJoin r f.net 2 s := by
  simp [joinRequest, hstate, hpermitted, ha]

/-- A group that the ledger takes is in the working content. -/
theorem append_work {items : List Item} {mh : Option Nat} {s : State} (hopen : (openEpoch s).isSome = true)
    (hu : takesGroups s = true) : (append items mh s).led.work = contentAfter (groupEpoch s) (now s) items s.led.work := by
  obtain ⟨e, he⟩ := Option.isSome_iff_exists.mp hopen
  simp only [takesGroups, Bool.and_eq_true, decide_eq_true_eq, Bool.not_eq_true'] at hu
  simp only [append, he, Nat.not_le.mpr hu.1, hu.2, decide_false, Bool.false_and, Bool.or_self, Bool.false_eq_true, if_false,
    (limitClose_keeps _).1, (addGroup_work _ _ _ _ _).1]

/-- A change of a meter's record that the ledger takes, with one event. -/
theorem patchMeter_getRec {s : State} {idx : Nat} {r : Rec} {f : Rec → Rec} {e : EvRec} (hr : getRec s idx = some r)
    (hopen : (openEpoch s).isSome = true) (hu : takesGroups s = true) : ∃ n,
      getRec (patchMeter idx f [e] s) idx = some { f (liveRec s idx r) with
        counts := { (f (liveRec s idx r)).counts with lastChangeEpoch := n } } := by
  have hsalvage : inSalvage s = false := by
    simp only [takesGroups, Bool.and_eq_true, Bool.not_eq_true'] at hu
    exact hu.2
  have hpatch : patchMeter idx f [e] s = append [.patch idx r (f (liveRec s idx r)), .event e] (some (recMh idx r)) s := by
    rw [patchMeter, hr]
    simp [hsalvage]
  refine ⟨groupEpoch s, ?_⟩
  rw [hpatch, getRec, append_work hopen hu]
  exact lookupNat_insertNat_self _ _ _

/-- A matching confirm makes its meter joined. -/
theorem opJoinConfirm_joins {f : RxFrame} {s s' : State} {idx : Nat} {r : Rec} (hmsg : f.msg = .joinConfirm r.net.joinId)
    (hmay : mayProcess s = true) (hrx : takeRx f s = some s') (hsource : sourceOf s' f = some (idx, r))
    (hr : getRec s' idx = some r) (hjoining : r.net.state = .joining) (hu : takesGroups s' = true)
    (hopen : (openEpoch s').isSome = true) : (getRec (opJoinConfirm f s) idx).map (·.net.state) = some .joined ∧
      idx ∈ (opJoinConfirm f s).keys.rejoined := by
  unfold opJoinConfirm
  rw [hmsg]
  dsimp only
  rw [onFrame_known hmay hrx hsource]
  simp only [hjoining, bne_self_eq_false, Bool.false_eq_true, if_false]
  generalize hev : (if ((joinOf s' idx).map (·.moved)).getD false = true then
      mkNetEv s' 0x0103 (zeros 2 ++ putLe 1 f.net.code) (some (recMh idx r)) (some f.net)
    else mkNetEv s' 0x0101 (putLe 2 r.net.short ++ putLe 1 f.net.code) (some (recMh idx r)) (some f.net)) = ev
  obtain ⟨n, hrec⟩ := patchMeter_getRec (s := endJoin idx s') (e := ev)
    (f := fun r => { r with net := { r.net with state := .joined } }) hr hopen hu
  constructor
  · have hroute : ∀ net x u, getRec (putRoute net x u) idx = getRec u idx := fun net x u =>
      onModem_reads (g := (getRec · idx)) (fun _ _ _ _ _ => rfl) net _ u
    rw [hroute]
    exact (congrArg (Option.map (·.net.state)) hrec :)
  · have hroute : ∀ net x u, (putRoute net x u).keys = u.keys := fun net x u =>
      onModem_reads (g := State.keys) (fun _ _ _ _ _ => rfl) net _ u
    rw [hroute]
    simp

/-- Settles O21: requests by what the record and the network allow, confirms, leaving, resends and windows by their conditions. -/
theorem metersJoinAndLeave : Obligations.MetersJoinAndLeave := by
  unfold Obligations.MetersJoinAndLeave
  refine ⟨?accepted, ?notPermitted, ?noAddress, ?unknown, ?confirmed, ?badConfirm, ?leave, ?resend, ?window, ?wait, ?quarantine⟩
  case accepted =>
    intro s s' f identity ver prev idx r a hmsg hnet hmay hrx hid hsalvage hkey hown hstate hpermitted ha
    rw [← hnet] at hpermitted ha ⊢
    exact congrArg Host.Outcome.next ((opJoinRequest_known hmsg hnet hmay hrx hid hsalvage hkey hown).trans
      (joinRequest_permitted hstate hpermitted ha))
  case notPermitted =>
    intro s s' f identity ver prev idx r hmsg hnet hmay hrx hid hsalvage hkey hown hstate hpermitted
    rw [← hnet] at hpermitted ⊢
    exact congrArg Host.Outcome.next ((opJoinRequest_known hmsg hnet hmay hrx hid hsalvage hkey hown).trans
      (joinRequest_notPermitted hstate hpermitted))
  case noAddress =>
    intro s s' f identity ver prev idx r hmsg hnet hmay hrx hid hsalvage hkey hown hstate hpermitted ha
    rw [← hnet] at hpermitted ha ⊢
    exact congrArg Host.Outcome.next ((opJoinRequest_known hmsg hnet hmay hrx hid hsalvage hkey hown).trans
      (joinRequest_noAddress hstate hpermitted ha))
  case unknown =>
    intro s s' f identity ver prev hmsg hmay hrx hid
    exact congrArg Host.Outcome.next (by simp [opJoinRequest, hmsg, hmay, hrx, hid, unknownJoin])
  case confirmed =>
    intro s s' f idx r hmsg hmay hrx hsource hr hjoining _ hu hopen
    exact ⟨_, rfl, opJoinConfirm_joins hmsg hmay hrx hsource hr hjoining hu hopen⟩
  case badConfirm =>
    intro s s' f idx r id hmsg hmay hrx hsource hid
    exact congrArg Host.Outcome.next (by simp [opJoinConfirm, hmsg, onFrame_known hmay hrx hsource, hid])
  case leave =>
    intro s s' f idx r why hmsg hmay hrx hsource hsalvage hjoined
    exact congrArg Host.Outcome.next (by simp [opMeterLeave, hmsg, onFrame_known hmay hrx hsource, hsalvage, hjoined])
  case resend =>
    intro s idx j hs hservice hj hstart hsends hdue
    refine next_onTimer hs ?_
    simp [opJoinResend, hj, hstart, Nat.not_le.mpr hsends, Nat.not_lt.mpr hdue, hservice]
  case window =>
    intro s idx j hs hservice hj hstart hsends hdue
    refine next_onTimer hs ?_
    simp [opJoinWindow, hj, hstart, Nat.not_lt.mpr hsends, Nat.not_lt.mpr hdue, hservice]
  case wait =>
    intro s idx j hs hservice hj hstart hdue
    refine next_onTimer hs ?_
    simp [opJoiningWait, hj, hstart, Nat.not_lt.mpr hdue, hservice]
  case quarantine => exact fun s net short hs => next_onTimer hs rfl

/-! ## Alarms, last gasps and pushes (R88, R250, R252) -/

/-- Settles O23: the frames of known meters (`onFrame_known`). -/
theorem pushedFramesAreTakenOnce : Obligations.PushedFramesAreTakenOnce := by
  unfold Obligations.PushedFramesAreTakenOnce
  refine ⟨?gasp, ?alarm, ?repeated, ?push, ?badPush⟩
  case gasp =>
    intro s s' f idx r tm cause hmsg hmay hrx hsource
    exact congrArg Host.Outcome.next (by rw [opLastGasp, hmsg]; exact onFrame_known hmay hrx hsource)
  case alarm =>
    intro s s' f idx r tm reg hmsg hmay hrx hsource
    exact congrArg Host.Outcome.next (by rw [opAlarm, hmsg]; exact onFrame_known hmay hrx hsource)
  case repeated =>
    intro s s' f idx r tm reg hmsg hmay hrx hsource hseen
    refine congrArg Host.Outcome.next ?_
    rw [opAlarm, hmsg]
    exact (onFrame_known hmay hrx hsource).trans (if_pos hseen)
  case push =>
    rintro s s' f idx r rsp b e hmsg hmay hrx hsource hclass hsalvage hctr rfl hu
    refine congrArg Host.Outcome.next ?_
    rw [opDlmsPush, hmsg]
    refine (onFrame_known hmay hrx hsource).trans ?_
    simp only [hclass, Option.getD_some, hsalvage, Nat.not_le.mpr hctr, hu, Option.isSome_none, Bool.not_true, Bool.or_self,
      Bool.false_eq_true, if_false]
  case badPush =>
    intro s s' f idx r rsp b hmsg hmay hrx hsource hclass hsalvage
    refine congrArg Host.Outcome.next ?_
    rw [opDlmsPush, hmsg]
    refine (onFrame_known hmay hrx hsource).trans ?_
    simp [hclass, hsalvage]

end Sys2Proof.MeterFrames
end

section
/-! PROOF. A commit whose own event closes the open epoch at its limit (R96, R97, R101): where EPOCH_HIGH stands below the number that
commits, the epoch that opens takes that number again. -/

namespace Sys2Proof.CommitAtTheLimit

open Sys2Proof Sys2Proof.Machine Sys2Proof.Safety

/-- An epoch of the device after reset. -/
def epochIn (num size : Nat) (state : EpochState) : Epoch :=
  ⟨num, 0, 0, state, [], size, State.reset.led.work, false, false, false, [], false, 0⟩

/-- Epoch 1 is in ROOTING, epoch 2 is open and at its limit, and EPOCH_HIGH is 0. -/
def rootingState : State :=
  { State.reset with
    led := { State.reset.led with
      epochs := [epochIn 1 112 .rooting, epochIn 2 epochLimit .opened]
      highA := some 0 }
    boot := { State.reset.boot with passed8 := true } }

/-- After the commit of epoch 1 an epoch 1 is open. -/
theorem opEpochCommit_reopens : ((opEpochCommit 1 true rootingState).led.epochs.any fun x => x.num == 1) = true := by rfl

/-- Refutes O24: the event of the commit of epoch 1 fills epoch 2 to its limit, and with EPOCH_HIGH at 0 the epoch that opens is 1 again,
so an epoch of the committed number is not yet committed. -/
theorem not_epochsCloseFlushAndCommit : ¬ Obligations.EpochsCloseFlushAndCommit := by
  unfold Obligations.EpochsCloseFlushAndCommit
  rintro ⟨-, -, -, -, -, -, -, -, -, -, hcommit, -⟩
  obtain ⟨t, ht, -, -, -, -, -, -, hgone, -⟩ := hcommit rootingState (epochIn 1 112 .rooting) [epochIn 2 epochLimit .opened]
    (by rfl) (by rfl) (by decide) (by rfl) (by rfl) (by rfl) (by decide)
  have ht : opEpochCommit 1 true rootingState = t := Host.Outcome.next.inj ht
  obtain ⟨x, hx, hnum⟩ := List.any_eq_true.mp (ht ▸ opEpochCommit_reopens)
  exact hgone x hx (beq_iff_eq.mp hnum)

end Sys2Proof.CommitAtTheLimit
end

section
/-! PROOF. Boundaries that are due (R125, R145 to R147, R150, R153 to R155, R165, R167): a serving active evaluates what is due up to the
row's own order. -/

namespace Sys2Proof.BoundaryRows

open Sys2Proof Sys2Proof.Machine Sys2Proof.Safety Sys2Proof.LedgerFrame Sys2Proof.ScheduledWork

/-- A row of a boundary: it is due, and the row has what makes it one. -/
theorem boundaryRow_due {order k : Nat} {has : LState → LTime → LTime → Bool} {s : State} (hactive : isActive s = true)
    (hservice : inService s = true) (hset : s.time.unset = false) (hhas : has s.led.work (s.led.work.lastBoundary / 8) (now s) = true)
    (hk : k ∈ s.led.work.dueKeys (boundaryKey (now s) order)) (horder : k % 8 = order) :
    boundaryRow order has s = evalDue (boundaryKey (now s) order) (newInput 6 s) := by
  have hdue : ((s.led.work.dueKeys (boundaryKey (now s) order)).any fun k => k % 8 == order) = true :=
    List.any_eq_true.mpr ⟨k, hk, beq_iff_eq.mpr horder⟩
  unfold boundaryRow
  dsimp only
  simp only [hservice, hset, hhas, hdue, Bool.not_true, Bool.or_self, Bool.false_eq_true, if_false, timerInput_of_active hactive]

/-- Something of a list is enough for its test. -/
theorem any_not_isEmpty {α β : Type} {l : List α} {g : α → List β} {p : α} (hp : p ∈ l) (hne : g p ≠ []) :
    (l.any fun p => !(g p).isEmpty) = true :=
  List.any_eq_true.mpr ⟨p, hp, by simp [hne]⟩

/-- DISCONNECT_DUE outside the friendly hours: the order acts. -/
theorem opDisconnectDue_acts {s : State} {idx : Nat} {r : Rec} {w : Work} (hservice : inService s = true) (hr : getRec s idx = some r)
    (hown : r.segment = 0) (hpending : r.orders.pending = 1) (hreason : r.orders.reason = 2) (hdue : r.orders.dueAt ≤ now s)
    (hrelay : r.place.relay = .disconnectPending) (hidle : sessionOf s idx = none) (hw : w = workAt idx r (now s) (timerInput s))
    (houtside : w.l.outside 1024 w.t = some w.t) : opDisconnectDue idx s =
      kickOrders idx (append ((w.onCredit fun c => { c with disconnectDue := true }).setRelay .disconnecting).items
        (some w.mh) (timerInput s)) := by
  have hnow : now (timerInput s) = now s := timerInput_reads now s fun _ _ _ _ => rfl
  have hwait : (!inService s || r.segment != 0 || r.orders.pending != 1 || r.orders.reason != 2 || decide (now s < r.orders.dueAt) ||
      !(r.place.relay == .disconnectPending || r.place.relay == .unknown) || (sessionOf s idx).isSome) = false := by
    simp [hservice, hown, hpending, hreason, hrelay, hidle, Nat.not_lt.mpr hdue]
  unfold opDisconnectDue
  rw [hr]
  dsimp only
  rw [if_neg (by rw [hwait]; simp), hnow, ← hw, houtside]
  dsimp only
  rw [if_neg (lt_irrefl w.t), hrelay, beq_self_eq_true, if_pos rfl]
  rfl

/-- Settles O26: each row is due by its own order (`boundaryRow_due`). -/
theorem boundariesAreEvaluated : Obligations.BoundariesAreEvaluated := by
  unfold Obligations.BoundariesAreEvaluated
  refine ⟨?rules, ?tariff, ?calendar, ?rate, ?window, ?period, ?settling, ?standing, ?credit, ?disconnect⟩
  case rules =>
    intro s x hactive hservice hx
    refine next_onTimer (not_standby_of_active hactive) ?_
    have hx' : (newInput 6 s).led.work.tables.rules.dueBy (now (newInput 6 s)) = some x :=
      (newInput_reads (fun u => u.led.work.tables.rules.dueBy (now u)) 6 s fun _ _ _ _ => rfl).trans hx
    rw [opRuleTableEffective, if_neg (by simp [hservice, hx]), timerInput_of_active hactive, rulesEffective, hx']
  case tariff =>
    rintro s u x k hactive hservice hset rfl hx hk horder
    exact next_onTimer (not_standby_of_active hactive) (boundaryRow_due hactive hservice hset (by rw [hx]; rfl) hk horder)
  case calendar =>
    rintro s u x k hactive hservice hset rfl hx hk horder
    exact next_onTimer (not_standby_of_active hactive) (boundaryRow_due hactive hservice hset (by rw [hx]; rfl) hk horder)
  case rate =>
    rintro s u k p n hactive hservice hset rfl hp hswitch hk horder
    exact next_onTimer (not_standby_of_active hactive) (boundaryRow_due hactive hservice hset (any_not_isEmpty hp hswitch) hk horder)
  case window =>
    rintro s u k p n hactive hservice hset rfl hp hends hk horder
    exact next_onTimer (not_standby_of_active hactive) (boundaryRow_due hactive hservice hset (any_not_isEmpty hp hends) hk horder)
  case period =>
    rintro s u k hactive hservice hset rfl hk horder
    exact next_onTimer (not_standby_of_active hactive) (boundaryRow_due hactive hservice hset rfl hk horder)
  case settling =>
    rintro s u k hactive hservice hset rfl hk horder
    exact next_onTimer (not_standby_of_active hactive) (boundaryRow_due hactive hservice hset rfl hk horder)
  case standing =>
    rintro s u k hactive hservice hset rfl hk horder
    exact next_onTimer (not_standby_of_active hactive) (boundaryRow_due hactive hservice hset rfl hk horder)
  case credit =>
    rintro s u k hactive hservice hset rfl hk horder
    exact next_onTimer (not_standby_of_active hactive) (boundaryRow_due hactive hservice hset rfl hk horder)
  case disconnect =>
    intro s idx r w hs hservice hr hown hpending hreason hdue hrelay hidle hw houtside
    exact next_onTimer hs (opDisconnectDue_acts hservice hr hown hpending hreason hdue hrelay hidle hw houtside)

end Sys2Proof.BoundaryRows
end

section
/-! PROOF. Balance rows (R172, R181, R195, R202): intervals evaluated, group tables and the day's rows. -/

namespace Sys2Proof.BalanceRows

open Sys2Proof Sys2Proof.Machine Sys2Proof.Safety Sys2Proof.Laws Sys2Proof.LedgerFrame Sys2Proof.AppendFrame Sys2Proof.HostChanges
  Sys2Proof.MetersAndTables Sys2Proof.PanelCommands Sys2Proof.ScheduledWork Sys2Proof.MeterFrames

/-! ## Intervals -/

theorem evalRow_takes {g : GroupDesc} {start : LTime} {final : Bool} {s : State} (hactive : isActive s = true)
    (hu : takesGroups s = true) : evalRow g start final s =
      append (evalOn (newInput 6 s) s.led.work final [(g, start)]).items none (newInput 6 s) := by
  have htakes : takesGroups (newInput 6 s) = true := (takesGroups_of (newInput_led 6 s) (newInput_store 6 s)).trans hu
  unfold evalRow
  simp only [timerInput_of_active hactive, newInput_led, appendRefusal_none htakes, Option.isSome_none, Bool.false_eq_true, if_false]

theorem evalRow_held {g : GroupDesc} {start : LTime} {final : Bool} {s : State} (hheld : 2 ≤ heldCount s) :
    evalRow g start final s = { timerInput s with balance := { (timerInput s).balance with
      tried := (timerInput s).balance.tried ++ [(g.ref.group, start)] } } := by
  have hheld' : 2 ≤ heldCount (timerInput s) := by rwa [heldCount, timerInput_led]
  have hrefused : ∀ items, appendRefusal items (timerInput s) = some 0x0501 := fun items => by simp [appendRefusal, hheld']
  unfold evalRow
  simp [hrefused]

theorem opBalanceFirst_due {s : State} {group : Nat} {start : LTime} {g : GroupDesc} (hservice : inService s = true)
    (hset : s.time.unset = false) (hg : intervalOf s group start = some g) (hdue : start + ltSec (g.sec + 1) ≤ now s)
    (hnone : s.led.work.resultOf group start = none) (htried : (group, start) ∉ s.balance.tried) :
    opBalanceFirst group start s = evalRow g start (decide (g.finalAt start ≤ now s)) s := by
  simp [opBalanceFirst, hg, hservice, hset, Nat.not_lt.mpr hdue, hnone, htried]

/-! ## The day's rows -/

/-- The input of a day's row, with the day noted. -/
def dayNoted (k : Nat) (s : State) : State :=
  newInput 6 { s with balance := { s.balance with days := s.balance.days.set k (s.led.work.utcDay (now s)) } }

/-- A day's row on a serving active. -/
theorem daily_due {k : Nat} {f : State → State} {s : State} (hactive : isActive s = true) (hservice : inService s = true)
    (hset : s.time.unset = false) (hday : s.balance.days.getD k 0 ≠ s.led.work.utcDay (now s)) : daily k f s = f (dayNoted k s) := by
  have hactive' : isActive { s with balance := { s.balance with days := s.balance.days.set k (s.led.work.utcDay (now s)) } } = true :=
    hactive
  simp only [daily, hservice, hset, beq_false_of_ne hday, Bool.not_true, Bool.or_self, Bool.false_eq_true, if_false,
    timerInput_of_active hactive']
  rfl

theorem countP_modifyFirst {α : Type} {p q : α → Bool} {f : α → α} (h : ∀ x, p x = true → q (f x) = q x) (l : List α) :
    (modifyFirst p f l).countP q = l.countP q := by
  induction l with
  | nil => rfl
  | cons x xs ih =>
    rw [modifyFirst]
    split
    next hp => simp [List.countP_cons, h x hp]
    next => simp [List.countP_cons, ih]

/-- A close leaves as many epochs HELD, and an epoch open. -/
theorem closeEpoch_takes (k : Nat) {s : State} (hopen : (openEpoch s).isSome = true) :
    (openEpoch (closeEpoch k s)).isSome = true ∧ heldCount (closeEpoch k s) = heldCount s := by
  unfold closeEpoch
  split
  · exact ⟨hopen, rfl⟩
  split
  · exact ⟨hopen, rfl⟩
  · simp only [openEpoch, List.find?_isSome, ← List.any_eq_true, heldCount, ← List.countP_eq_length_filter, closeNow_led,
      List.any_append, List.countP_append]
    refine ⟨by simp, (Nat.add_zero _).trans (countP_modifyFirst (fun x hx => ?_) _)⟩
    rw [beq_iff_eq] at hx
    rw [hx]
    rfl

/-- A group that the ledger takes leaves it taking groups into an open epoch. -/
theorem append_takes (items : List Item) (mh : Option Nat) {s : State} (hopen : (openEpoch s).isSome = true)
    (hu : takesGroups s = true) : (openEpoch (append items mh s)).isSome = true ∧ takesGroups (append items mh s) = true := by
  have hadded : (openEpoch (addGroup items mh false false s)).isSome = true ∧ heldCount (addGroup items mh false false s) = heldCount s := by
    simp only [openEpoch, List.find?_isSome, ← List.any_eq_true, heldCount, ← List.countP_eq_length_filter, addGroup_led] at hopen ⊢
    exact ⟨(any_modifyFirst (f := Epoch.take ⟨mh, now s, nextKey s, false, false, items⟩) _ _ (fun _ => rfl) _).trans hopen,
      countP_modifyFirst (f := Epoch.take ⟨mh, now s, nextKey s, false, false, items⟩) (fun _ _ => rfl) _⟩
  have happend : (openEpoch (append items mh s)).isSome = true ∧ heldCount (append items mh s) = heldCount s := by
    obtain ⟨e, he⟩ := Option.isSome_iff_exists.mp hopen
    simp only [takesGroups, Bool.and_eq_true, decide_eq_true_eq, Bool.not_eq_true'] at hu
    simp only [append, he, Nat.not_le.mpr hu.1, hu.2, decide_false, Bool.false_and, Bool.or_self, Bool.false_eq_true, if_false]
    unfold limitClose
    split
    · split
      · obtain ⟨hstill, hheld⟩ := closeEpoch_takes 3 hadded.1
        exact ⟨hstill, hheld.trans hadded.2⟩
      · exact hadded
    · exact hadded
  have hsalvage : inSalvage (append items mh s) = inSalvage s :=
    reads_of_appends (g := inSalvage) (fun _ _ _ _ _ _ _ _ _ _ _ _ => rfl) (appends_append items mh s)
  exact ⟨happend.1, by rw [takesGroups, happend.2, hsalvage]; exact hu⟩

theorem lookupNat_insertNat_of_ne {α : Type} {j k : Nat} (h : j ≠ k) (v : α) (l : List (Nat × α)) :
    lookupNat j (insertNat k v l) = lookupNat j l := by
  induction l with
  | nil => simp [insertNat, lookupNat, h.symm]
  | cons x xs ih =>
    obtain ⟨i, w⟩ := x
    unfold insertNat
    split
    · simp [lookupNat, h.symm]
    split
    next heq =>
      subst heq
      simp [lookupNat, h.symm]
    next => simp [lookupNat, ih]

/-- A record as a group of an epoch leaves it. -/
def changedIn (n : Nat) (r : Rec) : Rec := { r with counts := { r.counts with lastChangeEpoch := n } }

/-- A record changed by a group that the ledger takes. -/
theorem patchRec_getRec {s : State} {idx : Nat} {f : Rec → Rec} (hopen : (openEpoch s).isSome = true) (hu : takesGroups s = true) :
    (∀ j, j ≠ idx → getRec (patchRec idx f [] s) j = getRec s j) ∧
      ∀ r, getRec s idx = some r → ∃ n, getRec (patchRec idx f [] s) idx = some (changedIn n (f r)) := by
  unfold patchRec
  cases hr : getRec s idx with
  | none => exact ⟨fun _ _ => rfl, fun _ h => by cases h⟩
  | some r =>
    simp only [getRec, append_work hopen hu]
    exact ⟨fun j hj => lookupNat_insertNat_of_ne hj _ _, fun r' h => by cases h; exact ⟨_, lookupNat_insertNat_self _ _ _⟩⟩

/-- The records of a list changed one after the other. -/
def patchAll (f : Rec → Rec) (l : List (Nat × Rec)) (s : State) : State := l.foldl (fun s e => patchRec e.1 f [] s) s

theorem patchRec_takes {s : State} (idx : Nat) (f : Rec → Rec) (hopen : (openEpoch s).isSome = true) (hu : takesGroups s = true) :
    (openEpoch (patchRec idx f [] s)).isSome = true ∧ takesGroups (patchRec idx f [] s) = true := by
  unfold patchRec
  split
  · exact append_takes _ _ hopen hu
  · exact ⟨hopen, hu⟩

/-- A list that names each record once changes each once and no other. -/
theorem patchAll_getRec {f : Rec → Rec} {l : List (Nat × Rec)} {s : State} (hnodup : (l.map (·.1)).Nodup)
    (hopen : (openEpoch s).isSome = true) (hu : takesGroups s = true) :
    (∀ j, j ∉ l.map (·.1) → getRec (patchAll f l s) j = getRec s j) ∧
      ∀ j ∈ l.map (·.1), ∀ r, getRec s j = some r → ∃ n, getRec (patchAll f l s) j = some (changedIn n (f r)) := by
  induction l generalizing s with
  | nil => exact ⟨fun _ _ => rfl, by simp⟩
  | cons e l ih =>
    rw [List.map_cons, List.nodup_cons] at hnodup
    obtain ⟨hopen', hu'⟩ := patchRec_takes e.1 f hopen hu
    obtain ⟨hothers, hself⟩ := patchRec_getRec (f := f) (idx := e.1) hopen hu
    obtain ⟨hout, hin⟩ := ih (s := patchRec e.1 f [] s) hnodup.2 hopen' hu'
    refine ⟨fun j hj => ?_, fun j hj r hr => ?_⟩
    · rw [List.map_cons, List.mem_cons, not_or] at hj
      exact (hout j hj.2).trans (hothers j hj.1)
    · rw [List.map_cons, List.mem_cons] at hj
      by_cases he : j = e.1
      · subst he
        obtain ⟨n, hn⟩ := hself r hr
        exact ⟨n, (hout e.1 hnodup.1).trans hn⟩
      · exact hin j (hj.resolve_left he) r ((hothers j he).trans hr)

theorem appends_patchRec (idx : Nat) (f : Rec → Rec) (evs : List EvRec) (s : State) : Appends s (patchRec idx f evs s) := by
  unfold patchRec
  split
  · exact appends_append _ _ s
  · exact appends_refl s

theorem appends_patchAll (f : Rec → Rec) (l : List (Nat × Rec)) (s : State) : Appends s (patchAll f l s) := by
  induction l generalizing s with
  | nil => exact appends_refl s
  | cons e l ih => exact appends_trans (appends_patchRec e.1 f [] s) (ih _)

/-- A record that stands in the list once is what its index finds. -/
theorem lookupNat_of_mem {α : Type} {l : List (Nat × α)} {k : Nat} {v : α} (hnodup : (l.map (·.1)).Nodup) (h : (k, v) ∈ l) :
    lookupNat k l = some v := by
  induction l with
  | nil => cases h
  | cons x xs ih =>
    obtain ⟨j, w⟩ := x
    rw [List.map_cons, List.nodup_cons] at hnodup
    rcases List.mem_cons.mp h with heq | hmem
    · cases heq
      simp [lookupNat]
    · have hne : j ≠ k := fun hjk => hnodup.1 (List.mem_map.mpr ⟨(k, v), hmem, hjk.symm⟩)
      simp [lookupNat, hne, ih hnodup.2 hmem]

/-- The chip's own records, as PEAK_DAY_CLEAR goes through them. -/
def ownRecs (s : State) : List (Nat × Rec) := s.led.work.recs.filter fun e => e.2.segment == 0

/-- The next day's entry of every own meter's PEAK. -/
theorem patchAll_nextPeakDay {s : State} (hnodup : (s.led.work.recs.map (·.1)).Nodup) (hopen : (openEpoch s).isSome = true)
    (hu : takesGroups s = true) :
    (∀ idx r, (idx, r) ∈ s.led.work.recs → r.segment = 0 → ∃ r', getRec (patchAll Rec.nextPeakDay (ownRecs s) s) idx = some r' ∧
      r'.bal.peakPos = (r.bal.peakPos + 1) % 7 ∧ r'.bal.peakDay = r.bal.peakDay.set ((r.bal.peakPos + 1) % 7) 0 ∧
      r'.net = r.net ∧ r'.place = r.place ∧ r'.clock = r.clock) ∧
    ∀ idx r, (idx, r) ∈ s.led.work.recs → r.segment ≠ 0 → getRec (patchAll Rec.nextPeakDay (ownRecs s) s) idx = some r := by
  have hown : ((ownRecs s).map (·.1)).Nodup := hnodup.sublist (List.filter_sublist.map _)
  obtain ⟨hothers, hchanged⟩ := patchAll_getRec (f := Rec.nextPeakDay) hown hopen hu
  refine ⟨fun idx r hr hseg => ?_, fun idx r hr hseg => ?_⟩
  · have hmem : idx ∈ (ownRecs s).map (·.1) :=
      List.mem_map.mpr ⟨(idx, r), List.mem_filter.mpr ⟨hr, by simpa using hseg⟩, rfl⟩
    obtain ⟨n, hn⟩ := hchanged idx hmem r (lookupNat_of_mem hnodup hr)
    exact ⟨_, hn, rfl, rfl, rfl, rfl, rfl⟩
  · refine (hothers idx fun hmem => ?_).trans (lookupNat_of_mem hnodup hr)
    obtain ⟨⟨j, r'⟩, hr', rfl⟩ := List.mem_map.mp hmem
    obtain ⟨hr', hseg'⟩ := List.mem_filter.mp hr'
    have hsame := (lookupNat_of_mem hnodup hr').symm.trans (lookupNat_of_mem hnodup hr)
    cases hsame
    exact hseg (by simpa using hseg')

/-- Settles O28: intervals by `evalRow_takes` and `evalRow_held`, the day's rows by `daily_due`, PEAK by `patchAll_nextPeakDay`. -/
theorem balanceRowsEvaluate : Obligations.BalanceRowsEvaluate := by
  unfold Obligations.BalanceRowsEvaluate
  refine ⟨?first, ?firstHeld, ?final, ?groups, ?peak, ?phase, ?branch⟩
  case first =>
    rintro s u group start g hactive hservice hset hg hdue hnone htried hu rfl
    exact next_onTimer (not_standby_of_active hactive)
      ((opBalanceFirst_due hservice hset hg hdue hnone htried).trans (evalRow_takes hactive hu))
  case firstHeld =>
    intro s group start g hactive hservice hset hg hdue hnone htried hheld
    refine ⟨_, next_onTimer (not_standby_of_active hactive)
      ((opBalanceFirst_due hservice hset hg hdue hnone htried).trans (evalRow_held hheld)), timerInput_led s, ?_⟩
    simp only [timerInput_balance]
  case final =>
    rintro s u group start g r hactive hservice hset hg hdue hr hdone hu rfl
    refine next_onTimer (not_standby_of_active hactive) ?_
    rw [← evalRow_takes hactive hu]
    simp [opBalanceFinal, hg, hservice, hset, Nat.not_lt.mpr hdue, hr, hdone]
  case groups =>
    rintro s p x u hactive hservice hset hp rfl hdue rfl
    refine next_onTimer (not_standby_of_active hactive) ?_
    simp [opGroupTableEffective, hp, hservice, hset, Nat.not_lt.mpr hdue, timerInput_of_active hactive]
  case peak =>
    intro s hactive hservice hset hday hu hopen hnodup
    have hled : (dayNoted 0 s).led = s.led := newInput_led 6 _
    have hstore : (dayNoted 0 s).store = s.store := newInput_store 6 _
    obtain ⟨hown, hothers⟩ := patchAll_nextPeakDay (s := dayNoted 0 s) (by rwa [hled]) (by rwa [openEpoch, hled])
      ((takesGroups_of hled hstore).trans hu)
    rw [hled] at hown hothers
    refine ⟨patchAll Rec.nextPeakDay (ownRecs (dayNoted 0 s)) (dayNoted 0 s),
      next_onTimer (not_standby_of_active hactive) (daily_due hactive hservice hset hday), ?_, hown, hothers⟩
    have hbalance := reads_of_appends (g := fun u => u.balance.days) (fun _ _ _ _ _ _ _ _ _ _ _ _ => rfl)
      (appends_patchAll Rec.nextPeakDay (ownRecs (dayNoted 0 s)) (dayNoted 0 s))
    rw [hbalance]
    exact congrArg BalanceRun.days (newInput_balance 6 _)
  case phase =>
    rintro s u hactive hservice hset hday rfl
    refine next_onTimer (not_standby_of_active hactive) ((daily_due hactive hservice hset hday).trans ?_)
    rw [dayNoted, newInput_led]
  case branch =>
    rintro s u t hactive hservice hset hday ht rfl
    refine next_onTimer (not_standby_of_active hactive) ((daily_due hactive hservice hset hday).trans ?_)
    simp only [dayNoted, newInput_led, ht]

end Sys2Proof.BalanceRows
end

section
/-! PROOF. A snapshot from its forming to its end (R184 to R187, R203, R238, R239). -/

namespace Sys2Proof.SnapshotRows

open Sys2Proof Sys2Proof.Machine Sys2Proof.Safety Sys2Proof.LedgerFrame Sys2Proof.ScheduledWork Sys2Proof.MeterFrames

/-- A timer of an active, whose first step is an input of the stream. -/
theorem next_onTimer_active {s t : State} {op : State → State} (hs : isActive s = true)
    (h : timerInput s = newInput 6 s → op s = t) :
    (Host.Outcome.next (onTimer op s) : Host.Outcome State Fault Refusal) = .next t :=
  next_onTimer (not_standby_of_active hs) (h (timerInput_of_active hs))

/-- The drop tests move the balance run only. -/
theorem dropTests_eq (id : Nat) (s : State) : ∃ b, dropTests id s = { s with balance := b } := by
  unfold dropTests
  split
  · exact ⟨_, rfl⟩
  · next t ht =>
    clear ht
    generalize t.branches = l
    induction l generalizing s with
    | nil => exact ⟨_, rfl⟩
    | cons b l ih =>
      rw [List.foldl_cons]
      split
      · exact ih s
      split
      · exact ih s
      split
      · exact ih s
      · exact ih { s with balance := { s.balance with branches := _ } }

/-- At its end a snapshot is dropped and the drop tests run. -/
theorem inflightOf_snapshotEnd (key : Nat × Nat) (id : Nat) (f : List Snapshot → List Snapshot) (s : State) :
    inflightOf (dropTests id (onSnapshots f (newInput 6 s))) key = inflightOf s key := by
  obtain ⟨b, h⟩ := dropTests_eq id (onSnapshots f (newInput 6 s))
  rw [h]
  exact newInput_reads (inflightOf · key) 6 s fun _ _ _ _ => rfl

theorem opPeriodicSnapshot_forms {s : State} {group : Nat} {g : GroupDesc} {x : LTime} (hservice : inService s = true)
    (hset : s.time.unset = false) (hg : s.led.work.groupAt group (now s) = some g) (hown : g.own s = true)
    (hperiodic : g.ref.periodicSnap = true)
    (hx : x = s.led.work.slotOf g.snapSec (now s + ltSec g.snapSec - ltSec 450) + ltSec 450) (hsoon : x ≤ now s + ltSec 30)
    (hnew : (s.balance.snapshots.any fun y => y.group == group && y.at_ == x) = false) :
    opPeriodicSnapshot group s = formSnapshot x group none (timerInput s) := by
  unfold opPeriodicSnapshot
  simp only [hg, ← hx, hservice, hset, hown, hperiodic, hnew, Nat.not_lt.mpr hsoon, decide_false, Bool.not_true, Bool.or_self,
    Bool.false_eq_true, if_false]

theorem opSnapshotOrder_sends {s : State} {id : Nat} {x : Snapshot} (hx : snapshotOf s id = some x) (hsent : x.ordersSent < 2)
    (hearly : now s < x.at_) (hdue : x.at_ - ltSec (if x.ordersSent = 0 then 20 else 10) ≤ now s) : opSnapshotOrder id s =
      [Net.plc, Net.rf].foldl (fun v n => broadcast n 3 (floodHops v n) (.snapshotOrder id x.at_) v)
        (onSnapshot id (fun x => { x with ordersSent := x.ordersSent + 1 }) (timerInput s)) := by
  unfold opSnapshotOrder
  simp only [hx, ge_iff_le, Nat.not_le.mpr hsent, Nat.not_le.mpr hearly, Nat.not_lt.mpr hdue, decide_false, Bool.or_self,
    Bool.false_eq_true, if_false]

/-- A snapshot with a meter's fetch over, and its reply latched. -/
def latchMeter (id idx : Nat) (s : State) : State :=
  onSnapshot id (fun x => { x with
    outstanding := x.outstanding.filter fun o => o.1 != idx
    latched := x.latched ++ [idx] }) s

/-- What a good reply leaves: the voltage for the day, and the meter's record moved. -/
def snapMeter (id idx : Nat) (at_ : LTime) (ps : List (Option SnapPhase)) (u : State) : State :=
  placeMeter idx (Rec.snapped u.led.work id at_ ps) { u with
    balance := { u.balance with snapVolts := insertNat idx (((lookupNat idx u.balance.snapVolts).getD []) ++
      [(id, ((ps.filterMap fun p => p).head?.map (·.vMv)).getD 0)]) u.balance.snapVolts } }

/-- A reply of a selected meter, in time and not latched before. -/
theorem opSnapshotReply_known {s s' : State} {f : RxFrame} {id st unc idx : Nat} {ps : List (Option SnapPhase)} {r : Rec} {x : Snapshot}
    (hmsg : f.msg = .snapshotReply id st unc ps) (hmay : mayProcess s = true) (hrx : takeRx f s = some s')
    (hsource : sourceOf s' f = some (idx, r)) (hx : snapshotOf s' id = some x) (hsalvage : inSalvage s' = false)
    (hselected : (x.selected.any fun m => m.1 == idx) = true) (hnew : idx ∉ x.latched) (htime : now s' < x.at_ + ltSec 60) :
    opSnapshotReply f s = fillFetch id (
      if st = 0 ∧ unc ≤ 50 then snapMeter id idx x.at_ ps (latchMeter id idx s')
      else onSnapshot id (fun x => { x with outstanding := x.outstanding.filter fun o => o.1 != idx }) s') := by
  unfold opSnapshotReply
  rw [hmsg]
  dsimp only
  rw [onFrame_known hmay hrx hsource, hx]
  dsimp only
  rw [if_neg (by simp [hsalvage, hnew, Nat.not_le.mpr htime]; simpa using hselected)]
  by_cases hok : st = 0 ∧ unc ≤ 50
  · simp only [hok, beq_self_eq_true, decide_true, Bool.and_self, Bool.not_true, Bool.false_eq_true, if_false, and_self, if_true]
    rfl
  · have hbad : (st == 0 && decide (unc ≤ 50)) = false := by simpa using hok
    simp only [hok, hbad, Bool.not_false, Bool.false_eq_true, if_false, if_true]

/-- The end of a snapshot: its event goes into a group of its own, or with its command's completion. -/
theorem opSnapshotDone_due {s u : State} {id : Nat} {x : Snapshot} (hx : snapshotOf s id = some x) (hdue : x.at_ + ltSec 60 ≤ now s)
    (hu : u = dropTests id (onSnapshots (fun l => l.filter fun y => y.id != id) (timerInput s))) :
    opSnapshotDone id s = (x.cmd.bind (inflightOf u)).elim
      (append [.event (mkEv (timerInput s) 0x0504 (putLe 4 id ++ putLe 4 x.latched.length) none)] none u)
      fun f => finish f (.change [.event (mkEv (timerInput s) 0x0504 (putLe 4 id ++ putLe 4 x.latched.length) none)]
        (auditParam f.cmd none) 0 (putLe 4 id ++ putLe 4 x.latched.length) [] 0 u) u := by
  unfold opSnapshotDone
  rw [hx]
  dsimp only
  rw [if_neg (by simp [Nat.not_lt.mpr hdue]), ← hu]
  cases x.cmd.bind (inflightOf u) <;> rfl

/-- Settles O30: each row by its conditions, on an active. -/
theorem snapshotsRun : Obligations.SnapshotsRun := by
  unfold Obligations.SnapshotsRun
  refine ⟨?periodic, ?order, ?latch, ?fetch, ?again, ?givenUp, ?reply, ?badReply, ?done, ?doneCommand⟩
  case periodic =>
    intro s group g x hactive hservice hset hg hown hperiodic hx hsoon hnew
    refine next_onTimer_active hactive fun hinput => ?_
    rw [opPeriodicSnapshot_forms hservice hset hg hown hperiodic hx hsoon hnew, hinput]
  case order =>
    rintro s id x u hactive hx hsent hearly hdue rfl
    refine next_onTimer_active hactive fun hinput => ?_
    rw [opSnapshotOrder_sends hx hsent hearly hdue, hinput]
  case latch =>
    intro s id x ins hactive hx hdue hnew
    refine next_onTimer_active hactive fun hinput => ?_
    unfold opSnapshotLatch
    simp only [hx, Nat.not_lt.mpr hdue, hnew, decide_false, Bool.or_self, Bool.false_eq_true, if_false, hinput]
  case fetch =>
    rintro s id x ms hactive hx hdue hnew rfl
    refine next_onTimer_active hactive fun hinput => ?_
    unfold opSnapshotFetch
    simp only [hx, Nat.not_lt.mpr hdue, hnew, List.isEmpty_nil, Bool.not_true, decide_false, Bool.or_self, Bool.false_eq_true,
      if_false, hinput]
  case again =>
    intro s idx x net due hactive hx ho htime
    refine next_onTimer_active hactive fun hinput => ?_
    unfold opSnapshotTimeout
    rw [hx]
    dsimp only
    have hnow : now (newInput 6 s) = now s := newInput_reads now 6 s fun _ _ _ _ => rfl
    rw [ho, hinput]
    dsimp only
    rw [if_pos (by simp [hnow, htime])]
  case givenUp =>
    intro s idx x net due hactive hx ho
    refine next_onTimer_active hactive fun hinput => ?_
    unfold opSnapshotTimeout
    rw [hx]
    dsimp only
    rw [ho]
    simp [hinput]
  case reply =>
    rintro s s' f id unc ps idx r x u hmsg hunc hmay hrx hsource hx hsalvage hselected hnew htime rfl
    refine congrArg Host.Outcome.next ?_
    rw [opSnapshotReply_known hmsg hmay hrx hsource hx hsalvage hselected hnew htime, if_pos ⟨rfl, hunc⟩]
    rfl
  case badReply =>
    intro s s' f id st unc ps idx r x hmsg hbad hmay hrx hsource hx hsalvage hselected hnew htime
    refine congrArg Host.Outcome.next ?_
    rw [opSnapshotReply_known hmsg hmay hrx hsource hx hsalvage hselected hnew htime, if_neg (by omega)]
  case done =>
    rintro s id x u hactive hx hdue hcmd rfl
    refine next_onTimer_active hactive fun hinput => ?_
    rw [opSnapshotDone_due hx hdue rfl, hinput, hcmd]
    rfl
  case doneCommand =>
    rintro s id x u f hactive hx hdue hf rfl
    refine ⟨_, _, rfl, rfl, next_onTimer_active hactive fun hinput => ?_⟩
    have hfly : x.cmd.bind (inflightOf (dropTests id (onSnapshots (fun l => l.filter fun y => y.id != id) (newInput 6 s)))) = some f := by
      rw [← hf]
      exact congrArg x.cmd.bind (funext fun key => inflightOf_snapshotEnd key id _ s)
    rw [opSnapshotDone_due hx hdue rfl, hinput, hfly]
    rfl

end Sys2Proof.SnapshotRows
end

section
/-! PROOF. Metrology and the die-to-die link (R15, R197, R201, R205, R206, R211, R356). -/

namespace Sys2Proof.MetrologyRows

open Sys2Proof Sys2Proof.Machine Sys2Proof.Safety Sys2Proof.LedgerFrame Sys2Proof.ScheduledWork Sys2Proof.SnapshotRows

/-- A minute of a running count that has ended. -/
theorem minuteEnds_next {s : State} {x : MinuteMeans} {start : LTime} (hstart : start = s.led.work.slotOf 60 (now s))
    (hrunning : s.met.minuteStart ≠ 0) (hnew : start ≠ s.met.minuteStart) : minuteEnds x s =
      compareMinute (s.met.minute x) (onMet (Metrology.nextMinute start s.d2d.up) (append [.minute (s.met.minute x)] none
        (timerInput { s with counters := { s.counters with
          feederMissing := s.counters.feederMissing + (s.met.minute x).missing } }))) := by
  unfold minuteEnds
  dsimp only
  rw [if_neg hrunning, ← hstart, if_neg hnew]

/-- Settles O31: each row by its conditions. -/
theorem metrologyRuns : Obligations.MetrologyRuns := by
  unfold Obligations.MetrologyRuns
  refine ⟨?frame, ?standbyFrame, ?pulse, ?noPulse, ?minute, ?calibration, ?lost, ?retrained, ?failed⟩
  case frame =>
    intro s m hactive hservice hup
    exact congrArg Host.Outcome.next (by simp [opMetFrame, hactive, hservice, hup, not_standby_of_active hactive])
  case standbyFrame =>
    intro s m hstandby hservice hup
    exact ⟨ownEnergy (m.own s) s, congrArg Host.Outcome.next (by simp [opMetFrame, hstandby, hservice, hup]), rfl⟩
  case pulse =>
    intro s n e hfield he hon
    exact congrArg Host.Outcome.next (by simp [opS0Pulse, hfield, he, hon, onMet])
  case noPulse =>
    intro s n hoff
    refine congrArg Host.Outcome.next (if_pos ?_)
    rcases hoff with hfield | hoff
    · simp [hfield]
    · cases hentry : pulseEntry s n <;> simp_all
  case minute =>
    rintro s x m start r u hactive hservice hstart hrunning hnew rfl rfl rfl
    have hinput := fun c : Counters => timerInput_of_active (s := { s with counters := c }) hactive
    refine next_onTimer (not_standby_of_active hactive) ?_
    rw [opFeederMinute, if_neg (by simp [hservice]), minuteEnds_next hstart hrunning hnew, hinput]
  case calibration =>
    rintro s p x hactive hservice hp rfl hdue
    refine congrArg Host.Outcome.next ?_
    unfold opCalEffective
    rw [hp]
    dsimp only
    rw [if_neg (by simp [hservice, hactive, Nat.not_le.mpr hdue])]
  case lost =>
    rintro s u hup rfl
    exact congrArg Host.Outcome.next (if_neg (by simp [hup]))
  case retrained =>
    intro s hdown hretraining hfield htime
    exact congrArg Host.Outcome.next (if_neg (by simp [hdown, hretraining, hfield, htime]))
  case failed =>
    intro s hdown hretraining htime
    exact congrArg Host.Outcome.next (if_neg (by simp [hdown, hretraining, htime]))

end Sys2Proof.MetrologyRows
end

section
/-! PROOF. The sequence of an own relay's coil (R207 to R209, R485, Table MT.6). -/

namespace Sys2Proof.RelayRows

open Sys2Proof Sys2Proof.Machine Sys2Proof.Safety

/-- The sequence that runs is the first of the list. -/
theorem runningSeq_iff {s : State} {n : Nat} {p : CoilPhase} {q : CoilSeq} :
    runningSeq s n p = some q ↔ ∃ rest, s.met.relays = q :: rest ∧ q.relay = n ∧ q.phase = p := by
  unfold runningSeq
  cases hrelays : s.met.relays with
  | nil => simp
  | cons q' rest =>
    by_cases hq : q'.relay = n ∧ q'.phase = p
    · simp only [hq, beq_self_eq_true, decide_true, Bool.and_self, if_true, Option.some.injEq]
      exact ⟨fun h => h ▸ ⟨rest, rfl, hq⟩, fun ⟨_, h, _⟩ => (List.cons.inj h).1⟩
    · have hno : (decide (q'.relay = n) && q'.phase == p) = false := by simpa using hq
      simp only [hno, Bool.false_eq_true, if_false, reduceCtorEq, false_iff, not_exists]
      rintro rest' ⟨h, hn⟩
      exact hq ((List.cons.inj h).1 ▸ hn)

theorem onHead_running {s : State} {n : Nat} {p : CoilPhase} {q : CoilSeq} (h : runningSeq s n p = some q) (f : CoilSeq → CoilSeq) :
    onHead f s = { s with met := { s.met with relays := f q :: s.met.relays.tail } } := by
  obtain ⟨rest, hrelays, -, -⟩ := runningSeq_iff.mp h
  simp [onHead, onMet, hrelays]

/-- A sequence with a coil to drive: the pulse goes out. -/
theorem energise_running {s : State} {n : Nat} {p : CoilPhase} {q : CoilSeq} (h : runningSeq s n p = some q) :
    energise q s = { s with
      out := s.out ++ [.coil q.relay (some q.target)]
      met := { s.met with
        relays := { q with phase := .pulsing, since := s.clk, pulse := q.pulse + 1 } :: s.met.relays.tail } } := by
  rw [energise, onHead_running h]
  rfl

/-- The relays of a chip that are fitted stand beside the sequence that runs: what the coil's end leaves of it. -/
theorem runningSeq_of_relays {s t : State} (h : t.met.relays = s.met.relays) (n : Nat) (p : CoilPhase) :
    runningSeq t n p = runningSeq s n p := by
  rw [runningSeq, runningSeq, h]

/-- A waiting sequence with nothing in its way: the first kick drives its coil, and the pulse holds the next. -/
theorem kickCoil_waiting {s : State} {q : CoilSeq} {rest : List CoilSeq} (hrelays : s.met.relays = q :: rest)
    (hphase : q.phase = .waiting) (hfree : coilHeld s = false) (hgap : gapPassed s q.relay = true)
    (hshows : contactShows s q.relay q.target = false) : kickCoil s = energise q s := by
  simp [kickCoil, kickCoilN, hrelays, hphase, hfree, hgap, hshows]

/-- Settles O32: each row by the phase of the sequence that runs. -/
theorem ownRelaySequenceRuns : Obligations.OwnRelaySequenceRuns := by
  unfold Obligations.OwnRelaySequenceRuns
  refine ⟨?weak, ?carries, ?overcurrent, ?pulseEnd, ?inPlace, ?again, ?notInPlace, ?repulse, ?unstable, ?aux, ?gap⟩
  case weak =>
    intro s n ma q hq htime hweak
    exact congrArg Host.Outcome.next (by simp [opCurrentCheck, hq, Nat.not_lt.mpr htime, hweak])
  case carries =>
    intro s n ma q hq htime hma
    exact congrArg Host.Outcome.next (by
      simp [opCurrentCheck, hq, Nat.not_lt.mpr htime, Nat.not_lt.mpr hma, onHead_running hq])
  case overcurrent =>
    intro s n ma q hq hma
    exact congrArg Host.Outcome.next (by simp [opOvercurrent, hq, Nat.not_le.mpr hma])
  case pulseEnd =>
    intro s n ma q e hq he htime
    refine congrArg Host.Outcome.next ?_
    have hq' : runningSeq (coilOff n s) n .pulsing = some q := (runningSeq_of_relays (s := s) (t := coilOff n s) rfl n .pulsing).trans hq
    simp only [opPulseEnd, hq, he, Option.map_some, Option.getD_some, Nat.not_lt.mpr htime, decide_false, Bool.false_eq_true, if_false,
      onHead_running hq']
    rfl
  case inPlace =>
    rintro s n q u hq htime rfl
    exact congrArg Host.Outcome.next (by simp [opAuxCheck, hq, Nat.not_lt.mpr htime])
  case again =>
    rintro s n q u hq htime hpulse rfl
    have hq' : runningSeq (setAux n (!q.target) s) n .settling = some q :=
      (runningSeq_of_relays (s := s) (t := setAux n (!q.target) s) rfl n .settling).trans hq
    refine ⟨_, congrArg Host.Outcome.next ?_, rfl⟩
    simp only [opAuxCheck, hq, Nat.not_lt.mpr htime, decide_false, Bool.false_eq_true, if_false, beq_iff_eq, Bool.not_eq_self, hpulse,
      if_true, onHead_running hq']
    rfl
  case notInPlace =>
    rintro s n q u hq htime hpulse rfl
    exact congrArg Host.Outcome.next (by simp [opAuxCheck, hq, Nat.not_lt.mpr htime, hpulse])
  case repulse =>
    intro s n q hq hgap hfree
    exact congrArg Host.Outcome.next (by simp [opRepulse, hq, hgap, hfree, energise_running hq])
  case unstable =>
    intro s n q hq htime
    exact congrArg Host.Outcome.next (by simp [opAuxUnstable, hq, Nat.not_lt.mpr htime])
  case aux =>
    intro s n closed hn hidle hservice hactive hup
    have hservice' : inService (setAux n closed s) = true := hservice
    have hactive' : isActive (setAux n closed s) = true := hactive
    have hidle' : ((setAux n closed s).met.relays.any fun q => q.relay == n && q.phase != .waiting) = false := hidle
    have hup' : (setAux n closed s).d2d.up = true := hup
    exact congrArg Host.Outcome.next (by simp only [opAuxChange, gt_iff_lt, Nat.not_lt.mpr hn, hidle', hservice', hactive', hup',
      decide_false, Bool.not_true, Bool.or_self, Bool.false_eq_true, if_false])
  case gap =>
    rintro s n q rest hrelays rfl hphase hfree hgap hshows
    have hq : runningSeq s q.relay .waiting = some q := runningSeq_iff.mpr ⟨rest, hrelays, rfl, hphase⟩
    refine congrArg Host.Outcome.next ?_
    rw [opRelayGap, hq]
    dsimp only
    rw [kickCoil_waiting hrelays hphase hfree hgap hshows, energise_running hq, hrelays, List.tail_cons]

end Sys2Proof.RelayRows
end

section
/-! PROOF. Zither's frames: received, sent, retried and given up (R18, R217 to R231). -/

namespace Sys2Proof.ZitherRows

open Sys2Proof Sys2Proof.Machine Sys2Proof.Safety

/-- A Zither frame on a network that runs goes to the check of the MAC. -/
theorem opZitherFrame_runs {f : RxFrame} {s : State} (hnet : f.net = .plc) (hruns : netRuns s .plc = true) :
    opZitherFrame f s = if !(receiveMac f s).2 then (receiveMac f s).1
      else if f.orig == .short 0 then ownOrigin f (receiveMac f s).1 else (judgeFrame f (receiveMac f s).1).1 := by
  simp [opZitherFrame, hnet, hruns]

/-- A frame of good check sum and good form is received whole. -/
theorem receiveMac_good {f : RxFrame} (s : State) (hfcs : f.fcsOk = true) (hform : formGood f = true) :
    (receiveMac f s).2 = true := by
  simp [receiveMac, hfcs, hform]

/-- A whole frame of another station goes to the check of R18. -/
theorem opZitherFrame_good {f : RxFrame} {s u : State} (hnet : f.net = .plc) (hruns : netRuns s .plc = true)
    (hfcs : f.fcsOk = true) (hform : formGood f = true) (horig : f.orig ≠ .short 0) (hu : u = (receiveMac f s).1) :
    opZitherFrame f s = (judgeFrame f u).1 := by
  rw [opZitherFrame_runs hnet hruns, receiveMac_good s hfcs hform, hu]
  simp [horig]

/-- A frame that may go out of the queues is sent. -/
theorem opZitherTransmit_sends {s u v : State} {f : TxFrame} (limited : Bool) (hmay : mayTransmit s .plc = true)
    (hu : u = dropLost .plc (airDone .plc s)) (hnext : nextFrame u .plc = some f) (hsend : sendFirst f u = some v) :
    opZitherTransmit limited s =
      if limited then frameLimited (firstHop (routedFrame f v)) (carryRequest f (firstHop (routedFrame f v)) (dequeue f v))
      else carryRequest f (firstHop (routedFrame f v)) (dequeue f v) := by
  subst hu
  simp only [opZitherTransmit, hmay, Bool.not_true, Bool.false_eq_true, if_false, hnext, hsend]

/-- Settles O34: a received frame by the verdict of its check, a sent one by what the queues hold, an unanswered one by its sends. -/
theorem zitherFramesMove : Obligations.ZitherFramesMove := by
  unfold Obligations.ZitherFramesMove
  refine ⟨?badFcs, ?passes, ?badMic, ?sent, ?sentLimited, ?ackTimeout, ?silent, ?restored⟩
  case badFcs =>
    intro s f hnet hruns hfcs
    exact congrArg Host.Outcome.next (by simp [opZitherFrame_runs hnet hruns, receiveMac, hfcs, hnet] : opZitherFrame f s = _)
  case passes =>
    intro s f u hnet hruns hfcs hform horig hu hcheck hstandby htype
    refine congrArg Host.Outcome.next ((opZitherFrame_good hnet hruns hfcs hform horig hu).trans ?_)
    simp only [judgeFrame, hcheck, hstandby, Bool.false_eq_true, if_false, if_neg htype]
  case badMic =>
    intro s f u hnet hruns hfcs hform horig hu hcheck
    refine congrArg Host.Outcome.next ((opZitherFrame_good hnet hruns hfcs hform horig hu).trans ?_)
    simp only [judgeFrame, hcheck]
  case sent =>
    intro s u f v hmay hu hnext hsend
    exact congrArg Host.Outcome.next (opZitherTransmit_sends false hmay hu hnext hsend)
  case sentLimited =>
    intro s u f v hmay hu hnext hsend
    exact congrArg Host.Outcome.next (opZitherTransmit_sends true hmay hu hnext hsend)
  case ackTimeout =>
    intro s hop o hmay ho
    exact congrArg Host.Outcome.next (by simp only [opZitherAck, hmay, if_true, ho] : opZitherAck hop s = _)
  case silent =>
    intro s hop hmay
    exact congrArg Host.Outcome.next (by simp [opZitherAck, hmay] : opZitherAck hop s = _)
  case restored =>
    intro s hatten htime
    exact congrArg Host.Outcome.next (by simp [opLimitRestore, hatten, Nat.not_lt.mpr htime, onModem] : opLimitRestore s = _)

end Sys2Proof.ZitherRows
end

section
/-! PROOF. Tone maps and neighbours (R225, R227, R228). -/

namespace Sys2Proof.ToneMapRows

open Sys2Proof Sys2Proof.Machine Sys2Proof.Safety Sys2Proof.ScheduledWork

/-- Settles O35: each row by the state of the neighbour's tone map. -/
theorem toneMapsAreKept : Obligations.ToneMapsAreKept := by
  unfold Obligations.ToneMapsAreKept
  refine ⟨?request, ?response, ?asked, ?givenUp, ?holdoff, ?refresh, ?probe, ?expiry⟩
  case request =>
    intro s short snr hruns hmay
    have hanswer : opToneRequest short snr s =
        emit (.toneMapResponse short
          (buildMap (if Config.freeBool s.fresh then [6, 5, 4, 0] else [3, 2, 1, 0]) (itemVal s 0x0A02) snr).1
          (buildMap (if Config.freeBool s.fresh then [6, 5, 4, 0] else [3, 2, 1, 0]) (itemVal s 0x0A02) snr).2) (draw s) := by
      simp only [opToneRequest, hruns, hmay, Bool.not_true, Bool.or_self, Bool.false_eq_true, if_false]
    refine ⟨_, ?_, congrArg Host.Outcome.next hanswer⟩
    cases Config.freeBool s.fresh
    · exact .inr rfl
    · exact .inl rfl
  case response =>
    intro s short mod map cap lqi atten n u hruns hn hstate hu
    exact congrArg Host.Outcome.next (by
      simp [opToneResponse, hruns, hn, hstate, hu] : opToneResponse short mod map cap lqi atten s = _)
  case asked =>
    intro s short n hn hstate hprobe htime hrequests
    exact congrArg Host.Outcome.next (by
      simp [opToneTimeout, hn, hstate, hprobe, Nat.not_lt.mpr htime, hrequests] : opToneTimeout short s = _)
  case givenUp =>
    intro s short n hn hstate hprobe htime hrequests
    exact congrArg Host.Outcome.next (by
      simp [opToneTimeout, hn, hstate, hprobe, Nat.not_lt.mpr htime, Nat.not_lt.mpr hrequests] : opToneTimeout short s = _)
  case holdoff =>
    intro s short n hn hstate hset htime
    exact congrArg Host.Outcome.next (by
      simp [opToneHoldoff, hn, hstate, hset, Nat.not_lt.mpr htime] : opToneHoldoff short s = _)
  case refresh =>
    intro s short n hn hstate htime
    exact congrArg Host.Outcome.next (by
      simp [opToneRefresh, hn, hstate, Nat.not_lt.mpr htime] : opToneRefresh short s = _)
  case probe =>
    intro s short n d hstandby hmay hservice hn hdue htime
    exact next_onTimer hstandby (by simp [opLinkProbe, hmay, hservice, hn, hdue, Nat.not_lt.mpr htime])
  case expiry =>
    intro s net short n hstandby hn htime
    exact next_onTimer hstandby (by simp [opNeighbourExpiry, hn, Nat.not_lt.mpr htime])

end Sys2Proof.ToneMapRows
end

section
/-! PROOF. Routes of both networks follow reports, errors and repairs (R232 to R235, R253). -/

namespace Sys2Proof.RouteRows

open Sys2Proof Sys2Proof.Machine Sys2Proof.Safety Sys2Proof.LedgerFrame Sys2Proof.ScheduledWork Sys2Proof.MeterFrames
  Sys2Proof.SnapshotRows

/-- The link from `src` to `dst` has stood failed for its time (R253). -/
def FailOver (src dst clk : Nat) (k : Link) : Bool :=
  k.src == src && k.dst == dst && k.failedUntil != 0 && decide (k.failedUntil ≤ clk)

/-- The links after the end of a failure: the ended ones that a report named are usable again, the others go. -/
def linksAfterFail (src dst clk : Nat) (links : List Link) : List Link :=
  (links.filter fun k => k.reported || !FailOver src dst clk k).map fun k =>
    if FailOver src dst clk k then { k with failedUntil := 0 } else k

theorem opLinkFail_over {net : Net} {src dst : Nat} {s : State}
    (h : (modemOf s net).links.any (FailOver src dst s.clk) = true) :
    opLinkFail net src dst s =
      onModem net (fun m => { m with links := linksAfterFail src dst s.clk m.links }) (timerInput s) :=
  if_pos h

/-- No link of the pair is left failed beyond its time. -/
theorem not_failed_of_mem_linksAfterFail {src dst clk : Nat} {links : List Link} {k : Link}
    (h : k ∈ linksAfterFail src dst clk links) (hsrc : k.src = src) (hdst : k.dst = dst) :
    k.failedUntil = 0 ∨ clk < k.failedUntil := by
  obtain ⟨k', -, rfl⟩ := List.mem_map.mp h
  cases hfail : FailOver src dst clk k' with
  | true => exact .inl (by simp)
  | false =>
    simp only [hfail, Bool.false_eq_true, if_false] at hsrc hdst ⊢
    simp only [FailOver, hsrc, hdst, beq_self_eq_true, Bool.true_and, Bool.and_eq_false_iff, bne_eq_false_iff_eq,
      decide_eq_false_iff_not, not_le] at hfail
    exact hfail

/-- A link of another pair stands. -/
theorem mem_linksAfterFail_of_other {src dst clk : Nat} {links : List Link} {k : Link} (h : k ∈ links)
    (hother : k.src ≠ src ∨ k.dst ≠ dst) : k ∈ linksAfterFail src dst clk links := by
  have hfail : FailOver src dst clk k = false := by
    rcases hother with hsrc | hdst
    · simp [FailOver, hsrc]
    · simp [FailOver, hdst]
  exact List.mem_map.mpr ⟨k, List.mem_filter.mpr ⟨h, by simp [hfail]⟩, by simp [hfail]⟩

theorem modemOf_onModem (net : Net) (f : Modem → Modem) (s : State) : modemOf (onModem net f s) net = f (modemOf s net) := by
  cases net <;> rfl

theorem modemOf_timerInput (net : Net) (s : State) : modemOf (timerInput s) net = modemOf s net :=
  timerInput_reads (fun s => modemOf s net) s (fun _ _ _ _ => rfl)

theorem onModem_led (net : Net) (f : Modem → Modem) (s : State) : (onModem net f s).led = s.led := by
  cases net <;> rfl

theorem onModem_meters (net : Net) (f : Modem → Modem) (s : State) : (onModem net f s).meters = s.meters := by
  cases net <;> rfl

/-- A repair that is due on an active chip ends by the paths of now. -/
theorem opRouteRepair_due {s : State} {net : Net} {short : Nat} {r : Route} (hservice : inService s = true)
    (hr : r = routeTo s net short) (hstate : r.state = .repairing) (hdue : r.repairDue ≤ s.clk) :
    opRouteRepair net short s = endRepair net r (timerInput s) := by
  subst hr
  simp [opRouteRepair, hservice, hstate, Nat.not_lt.mpr hdue]

/-- Settles O36: reports and errors by their known source, repairs by the paths of now, failures by their time. -/
theorem routesFollowTheLinks : Obligations.RoutesFollowTheLinks := by
  unfold Obligations.RoutesFollowTheLinks
  refine ⟨?report, ?error, ?routeSet, ?repaired, ?unreachable, ?linkFail⟩
  case report =>
    intro s s' f ls a idx r hmsg horig hmay hrx hsource
    exact congrArg Host.Outcome.next (by
      simp only [opRouteReport, hmsg, horig, onFrame_known hmay hrx hsource] : opRouteReport f s = _)
  case error =>
    intro s s' f a next dst seq idx r hmsg horig hmay hrx hsource
    exact congrArg Host.Outcome.next (by
      simp only [opRouteError, hmsg, horig, onFrame_known hmay hrx hsource] : opRouteError f s = _)
  case routeSet =>
    intro s net short hstandby hservice hdue
    exact next_onTimer hstandby (by simp [opRouteSet, hservice, hdue])
  case repaired =>
    intro s net short r h hactive hservice hr hstate hdue hbest
    refine next_onTimer_active hactive fun hinput => ?_
    rw [opRouteRepair_due hservice hr hstate hdue, hinput]
    simp only [endRepair, hbest]
  case unreachable =>
    intro s net short r hactive hservice hr hstate hdue hbest
    refine next_onTimer_active hactive fun hinput => ?_
    rw [opRouteRepair_due hservice hr hstate hdue, hinput]
    simp only [endRepair, hbest]
  case linkFail =>
    intro s net src dst hstandby hover
    have hlinks : (modemOf (opLinkFail net src dst s) net).links = linksAfterFail src dst s.clk (modemOf s net).links := by
      rw [opLinkFail_over hover, modemOf_onModem, modemOf_timerInput]
    refine ⟨_, next_onTimer hstandby rfl, ?_, ?_, ?_, ?_⟩
    · rw [hlinks]
      exact fun k hk hsrc hdst => not_failed_of_mem_linksAfterFail hk hsrc hdst
    · rw [hlinks]
      exact fun k hk hother => mem_linksAfterFail_of_other hk hother
    · rw [opLinkFail_over hover, onModem_led, timerInput_led]
    · rw [opLinkFail_over hover, onModem_meters, timerInput_meters]

end Sys2Proof.RouteRows
end

section
/-! PROOF. Lyre's frames under the duty budget (R244 to R246, R249). -/

namespace Sys2Proof.LyreRows

open Sys2Proof Sys2Proof.Machine Sys2Proof.Safety Sys2Proof.ZitherRows

/-- A whole frame to many, of another station, goes to the check of Lyre: it owes no acknowledgement. -/
theorem opLyreFrame_good {f : RxFrame} {s u : State} (hnet : f.net = .rf) (hruns : netRuns s .rf = true)
    (htrain : trainOnAir s = false) (hfcs : f.fcsOk = true) (hform : formGood f = true) (huni : f.unicast = false)
    (horig : f.orig ≠ .short 0) (hu : u = (receiveMac f s).1) : opLyreFrame f s = lyreCheck f u := by
  simp [opLyreFrame, hnet, hruns, htrain, hfcs, huni, receiveMac_good s hfcs hform, horig, hu]

/-- What stands before a frame goes out: the losses and the sends of the last time are counted. -/
theorem opLyreTransmit_next {s u : State} {f : TxFrame} (air : Nat) (hmay : mayTransmit s .rf = true)
    (htrain : trainOnAir s = false) (hu : u = dropLost .rf (airDone .rf s)) (hnext : nextFrame u .rf = some f) :
    opLyreTransmit air s = if dutyAdmits u air then ((lyreSend f air u).map (dequeue f)).getD u
      else onMac .rf (fun c => { c with txHeld := inc64 c.txHeld })
        (onLyre (fun l => { l with duty := { l.duty with held := l.duty.held ++ [(f, air)] } }) (dequeue f u)) := by
  subst hu
  simp only [opLyreTransmit, hmay, htrain, Bool.not_true, Bool.or_self, Bool.false_eq_true, if_false, hnext]
  cases lyreSend f air (dropLost .rf (airDone .rf s)) <;> rfl

theorem lyreSend_of_sendFirst {f : TxFrame} {u v : State} (air : Nat) (h : sendFirst f u = some v) :
    lyreSend f air u = some (dutySpend air v) := by
  simp [lyreSend, h]

/-- Settles O37: a received frame by its check and the seen cache, a sent one by what the duty budget admits. -/
theorem lyreFramesMove : Obligations.LyreFramesMove := by
  unfold Obligations.LyreFramesMove
  refine ⟨?badFcs, ?copy, ?passes, ?sent, ?held, ?again, ?givenUp, ?released, ?beacon, ?forgotten⟩
  case badFcs =>
    intro s f hnet hruns htrain hfcs
    exact congrArg Host.Outcome.next (by simp [opLyreFrame, hnet, hruns, htrain, receiveMac, hfcs] : opLyreFrame f s = _)
  case copy =>
    intro s f u hnet hruns htrain hfcs hform huni horig hu hfloods hseen
    refine congrArg Host.Outcome.next ((opLyreFrame_good hnet hruns htrain hfcs hform huni horig hu).trans ?_)
    simp only [lyreCheck, hfloods, hseen, Bool.and_self, if_true]
  case passes =>
    intro s f u hnet hruns htrain hfcs hform huni horig hu hseen hcheck hstandby htype
    refine congrArg Host.Outcome.next ((opLyreFrame_good hnet hruns htrain hfcs hform huni horig hu).trans ?_)
    simp only [lyreCheck, hseen, Bool.and_false, Bool.false_eq_true, if_false, judgeFrame, hcheck, hstandby, if_neg htype,
      if_true]
  case sent =>
    intro s u f air v hmay htrain hu hnext hduty hsend
    refine congrArg Host.Outcome.next ((opLyreTransmit_next air hmay htrain hu hnext).trans ?_)
    simp [hduty, lyreSend_of_sendFirst air hsend]
  case held =>
    intro s u f air hmay htrain hu hnext hduty
    refine congrArg Host.Outcome.next ((opLyreTransmit_next air hmay htrain hu hnext).trans ?_)
    simp [hduty]
  case again =>
    intro s hop air o hmay htrain ho hsends
    exact congrArg Host.Outcome.next (by
      simp [opLyreAck, hmay, htrain, ho, Nat.not_le.mpr hsends] : opLyreAck hop air s = _)
  case givenUp =>
    intro s hop air o hmay htrain ho hsends
    exact congrArg Host.Outcome.next (by simp [opLyreAck, hmay, htrain, ho, hsends] : opLyreAck hop air s = _)
  case released =>
    intro s h v hmay htrain hheld hsend
    exact congrArg Host.Outcome.next (by
      simp only [opDutyRelease, hmay, htrain, Bool.not_true, Bool.or_self, Bool.false_eq_true, if_false, hheld,
        lyreSend_of_sendFirst h.2 hsend] : opDutyRelease s = _)
  case beacon =>
    intro s air hair hruns hmay htrain hdue hduty
    subst hair
    exact congrArg Host.Outcome.next (by
      simp [opLyreBeacon, hruns, hmay, htrain, Nat.not_lt.mpr hdue, hduty] : opLyreBeacon s = _)
  case forgotten =>
    exact fun _ _ _ => rfl

end Sys2Proof.LyreRows
end

section
/-! PROOF. Meters that sleep: check-ins, wake trains and rendezvous (R247, R255 to R259). -/

namespace Sys2Proof.SleeperRows

open Sys2Proof Sys2Proof.Machine Sys2Proof.Safety Sys2Proof.LedgerFrame Sys2Proof.ScheduledWork Sys2Proof.MeterFrames
  Sys2Proof.SnapshotRows

theorem find?_modifyFirst {α : Type} {p : α → Bool} {f : α → α} (h : ∀ x, p x = true → p (f x) = true) (l : List α) :
    (modifyFirst p f l).find? p = (l.find? p).map f := by
  induction l with
  | nil => rfl
  | cons x xs ih =>
    by_cases hx : p x = true
    · simp [modifyFirst, hx, h x hx]
    · simp [modifyFirst, hx, ih]

/-- A meter's rendezvous after a change of it that keeps its place. -/
theorem rendezvousOf_onRendezvous {f : Rendezvous → Rendezvous} (h : ∀ v, (f v).idx = v.idx) (idx : Nat) (s : State) :
    rendezvousOf (onRendezvous idx f s) idx = f (rendezvousOf s idx) := by
  have hplace : ∀ v : Rendezvous, (v.idx == idx) = true → ((f v).idx == idx) = true := by
    intro v hv
    rwa [h v]
  cases hany : s.lyre.rendezvous.any (fun v => v.idx == idx) with
  | true =>
    obtain ⟨w, hw⟩ := Option.isSome_iff_exists.mp (List.find?_isSome.mpr (List.any_eq_true.mp hany))
    simp [rendezvousOf, onRendezvous, hany, find?_modifyFirst hplace, hw]
  | false =>
    have hnone : s.lyre.rendezvous.find? (fun v => v.idx == idx) = none := by
      simpa [List.find?_eq_none] using hany
    have hblank : ((f (Rendezvous.blank idx)).idx == idx) = true := hplace _ (by simp [Rendezvous.blank])
    simp [rendezvousOf, onRendezvous, hany, hnone, hblank]

theorem rendezvousOf_timerInput (s : State) (idx : Nat) : rendezvousOf (timerInput s) idx = rendezvousOf s idx :=
  timerInput_reads (fun s => rendezvousOf s idx) s (fun _ _ _ _ => rfl)

/-- The rendezvous after a train that failed; `full` says that it covered the whole wake period. -/
def trainFailed (full : Bool) (v : Rendezvous) : Rendezvous :=
  { trainOver v with
    step := v.step + 1
    fullFails := v.fullFails + bit full
    lost := decide (v.fullFails + bit full ≥ 2) }

/-- A train of the chip's own that had no answer for 50 ms has failed. -/
theorem opTrainFailed_over {s : State} {idx a : Nat} {r : Rec} {p : SleepProfile}
    (hstart : (rendezvousOf s idx).trainStart = some a) (hown : (rendezvousOf s idx).orderDue = none)
    (hr : getRec s idx = some r) (hp : profileOf s r.cls = some p)
    (htime : (rendezvousOf s idx).trainEnd + msTicks 50 ≤ s.clk) :
    opTrainFailed idx s = onRendezvous idx (trainFailed (decide ((rendezvousOf s idx).halfMs ≥ p.wakePeriodS * 500)))
      (onMac .rf (fun c => { c with rendezvousFailed := inc64 c.rendezvousFailed }) (timerInput s)) := by
  simp only [opTrainFailed, hstart, hr, hown, Option.isSome_none, Bool.false_eq_true, if_false, hp,
    decide_eq_false (Nat.not_lt.mpr htime)]
  rfl

/-- The entry of a sender of installation beacons, with its count. -/
def installSender (f : RxFrame) (caps : Nat) (rssi measured : Int) (r : Rec) (s : State) : InstallSender :=
  ⟨r.identity.take 8, caps, rssi, measured, f.rxTime,
    min (((s.lyre.install.find? fun i => i.eui == r.identity.take 8).map (·.count)).getD 0 + 1) 0xFFFFFFFF⟩

/-- A meter that does not sleep has no reply window. -/
theorem replyWindow_awake {idx : Nat} {r : Rec} (s : State) (h : r.sleepy = false) : replyWindow idx r s = s := by
  simp [replyWindow, h]

/-- Settles O38: frames by their known source, trains by the plan of the meter that is awaited. -/
theorem sleepersAreMet : Obligations.SleepersAreMet := by
  unfold Obligations.SleepersAreMet
  refine ⟨?checkIn, ?install, ?order, ?train, ?later, ?wakeAck, ?failed⟩
  case checkIn =>
    intro s s' f tm b idx r hmsg hmay hrx hsource
    exact congrArg Host.Outcome.next (by simp only [opCheckIn, hmsg, onFrame_known hmay hrx hsource] : opCheckIn f s = _)
  case install =>
    intro s s' f caps rssi measured idx r hmsg hmay hrx hsource hawake
    have htaken : opInstallBeacon f measured s = onLyre (fun l => { l with
        install := lastN 64 ((l.install.filter fun i => i.eui != r.identity.take 8) ++
          [installSender f caps rssi measured r s']) }) s' := by
      simp only [opInstallBeacon, hmsg, onFrame_known hmay hrx hsource, replyWindow_awake _ hawake]
      rfl
    exact ⟨_, _, congrArg Host.Outcome.next htaken, rfl, rfl, rfl⟩
  case order =>
    intro s idx x r p parent t hstandby hawaited hparent hplan hfree
    refine ⟨_, rfl, next_onTimer hstandby ?_⟩
    simp only [opRendezvousOrder, hawaited, hparent, hplan, hfree, Bool.false_eq_true, if_false]
  case train =>
    intro s idx x r p t hactive hawaited hparent hplan hstart hfree hduty hmay
    refine next_onTimer_active hactive fun hinput => ?_
    have hbegins : isActive (trainBegins idx t none (newInput 6 s)) = true :=
      (newInput_reads isActive 6 s fun _ _ _ _ => rfl).trans hactive
    simp only [opTrainStart, hawaited, hparent, hplan, gt_iff_lt, if_neg (Nat.not_lt.mpr hstart), hfree, hactive, hduty, hmay,
      Bool.not_true, Bool.or_self, Bool.and_false, Bool.false_eq_true, if_false, hinput, hbegins, if_true]
  case later =>
    intro s idx x r p t hactive hawaited hparent hplan hstart hbusy
    refine next_onTimer_active hactive fun hinput => ?_
    have hlater : (overlaps s x none t || (isActive s && (!dutyAdmits s (ltTicks (t.ends - t.start)) || !mayTransmit s .rf))) =
        true := by
      rcases hbusy with hoverlap | hduty
      · simp [hoverlap]
      · simp [hactive, hduty]
    simp only [opTrainStart, hawaited, hparent, hplan, gt_iff_lt, if_neg (Nat.not_lt.mpr hstart), hlater, if_true, hinput]
  case wakeAck =>
    intro s s' f tm idx r u v hmsg hmay hrx hsource hu hv
    subst hu
    subst hv
    exact congrArg Host.Outcome.next (by simp only [opWakeAck, hmsg, onFrame_known hmay hrx hsource] : opWakeAck f s = _)
  case failed =>
    intro s idx r a p hactive hstart hown hr hp htime
    have hafter : rendezvousOf (opTrainFailed idx s) idx =
        trainFailed (decide ((rendezvousOf s idx).halfMs ≥ p.wakePeriodS * 500)) (rendezvousOf s idx) := by
      rw [opTrainFailed_over hstart hown hr hp htime, rendezvousOf_onRendezvous (f := trainFailed _) (fun _ => rfl)]
      exact congrArg _ (rendezvousOf_timerInput s idx)
    refine ⟨_, next_onTimer (not_standby_of_active hactive) rfl, ?_, ?_, ?_, ?_, ?_⟩
    · rw [hafter, trainFailed]
    · rw [hafter, trainFailed, trainOver]
    · rw [hafter, trainFailed]
      simp [bit]
    · rw [hafter, trainFailed]
    · rw [opTrainFailed_over hstart hown hr hp htime]
      exact timerInput_led s

end Sys2Proof.SleeperRows
end

section
/-! PROOF. The timebase, PTP, 1PPS, leap seconds and beacons (R263 to R284, R299). -/

namespace Sys2Proof.ClockRows

open Sys2Proof Sys2Proof.Machine Sys2Proof.Safety Sys2Proof.LedgerFrame Sys2Proof.ScheduledWork Sys2Proof.SnapshotRows

/-! ## Edges of the 1PPS input (R271) -/

/-- What an edge of a 1PPS input in use does of itself: its place is captured. -/
def captured (x : Nat) (s : State) : State :=
  { s with tb := { s.tb with ppsValid := true, ppsNs := x % 1000000000, ppsSec := x / 1000000000 } }

/-- The signed distance of an edge from the nearest whole second. -/
def edgeOffset (x : Nat) : Int :=
  if ((x % 1000000000 : Nat) : Int) ≤ 500000000 then ((x % 1000000000 : Nat) : Int) else ((x % 1000000000 : Nat) : Int) - 1000000000

theorem edgeOffset_far {x : Nat} (hlow : 200000000 < x % 1000000000) (hhigh : x % 1000000000 < 800000000) :
    (edgeOffset x).natAbs > 200000000 := by
  unfold edgeOffset
  split <;> omega

theorem edgeOffset_near {x : Nat} (h : x % 1000000000 ≤ 200000000) : edgeOffset x = ((x % 1000000000 : Nat) : Int) :=
  if_pos (by omega)

/-- An edge that is taken is measured by its distance. -/
theorem opPpsEdge_taken {s : State} {x : Nat} (hservice : inService s = true) (hin : s.tb.inEn = true)
    (hx : x = chipNs s.tb - (ptpCfg s).ppsCableNs) :
    opPpsEdge s = if (edgeOffset x).natAbs > 200000000 then
        onTime (fun t => { t with ppsDiscarded := t.ppsDiscarded + 1 }) (captured x s)
      else if !ppsUsed (onTime (fun t => { t with lastPps := s.clk }) (captured x s)) then
        onTime (fun t => { t with lastPps := s.clk }) (captured x s)
      else measure (edgeOffset x) (if s.time.source == .pps then onTime (fun t => { t with lastPps := s.clk }) (captured x s)
        else acquire .pps (onTime (fun t => { t with lastPps := s.clk }) (captured x s))) := by
  subst hx
  exact if_neg (by simp [hservice, hin])

/-! ## Leap seconds and beacons -/

/-- A beacon that is scheduled and may go in its span goes. -/
theorem opBeacon_sends {net : Net} {s u : State} {at_ : LTime} {burst : Bool} {air : Nat} (hservice : inService s = true)
    (hmay : mayTransmit s net = true) (hkey : bkeyIndex s ≠ 0) (hu : u = scheduleBeacon net s)
    (hbeacon : (u.time.beacons.find? fun e => e.1 == net) = some (net, at_, burst)) (hspan : now u ≤ at_ + beaconSpan burst)
    (hduty : net = .rf → dutyAdmits u air = true) :
    opBeacon net false air s =
      beaconOnAir net burst air (onTime (fun t => { t with beacons := t.beacons.filter fun e => e.1 != net }) u) := by
  subst hu
  have hlate : ¬ (now (scheduleBeacon net s) > at_ + beaconSpan burst) := Nat.not_lt.mpr hspan
  have hbudget : (net == .rf && !dutyAdmits (scheduleBeacon net s) air) = false := by
    cases net with
    | plc => rfl
    | rf => simp [hduty rfl]
  simp only [opBeacon, hservice, hmay, beq_false_of_ne hkey, Bool.not_true, Bool.or_self, Bool.false_eq_true, if_false, hbeacon,
    decide_eq_false hlate, hbudget]

/-- Settles O40: registers of main domains that run, happenings of the source in use, beacons by their schedule. -/
theorem timeIsKeptAndSent : Obligations.TimeIsKeptAndSent := by
  unfold Obligations.TimeIsKeptAndSent
  refine ⟨?rate, ?step, ?countLo, ?nowNs, ?ppsIn, ?rtc, ?leap, ?bkey, ?bkeyStays, ?offset, ?announce, ?notTaken, ?announceLost,
    ?holdover, ?edgeFar, ?edgeNear, ?ppsLost, ?ppsOut, ?delayReq, ?forward, ?beacon, ?beaconBusy, ?beaconDrop⟩
  case rate =>
    intro s v hruns
    exact congrArg Host.Outcome.next (if_pos hruns)
  case step =>
    intro s hruns
    exact congrArg Host.Outcome.next (if_pos hruns)
  case countLo =>
    intro s hruns
    exact congrArg Host.Outcome.next (if_pos hruns)
  case nowNs =>
    intro s hruns
    exact congrArg Host.Outcome.next (if_pos hruns)
  case ppsIn =>
    intro s hruns
    refine congrArg Host.Outcome.next ((if_pos hruns : opTsPpsIn s = _).trans ?_)
    cases hvalid : s.tb.ppsValid <;> simp [emit, bit]
  case rtc =>
    intro s hruns hkpr
    exact congrArg Host.Outcome.next (by simp [opRtcTrim, hruns, hkpr] : opRtcTrim s = _)
  case leap =>
    intro s d l hactive hservice hleap hl
    subst hl
    refine next_onTimer_active hactive fun hinput => ?_
    have hnow : now (newInput 6 s) = now s := by simp [now]
    simp only [opLeapSecond, hservice, if_true, hleap, hinput, newInput_led, hnow]
  case bkey =>
    intro s d hactive hd hover
    have hop : opPrevBkey s =
        { timerInput s with keys := { (timerInput s).keys with bkeyChangedAt := none, rejoined := [] } } := by
      simp [opPrevBkey, hd, hover]
    refine ⟨_, next_onTimer (not_standby_of_active hactive) hop, ?_, ?_⟩
    · simp
    · exact timerInput_led s
  case bkeyStays =>
    intro s d hd htime hleft
    have hop : opPrevBkey s = s := by simp [opPrevBkey, hd, Nat.not_le.mpr htime, hleft]
    refine congrArg Host.Outcome.next (?_ : onTimer opPrevBkey s = s)
    simp [onTimer, hop]
  case offset =>
    intro s port domain transport ns htakes hmaster hport hsource
    have hop : opOffset port ns s = measure ns s := by
      simp [opOffset, Option.isSome_iff_ne_none.mp hmaster, hport, hsource]
    exact congrArg Host.Outcome.next ((if_pos htakes).trans hop)
  case announce =>
    intro s port domain transport gm better ms utcValid offset l61 l59 htakes
    exact congrArg Host.Outcome.next (if_pos htakes)
  case notTaken =>
    intro s m htakes
    cases m with
    | announce => exact congrArg Host.Outcome.next (if_neg (Bool.eq_false_iff.mp htakes))
    | offset => exact congrArg Host.Outcome.next (if_neg (Bool.eq_false_iff.mp htakes))
  case announceLost =>
    intro s hmaster htime hsource
    exact congrArg Host.Outcome.next (by
      simp [opAnnounceTimeout, Option.isSome_iff_ne_none.mp hmaster, Nat.not_lt.mpr htime, onTime, hsource] :
        opAnnounceTimeout s = _)
  case holdover =>
    intro s hservo htime
    exact congrArg Host.Outcome.next (by simp [opHoldover, hservo, htime, onTime] : opHoldover s = _)
  case edgeFar =>
    intro s x hservice hin hx hlow hhigh
    exact congrArg Host.Outcome.next ((opPpsEdge_taken hservice hin hx).trans (if_pos (edgeOffset_far hlow hhigh)))
  case edgeNear =>
    intro s x u hservice hin hx hnear hused hsource hu
    have huse : ppsUsed (onTime (fun t => { t with lastPps := s.clk }) (captured x s)) = true := hused
    refine congrArg Host.Outcome.next ((opPpsEdge_taken hservice hin hx).trans ?_)
    rw [edgeOffset_near hnear, if_neg (by omega), huse, hsource, hu]
    rfl
  case ppsLost =>
    intro s hsource htime
    exact congrArg Host.Outcome.next (by simp [opPpsLoss, hsource, htime] : opPpsLoss s = _)
  case ppsOut =>
    intro s hruns hstandby hout hlow hwidth
    have hdriven : (mainRuns s && !isStandby s && s.tb.outEn) = true := by simp [hruns, hstandby, hout]
    have hhigh : (mainRuns s && !isStandby s && s.tb.outEn && decide (chipSubNs s.tb < s.tb.widthMs * 1000000)) = true := by
      rw [hdriven, decide_eq_true hwidth, Bool.and_self]
    refine congrArg Host.Outcome.next (?_ : opPpsOut s = _)
    unfold opPpsOut
    rw [hhigh, if_neg (by simp [hlow])]
    exact if_pos hdriven
  case delayReq =>
    intro s hservice hactive hprofile hmaster
    exact congrArg Host.Outcome.next (by simp [opDelayReq, hservice, hactive, hprofile, hmaster, emit] : opDelayReq s = _)
  case forward =>
    intro s m hservice hactive htc hprofile hlink0 hlink1 hport hdomain htransport hpdelay
    have hports : ¬ m.port > 1 := Nat.not_lt.mpr hport
    exact congrArg Host.Outcome.next (by
      simp only [opTransparent, hservice, hactive, htc, hprofile, hlink0, hlink1, hports, hdomain, htransport, hpdelay,
        bne_self_eq_false, Bool.not_true, Bool.and_self, decide_false, Bool.or_self, Bool.false_eq_true, if_false, emit] :
        opTransparent m s = _)
  case beacon =>
    intro s net u at_ burst air hservice hmay hkey hu hbeacon hspan hduty
    exact congrArg Host.Outcome.next (opBeacon_sends hservice hmay hkey hu hbeacon hspan hduty)
  case beaconBusy =>
    intro s net air hservice hmay hkey
    refine congrArg Host.Outcome.next (?_ : opBeacon net true air s = _)
    simp only [opBeacon, hservice, hmay, beq_false_of_ne hkey, Bool.not_true, Bool.or_self, Bool.false_eq_true, if_false,
      Bool.true_or, if_true]
    split <;> rfl
  case beaconDrop =>
    intro s net
    refine ⟨_, rfl, ?_, ?_, rfl⟩
    · intro e he
      obtain ⟨hmem, hkept⟩ := List.mem_filter.mp he
      refine ⟨hmem, fun hnet => ?_⟩
      simpa [hnet] using hkept
    · intro e he hnet
      exact List.mem_filter.mpr ⟨he, by simp [hnet]⟩

end Sys2Proof.ClockRows
end

section
/-! PROOF. A measure of the store that stays NORMAL on an active that owes its partner a resync (R334, R364): beside the new figures it
plans the resync for which the roots of the standby are kept, and sends the plan. -/

namespace Sys2Proof.ResyncAtTheMeasure

open Sys2Proof Sys2Proof.Machine Sys2Proof.Safety

/-- Figures of a store with room everywhere: 1,000 units of data, all free, and the same for the ledger. -/
def roomyFigures : StoreFigures := ⟨1000, 1000, 0, 0, 0, 0, 0, 1000, 0, 0, 0, 0, 0, 0, 0⟩

/-- An active in service with a formed store in NORMAL, its partner present, and the roots of a standby kept for a resync. -/
def owesResync : State :=
  { State.reset with
    boot := { State.reset.boot with phase := .running }
    store := { State.reset.store with formed := true, fig := roomyFigures }
    twin := { State.reset.twin with role := .active, partner := .present, heldRoots := some [] } }

/-- The measure sends the plan of a full resync (message 0x41). -/
theorem opStoreStageTwin_sends : (opStoreStageTwin roomyFigures false owesResync).out ≠ [] := by decide

/-- Refutes O43: the measure of an unchanged NORMAL store sends a plan to the partner, and so leaves more than the new figures. -/
theorem not_storeAndArrayWork : ¬ Obligations.StoreAndArrayWork := by
  unfold Obligations.StoreAndArrayWork
  rintro ⟨-, -, -, -, -, -, -, -, -, -, -, -, -, -, -, hnormal, -⟩
  have hop := Host.Outcome.next.inj
    (hnormal owesResync roomyFigures false _ (owesResync.store.fig.measured roomyFigures) rfl rfl (by decide) rfl rfl)
  exact opStoreStageTwin_sends (congrArg State.out hop)

end Sys2Proof.ResyncAtTheMeasure
end

section
/-! PROOF. The discrete lines and the change of roles (R342, R358 to R360, R363). -/

namespace Sys2Proof.RoleRows

open Sys2Proof Sys2Proof.Machine Sys2Proof.Safety Sys2Proof.LedgerFrame Sys2Proof.AppendFrame

theorem not_active_of_standby {s : State} (h : isStandby s = true) : isActive s = false := by
  simp_all [isStandby, isActive]

/-- What the lines of a falling TWL_INHIBIT_N leave. -/
def sensed (role : Bool) (s : State) : State :=
  onTwin (fun t => { t with lines := { t.lines with partnerInhibitLow := true, partnerRoleLow := role } }) s

/-- TWL_INHIBIT_N falling at a standby in service: a switchover whose epoch has committed ends, anything else is a loss. -/
theorem opInhibitSensed_standby {s : State} (role : Bool) (hstandby : isStandby s = true) (hservice : inService s = true) :
    opInhibitSensed role s = s.twin.switchover.elim (takeOver role (sensed role s)) fun n =>
      if s.twin.inSync && decide (s.led.lastCommitted ≥ n) then takeHandover (sensed role s)
      else takeOver role (sensed role s) := by
  have hruns : (s.boot.phase != .running) = false := by
    simp only [inService, Bool.and_eq_true, beq_iff_eq] at hservice
    simp [hservice]
  have hboth : (isStandby (sensed role s) && inService (sensed role s)) = true := Bool.and_eq_true_iff.mpr ⟨hstandby, hservice⟩
  unfold opInhibitSensed
  rw [hruns]
  refine (if_pos hboth).trans ?_
  show (match s.twin.switchover with | some n => _ | none => _) = _
  cases s.twin.switchover <;> rfl

/-- Silence of TWL_ALIVE at a standby in service. -/
theorem opAliveSilent_standby {s : State} (role : Bool) (hstandby : isStandby s = true) (hservice : inService s = true) :
    opAliveSilent role s =
      if s.twin.link.trained then
        raiseTwinState (onTwin (fun t => { t with lines := { t.lines with partnerRoleLow := role } }) s)
      else takeOver role (onTwin (fun t => { t with lines := { t.lines with partnerRoleLow := role } }) s) :=
  if_neg (by simp [hstandby, hservice])

theorem reads_advance {α : Type} {g : State → α} (hg : ∀ l s, g { s with led := l } = g s) (s : State) : g (advance s) = g s := by
  unfold advance
  split
  · split
    · exact hg _ s
    · rfl
  · rfl

/-- At a standby the news of an active partner is read in the partner's state and its cause only. -/
theorem setPartner_active_standby {α : Type} {g : State → α}
    (happend : ∀ n l i k x b r u o w c s, g (appended n l i k x b r u o w c s) = g s) {s : State} (hstandby : isStandby s = true) :
    g (setPartner .active 0 s) = g (onTwin (fun t => { t with partner := .active, cause := 0 }) s) := by
  by_cases hsame : (s.twin.partner == Partner.active && s.twin.cause == 0) = true
  · obtain ⟨hp, hc⟩ := Bool.and_eq_true_iff.mp hsame
    rw [setPartner]
    simp only [beq_eq_false_iff_ne.mpr, ne_eq, reduceCtorEq, not_false_eq_true, Bool.false_eq_true, if_false, hsame, if_true]
    rw [← eq_of_beq hp, ← eq_of_beq hc]
    rfl
  · have hend : endService s = s := by simp [endService, not_active_of_standby hstandby]
    have hset : setPartner .active 0 s =
        advance (raiseTwinState (onTwin (fun t => { t with partner := .active, cause := 0 }) s)) := by
      refine (if_neg hsame).trans ?_
      rw [hend]
      rfl
    rw [hset, reads_advance (g := g)]
    · exact reads_of_appends happend (appends_raiseHw _ _ _)
    · exact fun l s => happend s.fresh l s.twin.inputSeq s.twin.curSeq s.twin.groupIndex s.bar0 s.remotes s.uploadSub s.out
        s.boot.owed s.counters.refusedGroups s

/-- What a standby takes from TAKEOVER before it answers with its lines. -/
def takeoverNews (e i h : Nat) (s : State) : State :=
  onTwin (fun t => { t with
    partnerEpochHigh := max t.partnerEpochHigh h
    switchover := none
    inputSeq := if t.inSync && openNum s == e then max t.inputSeq i else t.inputSeq }) s

theorem opTakeover_standby {s : State} (e i h : Nat) (hstandby : isStandby s = true) (hruns : s.boot.phase = .running) :
    opTakeover e i h s =
      if (setPartner .active 0 (takeoverNews e i h s)).keys.lifecycle == .deployed then
        setInhibit false (setPartner .active 0 (takeoverNews e i h s))
      else setPartner .active 0 (takeoverNews e i h s) := by
  unfold opTakeover
  rw [if_neg (by simp [hruns]), if_neg (by simp [not_active_of_standby hstandby]), if_pos hstandby]
  rfl

/-- The line TWL_INHIBIT_N, its pin apart, is all that is set. -/
theorem reads_setInhibit {α : Type} {g : State → α} (hg : ∀ x o s, g { s with
    out := o, twin := { s.twin with lines := { s.twin.lines with inhibitLow := x } } } = g s) (low : Bool) (s : State) :
    g (setInhibit low s) = g s := by
  unfold setInhibit
  split
  · rfl
  · exact hg low _ s

/-- A reading that neither an append nor the discrete lines move is that of the news of TAKEOVER with the partner active. -/
theorem reads_opTakeover {α : Type} {g : State → α}
    (happend : ∀ n l i k x b r u o w c s, g (appended n l i k x b r u o w c s) = g s)
    (hlines : ∀ x o s, g { s with out := o, twin := { s.twin with lines := { s.twin.lines with inhibitLow := x } } } = g s)
    {s : State} (e i h : Nat) (hstandby : isStandby s = true)
    (hruns : s.boot.phase = .running) :
    g (opTakeover e i h s) = g (onTwin (fun t => { t with partner := .active, cause := 0 }) (takeoverNews e i h s)) := by
  rw [opTakeover_standby e i h hstandby hruns, ← setPartner_active_standby happend (s := takeoverNews e i h s) hstandby]
  split
  · exact reads_setInhibit hlines _ _
  · rfl

/-- Settles O46: the lines and the messages of a change of roles, by the role of this chip and the switchover it waits for. -/
theorem rolesChangeHands : Obligations.RolesChangeHands := by
  unfold Obligations.RolesChangeHands
  refine ⟨?alive, ?aliveLow, ?inhibit, ?handover, ?coilFree, ?silent, ?silentTrained, ?coilWait, ?takeoverActive, ?takeoverStandby,
    ?switchover, ?digestWait, ?digestDeadline⟩
  case alive =>
    intro s hactive hruns htime
    refine congrArg Host.Outcome.next (?_ : opAlivePulse s = _)
    rw [opAlivePulse, if_neg (by simp [hactive, hruns, htime]), setAlive, if_neg (by cases s.twin.lines.aliveLow <;> simp)]
    simp [emit, onTwin]
  case aliveLow =>
    intro s hactive hruns hhigh
    exact congrArg Host.Outcome.next (if_pos (by simp [hactive, hruns, hhigh]))
  case inhibit =>
    intro s role u hstandby hservice hnone hu
    refine congrArg Host.Outcome.next ((opInhibitSensed_standby role hstandby hservice).trans ?_)
    rw [hnone, hu]
    rfl
  case handover =>
    intro s role n u hstandby hservice hsome hsync hcommitted hu
    refine congrArg Host.Outcome.next ((opInhibitSensed_standby role hstandby hservice).trans ?_)
    rw [hsome, hu]
    exact if_pos (by simp [hsync, hcommitted])
  case coilFree =>
    intro s role hactive hruns hcoil
    refine congrArg Host.Outcome.next (?_ : opInhibitSensed role s = _)
    have hstandby : isStandby s = false := not_standby_of_active hactive
    refine (if_neg (by simp [hruns])).trans ((if_neg ?_).trans (if_pos ?_))
    · exact fun h => Bool.false_ne_true (hstandby.symm.trans (Bool.and_eq_true_iff.mp h).1)
    · exact Bool.and_eq_true_iff.mpr ⟨hactive, beq_iff_eq.mpr hcoil⟩
  case silent =>
    intro s role u hstandby hservice hlink hu
    refine congrArg Host.Outcome.next ((opAliveSilent_standby role hstandby hservice).trans ?_)
    rw [hlink, hu]
    rfl
  case silentTrained =>
    intro s role u hstandby hservice hlink hu
    refine congrArg Host.Outcome.next ((opAliveSilent_standby role hstandby hservice).trans ?_)
    rw [hlink, hu]
    rfl
  case coilWait =>
    intro s d hwait hd htime
    exact congrArg Host.Outcome.next (by simp [opCoilWait, hwait, hd, Nat.not_lt.mpr htime, onTwin] : opCoilWait s = _)
  case takeoverActive =>
    intro s e i h hactive hruns
    exact congrArg Host.Outcome.next (by simp [opTakeover, hruns, hactive] : opTakeover e i h s = _)
  case takeoverStandby =>
    intro s e i h hstandby hruns
    refine ⟨_, rfl, ?_, ?_, ?_, ?_⟩
    · exact reads_opTakeover (g := fun s => s.twin.switchover) (fun _ _ _ _ _ _ _ _ _ _ _ _ => rfl)
        (fun _ _ _ => rfl) e i h hstandby hruns
    · exact reads_opTakeover (g := fun s => s.twin.partner) (fun _ _ _ _ _ _ _ _ _ _ _ _ => rfl)
        (fun _ _ _ => rfl) e i h hstandby hruns
    · exact (reads_opTakeover (g := fun s => s.twin.role) (fun _ _ _ _ _ _ _ _ _ _ _ _ => rfl)
        (fun _ _ _ => rfl) e i h hstandby hruns).trans (beq_iff_eq.mp hstandby)
    · have hhigh := reads_opTakeover (g := fun s => s.twin.partnerEpochHigh) (fun _ _ _ _ _ _ _ _ _ _ _ _ => rfl)
        (fun _ _ _ => rfl) e i h hstandby hruns
      exact hhigh ▸ Nat.le_max_right _ _
  case switchover =>
    intro s n hstandby hsync
    exact congrArg Host.Outcome.next (if_pos (by simp [hstandby, hsync]))
  case digestWait =>
    intro s hactive hpartner ⟨e, he, hstate, htime, hdigest⟩
    have hlate : (s.led.epochs.any fun e => (e.state == .closed || e.state == .comparing) &&
        decide (e.closedTick + msTicks 15 ≤ s.clk) && (partnerDigest e.num s).isNone) = true :=
      List.any_eq_true.mpr ⟨e, he, by simp [hstate, htime, hdigest]⟩
    refine congrArg Host.Outcome.next (?_ : opDigestWait s = _)
    rw [opDigestWait, hlate, if_pos (by simp [hactive, hpartner])]
  case digestDeadline =>
    intro s hstandby hsync ⟨e, he, hflushed, hstate, htime⟩
    have hlate : (s.led.epochs.any fun e => !e.flushed && (e.state == .closed || e.state == .held) &&
        decide (e.closedTick + msTicks 15 ≤ s.clk)) = true :=
      List.any_eq_true.mpr ⟨e, he, by simp [hflushed, hstate, htime]⟩
    refine congrArg Host.Outcome.next (?_ : opDigestDeadline s = _)
    rw [opDigestDeadline, hlate, if_pos (by simp [hstandby, hsync])]

end Sys2Proof.RoleRows
end

section
/-! PROOF. The input stream on a standby (R349 to R351, R353, R367). -/

namespace Sys2Proof.StandbyStream

open Sys2Proof Sys2Proof.Machine Sys2Proof.Safety

/-- An input on a stream that runs: one taken before is ignored, one out of order breaks the stream. -/
theorem opInput_running {s : State} (seq : Nat) (arrival : LTime) (i : TwinInput) (hstandby : isStandby s = true)
    (hsolo : soloSet s = false) (hstream : streamOff s = false) :
    opInput seq arrival i s = if seq ≤ s.twin.inputSeq then s
      else if seq != s.twin.inputSeq + 1 then breakStream 1 (onTwin (fun t => { t with inputSeq := seq }) s)
      else if bufferFits (onTwin (fun t => { t with inputSeq := seq }) s) then
        drain (bufferInput seq arrival i (onTwin (fun t => { t with inputSeq := seq }) s))
      else breakStream 1 (draw (onTwin (fun t => { t with inputSeq := seq }) s)) := by
  unfold opInput
  rw [if_neg (by simp [hstandby, hsolo]), if_neg (by simp [hstream])]

/-- The next input of the stream, with no resynchronisation to hold it back, is buffered and drained. -/
theorem opInput_next {s : State} {seq : Nat} (arrival : LTime) (i : TwinInput) (hstandby : isStandby s = true)
    (hsolo : soloSet s = false) (hstream : streamOff s = false) (hseq : seq = s.twin.inputSeq + 1) (hresync : s.twin.resync = none) :
    opInput seq arrival i s = drain { s with
      twinBuffer := s.twinBuffer ++ [.input seq arrival i]
      twin := { s.twin with inputSeq := seq }
      fresh := s.fresh + 1 } := by
  have hfits : bufferFits (onTwin (fun t => { t with inputSeq := seq }) s) = true := by simp [bufferFits, onTwin, hresync]
  rw [opInput_running seq arrival i hstandby hsolo hstream, if_neg (by omega), if_neg (by simp [hseq]), if_pos hfits]
  simp [bufferInput, onTwin, draw, hresync]

/-- A frame's digest that has stood unmatched for its second. -/
def LateMark (net : Net) (typ : Nat) (dest : Bytes) (n clk : Nat) (m : FrameMark) : Bool :=
  m.net == net && m.typ == typ && m.dest == dest && m.n == n && m.since != 0 && decide (m.since + secTicks 1 ≤ clk)

/-- What is left of the digests once the late ones are judged. -/
def lateMarksJudged (net : Net) (typ : Nat) (dest : Bytes) (n : Nat) (s : State) : State :=
  onTwin (fun t => { t with
    heardFrames := t.heardFrames.filter fun m => !LateMark net typ dest n s.clk m
    ownFrames := t.ownFrames.map fun m => if LateMark net typ dest n s.clk m then { m with since := 0 } else m }) s

theorem opFrameUnmatched_eq (net : Net) (typ : Nat) (dest : Bytes) (n : Nat) (s : State) :
    opFrameUnmatched net typ dest n s =
      if !isStandby s || !(s.twin.ownFrames.any (LateMark net typ dest n s.clk) ||
        s.twin.heardFrames.any (LateMark net typ dest n s.clk)) then s
      else if inComparison (lateMarksJudged net typ dest n s) then
        diverge 1 (openNum (lateMarksJudged net typ dest n s)) (lateMarksJudged net typ dest n s)
      else lateMarksJudged net typ dest n s := rfl

/-- Settles O47: an input by its place in the stream, the digests of frames by what this chip and its partner sent. -/
theorem standbyTakesTheStream : Obligations.StandbyTakesTheStream := by
  unfold Obligations.StandbyTakesTheStream
  refine ⟨?next, ?takenBefore, ?outOfOrder, ?mark, ?close, ?leaveSync, ?partnerEvent, ?frameDigest, ?noneLate, ?late⟩
  case next =>
    intro s seq arrival i u hstandby hsolo hstream hseq hresync hu
    exact congrArg (fun v => Host.Outcome.next (matchFrames (warnedArbitration v)))
      ((opInput_next arrival i hstandby hsolo hstream hseq hresync).trans (congrArg drain hu.symm))
  case takenBefore =>
    intro s seq arrival i hstandby hsolo hstream hseq
    exact congrArg (fun v => Host.Outcome.next (matchFrames (warnedArbitration v)))
      ((opInput_running seq arrival i hstandby hsolo hstream).trans (if_pos hseq))
  case outOfOrder =>
    intro s seq arrival i hstandby hsolo hstream hseq
    refine congrArg (fun v => Host.Outcome.next (matchFrames (warnedArbitration v)))
      ((opInput_running seq arrival i hstandby hsolo hstream).trans ?_)
    rw [if_neg (by omega), if_pos (by simp only [bne_iff_ne]; omega)]
    rfl
  case mark =>
    intro s key n hstandby hstream
    exact congrArg Host.Outcome.next (by simp [opMark, hstandby, hstream, onTwin] : opMark key n s = _)
  case close =>
    intro s n c cause hstandby hsolo hresync hinert
    refine congrArg (fun v => Host.Outcome.next (matchFrames v)) (?_ : opClose n c cause s = _)
    unfold opClose
    rw [if_neg (by simp [hstandby, hsolo])]
    simp only [hresync, hinert, Bool.false_eq_true, if_false]
  case leaveSync =>
    intro s why n hactive hpartner
    exact congrArg Host.Outcome.next (by simp [opLeaveSync, hactive, hpartner] : opLeaveSync why s = _)
  case partnerEvent =>
    intro s e hactive hservice hsolo
    exact congrArg Host.Outcome.next (by simp [opPartnerEvent, hactive, hservice, hsolo] : opPartnerEvent e s = _)
  case frameDigest =>
    intro s net typ dest n d hstandby hstream
    exact congrArg Host.Outcome.next (by simp [opFrameDigest, hstandby, hstream, onTwin] : opFrameDigest net typ dest n d s = _)
  case noneLate =>
    intro s net typ dest n hstandby hnone
    have hlate : ∀ m ∈ s.twin.ownFrames ++ s.twin.heardFrames, ¬ LateMark net typ dest n s.clk m = true := by
      intro m hm hlate
      simp only [LateMark, Bool.and_eq_true, beq_iff_eq, bne_iff_ne, decide_eq_true_eq] at hlate
      obtain ⟨⟨⟨⟨⟨hnet, htyp⟩, hdest⟩, hn⟩, hsince⟩, htime⟩ := hlate
      rcases hnone m hm with h | h | h | h | h | h
      · exact h hnet
      · exact h htyp
      · exact h hdest
      · exact h hn
      · exact hsince h
      · exact absurd htime (Nat.not_le.mpr h)
    have hany : ((s.twin.ownFrames ++ s.twin.heardFrames).any (LateMark net typ dest n s.clk)) = false :=
      List.any_eq_false.mpr hlate
    rw [List.any_append] at hany
    refine congrArg Host.Outcome.next ((opFrameUnmatched_eq net typ dest n s).trans (if_pos ?_))
    rw [hany, Bool.not_false, Bool.or_true]
  case late =>
    intro s net typ dest n m hstandby hm hnet htyp hdest hn hsince htime hcompares
    have hlate : LateMark net typ dest n s.clk m = true := by simp [LateMark, hnet, htyp, hdest, hn, hsince, htime]
    have hany : s.twin.heardFrames.any (LateMark net typ dest n s.clk) = true := List.any_eq_true.mpr ⟨m, hm, hlate⟩
    refine ⟨lateMarksJudged net typ dest n s, ?_, rfl, ?_⟩
    · exact List.length_filter_lt_length_iff_exists.mpr ⟨m, hm, by simp [hlate]⟩
    · refine congrArg Host.Outcome.next ((opFrameUnmatched_eq net typ dest n s).trans ?_)
      rw [if_neg (by simp [hstandby, hany])]
      exact if_pos hcompares

end Sys2Proof.StandbyStream
end

section
/-! PROOF. Comparison of digests and arbitration (R355, R357, R445, Table TW.9). -/

namespace Sys2Proof.DigestRows

open Sys2Proof Sys2Proof.Machine Sys2Proof.Safety Sys2Proof.AppendFrame Sys2Proof.HostChanges

/-- The partner's digest of an epoch, kept with the last sixteen. -/
def digestKept (n : Nat) (d : Bytes) (s : State) : State :=
  onTwin (fun t => { t with partnerDigests := insertNat n d (t.partnerDigests.filter fun p => decide (p.1 + 16 > n)) }) s

theorem partnerDigest_digestKept (n : Nat) (d : Bytes) (s : State) : partnerDigest n (digestKept n d s) = some d :=
  lookupNat_insertNat_self n d _

theorem opEpochDigest_takes {s : State} (n : Nat) (d : Bytes) (hservice : inService s = true) (hsolo : isSolo s = false) :
    opEpochDigest n d s = judgeDigest n (digestKept n d s) :=
  if_neg (by simp [hservice, hsolo])

/-- Different digests of an epoch that is down here diverge twins that compare. -/
theorem judgeDigest_differs {s : State} {n : Nat} {d : Bytes} {e : Epoch} (he : epochOf s n = some e) (hflushed : e.flushed = true)
    (hcompares : inComparison s = true) (hdiffers : fitTo 32 e.digest ≠ fitTo 32 d) :
    judgeDigest n (digestKept n d s) = diverge 0 n (digestKept n d s) := by
  have hown : ownDigest n (digestKept n d s) = some e.digest := by
    have hkept : epochOf (digestKept n d s) n = some e := he
    simp only [ownDigest, hkept, hflushed, if_true]
  have hdisagrees : disagree n (digestKept n d s) = diverge 0 n (digestKept n d s) := if_pos hcompares
  simp only [judgeDigest, hown, partnerDigest_digestKept, beq_false_of_ne hdiffers, Bool.false_eq_true, if_false, hdisagrees]

theorem arbitration_startQueued (s : State) : (startQueued s).twin.arbitration = s.twin.arbitration := by
  unfold startQueued
  split
  · rfl
  · split <;> rfl

theorem arbitration_raiseEv (e : EvRec) (s : State) : (raiseEv e (newInput 8 s)).twin.arbitration = s.twin.arbitration :=
  reads_of_appends (g := fun s => s.twin.arbitration) (fun _ _ _ _ _ _ _ _ _ _ _ _ => rfl)
    (appends_trans (appends_newInput 8 s) (appends_raiseEv e _))

theorem arbitration_endRun (r : TestRun) (s : State) : (endRun r s).twin.arbitration = s.twin.arbitration := by
  unfold endRun
  dsimp only
  rw [arbitration_startQueued]
  split
  · rfl
  · rw [arbitration_raiseEv]
    rfl

/-- The end of a partition moves no arbitration. -/
theorem arbitration_partEnds (p : PartResult) (s : State) : (partEnds p s).twin.arbitration = s.twin.arbitration := by
  unfold partEnds
  split
  · rfl
  · dsimp only
    split
    · rfl
    · split
      · exact arbitration_endRun _ s
      · rfl

/-- Settles O48: digests by what both twins found, the arbitration by what it still waits for. -/
theorem digestsAreArbitrated : Obligations.DigestsAreArbitrated := by
  unfold Obligations.DigestsAreArbitrated
  refine ⟨?taken, ?differs, ?diverged, ?signature, ?timeout, ?noArbitration, ?ownSignature⟩
  case taken =>
    intro s n d u hservice hsolo hu
    exact congrArg Host.Outcome.next ((opEpochDigest_takes n d hservice hsolo).trans (congrArg (judgeDigest n) hu.symm))
  case differs =>
    intro s n d e hservice hsolo he hflushed hcompares hdiffers
    exact congrArg Host.Outcome.next
      ((opEpochDigest_takes n d hservice hsolo).trans (judgeDigest_differs he hflushed hcompares hdiffers))
  case diverged =>
    intro s kind ref hkind hcompares
    exact congrArg Host.Outcome.next (if_pos (by simp [hkind, hcompares]))
  case signature =>
    intro s a r p f sig ha hpartner
    exact congrArg Host.Outcome.next (by simp [opSignature, ha, hpartner, onTwin, signaturePasses] : opSignature sig s = _)
  case timeout =>
    intro s a ha hpartner htime
    exact congrArg Host.Outcome.next (by
      simp [opArbitrationTimeout, ha, hpartner, Nat.not_lt.mpr htime, onTwin] : opArbitrationTimeout s = _)
  case noArbitration =>
    intro s p hnone
    have hstill : (partEnds p s).twin.arbitration = none := (arbitration_partEnds p s).trans hnone
    exact congrArg Host.Outcome.next (by simp only [opPartEnd, hstill] : opPartEnd p s = _)
  case ownSignature =>
    intro s p a r _ hown ha hcurrent hlast harbitration
    exact congrArg Host.Outcome.next (by
      simp only [opPartEnd, ha, hcurrent, hlast, hown, harbitration, Option.isSome_none, Bool.not_true, Bool.or_self,
        Bool.false_eq_true, if_false] : opPartEnd p s = _)

end Sys2Proof.DigestRows
end

section
/-! PROOF. What the orders before a reset, the field die's reset and the end of a start leave of the keeper and of the boot record
(R358, R376, R393, R394). -/

namespace Sys2Proof.ResetFrame

open Sys2Proof Sys2Proof.Machine Sys2Proof.Safety Sys2Proof.KeeperWindow

/-! ## The lines, the coils and the placard move neither the boot record nor the keeper -/

@[simp] theorem holdCoils_boot (s : State) : (holdCoils s).boot = s.boot := by
  unfold holdCoils
  split
  · split <;> rfl
  · rfl

@[simp] theorem holdRelays_boot (s : State) : (holdRelays s).boot = s.boot := holdCoils_boot _

@[simp] theorem setInhibit_boot (low : Bool) (s : State) : (setInhibit low s).boot = s.boot := by
  unfold setInhibit; split <;> rfl

@[simp] theorem setRoleLine_boot (low : Bool) (s : State) : (setRoleLine low s).boot = s.boot := by
  unfold setRoleLine; split <;> rfl

@[simp] theorem setAlive_boot (low : Bool) (s : State) : (setAlive low s).boot = s.boot := by
  unfold setAlive; split <;> rfl

@[simp] theorem cutPlacard_boot (s : State) : (cutPlacard s).boot = s.boot := by
  unfold cutPlacard; dsimp only; split <;> rfl

@[simp] theorem cutPlacard_keeper (s : State) : (cutPlacard s).keeper = s.keeper := by
  unfold cutPlacard; dsimp only; split <;> rfl

@[simp] theorem fieldReset_boot (s : State) : (fieldReset s).boot = s.boot := holdCoils_boot s

@[simp] theorem fieldReset_keeper (s : State) : (fieldReset s).keeper = s.keeper := holdCoils_keeper s

@[simp] theorem cutPlacard_lasting (s : State) : lasting (cutPlacard s) = lasting s := by
  unfold cutPlacard; dsimp only; split <;> rfl

@[simp] theorem fieldReset_lasting (s : State) : lasting (fieldReset s) = lasting s := holdCoils_lasting s

@[simp] theorem holdRelays_keeper (s : State) :
    (holdRelays s).keeper = { s.keeper with supply := { s.keeper.supply with relayHold := true } } := by
  simp [holdRelays]

/-! ## What the keeper holds through a reset -/

/-- What lasts through a reset in the keeper's own care: the events it owes, the epoch of the last power failure, its clock's validity,
its supply and the reset it was asked for. -/
def keeperHolds (s : State) : List EvRec × Nat × Bool × Bool :=
  (s.boot.owed, s.boot.journal.powerFailEpoch, s.keeper.rtcValid, s.keeper.supply.kprOn)

@[simp] theorem note_keeperHolds (kind : Nat) (data : Bytes) (s : State) : keeperHolds (note kind data s) = keeperHolds s := rfl

@[simp] theorem satisfied_keeperHolds (scope : Nat) (s : State) :
    keeperHolds (onKeeper (Keeper.satisfied scope) s) = keeperHolds s := by
  unfold onKeeper Keeper.satisfied
  split
  · split <;> rfl
  · rfl

@[simp] theorem stepDownOrders_keeperHolds (cause : Nat) (s : State) : keeperHolds (stepDownOrders cause s) = keeperHolds s := by
  calc keeperHolds (stepDownOrders cause s)
      = keeperHolds (setAlive false (setRoleLine false (holdRelays (setInhibit true s)))) := rfl
    _ = keeperHolds s := by simp [keeperHolds]

@[simp] theorem leaveRecovery_keeperHolds (s : State) : keeperHolds (leaveRecovery s) = keeperHolds s := by
  unfold leaveRecovery; split <;> rfl

@[simp] theorem trialEnds_keeperHolds (power : Bool) (s : State) : keeperHolds (trialEnds power s) = keeperHolds s := by
  unfold trialEnds
  split
  · rfl
  · split <;> rfl

@[simp] theorem startEnds_keeperHolds (power : Bool) (s : State) : keeperHolds (startEnds power s) = keeperHolds s := by
  unfold startEnds
  split
  · exact trialEnds_keeperHolds power _
  · rfl

@[simp] theorem trialEnds_boot (power : Bool) (s : State) : (trialEnds power s).boot = s.boot := by
  unfold trialEnds
  split
  · rfl
  · split <;> rfl

@[simp] theorem trialEnds_keeper (power : Bool) (s : State) : (trialEnds power s).keeper = s.keeper := by
  unfold trialEnds
  split
  · rfl
  · split <;> rfl

@[simp] theorem startEnds_keeper (power : Bool) (s : State) : (startEnds power s).keeper = s.keeper := by
  unfold startEnds
  split
  · exact trialEnds_keeper power _
  · rfl

@[simp] theorem startEnds_owed (power : Bool) (s : State) : (startEnds power s).boot.owed = s.boot.owed :=
  congrArg (fun x => x.1) (startEnds_keeperHolds power s)

@[simp] theorem startEnds_recs (power : Bool) (s : State) : (startEnds power s).boot.journal.recs = s.boot.journal.recs := by
  unfold startEnds
  split
  · rw [trialEnds_boot]
    rfl
  · rfl

/-! ## The main domains dropped (R394) -/

/-- The boot record of main domains that are held. -/
theorem dropMain_boot (s : State) : (dropMain s).boot = { s.boot with
    phase := .held
    passed8 := false
    openedFirst := false
    debug := false
    releaseAt := s.clk + msTicks 10
    owed := s.boot.owed.filter keeperOwed } := by
  have hclk := congrArg (fun x => x.2.2.2.2.1) (by simp : lasting (setInhibit true (setAlive false (setRoleLine false (holdRelays s)))) =
    lasting s)
  have hboot : (setInhibit true (setAlive false (setRoleLine false (holdRelays s)))).boot = s.boot := by simp
  simp only [lasting] at hclk
  unfold dropMain
  simp only [loseEpochs, onLed_clk, onLed_boot, hclk, hboot]

theorem dropMain_keeperHolds (s : State) :
    keeperHolds (dropMain s) = ((keeperHolds s).1.filter keeperOwed, (keeperHolds s).2) := by
  have hkeeper : (setInhibit true (setAlive false (setRoleLine false (holdRelays s)))).keeper =
    { s.keeper with supply := { s.keeper.supply with relayHold := true } } := by simp
  have hdrop : (dropMain s).keeper.rtcValid = s.keeper.rtcValid ∧ (dropMain s).keeper.supply.kprOn = s.keeper.supply.kprOn := by
    unfold dropMain
    simp only [loseEpochs, onLed_keeper, hkeeper, and_self]
  simp only [keeperHolds, dropMain_boot, hdrop]

/-- A MAIN reset keeps the keeper's own owed events and what else the keeper holds. -/
theorem mainReset_keeperHolds (source : Nat) (s : State) :
    keeperHolds (mainReset source s) = ((keeperHolds s).1.filter keeperOwed, (keeperHolds s).2) := by
  have hbefore : ∀ u, keeperHolds u = keeperHolds s →
      keeperHolds (dropMain (onKeeper (Keeper.satisfied 1) (leaveRecovery (note 0x04 (putLe 1 source) u)))) =
        ((keeperHolds s).1.filter keeperOwed, (keeperHolds s).2) := by
    intro u hu
    rw [dropMain_keeperHolds]
    simp [hu]
  refine hbefore _ ?_
  split <;> simp

/-- A MAIN reset keeps an event that the keeper owes. -/
theorem mem_owed_mainReset {e : EvRec} {source : Nat} {s : State} (he : e ∈ s.boot.owed) (hcode : keeperOwed e = true) :
    e ∈ (mainReset source s).boot.owed := by
  have howed : (mainReset source s).boot.owed = s.boot.owed.filter keeperOwed := congrArg (·.1) (mainReset_keeperHolds source s)
  rw [howed]
  exact List.mem_filter.mpr ⟨he, hcode⟩

/-- The field die's part of a reset of both dies. -/
def bothBegins (s : State) : State := cutPlacard (fieldReset (onKeeper (Keeper.satisfied 3) s))

theorem bothReset_eq (source : Nat) (s : State) : bothReset source s = mainReset source (bothBegins s) := rfl

@[simp] theorem bothBegins_lasting (s : State) : lasting (bothBegins s) = lasting s := by simp [bothBegins]

@[simp] theorem bothBegins_keeperHolds (s : State) : keeperHolds (bothBegins s) = keeperHolds s := by
  calc keeperHolds (bothBegins s)
      = keeperHolds (onKeeper (Keeper.satisfied 3) s) := by simp [keeperHolds, bothBegins]
    _ = keeperHolds s := satisfied_keeperHolds 3 s

theorem bothReset_after {s u : State} (source : Nat) (h : lasting u = lasting s) : AfterMainReset s (bothReset source u) :=
  (mainReset_spec source ((bothBegins_lasting u).trans h)).1

theorem bothReset_keeperHolds (source : Nat) (s : State) :
    keeperHolds (bothReset source s) = ((keeperHolds s).1.filter keeperOwed, (keeperHolds s).2) := by
  rw [bothReset_eq, mainReset_keeperHolds, bothBegins_keeperHolds]

theorem mem_owed_bothReset {e : EvRec} {source : Nat} {s : State} (he : e ∈ s.boot.owed) (hcode : keeperOwed e = true) :
    e ∈ (bothReset source s).boot.owed := by
  have howed : (bothBegins s).boot.owed = s.boot.owed := congrArg (fun x => x.1) (bothBegins_keeperHolds s)
  exact mem_owed_mainReset (howed ▸ he) hcode

/-- A MAIN reset that leaves recovery mode clears its cause and the failure runs. -/
theorem mainReset_recovery {s : State} (source : Nat) (hphase : s.boot.phase = .recovery) :
    (mainReset source s).boot.journal.recovery = 0 ∧ (mainReset source s).boot.journal.failRun = List.replicate 9 0 := by
  have hbefore : ∀ u, u.boot.phase = .recovery →
      (dropMain (onKeeper (Keeper.satisfied 1) (leaveRecovery (note 0x04 (putLe 1 source) u)))).boot.journal.recovery = 0 ∧
      (dropMain (onKeeper (Keeper.satisfied 1) (leaveRecovery (note 0x04 (putLe 1 source) u)))).boot.journal.failRun =
        List.replicate 9 0 := by
    intro u hu
    have hleave : (leaveRecovery (note 0x04 (putLe 1 source) u)).boot.journal =
        { (note 0x04 (putLe 1 source) u).boot.journal with failRun := List.replicate 9 0, alt := 0, recovery := 0 } := by
      have hnote : ((note 0x04 (putLe 1 source) u).boot.phase == .recovery) = true := beq_iff_eq.mpr hu
      rw [leaveRecovery, if_pos hnote]
      rfl
    rw [dropMain_boot]
    exact ⟨congrArg (·.recovery) hleave, congrArg (·.failRun) hleave⟩
  refine hbefore _ ?_
  split
  · calc (stepDownOrders 6 s).boot.phase
        = (setAlive false (setRoleLine false (holdRelays (setInhibit true s)))).boot.phase := rfl
      _ = .recovery := by simp [hphase]
  · exact hphase

/-- A MAIN reset forgets no keeper's reset that is no longer asked for. -/
theorem mainReset_delayedReset {s : State} (source : Nat) (h : s.keeper.delayedReset = none) :
    (mainReset source s).keeper.delayedReset = none := by
  have hsatisfied : ∀ k : Keeper, k.delayedReset = none → (k.satisfied 1).delayedReset = none := by
    intro k hk
    simp [Keeper.satisfied, hk]
  have hdrop : ∀ u, (dropMain u).keeper.delayedReset = u.keeper.delayedReset := by
    intro u
    have hkeeper : (setInhibit true (setAlive false (setRoleLine false (holdRelays u)))).keeper =
      { u.keeper with supply := { u.keeper.supply with relayHold := true } } := by simp
    unfold dropMain
    simp only [loseEpochs, onLed_keeper, hkeeper]
  have hleave : ∀ u, (leaveRecovery u).keeper = u.keeper := by
    intro u
    unfold leaveRecovery
    split <;> rfl
  refine (hdrop _).trans (hsatisfied _ ?_)
  rw [hleave]
  split
  · calc (stepDownOrders 6 s).keeper.delayedReset
        = (setAlive false (setRoleLine false (holdRelays (setInhibit true s)))).keeper.delayedReset := rfl
      _ = none := by simp [h]
  · exact h

end Sys2Proof.ResetFrame
end

section
/-! PROOF. What a reset of the field die, the end of a hold and the coils that wait leave of the rest of the chip (R208, R376, R382). -/

namespace Sys2Proof.FieldDieFrame

open Sys2Proof Sys2Proof.Machine Sys2Proof.Safety Sys2Proof.Laws Sys2Proof.LedgerFrame Sys2Proof.AppendFrame Sys2Proof.KeeperWindow
  Sys2Proof.ResetFrame

/-- What neither a loss of the field die nor a coil that moves touches: the supplies' part of the keeper, the pulse counters and totals,
the boot phase, the timebase, the fabric and the last committed epoch. -/
def aside (s : State) : Supply × List (BitVec 32) × List (BitVec 64) × BootPhase × Timebase × List Queue × Nat :=
  (s.keeper.supply, s.met.fieldCounts, s.met.totals, s.boot.phase, s.tb, s.fabric, s.led.lastCommitted)

theorem aside_of_stillLedger {s t : State} (h : StillLedger s t) : aside t = aside s := by
  obtain ⟨⟨-, -, -, -, -, hfabric, -, -, hmet, -, -, -, htb, -, -, -, -, hkeeper, hboot, -⟩, hled, -⟩ := h
  simp only [aside, hfabric, hmet, htb, hkeeper, hboot, hled]

theorem aside_of_appends {s t : State} (h : Appends s t) (hcommitted : committedPart t = committedPart s) : aside t = aside s := by
  have hrest := reads_of_appends (g := fun s => (s.keeper.supply, s.met.fieldCounts, s.met.totals, s.boot.phase, s.tb, s.fabric))
    (fun _ _ _ _ _ _ _ _ _ _ _ _ => rfl) h
  have hlast : t.led.lastCommitted = s.led.lastCommitted := congrArg (·.1) hcommitted
  simp only [Prod.mk.injEq] at hrest
  obtain ⟨hsupply, hcounts, htotals, hphase, htb, hfabric⟩ := hrest
  simp only [aside, hsupply, hcounts, htotals, hphase, htb, hfabric, hlast]

/-- A command that ends refused completes; nothing else stands behind the completion. -/
theorem finishKey_refuse_still (key : Nat × Nat) (r : Nat) (d : Bytes) (s : State) :
    StillLedger s (finishKey key (.refuse r d) s) := by
  unfold finishKey
  cases inflightOf s key with
  | none => exact ⟨still_refl s, rfl, rfl⟩
  | some f => exact (complete_spec f (mkCompletion f r 0 0 false false d []) s rfl).2

theorem finishKey_refuse_aside (key : Nat × Nat) (r : Nat) (d : Bytes) (s : State) :
    aside (finishKey key (.refuse r d) s) = aside s := aside_of_stillLedger (finishKey_refuse_still key r d s)

theorem finishKey_refuse_d2d (key : Nat × Nat) (r : Nat) (d : Bytes) (s : State) :
    (finishKey key (.refuse r d) s).d2d = s.d2d := by
  obtain ⟨⟨-, -, -, -, -, -, -, -, -, -, -, -, -, -, -, -, -, -, -, -, -, -, -, hd2d, -⟩, -⟩ := finishKey_refuse_still key r d s
  exact hd2d

@[simp] theorem holdCoils_aside (s : State) : aside (holdCoils s) = aside s := by
  unfold holdCoils
  split
  · split <;> rfl
  · rfl

theorem failCoils_aside (s : State) : aside (failCoils s) = aside s := by
  have hfold : ∀ (l : List CoilSeq) (u : State),
      aside (l.foldl (fun s q => finishKey q.cmd (.refuse 0x0801 (putLe 1 (contactCode s q.relay))) (dropSeq q s)) u) = aside u := by
    intro l
    induction l with
    | nil => exact fun _ => rfl
    | cons q l ih => exact fun u => (ih _).trans (finishKey_refuse_aside _ _ _ _)
  exact (hfold _ _).trans (holdCoils_aside s)

theorem raiseHw_aside (code : Nat) (data : Bytes) (s : State) : aside (raiseHw code data s) = aside s :=
  aside_of_appends (appends_raiseHw code data s) (raiseHw_committedPart code data s)

/-- A loss of the die-to-die link leaves what stands aside. -/
theorem opD2dLost_aside (s : State) : aside (opD2dLost s) = aside s := by
  unfold opD2dLost
  split
  · rfl
  · rw [raiseHw_aside, failCoils_aside]
    rfl

/-- A reset of the field die clears its pulse counters and nothing else of what stands aside. -/
theorem fieldDieReset_aside (source : Nat) (s : State) :
    aside (fieldDieReset source s) = ((aside s).1, List.replicate 8 0, (aside s).2.2) := by
  have hreset : ∀ u : State, aside (cutPlacard (fieldReset u)) = ((aside u).1, List.replicate 8 0, (aside u).2.2) := by
    intro u
    have hcut : ∀ v : State, aside (cutPlacard v) = aside v := by
      intro v
      unfold cutPlacard
      dsimp only
      split <;> rfl
    have hhold := holdCoils_aside u
    simp only [aside, Prod.mk.injEq] at hhold
    obtain ⟨hsupply, -, htotals, hphase, htb, hfabric, hlast⟩ := hhold
    rw [hcut]
    simp only [aside, fieldReset, onMet, hsupply, htotals, hphase, htb, hfabric, hlast]
  have hsatisfied : aside (onKeeper (Keeper.satisfied 2) s) = aside s := by
    unfold onKeeper Keeper.satisfied
    split
    · split <;> rfl
    · rfl
  unfold fieldDieReset
  dsimp only
  rw [← hsatisfied, ← hreset]
  split
  · exact opD2dLost_aside _
  · rfl

/-! ## The coils that wait -/

/-- What stands aside, and the die-to-die link. -/
def asideWithLink (s : State) : (Supply × List (BitVec 32) × List (BitVec 64) × BootPhase × Timebase × List Queue × Nat) × D2D :=
  (aside s, s.d2d)

theorem relayInPlace_asideWithLink (q : CoilSeq) (s : State) : asideWithLink (relayInPlace q s) = asideWithLink s := by
  have hinput : asideWithLink (relayInput s) = asideWithLink s := by
    unfold relayInput
    split
    · exact Prod.ext (aside_of_appends (appends_newInput 3 s) (newInput_committedPart 3 s))
        (reads_of_appends (g := State.d2d) (fun _ _ _ _ _ _ _ _ _ _ _ _ => rfl) (appends_newInput 3 s))
    · rfl
  exact (Prod.ext (finishKey_refuse_aside _ _ _ _) (finishKey_refuse_d2d _ _ _ _) :
    asideWithLink (relayInPlace q s) = asideWithLink (dropSeq q (relayInput s))).trans hinput

theorem energise_asideWithLink (q : CoilSeq) (s : State) : asideWithLink (energise q s) = asideWithLink s := rfl

theorem kickCoilN_asideWithLink (n : Nat) (s : State) : asideWithLink (kickCoilN n s) = asideWithLink s := by
  induction n generalizing s with
  | zero => rfl
  | succ n ih =>
    rw [kickCoilN]
    split
    · rfl
    · split
      · rfl
      · split
        · rw [ih, relayInPlace_asideWithLink]
        · split
          · exact energise_asideWithLink _ s
          · rfl

theorem startPlacard_asideWithLink (s : State) : asideWithLink (startPlacard s) = asideWithLink s := by
  unfold startPlacard
  split <;> rfl

theorem panelLight_asideWithLink (s : State) : asideWithLink (panelLight s) = asideWithLink s := by
  have hfold : ∀ (l : List (Annunciator × Nat)) (u : State),
      asideWithLink (l.foldl (fun a x => emit (.annunciator x.2 true) a) u) = asideWithLink u := by
    intro l
    induction l with
    | nil => exact fun _ => rfl
    | cons x l ih => exact fun u => ih _
  unfold panelLight
  split
  · exact hfold _ s
  · rfl

/-- The end of a hold clears its marks and leaves the rest of what stands aside, and the die-to-die link. -/
theorem holdEnds_asideWithLink (s : State) : asideWithLink (holdEnds s) =
    asideWithLink (onSupply (fun u => { u with hold := false, mainWarn := false, fieldWarn := u.fieldReset }) s) := by
  unfold holdEnds
  dsimp only
  rw [startPlacard_asideWithLink, panelLight_asideWithLink, kickCoil, kickCoilN_asideWithLink]
  split <;> rfl

end Sys2Proof.FieldDieFrame
end

section
/-! PROOF. Supplies and resets (R358, R376, R380 to R385, R393 to R395). -/

namespace Sys2Proof.SupplyRows

open Sys2Proof Sys2Proof.Machine Sys2Proof.Safety Sys2Proof.AppendFrame Sys2Proof.KeeperWindow Sys2Proof.ResetFrame
  Sys2Proof.FieldDieFrame

/-! ## The end of a cause of degraded mode (R385) -/

theorem appends_raiseOwn (e : EvRec) (s : State) : Appends s (raiseOwn e s) := by
  unfold raiseOwn
  split
  · exact appends_emit _ s
  · exact appends_trans (appends_newInput 8 s) (appends_raiseEv e _)

/-- The cause struck off, and the record of it. -/
def causeStruck (cause : Nat) (s : State) : State :=
  note 0x0F (putLe 1 0 ++ putLe 2 cause) (onKeeper (fun k => { k with degraded := k.degraded.filter (· != cause) }) s)

/-- A reading that no append moves, after the end of cause 1: that of the cause struck off, its code shown no longer. -/
theorem reads_degradeEnd {α : Type} {g : State → α} (hg : ∀ n l i k x b r u o w c s, g (appended n l i k x b r u o w c s) = g s)
    {s : State} (hcause : s.keeper.degraded.contains 1 = true) :
    g (degradeEnd 1 s) = g (if s.keeper.faultCode = 0x4001 then showCode 0 (causeStruck 1 s) else causeStruck 1 s) := by
  have hend : ∀ u : State, g (if u.keeper.degraded.isEmpty then raiseOwn (keeperEv u 0x0003 []) u else u) = g u := by
    intro u
    split
    · exact reads_of_appends hg (appends_raiseOwn _ u)
    · rfl
  have hcode : (decide ((1 : Nat) = 1) && decide ((causeStruck 1 s).keeper.faultCode = 0x4001)) =
      decide (s.keeper.faultCode = 0x4001) := by
    rw [decide_eq_true rfl, Bool.true_and]
    rfl
  unfold degradeEnd
  rw [if_neg (by simp only [hcause, Bool.not_true, Bool.false_eq_true, not_false_eq_true])]
  refine (hend _).trans (congrArg g ?_)
  show (if (decide ((1 : Nat) = 1) && decide ((causeStruck 1 s).keeper.faultCode = 0x4001)) = true
    then showCode 0 (causeStruck 1 s) else causeStruck 1 s) = _
  rw [hcode]
  simp only [decide_eq_true_eq]

theorem degradeEnd_absent {s : State} (hcause : s.keeper.degraded.contains 1 = false) : degradeEnd 1 s = s :=
  if_pos (by rw [hcause]; rfl)

theorem showCode_leaves (code : Nat) (s : State) : (showCode code s).keeper.degraded = s.keeper.degraded ∧
    (showCode code s).keys = s.keys ∧ (showCode code s).meters = s.meters := ⟨rfl, rfl, rfl⟩

theorem causeStruck_degraded (s : State) : (causeStruck 1 s).keeper.degraded = s.keeper.degraded.filter (· != 1) := rfl

/-- What a cause struck off, its code shown no longer where it was shown, leaves. -/
theorem causeStruck_leaves (s : State) (p : Prop) [Decidable p] :
    (if p then showCode 0 (causeStruck 1 s) else causeStruck 1 s).keeper.degraded = s.keeper.degraded.filter (· != 1) ∧
    (if p then showCode 0 (causeStruck 1 s) else causeStruck 1 s).keys = s.keys ∧
    (if p then showCode 0 (causeStruck 1 s) else causeStruck 1 s).meters = s.meters := by
  split
  · obtain ⟨hdegraded, hkeys, hmeters⟩ := showCode_leaves 0 (causeStruck 1 s)
    exact ⟨hdegraded.trans (causeStruck_degraded s), hkeys, hmeters⟩
  · exact ⟨causeStruck_degraded s, rfl, rfl⟩

/-! ## Watchdogs (R377) -/

theorem owe_lasting (e : EvRec) (s : State) : lasting (owe e s) = lasting s := rfl

theorem onJournal_lasting (f : Journal → Journal) (s : State) : lasting (onJournal f s) = lasting s := rfl

theorem onSupply_lasting (f : Supply → Supply) (s : State) : lasting (onSupply f s) = lasting s := rfl

theorem onPlacard_lasting (f : Placard → Placard) (s : State) : lasting (onPlacard f s) = lasting s := rfl

theorem watchdogNoted_lasting (which : Nat) (s : State) : lasting (watchdogNoted which s) = lasting s := by
  rw [watchdogNoted, owe_lasting, note_lasting]

theorem showCode_lasting (code : Nat) (s : State) : lasting (showCode code s) = lasting s := by
  rw [showCode, onPlacard_lasting, note_lasting]
  rfl

theorem showCode_boot (code : Nat) (s : State) :
    (showCode code s).boot.owed = s.boot.owed ∧ (showCode code s).boot.passed8 = s.boot.passed8 := ⟨rfl, rfl⟩

/-- The event of a watchdog is owed, and the keeper owes it through a MAIN reset. -/
theorem watchdogNoted_owes (which : Nat) (s : State) :
    ∃ e ∈ (watchdogNoted which s).boot.owed, e.code = 0x0904 ∧ keeperOwed e = true := by
  have hcode : (keeperEv s 0x0904 (putLe 1 which)).code = 0x0904 := by
    unfold keeperEv
    dsimp only
    split <;> rfl
  refine ⟨keeperEv s 0x0904 (putLe 1 which), List.mem_append_right _ (List.mem_singleton.mpr rfl), hcode, ?_⟩
  rw [keeperOwed, hcode]
  rfl

/-- The application's watchdog and, at its third time in an hour, its code. -/
def appOverrun (s : State) : State :=
  onKeeper (fun k => { k with
    watchdogTimes := (s.keeper.watchdogTimes.filter fun t => decide (s.clk ≤ t + secTicks 3600)) ++ [s.clk] }) s

/-- The application's watchdog noted, and at its third time in an hour its code shown. -/
def appNoted (s : State) : State :=
  if (appOverrun s).keeper.watchdogTimes.length ≥ 3 then showCode 0x2001 (watchdogNoted 0 (appOverrun s))
  else watchdogNoted 0 (appOverrun s)

theorem appNoted_lasting (s : State) : lasting (appNoted s) = lasting s := by
  unfold appNoted
  split
  · rw [showCode_lasting, watchdogNoted_lasting]
    rfl
  · rw [watchdogNoted_lasting]
    rfl

theorem appNoted_boot (s : State) : (appNoted s).boot.owed = (watchdogNoted 0 (appOverrun s)).boot.owed ∧
    (appNoted s).boot.passed8 = s.boot.passed8 := by
  unfold appNoted
  split
  · exact showCode_boot 0x2001 (watchdogNoted 0 (appOverrun s))
  · exact ⟨rfl, rfl⟩

theorem opAppWatchdog_passed {s : State} (hkeeper : keeperRuns s = true) (hruns : s.boot.phase = .running)
    (hpassed : s.boot.passed8 = true) (hoverdue : appOverdue s = true) : opAppWatchdog s = mainReset 0x05 (appNoted s) := by
  have happ : opAppWatchdog s =
      if (appNoted s).boot.passed8 then mainReset 0x05 (appNoted s) else failStage 0x05 0xF0 (appNoted s) := by
    unfold opAppWatchdog
    rw [if_neg (by simp [hkeeper, hruns, hoverdue])]
    rfl
  rw [happ, if_pos ((appNoted_boot s).2.trans hpassed)]

/-! ## A reset by a supply (R376, R382) -/

/-- The figures of a loss of VDDIO_33, noted with the epoch that had committed. -/
def powerFailNoted (mainMv fieldMv : Nat) (s : State) : State :=
  onJournal (fun j => { j with powerFailEpoch := s.led.lastCommitted })
    (note 0x08 (putLe 8 s.led.lastCommitted ++
        putLe 2 (onSupply (fun u => noteVolts 1 fieldMv (noteVolts 0 mainMv u)) s).keeper.supply.mainMin ++
        putLe 2 (onSupply (fun u => noteVolts 1 fieldMv (noteVolts 0 mainMv u)) s).keeper.supply.fieldMin)
      (onSupply (fun u => noteVolts 1 fieldMv (noteVolts 0 mainMv u)) s))

/-- POWER_FAIL, at the instant of the warning. -/
def powerFail (s u : State) : EvRec :=
  { mkEv u 0x0902 (putLe 8 s.led.lastCommitted) none with
    ltime := if s.keeper.supply.hold then s.keeper.supply.warnLtime else now s }

theorem powerFail_code (s u : State) : (powerFail s u).code = 0x0902 := rfl

theorem opMainSupplyReset_runs {s : State} (mainMv fieldMv : Nat) (hkeeper : keeperRuns s = true) :
    opMainSupplyReset mainMv fieldMv s =
      onSupply (fun u => { u with retain := true, hold := false, dipped := [], mainWarn := true })
        (bothReset 0x02 (startEnds true (owe (powerFail s (powerFailNoted mainMv fieldMv s)) (powerFailNoted mainMv fieldMv s)))) := by
  unfold opMainSupplyReset
  rw [if_neg (by simp [hkeeper])]
  rfl

theorem powerFailNoted_lasting (mainMv fieldMv : Nat) (s : State) : lasting (powerFailNoted mainMv fieldMv s) = lasting s := by
  rw [powerFailNoted, onJournal_lasting, note_lasting, onSupply_lasting]

theorem owe_keeperHolds (e : EvRec) (s : State) : keeperHolds (owe e s) = ((keeperHolds s).1 ++ [e], (keeperHolds s).2) := rfl

theorem powerFailNoted_epoch (mainMv fieldMv : Nat) (s : State) :
    (keeperHolds (powerFailNoted mainMv fieldMv s)).2.1 = s.led.lastCommitted := rfl

/-- A state whose supply part alone differs keeps what a MAIN reset leaves, where its hold of the relays stands. -/
theorem afterMainReset_onSupply {s t : State} {f : Supply → Supply} (hf : ∀ u, (f u).relayHold = u.relayHold)
    (h : AfterMainReset s t) : AfterMainReset s (onSupply f t) := by
  simp only [AfterMainReset, onSupply, onKeeper, hf] at h ⊢
  exact h

/-- What a reset of VDD_FIELD notes before the field die goes into reset. -/
def fieldFailNoted (mv : Nat) (s : State) : State :=
  note 0x04 (putLe 1 0x03) (onSupply (fun u => { u with
    fieldReset := true
    fieldWarn := true
    dipped := if u.dipped.contains 1 then u.dipped else u.dipped ++ [1] }) (onSupply (fun u => noteVolts 1 mv u) s))

/-- The field die in reset, its link not retraining. -/
def fieldFailed (mv : Nat) (s : State) : State :=
  { fieldDieReset 0x03 (fieldFailNoted mv s) with
    d2d := { (fieldDieReset 0x03 (fieldFailNoted mv s)).d2d with retraining := false } }

theorem opFieldSupplyReset_runs {s : State} (mv : Nat) (hkeeper : keeperRuns s = true) (hfield : s.keeper.supply.fieldReset = false) :
    opFieldSupplyReset mv s =
      if (fieldFailed mv s).keeper.supply.hold && !(fieldFailed mv s).keeper.supply.mainWarn then holdEnds (fieldFailed mv s)
      else fieldFailed mv s := by
  unfold opFieldSupplyReset
  rw [if_neg (by simp [hkeeper, hfield])]
  rfl

theorem fieldFailNoted_fieldReset (mv : Nat) (s : State) : (fieldFailNoted mv s).keeper.supply.fieldReset = true := rfl

theorem note_aside (kind : Nat) (data : Bytes) (s : State) : aside (note kind data s) = aside s := rfl

theorem onSupply_aside (f : Supply → Supply) (s : State) : (aside (onSupply f s)).2 = (aside s).2 := rfl

theorem fieldFailNoted_rest (mv : Nat) (s : State) : (aside (fieldFailNoted mv s)).2 = (aside s).2 := by
  rw [fieldFailNoted, note_aside, onSupply_aside, onSupply_aside]

/-- A state of which the d2d part alone differs stands aside. -/
theorem aside_d2d (d : D2D) (s : State) : aside { s with d2d := d } = aside s := rfl

/-- The end of a hold, where it comes, leaves the field die's reset, what stands aside of the keeper and the link. -/
theorem holdEnds_rest (p : Prop) [Decidable p] (s : State) :
    (aside (if p then holdEnds s else s)).1.fieldReset = (aside s).1.fieldReset ∧
    (aside (if p then holdEnds s else s)).2 = (aside s).2 ∧ (if p then holdEnds s else s).d2d = s.d2d := by
  split
  · have h := holdEnds_asideWithLink s
    exact ⟨congrArg (fun x => x.1.1.fieldReset) h, congrArg (fun x => x.1.2) h, congrArg (fun x => x.2) h⟩
  · exact ⟨rfl, rfl, rfl⟩

theorem fieldFailed_aside (mv : Nat) (s : State) :
    aside (fieldFailed mv s) = ((aside (fieldFailNoted mv s)).1, List.replicate 8 0, (aside (fieldFailNoted mv s)).2.2) :=
  (aside_d2d _ _).trans (fieldDieReset_aside 0x03 (fieldFailNoted mv s))

/-- A reset of VDD_FIELD clears the pulse counters and leaves the link without retraining; the rest stands aside. -/
theorem opFieldSupplyReset_aside {s : State} (mv : Nat) (hkeeper : keeperRuns s = true)
    (hfield : s.keeper.supply.fieldReset = false) : (aside (opFieldSupplyReset mv s)).1.fieldReset = true ∧
      (aside (opFieldSupplyReset mv s)).2 = (List.replicate 8 0, (aside s).2.2) ∧
      (opFieldSupplyReset mv s).d2d.retraining = false := by
  obtain ⟨hreset, hrest, hd2d⟩ := holdEnds_rest
    (((fieldFailed mv s).keeper.supply.hold && !(fieldFailed mv s).keeper.supply.mainWarn) = true) (fieldFailed mv s)
  rw [opFieldSupplyReset_runs mv hkeeper hfield, hreset, hrest, hd2d, fieldFailed_aside]
  exact ⟨fieldFailNoted_fieldReset mv s, by rw [fieldFailNoted_rest], rfl⟩

/-! ## The keeper's own supply (R380) -/

/-- What stands before the main domains drop with the keeper. -/
def keeperDark (s : State) : State := fieldReset (cutPlacard (startEnds true s))

theorem keeperDark_lasting (s : State) : lasting (keeperDark s) = lasting s := by simp [keeperDark]

theorem keeperDark_recs (s : State) : (keeperDark s).boot.journal.recs = s.boot.journal.recs := by simp [keeperDark]

/-- What the keeper's power on sets before both dies are reset. -/
def keeperLit (kept : Bool) (s : State) : State :=
  onBoot (fun b => { b with phase := .held }) (onKeeper (fun k => { k with
    supply := { Supply.reset with kprOn := true }
    rtcValid := k.rtcValid && kept }) s)

theorem opKeeperPowerOn_off {s : State} (kept : Bool) (hoff : s.boot.phase = .off) :
    opKeeperPowerOn kept s = bothReset 0x01 (keeperLit kept s) :=
  if_neg (by simp [hoff])

/-- Settles O51: every source of a MAIN reset ends in `mainReset` or `bothReset` of a state in which what lasts stands. -/
theorem suppliesAndResetsAct : Obligations.SuppliesAndResetsAct := by
  unfold Obligations.SuppliesAndResetsAct
  refine ⟨?warning, ?holdEnd, ?degraded, ?mainSupply, ?fieldSupply, ?fieldRelease, ?keeperOn, ?keeperOff, ?sysReset, ?requested,
    ?delayed, ?appWatchdog, ?twinWatchdog, ?loader⟩
  case warning =>
    intro s rail mv u hrail hkeeper hfield hu
    subst hu
    refine congrArg Host.Outcome.next (if_neg ?_)
    have hpresent : (s.keeper.supply.fieldReset && decide (rail = 1)) = false := by
      by_cases h : rail = 1
      · simp [hfield h]
      · simp [h]
    simp [hkeeper, Nat.not_lt.mpr hrail]
    simpa using hpresent
  case holdEnd =>
    intro s mins u v rails hhold hkeeper hrails hu hv
    subst hv
    subst hu
    subst hrails
    exact congrArg Host.Outcome.next (if_neg (by simp [hhold, hkeeper]))
  case degraded =>
    intro s hphase htime
    have hop : opDegradedEnd s = degradeEnd 1 s := if_neg (by simp [hphase, htime])
    cases hcause : s.keeper.degraded.contains 1 with
    | false =>
      refine ⟨s, congrArg Host.Outcome.next (hop.trans (degradeEnd_absent hcause)), ?_, rfl, rfl, ?_, fun _ => rfl⟩
      · refine (List.filter_eq_self.mpr fun x hx => ?_).symm
        have habsent : (1 : Nat) ∉ s.keeper.degraded := by simpa using hcause
        simp only [bne_iff_ne]
        exact fun h => habsent (h ▸ hx)
      · exact fun h => absurd h Bool.false_ne_true
    | true =>
      obtain ⟨hdegraded, hkeys, hmeters⟩ := causeStruck_leaves s (s.keeper.faultCode = 0x4001)
      refine ⟨_, congrArg Host.Outcome.next hop, ?_, ?_, ?_, ?_, fun h => absurd h.symm Bool.false_ne_true⟩
      · exact (reads_degradeEnd (g := fun s => s.keeper.degraded) (fun _ _ _ _ _ _ _ _ _ _ _ _ => rfl) hcause).trans hdegraded
      · exact (reads_degradeEnd (g := State.keys) (fun _ _ _ _ _ _ _ _ _ _ _ _ => rfl) hcause).trans hkeys
      · exact (reads_degradeEnd (g := State.meters) (fun _ _ _ _ _ _ _ _ _ _ _ _ => rfl) hcause).trans hmeters
      · intro _ hcode
        refine (reads_degradeEnd (g := fun s => s.keeper.faultCode) (fun _ _ _ _ _ _ _ _ _ _ _ _ => rfl) hcause).trans ?_
        rw [if_pos hcode]
        rfl
  case mainSupply =>
    intro s a b hkeeper
    have hlasting : lasting (startEnds true (owe (powerFail s (powerFailNoted a b s)) (powerFailNoted a b s))) = lasting s :=
      (startEnds_lasting true _).trans ((owe_lasting _ _).trans (powerFailNoted_lasting a b s))
    have hholds := bothReset_keeperHolds 0x02 (startEnds true (owe (powerFail s (powerFailNoted a b s)) (powerFailNoted a b s)))
    rw [startEnds_keeperHolds, owe_keeperHolds] at hholds
    refine ⟨_, congrArg Host.Outcome.next (opMainSupplyReset_runs a b hkeeper),
      afterMainReset_onSupply (fun _ => rfl) (bothReset_after 0x02 hlasting), rfl, rfl, ?_, powerFail s (powerFailNoted a b s), ?_,
      powerFail_code _ _⟩
    · exact (congrArg (fun x => x.2.1) hholds).trans (powerFailNoted_epoch a b s)
    · rw [onSupply_boot]
      refine mem_owed_bothReset ?_ (by rw [keeperOwed, powerFail_code]; decide)
      rw [startEnds_owed]
      exact List.mem_append_right _ (List.mem_singleton.mpr rfl)
  case fieldSupply =>
    intro s mv hkeeper hfield
    obtain ⟨hreset, hrest, hretraining⟩ := opFieldSupplyReset_aside mv hkeeper hfield
    simp only [aside, Prod.mk.injEq] at hreset hrest
    obtain ⟨hcounts, htotals, hphase, htb, hfabric, hlast⟩ := hrest
    exact ⟨_, rfl, hreset, hretraining, hcounts, htotals, hlast, hphase, htb, hfabric⟩
  case fieldRelease =>
    intro s u hkeeper hfield hu
    subst hu
    refine congrArg Host.Outcome.next (?_ : opFieldRelease s = _)
    unfold opFieldRelease
    rw [if_neg (by simp [hkeeper, hfield])]
    exact congrArg (fun v => startPlacard (onSupply (fun u => { u with dipped := u.dipped.filter (· != 1) }) (dipEvent 1 v)))
      (if_congr (by simp [and_assoc]) rfl rfl)
  case keeperOn =>
    intro s kept hoff
    have hholds := bothReset_keeperHolds 0x01 (keeperLit kept s)
    refine ⟨_, congrArg Host.Outcome.next (opKeeperPowerOn_off kept hoff), bothReset_after 0x01 rfl, ?_, ?_⟩
    · exact congrArg (fun x => x.2.2.2) hholds
    · exact congrArg (fun x => x.2.2.1) hholds
  case keeperOff =>
    intro s hphase
    obtain ⟨hafter, -⟩ := dropMain_afterMainReset (keeperDark_lasting s)
    obtain ⟨-, -, -, -, -, -, -, -, -, hfabric, -, -, -, -, -, -, -, -, -, -, -, hlast, -, -, -, -, -, -, -, hlifecycle, -⟩ := hafter
    refine ⟨_, congrArg Host.Outcome.next (if_neg (by simp [hphase]) : opKeeperLoss s = _), rfl, rfl, rfl, hlast, hlifecycle, ?_,
      hfabric⟩
    exact (congrArg (fun b => b.journal.recs) (dropMain_boot (keeperDark s))).trans (keeperDark_recs s)
  case sysReset =>
    intro s hkeeper
    have hop : opSysResetN s = bothReset 0x04 (startEnds false s) := if_neg (by simp [hkeeper])
    exact ⟨_, congrArg Host.Outcome.next hop, bothReset_after 0x04 (startEnds_lasting false s)⟩
  case requested =>
    intro s hkeeper hruns
    exact ⟨_, congrArg Host.Outcome.next (if_pos (by simp [hkeeper, hruns])), (mainReset_spec 0x09 (startEnds_lasting false s)).1⟩
  case delayed =>
    intro s due hkeeper hasked htime
    have hop : opDelayedReset s =
        mainReset 0x07 (startEnds false (onKeeper (fun k => { k with delayedReset := none }) s)) := by
      rw [opDelayedReset, hasked]
      exact if_neg (by simp [hkeeper, htime])
    have hkeeperAfter : (startEnds false (onKeeper (fun k => { k with delayedReset := none }) s)).keeper.delayedReset = none :=
      congrArg (·.delayedReset) (startEnds_keeper false _)
    exact ⟨_, congrArg Host.Outcome.next hop, (mainReset_spec 0x07 (startEnds_lasting false _)).1, mainReset_delayedReset 0x07 hkeeperAfter⟩
  case appWatchdog =>
    intro s hkeeper hruns hpassed hoverdue
    obtain ⟨howed, -⟩ := appNoted_boot s
    obtain ⟨e, he, hcode, hkept⟩ := watchdogNoted_owes 0 (appOverrun s)
    exact ⟨_, congrArg Host.Outcome.next (opAppWatchdog_passed hkeeper hruns hpassed hoverdue),
      (mainReset_spec 0x05 (appNoted_lasting s)).1, e, mem_owed_mainReset (howed ▸ he) hkept, hcode⟩
  case twinWatchdog =>
    intro s hkeeper hruns hpair htime
    have hop : opTwinWatchdog s = stepDown 1 (watchdogNoted 1 s) := if_neg (by simp [hkeeper, hruns, hpair, htime])
    have hlasting : lasting (startEnds false (stepDownOrders 1 (watchdogNoted 1 s))) = lasting s := by
      simp [watchdogNoted_lasting]
    have howed : (startEnds false (stepDownOrders 1 (watchdogNoted 1 s))).boot.owed = (watchdogNoted 1 s).boot.owed :=
      congrArg (fun x => x.1) ((startEnds_keeperHolds false _).trans (stepDownOrders_keeperHolds 1 (watchdogNoted 1 s)))
    obtain ⟨e, he, hcode, hkept⟩ := watchdogNoted_owes 1 s
    exact ⟨_, congrArg Host.Outcome.next hop, (mainReset_spec 0x06 hlasting).1, e, mem_owed_mainReset (howed.symm ▸ he) hkept, hcode⟩
  case loader =>
    intro s t hasked hphase htime
    have hop : opLoaderReset s = mainReset 0x09 s := by
      rw [opLoaderReset, hasked]
      exact if_neg (by simp [hphase, htime])
    obtain ⟨hrecovery, hruns⟩ := mainReset_recovery 0x09 hphase
    exact ⟨_, congrArg Host.Outcome.next hop, (mainReset_spec 0x09 rfl).1, hrecovery, hruns⟩

end Sys2Proof.SupplyRows
end

section
/-! PROOF. The keeper's own work: tamper inputs, watchdogs, bridges, clocks, fault codes and requests (R375 to R378, R385, R387, R392). -/

namespace Sys2Proof.KeeperRows

open Sys2Proof Sys2Proof.Machine Sys2Proof.Safety Sys2Proof.KeeperWindow Sys2Proof.ResetFrame Sys2Proof.SupplyRows

/-! ## Tamper inputs (R375) -/

/-- An accepted tamper input latched and recorded; with zeroise set the keys are gone and 0x3001 is shown. -/
def tamperTaken (n : Nat) (s : State) : State :=
  let u := note 0x09 (putLe 1 n ++ putLe 1 (bit (bitOf (tamperByte s n) 2))) (onKeeper (fun k => { k with
    tamperLatched := k.tamperLatched ||| 2 ^ n
    tamperActive := k.tamperActive ||| 2 ^ n }) s)
  if bitOf (tamperByte s n) 2 then showCode 0x3001 (zeroise u) else u

theorem opTamper_accepted {s : State} {n : Nat} (hn : n ≤ 3) (hphase : s.boot.phase ≠ .off) (hon : bitOf (tamperByte s n) 0 = true)
    (hnew : s.keeper.tamperLatched.testBit n = false) :
    opTamper n s = if keeperRuns (tamperTaken n s) && inService (tamperTaken n s) then raiseHw 0x0903 (putLe 1 n) (tamperTaken n s)
      else owe (keeperEv (tamperTaken n s) 0x0903 (putLe 1 n)) (tamperTaken n s) := by
  unfold opTamper
  dsimp only
  rw [if_neg (by simp [Nat.not_lt.mpr hn, hphase, hon, hnew])]
  rfl

theorem showCode_keeper (code : Nat) (s : State) :
    (showCode code s).keeper = { s.keeper with faultCode := code, codeRaised := s.keeper.codeRaised || code != 0 } := rfl

theorem showCode_keys (code : Nat) (s : State) : (showCode code s).keys = s.keys := rfl

theorem showCode_led (code : Nat) (s : State) : (showCode code s).led = s.led := rfl

theorem showCode_phase (code : Nat) (s : State) : (showCode code s).boot.phase = s.boot.phase ∧ (showCode code s).boot.stage = s.boot.stage ∧
    (showCode code s).boot.journal.seq = s.boot.journal.seq + 1 := ⟨rfl, rfl, rfl⟩

theorem tamperTaken_leaves (n : Nat) (s : State) : (tamperTaken n s).keeper.tamperLatched = s.keeper.tamperLatched ||| 2 ^ n ∧
    (tamperTaken n s).led = s.led ∧ (tamperTaken n s).keys.lifecycle = s.keys.lifecycle := by
  unfold tamperTaken
  dsimp only
  split
  · rw [showCode_keeper, showCode_led, showCode_keys]
    exact ⟨rfl, rfl, rfl⟩
  · exact ⟨rfl, rfl, rfl⟩

theorem tamperTaken_zeroise {n : Nat} {s : State} (h : bitOf (tamperByte s n) 2 = true) :
    (tamperTaken n s).keys.slots = [] ∧ (tamperTaken n s).keys.persistent = [] ∧ (tamperTaken n s).keeper.faultCode = 0x3001 := by
  simp only [tamperTaken, h, if_true, showCode_keeper, showCode_keys]
  exact ⟨rfl, rfl, trivial⟩

theorem tamperTaken_keeps {n : Nat} {s : State} (h : bitOf (tamperByte s n) 2 = false) :
    (tamperTaken n s).keys = s.keys ∧ (tamperTaken n s).keeper.faultCode = s.keeper.faultCode := by
  simp only [tamperTaken, h, Bool.false_eq_true, if_false]
  exact ⟨rfl, rfl⟩

theorem tamperTaken_runs (n : Nat) (s : State) :
    keeperRuns (tamperTaken n s) = keeperRuns s ∧ inService (tamperTaken n s) = inService s := by
  unfold tamperTaken
  dsimp only
  split
  · rw [keeperRuns, inService, showCode_keeper, (showCode_phase _ _).1]
    exact ⟨rfl, rfl⟩
  · exact ⟨rfl, rfl⟩

theorem keeperEv_code (s : State) (code : Nat) (data : Bytes) : (keeperEv s code data).code = code := by
  unfold keeperEv
  dsimp only
  split <;> rfl

/-- The event of a tamper input accepted out of service is owed. -/
theorem owes_tamper (n : Nat) (s : State) : ∃ e ∈ (owe (keeperEv s 0x0903 (putLe 1 n)) s).boot.owed, e.code = 0x0903 :=
  ⟨_, List.mem_append_right _ (List.mem_singleton.mpr rfl), keeperEv_code s 0x0903 _⟩

/-- Out of service the event of a tamper input is owed, not raised. -/
theorem opTamper_owed {s : State} {n : Nat} (hn : n ≤ 3) (hphase : s.boot.phase ≠ .off) (hon : bitOf (tamperByte s n) 0 = true)
    (hnew : s.keeper.tamperLatched.testBit n = false) (hservice : inService s = false) :
    opTamper n s = owe (keeperEv (tamperTaken n s) 0x0903 (putLe 1 n)) (tamperTaken n s) := by
  rw [opTamper_accepted hn hphase hon hnew, (tamperTaken_runs n s).2, hservice, Bool.and_false]
  rfl

/-! ## Orders 1 to 4 of a step-down (R363) -/

@[simp] theorem setRoleLine_roleLatch (low : Bool) (s : State) : (setRoleLine low s).twin.lines.roleLatch = low := by
  unfold setRoleLine
  split
  next h => exact eq_of_beq h
  next => rfl

@[simp] theorem setAlive_aliveLow (low : Bool) (s : State) : (setAlive low s).twin.lines.aliveLow = low := by
  unfold setAlive
  split
  next h => exact eq_of_beq h
  next => rfl

@[simp] theorem setInhibit_inhibitLow (low : Bool) (s : State) : (setInhibit low s).twin.lines.inhibitLow = low := by
  unfold setInhibit
  split
  next h => exact eq_of_beq h
  next => rfl

@[simp] theorem setRoleLine_inhibitLow (low : Bool) (s : State) :
    (setRoleLine low s).twin.lines.inhibitLow = s.twin.lines.inhibitLow := by
  unfold setRoleLine
  split <;> rfl

@[simp] theorem setAlive_lines (low : Bool) (s : State) : (setAlive low s).twin.lines.inhibitLow = s.twin.lines.inhibitLow ∧
    (setAlive low s).twin.lines.roleLatch = s.twin.lines.roleLatch := by
  unfold setAlive
  split <;> exact ⟨rfl, rfl⟩

@[simp] theorem holdRelays_twin (s : State) : (holdRelays s).twin = s.twin := by
  unfold holdRelays holdCoils
  split
  · split <;> rfl
  · rfl

/-- What the orders leave beside the modems and the record: the lines, the hold of the relays, the ledger and the boot phase. -/
theorem stepDownOrders_leaves (cause : Nat) (s : State) :
    (stepDownOrders cause s).twin.lines.inhibitLow = true ∧ (stepDownOrders cause s).twin.lines.roleLatch = false ∧
    (stepDownOrders cause s).twin.lines.aliveLow = false ∧ (stepDownOrders cause s).keeper.supply.relayHold = true ∧
    (stepDownOrders cause s).led = s.led ∧ (stepDownOrders cause s).boot.phase = s.boot.phase := by
  have hlines : (setAlive false (setRoleLine false (holdRelays (setInhibit true s)))).twin.lines.inhibitLow = true ∧
      (setAlive false (setRoleLine false (holdRelays (setInhibit true s)))).twin.lines.roleLatch = false ∧
      (setAlive false (setRoleLine false (holdRelays (setInhibit true s)))).twin.lines.aliveLow = false ∧
      (setAlive false (setRoleLine false (holdRelays (setInhibit true s)))).keeper.supply.relayHold = true := by simp
  obtain ⟨hinhibit, hrole, halive, hhold⟩ := hlines
  have hboot : (setAlive false (setRoleLine false (holdRelays (setInhibit true s)))).boot.phase = s.boot.phase := by simp
  exact ⟨hinhibit, hrole, halive, hhold, congrArg (fun x => x.1) (stepDownOrders_lasting cause s), hboot⟩

/-- A kick of a watchdog that a bit names. -/
theorem getD_kicked (v clk : Nat) (l : List Nat) {n : Nat} (h : n < l.length) :
    ((l.zipIdx).map fun x => if v.testBit x.2 then clk else x.1).getD n 0 = if v.testBit n then clk else l.getD n 0 := by
  simp [List.getD, h]

/-- Settles O52: each row of the keeper by what its inputs say, out of service and in service. -/
theorem keeperWorks : Obligations.KeeperWorks := by
  unfold Obligations.KeeperWorks
  refine ⟨?tamperZero, ?tamper, ?tamperServed, ?kick, ?watchdog, ?bridge, ?clockStopped, ?clockReturn, ?dipMin, ?bridgeRead,
    ?clockStatus, ?faultCode, ?stepDown, ?recovery⟩
  case tamperZero =>
    intro s n hn hphase hon hzero hnew hservice
    obtain ⟨hlatched, hled, hlifecycle⟩ := tamperTaken_leaves n s
    obtain ⟨hslots, hpersistent, hcode⟩ := tamperTaken_zeroise hzero
    exact ⟨_, congrArg Host.Outcome.next (opTamper_owed hn hphase hon hnew hservice), hlatched, hslots, hpersistent, hcode,
      owes_tamper n _, hled, hlifecycle⟩
  case tamper =>
    intro s n hn hphase hon hzero hnew hservice
    obtain ⟨hlatched, hled, -⟩ := tamperTaken_leaves n s
    obtain ⟨hkeys, hcode⟩ := tamperTaken_keeps hzero
    exact ⟨_, congrArg Host.Outcome.next (opTamper_owed hn hphase hon hnew hservice), hlatched, hkeys, hcode, owes_tamper n _, hled⟩
  case tamperServed =>
    intro s n hn hphase hon hnew hkeeper hservice
    obtain ⟨hlatched, hled, -⟩ := tamperTaken_leaves n s
    obtain ⟨hruns, hserves⟩ := tamperTaken_runs n s
    refine ⟨tamperTaken n s, congrArg Host.Outcome.next ((opTamper_accepted hn hphase hon hnew).trans (if_pos ?_)), hlatched, hled,
      fun hzero => ?_, fun hzero => (tamperTaken_keeps hzero).1⟩
    · rw [hruns, hserves, hkeeper, hservice]
      rfl
    · obtain ⟨hslots, hpersistent, -⟩ := tamperTaken_zeroise hzero
      exact ⟨hslots, hpersistent⟩
  case kick =>
    intro s v hkeeper
    exact ⟨_, congrArg Host.Outcome.next (if_neg (by simp [hkeeper])), fun n hn => getD_kicked v s.clk s.keeper.appKicks hn, rfl, rfl⟩
  case watchdog =>
    intro s hkeeper
    exact congrArg Host.Outcome.next (if_neg (by simp [hkeeper]))
  case bridge =>
    intro s d atStepDown u hkeeper hd hu
    subst hu
    refine congrArg Host.Outcome.next (?_ : opBridgeTimeout d atStepDown s = _)
    unfold opBridgeTimeout
    rw [if_neg (by simp [hkeeper, Nat.not_lt.mpr hd])]
    exact if_congr (by simp) rfl rfl
  case clockStopped =>
    intro s d hkeeper hd
    exact congrArg Host.Outcome.next (if_neg (by simp [hkeeper, Nat.not_lt.mpr hd]))
  case clockReturn =>
    intro s d hkeeper hd
    exact congrArg Host.Outcome.next (if_neg (by simp [hkeeper, Nat.not_lt.mpr hd]))
  case dipMin => exact fun _ => rfl
  case bridgeRead => exact fun _ => rfl
  case clockStatus => exact fun _ => rfl
  case faultCode =>
    intro s code hkeeper hruns hcode
    have hop : opShowCode code s = showCode code s := if_neg (by simp [hkeeper, hruns, hcode])
    exact ⟨_, congrArg Host.Outcome.next hop, by rw [showCode_keeper], showCode_led code s, showCode_keys code s,
      (showCode_phase code s).2.2⟩
  case stepDown =>
    intro s hkeeper hruns hactive
    obtain ⟨hinhibit, hrole, halive, hhold, hled, hphase⟩ := stepDownOrders_leaves 3 s
    exact ⟨_, congrArg Host.Outcome.next (if_pos (by simp [hkeeper, hruns, hactive])), hinhibit, hrole, halive, hhold, rfl, rfl,
      hled, hphase.trans hruns⟩
  case recovery =>
    intro s hkeeper hruns
    exact congrArg Host.Outcome.next (if_pos (by simp [hkeeper, hruns]))

end Sys2Proof.KeeperRows
end

section
/-! PROOF. A start runs its stages, passes, fails, or is limited (R396 to R404). -/

namespace Sys2Proof.StartRows

open Sys2Proof Sys2Proof.Machine Sys2Proof.Safety Sys2Proof.LedgerFrame Sys2Proof.AppendFrame Sys2Proof.KeeperWindow
  Sys2Proof.ResetFrame Sys2Proof.SupplyRows

/-! ## The release of a start (R396) -/

/-- What appending may not move of a start: the keeper, the boot record but for the owed events, the clock, the keys and the store. -/
def startView (s : State) : Keeper × Journal × Nat × Keys × Store × Nat :=
  (s.keeper, { s.boot.journal with seq := 0, head := 0, recs := [] }, s.clk, s.keys, s.store, s.led.lastCommitted)

theorem raiseOwn_committedPart (e : EvRec) (s : State) : committedPart (raiseOwn e s) = committedPart s := by
  unfold raiseOwn
  split
  · rfl
  · rw [raiseEv_committedPart, newInput_committedPart]

theorem raiseOwn_startView (e : EvRec) (s : State) : startView (raiseOwn e s) = startView s := by
  have hrest := reads_of_appends (g := fun s => (s.keeper, s.boot.journal, s.clk, s.keys, s.store))
    (fun _ _ _ _ _ _ _ _ _ _ _ _ => rfl) (appends_raiseOwn e s)
  have hlast : (raiseOwn e s).led.lastCommitted = s.led.lastCommitted := congrArg (·.1) (raiseOwn_committedPart e s)
  simp only [Prod.mk.injEq] at hrest
  obtain ⟨hkeeper, hjournal, hclk, hkeys, hstore⟩ := hrest
  simp only [startView, hkeeper, hjournal, hclk, hkeys, hstore, hlast]

/-- The end of cause 2 strikes it off and leaves the rest of what a start reads. -/
theorem degradeEnd_startView (s : State) : startView (degradeEnd 2 s) =
    startView (onKeeper (fun k => { k with degraded := k.degraded.filter (· != 2) }) s) := by
  cases hcause : s.keeper.degraded.contains 2 with
  | false =>
    have hsame : s.keeper.degraded.filter (· != 2) = s.keeper.degraded := by
      refine List.filter_eq_self.mpr fun x hx => ?_
      have habsent : (2 : Nat) ∉ s.keeper.degraded := by simpa using hcause
      simp only [bne_iff_ne]
      exact fun h => habsent (h ▸ hx)
    rw [degradeEnd, if_pos (by rw [hcause]; rfl), onKeeper, hsame]
  | true =>
    have hstruck : startView (causeStruck 2 s) =
        startView (onKeeper (fun k => { k with degraded := k.degraded.filter (· != 2) }) s) := rfl
    have hend : degradeEnd 2 s = if (causeStruck 2 s).keeper.degraded.isEmpty then
        raiseOwn (keeperEv (causeStruck 2 s) 0x0003 []) (causeStruck 2 s) else causeStruck 2 s := by
      rw [degradeEnd, if_neg (by rw [hcause]; exact Bool.false_ne_true)]
      rfl
    rw [hend, ← hstruck]
    split
    · exact raiseOwn_startView _ _
    · rfl

/-- The keeper and the record as a start begins, before cause 2 of degraded mode ends. -/
def released (s : State) : State :=
  onJournal (fun j => { j with starts := j.starts + 1, stageReached := 0 }) (onKeeper (fun k => { k with
    codeRaised := false
    clockRunning := k.clockRunning ||| 0x1F
    supply := { k.supply with retain := false, hold := false, mainWarn := false } }) s)

/-- The boot state of a start that runs. -/
def startRuns (s : State) : State :=
  onBoot (fun b => { b with
    phase := .running
    stage := 0
    stageAt := s.clk
    passed8 := false
    openedFirst := false
    debug := false
    debugDecided := false
    altApplied := s.boot.journal.alt }) s

theorem opStart_may {s : State} (h : mayStart s = true) : opStart s =
    if (degradeEnd 2 (released s)).boot.journal.alt = 0 then startRuns (degradeEnd 2 (released s))
    else journal 0x03 0 0 0 (putLe 1 (degradeEnd 2 (released s)).boot.journal.alt) (startRuns (degradeEnd 2 (released s))) := by
  unfold opStart
  rw [if_neg (by simp [h])]
  rfl

/-- What a start that is released sets, whatever it records of the alternatives. -/
theorem startRuns_leaves (u : State) (p : Prop) [Decidable p] (d : Bytes) :
    let t := if p then startRuns u else journal 0x03 0 0 0 d (startRuns u)
    t.boot.phase = .running ∧ t.boot.stage = 0 ∧ t.boot.stageAt = u.clk ∧ t.boot.passed8 = false ∧
    t.boot.altApplied = u.boot.journal.alt ∧ startView t = startView u := by
  dsimp only
  split <;> exact ⟨rfl, rfl, rfl, rfl, rfl, rfl⟩

/-! ## Stages that end (R396, R397) -/

/-- A stage that may end: the work of its report decides. -/
theorem opStage_works {s : State} (r : StageReport) (hruns : s.boot.phase = .running) (hpassed : s.boot.passed8 = false)
    (hwarned : warned s = false) (hrecovery : s.boot.stage = 0 → s.boot.journal.recovery ≠ 1) :
    opStage r s = if s.boot.stage ≥ 8 then (if s.boot.openedFirst then s else workS8 s)
      else match stageWork r s with
        | .fail code s => failStage 0x0A code s
        | .done s => stagePasses r.ms s := by
  refine if_neg ?_
  simpa [hruns, hpassed, hwarned] using hrecovery

theorem sendHello_leaves (s : State) : (sendHello s).boot = s.boot ∧ (sendHello s).led = s.led ∧ (sendHello s).keys = s.keys ∧
    (sendHello s).store = s.store ∧ (sendHello s).fw = s.fw := ⟨rfl, rfl, rfl, rfl, rfl⟩

/-- A stage that passed, recorded, and the next one entered. -/
def stageMarked (ms : Nat) (u : State) : State :=
  onBoot (fun b => { b with stage := u.boot.stage + 1, stageAt := u.clk }) (onJournal (fun j => { j with
    failRun := j.failRun.set u.boot.stage 0
    stageReached := u.boot.stage + 1 }) (journal 0x01 u.boot.stage 0 0 (putLe 4 ms) u))

theorem stageMarked_leaves (ms : Nat) (u : State) : (stageMarked ms u).boot.stage = u.boot.stage + 1 ∧
    (stageMarked ms u).boot.stageAt = u.clk ∧
    (stageMarked ms u).boot.journal.failRun = u.boot.journal.failRun.set u.boot.stage 0 ∧
    (stageMarked ms u).boot.journal.stageReached = u.boot.stage + 1 ∧ (stageMarked ms u).led = u.led ∧
    (stageMarked ms u).keys = u.keys ∧ (stageMarked ms u).store = u.store ∧ (stageMarked ms u).fw = u.fw :=
  ⟨rfl, rfl, rfl, rfl, rfl, rfl, rfl, rfl⟩

theorem stagePasses_eq (ms : Nat) (u : State) : stagePasses ms u =
    if u.boot.stage = 6 && negotiates (stageMarked ms u) then sendHello (stageMarked ms u) else stageMarked ms u := rfl

theorem stagePasses_leaves (ms : Nat) (u : State) : (stagePasses ms u).boot.stage = u.boot.stage + 1 ∧
    (stagePasses ms u).boot.stageAt = u.clk ∧
    (stagePasses ms u).boot.journal.failRun = u.boot.journal.failRun.set u.boot.stage 0 ∧
    (stagePasses ms u).boot.journal.stageReached = u.boot.stage + 1 ∧ (stagePasses ms u).led = u.led ∧
    (stagePasses ms u).keys = u.keys ∧ (stagePasses ms u).store = u.store ∧ (stagePasses ms u).fw = u.fw := by
  rw [stagePasses_eq]
  split
  · obtain ⟨hboot, hled, hkeys, hstore, hfw⟩ := sendHello_leaves (stageMarked ms u)
    rw [hboot, hled, hkeys, hstore, hfw]
    exact stageMarked_leaves ms u
  · exact stageMarked_leaves ms u

/-! ## Stages that fail (R399, R402) -/

/-- The marks of a failed stage, with the flags, the data, the alternatives and the failure run that the record gives them. -/
def failMarked (code flags : Nat) (data : Bytes) (set run : Nat) (s : State) : State :=
  onBoot (fun b => { b with unreported := b.unreported ++ [(s.boot.stage, code)] }) (onJournal (fun j => { j with
    failedStage := s.boot.stage
    lastCode := code
    alt := set
    failRun := j.failRun.set s.boot.stage (min run 255)
    recovery := if recoveryAtOnce code || decide (run ≥ 3) then 1 else j.recovery })
      (journal 0x02 s.boot.stage code flags data (draw s)))

theorem failMarks_eq (code : Nat) (s : State) : ∃ flags data set run, failMarks code s = failMarked code flags data set run s :=
  ⟨_, _, _, _, rfl⟩

/-- The journal's marks of a failed stage. -/
theorem failMarks_leaves (code : Nat) (s : State) : (failMarks code s).boot.journal.failedStage = s.boot.stage ∧
    (failMarks code s).boot.journal.lastCode = code ∧ (failMarks code s).boot.phase = s.boot.phase ∧
    (recoveryAtOnce code = true → (failMarks code s).boot.journal.recovery = 1) ∧ lasting (failMarks code s) = lasting s := by
  obtain ⟨flags, data, set, run, hmarks⟩ := failMarks_eq code s
  rw [hmarks]
  exact ⟨rfl, rfl, rfl, fun h => if_pos (by rw [h, Bool.true_or]), rfl⟩

theorem leaveRecovery_running {s : State} (h : s.boot.phase = .running) : leaveRecovery s = s :=
  if_neg (by rw [h]; decide)

/-- The figures of the journal that a MAIN reset of a start that runs leaves. -/
def failFigures (s : State) : Nat × Nat × Nat :=
  (s.boot.journal.failedStage, s.boot.journal.lastCode, s.boot.journal.recovery)

theorem mainReset_failFigures {s : State} (source : Nat) (h : s.boot.phase = .running) :
    failFigures (mainReset source s) = failFigures s := by
  have hbefore : ∀ u, u.boot.phase = .running →
      failFigures (dropMain (onKeeper (Keeper.satisfied 1) (leaveRecovery (note 0x04 (putLe 1 source) u)))) = failFigures u := by
    intro u hu
    rw [leaveRecovery_running (s := note 0x04 (putLe 1 source) u) hu]
    simp only [failFigures, dropMain_boot]
    rfl
  have horders : failFigures (stepDownOrders 6 s) = failFigures s ∧ (stepDownOrders 6 s).boot.phase = s.boot.phase := by
    have hboot : (setAlive false (setRoleLine false (holdRelays (setInhibit true s)))).boot = s.boot := by simp
    exact ⟨congrArg (fun b => (b.journal.failedStage, b.journal.lastCode, b.journal.recovery)) hboot, congrArg (·.phase) hboot⟩
  refine (hbefore _ ?_).trans ?_
  · split
    · exact horders.2.trans h
    · exact h
  · split
    · exact horders.1
    · rfl

/-- A failed stage of a start without a debug token: its marks, then the main domains reset. -/
theorem failStage_resets {s : State} (source code : Nat) (hruns : s.boot.phase = .running) (hpassed : s.boot.passed8 = false)
    (hdebug : s.boot.debug = false) : ∃ wait, (wait = secTicks 1 ∨ wait = secTicks 10) ∧
      failStage source code s = onBoot (fun b => { b with
        releaseAt := (mainReset source (trialEnds false (failMarks code s))).clk + wait })
          (mainReset source (trialEnds false (failMarks code s))) := by
  refine ⟨secTicks
    (if (mainReset source (trialEnds false (failMarks code s))).boot.journal.failRun.getD s.boot.stage 0 = 0 then 1 else 10), ?_, ?_⟩
  · split
    · exact .inl rfl
    · exact .inr rfl
  · unfold failStage
    rw [if_neg (by simp [hruns, hpassed]), if_neg (by simp [hdebug])]

/-- What a start that is released leaves. -/
theorem opStart_leaves {s : State} (hmay : mayStart s = true) : (opStart s).boot.phase = .running ∧ (opStart s).boot.stage = 0 ∧
    (opStart s).boot.stageAt = s.clk ∧ (opStart s).boot.passed8 = false ∧ (opStart s).boot.altApplied = s.boot.journal.alt ∧
    (opStart s).boot.journal.starts = s.boot.journal.starts + 1 ∧ (opStart s).keeper.supply.retain = false ∧
    (opStart s).keeper.degraded = s.keeper.degraded.filter (· != 2) ∧
    (opStart s).led.lastCommitted = s.led.lastCommitted ∧ (opStart s).keys = s.keys ∧ (opStart s).store = s.store := by
  have hview : startView (degradeEnd 2 (released s)) =
      startView (onKeeper (fun k => { k with degraded := k.degraded.filter (· != 2) }) (released s)) := degradeEnd_startView _
  obtain ⟨hphase, hstage, hstageAt, hpassed, halt, hleaves⟩ := startRuns_leaves (degradeEnd 2 (released s))
    ((degradeEnd 2 (released s)).boot.journal.alt = 0) (putLe 1 (degradeEnd 2 (released s)).boot.journal.alt)
  rw [← opStart_may hmay] at hphase hstage hstageAt hpassed halt hleaves
  have hstart := hleaves.trans hview
  exact ⟨hphase, hstage, hstageAt.trans (congrArg (fun x => x.2.2.1) hview), hpassed,
    halt.trans (congrArg (fun x => x.2.1.alt) hview), congrArg (fun x => x.2.1.starts) hstart,
    congrArg (fun x => x.1.supply.retain) hstart, congrArg (fun x => x.1.degraded) hstart,
    congrArg (fun x => x.2.2.2.2.2) hstart, congrArg (fun x => x.2.2.2.1) hstart, congrArg (fun x => x.2.2.2.2.1) hstart⟩

/-- What a failed stage of a start without a debug token leaves. -/
theorem failStage_leaves {s : State} (code : Nat) (hruns : s.boot.phase = .running) (hpassed : s.boot.passed8 = false)
    (hdebug : s.boot.debug = false) : ∃ t, failStage 0x0A code s = t ∧
      t.boot.phase = .held ∧ t.boot.journal.failedStage = s.boot.stage ∧ t.boot.journal.lastCode = code ∧
      (t.boot.releaseAt = s.clk + secTicks 1 ∨ t.boot.releaseAt = s.clk + secTicks 10) ∧
      (recoveryAtOnce code = true → t.boot.journal.recovery = 1) ∧ t.led.lastCommitted = s.led.lastCommitted ∧
      t.tb = Timebase.reset := by
  obtain ⟨wait, hwait, hfail⟩ := failStage_resets 0x0A code hruns hpassed hdebug
  obtain ⟨hfailed, hlast, hphase, hrecovery, hlasting⟩ := failMarks_leaves code s
  have htrial : (trialEnds false (failMarks code s)).boot = (failMarks code s).boot := trialEnds_boot false _
  have hfigures := mainReset_failFigures 0x0A (s := trialEnds false (failMarks code s))
    ((congrArg (·.phase) htrial).trans (hphase.trans hruns))
  obtain ⟨hafter, -⟩ := mainReset_spec (s := s) 0x0A ((trialEnds_lasting false (failMarks code s)).trans hlasting)
  generalize mainReset 0x0A (trialEnds false (failMarks code s)) = v at hfail hfigures hafter
  simp only [failFigures, htrial, Prod.mk.injEq] at hfigures
  obtain ⟨hfailedAfter, hlastAfter, hrecoveryAfter⟩ := hfigures
  obtain ⟨hheld, -, -, -, -, -, -, -, -, -, -, htb, -, -, -, -, -, -, -, -, -, hcommitted, -, -, -, -, -, -, -, -, -, -, -, -, hclk,
    -⟩ := hafter
  have hrelease : (onBoot (fun b => { b with releaseAt := v.clk + wait }) v).boot.releaseAt = s.clk + wait :=
    congrArg (· + wait) hclk
  refine ⟨_, hfail, hheld, hfailedAfter.trans hfailed, hlastAfter.trans hlast, ?_,
    fun h => hrecoveryAfter.trans (hrecovery h), hcommitted, htb⟩
  rw [hrelease]
  exact hwait.imp (congrArg fun n => s.clk + n) (congrArg fun n => s.clk + n)

/-- Settles O53: a release by `mayStart`, a stage by the work of its report, a failure by `failStage_resets`. -/
theorem startsRunByStages : Obligations.StartsRunByStages := by
  unfold Obligations.StartsRunByStages
  refine ⟨?start, ?token, ?passes, ?fails, ?lastStage, ?failure, ?limit, ?recovery⟩
  case start =>
    exact fun _ hmay => ⟨_, rfl, opStart_leaves hmay⟩
  case token =>
    intro s b hruns hstage hwindow hdecided htime
    have hop : opDebugToken b s = journal 0x0E 0 0 0 (putLe 1 (bit (tokenOk b s)))
        (onBoot (fun x => { x with debug := tokenOk b s, debugDecided := true }) s) :=
      if_neg (by simp [hruns, hstage, hwindow, hdecided, htime])
    exact ⟨_, congrArg Host.Outcome.next hop, rfl, rfl, hstage, rfl⟩
  case passes =>
    intro s r u hruns hpassed hwarned hrecovery hstage hwork hsame
    have hop : opStage r s = stagePasses r.ms u := by
      rw [opStage_works r hruns hpassed hwarned hrecovery, if_neg (Nat.not_le.mpr hstage), hwork]
    obtain ⟨hnext, hat, hrun, hreached, hled, hkeys, hstore, hfw⟩ := stagePasses_leaves r.ms u
    exact ⟨_, congrArg Host.Outcome.next hop, hsame ▸ hnext, hat, hsame ▸ hrun, hsame ▸ hreached, hled, hkeys, hstore, hfw⟩
  case fails =>
    intro s r u code hruns hpassed hwarned hrecovery hstage hwork
    refine congrArg Host.Outcome.next ((opStage_works r hruns hpassed hwarned hrecovery).trans ?_)
    rw [if_neg (Nat.not_le.mpr hstage), hwork]
  case lastStage =>
    intro s r hruns hpassed hwarned hstage hopened
    refine congrArg Host.Outcome.next ((opStage_works r hruns hpassed hwarned fun h => absurd (hstage.symm.trans h) (by decide)).trans ?_)
    rw [if_pos (Nat.le_of_eq hstage.symm), if_neg (by simp [hopened])]
  case failure =>
    intro s code hruns hpassed hdebug hcode _ _
    have hop : opStageFailure code s = failStage 0x0A code s := if_pos (by simp [hcode])
    obtain ⟨t, hfail, hleaves⟩ := failStage_leaves code hruns hpassed hdebug
    exact ⟨t, congrArg Host.Outcome.next (hop.trans hfail), hleaves⟩
  case limit =>
    intro s hruns hpassed hwarned htime
    have hop : opStageLimit s = failStage 0x0A 0xF0 s := if_neg (by simp [hruns, hpassed, hwarned, htime])
    exact congrArg Host.Outcome.next hop
  case recovery =>
    intro s hruns hstage hrecovery
    have hop : opRecoveryEntry s = enterRecovery 1 s := if_pos (by simp [hruns, hstage, hrecovery])
    exact congrArg Host.Outcome.next hop

end Sys2Proof.StartRows
end

section
/-! PROOF. The loader, campaigns, public-key jobs and a relay's second reading (R169, R303, R415 to R421). -/

namespace Sys2Proof.LoaderRows

open Sys2Proof Sys2Proof.Machine Sys2Proof.Safety Sys2Proof.LedgerFrame Sys2Proof.ScheduledWork

/-! ## The loader (R415, R416) -/

theorem opLoaderOffer_heard {s : State} {e : Bool} (total : Nat) (h : loaderHears e s = true) :
    opLoaderOffer e total s = if s.fw.loaderCannotStore then loaderDone 0x0501 0 s
      else if total > packageMax then loaderAck 0x0103 s
      else loaderAck 0 (onFw (fun x => { x with loaderOffer := some (e, total), loaderLast := s.clk })
        (dirWrite (fun x => { x with staging := stagingNew total }) s)) := by
  unfold opLoaderOffer
  rw [if_neg (by simp [h])]
  rfl

/-- DATA of an offer that stands, of a length that its way may carry. -/
theorem opLoaderData_heard {s : State} {e : Bool} {b : Bytes} (off : Nat) (h : loaderHears e s = true)
    (hoffer : s.fw.loaderOffer.isSome = true) (hlen : b.length ≤ if e = true then 1456 else 1024) :
    opLoaderData e off b s = if off < s.fw.staging.received then loaderAck 0 (onFw (fun x => { x with loaderLast := s.clk }) s)
      else if off > s.fw.staging.received || off + b.length > s.fw.staging.total || s.fw.staging.state != .receiving then
        loaderAck 0x0103 (onFw (fun x => { x with loaderLast := s.clk }) s)
      else loaderAck 0 (dirWrite (fun x => { x with staging := s.fw.staging.write b })
        (onFw (fun x => { x with loaderLast := s.clk }) s)) := by
  refine if_neg ?_
  have hsome : s.fw.loaderOffer.isNone = false := by simpa using hoffer
  simp only [h, hsome, Bool.not_true, Bool.or_self, Bool.false_or, decide_eq_true_eq]
  exact Nat.not_lt.mpr hlen

theorem loaderAck_leaves (result : Nat) (s : State) : loaderAck result s = { s with out := (loaderAck result s).out } := rfl

theorem opLoaderFinish_heard {s : State} {e : Bool} {r : Nat × State} (h : loaderHears e s = true)
    (hoffer : s.fw.loaderOffer.isSome = true) (hr : r = verifyStaging .recovery { s with fw := { s.fw with loaderLast := s.clk } }) :
    opLoaderFinish e s = if r.1 = 0 then
        loaderDone 0 (dirWrite (fun x => { x with staging := { x.staging with state := .pendingCopy } }) r.2).fw.staging.version
          (onFw (fun x => { x with loaderResetAt := some (r.2.clk + msTicks 100) })
            (dirWrite (fun x => { x with staging := { x.staging with state := .pendingCopy } }) r.2))
      else loaderDone r.1 0 r.2 := by
  subst hr
  unfold opLoaderFinish
  rw [if_neg (by simp [h, Option.isSome_iff_ne_none.mp hoffer])]
  rfl

/-! ## A relay's second reading (R169) -/

/-- The second reading of a feedback that disagreed: a second disagreement is a FAULT. -/
theorem opRelayRecheck_due {s : State} {idx : Nat} {x : Session} {r : Rec} (fb : RxFeedback) {u : State} {w : Work}
    {p : Work × RelayOutcome} {v : Work × Nat} (hx : sessionOf s idx = some x) (hr : getRec s idx = some r)
    (hdisagreed : x.disagreed = true) (htime : x.reqDeadline ≤ s.clk) (hu : u = timerInput s)
    (hw : w = { startWork idx (liveRec u idx r) (now u) u with was := r }) (hp : p = w.feedback fb true)
    (hv : v = if p.2 = .disagree then (p.1.relayFault fb.control, 0x0804) else (p.1, 0)) :
    opRelayRecheck idx fb s = nextWork idx x.purpose (appendExchange x
      ((relayCmdOf u (recMh idx r)).orElse fun _ => x.cmd) (recMh idx r) (if inSalvage u then v.1.salvageItems else v.1.items)
      (some v.2) (putLe 1 v.1.r.place.relay.code) [] u) := by
  have hv' : v = if p.2 == .disagree then (p.1.relayFault fb.control, 0x0804) else (p.1, 0) := by
    simpa only [beq_iff_eq] using hv
  subst hv'
  subst hp
  subst hw
  subst hu
  simp only [opRelayRecheck, hx, hr, hdisagreed, decide_eq_false (Nat.not_lt.mpr htime), Bool.not_true, Bool.or_self,
    Bool.false_eq_true, if_false]

/-- Settles O54: the loader's messages by what it hears, a campaign's rows by its phase, the job and the second reading as they come. -/
theorem loaderCampaignsAndJobsRun : Obligations.LoaderCampaignsAndJobsRun := by
  unfold Obligations.LoaderCampaignsAndJobsRun
  refine ⟨?announce, ?linkFound, ?linkSearch, ?offer, ?cannotStore, ?data, ?tooLong, ?dataRefused, ?finish, ?finishFails, ?abandon,
    ?round, ?pace, ?gap, ?activate, ?job, ?recheck⟩
  case announce =>
    intro s hruns hnone hdue
    have hop : opLoaderAnnounce s =
        loaderSend 0x01 (announceBody s) (onFw (fun x => { x with loaderAnnounceDue := s.clk + secTicks 1 }) s) :=
      if_neg (by simp [hruns, hnone, hdue])
    exact congrArg Host.Outcome.next hop
  case linkFound =>
    intro s hruns hlink
    exact congrArg Host.Outcome.next (by simp [opLoaderSearch, hruns, hlink, onFw] : opLoaderSearch true s = _)
  case linkSearch =>
    intro s hruns hlink htime
    have hop : opLoaderSearch false s = onFw (fun x => { x with
        loaderMode := 1 - x.loaderMode
        loaderPort := if x.loaderMode = 1 then 1 - x.loaderPort else x.loaderPort
        loaderTryAt := s.clk }) s := by
      unfold opLoaderSearch
      rw [if_neg (by simp [hruns, hlink]), if_neg Bool.false_ne_true, if_neg (Nat.not_lt.mpr htime)]
    exact ⟨_, congrArg Host.Outcome.next hop, rfl, rfl, rfl, rfl⟩
  case offer =>
    intro s e total hheard hstore htotal
    have hop := (opLoaderOffer_heard total hheard).trans
      ((if_neg (by simp [hstore])).trans (if_neg (Nat.not_lt.mpr htotal)))
    exact ⟨_, congrArg Host.Outcome.next hop, rfl, rfl, rfl, rfl, rfl⟩
  case cannotStore =>
    intro s e total hheard hstore
    exact congrArg Host.Outcome.next ((opLoaderOffer_heard total hheard).trans (if_pos hstore))
  case data =>
    intro s e off b hheard hoffer hlen hoff htotal hstate
    have hop := (opLoaderData_heard off hheard hoffer hlen).trans
      ((if_neg (Nat.not_lt.mpr (Nat.le_of_eq hoff.symm))).trans
        (if_neg (by simp [Nat.le_of_eq hoff, htotal, hstate])))
    exact ⟨_, congrArg Host.Outcome.next hop, rfl, rfl, rfl⟩
  case tooLong =>
    intro s e total hheard hstore htotal
    refine congrArg Host.Outcome.next ((opLoaderOffer_heard total hheard).trans ?_)
    rw [if_neg (by simp [hstore]), if_pos htotal]
    rfl
  case dataRefused =>
    intro s e off b hheard hoffer hlen hbad
    have hacked : ∃ result, opLoaderData e off b s = loaderAck result (onFw (fun x => { x with loaderLast := s.clk }) s) := by
      by_cases hbefore : off < s.fw.staging.received
      · exact ⟨0, (opLoaderData_heard off hheard hoffer hlen).trans (if_pos hbefore)⟩
      · refine ⟨0x0103, (opLoaderData_heard off hheard hoffer hlen).trans ((if_neg hbefore).trans (if_pos ?_))⟩
        simp only [gt_iff_lt, Bool.or_eq_true, decide_eq_true_eq, bne_iff_ne]
        by_contra hgood
        simp only [not_or, not_lt, not_not] at hgood
        obtain ⟨⟨hle, htotal⟩, hstate⟩ := hgood
        exact hbad ⟨Nat.le_antisymm hle (Nat.not_lt.mp hbefore), htotal, hstate⟩
    obtain ⟨result, hop⟩ := hacked
    exact ⟨_, congrArg Host.Outcome.next hop, rfl, loaderAck_leaves result _⟩
  case finish =>
    intro s e r hheard hoffer hr hzero
    exact ⟨_, congrArg Host.Outcome.next ((opLoaderFinish_heard hheard hoffer hr).trans (if_pos hzero)), rfl, rfl, rfl⟩
  case finishFails =>
    intro s e r hheard hoffer hr hbad
    exact congrArg Host.Outcome.next ((opLoaderFinish_heard hheard hoffer hr).trans (if_neg hbad))
  case abandon =>
    intro s hruns hoffer htime
    exact congrArg Host.Outcome.next (by
      simp [opLoaderAbandon, hruns, Option.isSome_iff_ne_none.mp hoffer, Nat.not_lt.mpr htime, onFw] : opLoaderAbandon s = _)
  case round =>
    intro s n c first u hstandby hservice htraffic hc hready hfirst hu
    subst hu
    subst hfirst
    refine next_onTimer hstandby ?_
    simp only [opRoundStart, hc, hservice, htraffic, hready, Bool.not_true, Bool.or_self, Bool.false_eq_true, if_false, timerInput_clk]
  case pace =>
    intro s n c b rest u m hstandby hservice htraffic hc hphase hsend htime hm hu
    subst hu
    subst hm
    refine next_onTimer hstandby ?_
    simp only [opBlockPace, hc, hsend, hphase, hservice, htraffic, decide_eq_false (Nat.not_lt.mpr htime), bne_self_eq_false,
      Bool.not_true, Bool.or_self, Bool.false_eq_true, if_false]
  case gap =>
    intro s n c hstandby hservice hc hphase htime
    refine next_onTimer hstandby ?_
    simp only [opRoundGap, hc, hphase, hservice, decide_eq_false (Nat.not_lt.mpr htime), bne_self_eq_false, Bool.not_true,
      Bool.or_self, Bool.false_eq_true, if_false]
  case activate =>
    intro s n c hstandby hservice hc hactivating hat hunset htime
    refine next_onTimer hstandby ?_
    simp only [opActivateAt, hc, hactivating, hat, hservice, hunset, decide_eq_false (Nat.not_lt.mpr htime), decide_false,
      Bool.not_true, Bool.or_self, Bool.false_eq_true, if_false]
  case job =>
    intro s j hruns
    exact congrArg Host.Outcome.next (if_pos hruns)
  case recheck =>
    intro s idx fb x r u w p v hstandby hx hr hdisagreed htime hu hw hp hv
    exact next_onTimer hstandby (opRelayRecheck_due fb hx hr hdisagreed htime hu hw hp hv)

end Sys2Proof.LoaderRows
end

section
/-! PROOF. The front panel: frames, blink, measurement, the placard and the crack loops (R422 to R436, Tables FP.1, FP.4, FP.6). -/

namespace Sys2Proof.PanelRows

open Sys2Proof Sys2Proof.Machine Sys2Proof.Safety Sys2Proof.Laws Sys2Proof.AppendFrame Sys2Proof.PanelCommands

/-! ## Annunciators (R428) -/

/-- What neither a completion nor an event moves of the panel's surroundings. -/
def panelView (s : State) : Panel × Keys × Meters := (s.panel, s.keys, s.meters)

theorem completeOrWait_panelView (f : InFlight) (c : Completion) (s : State) (hc : c.ring = f.cmd.ring) :
    panelView (completeOrWait f c s) = panelView s := by
  unfold completeOrWait
  split
  · rfl
  · obtain ⟨⟨-, -, -, -, -, -, hmeters, -, -, -, -, -, -, -, hkeys, -, -, -, -, -, hpanel, -⟩, -⟩ := (complete_spec f c s hc).2
    simp only [panelView, hmeters, hkeys, hpanel]

theorem raiseHw_panelView (code : Nat) (data : Bytes) (s : State) : panelView (raiseHw code data s) = panelView s :=
  reads_of_appends (g := panelView) (fun _ _ _ _ _ _ _ _ _ _ _ _ => rfl) (appends_raiseHw code data s)

/-- The commands that waited for a channel's measurement complete with its reading. -/
def answerWaiting (rb : Nat) (w : List (Nat × Nat × Nat)) (s : State) : State :=
  w.foldl (fun s w => match inflightOf s (w.1, w.2.1) with
    | some f => completeOrWait f (mkCompletion f 0 w.2.2 f.cmd.bufLen false false (putLe 1 rb) []) s
    | none => s) s

theorem answerWaiting_panelView (rb : Nat) (w : List (Nat × Nat × Nat)) (s : State) :
    panelView (answerWaiting rb w s) = panelView s := by
  induction w generalizing s with
  | nil => rfl
  | cons x xs ih =>
    refine (ih _).trans ?_
    dsimp only
    split
    case h_1 f _ => exact completeOrWait_panelView f (mkCompletion f 0 x.2.2 f.cmd.bufLen false false (putLe 1 rb) []) s rfl
    case h_2 => rfl

theorem opAnnunciator_panelView {s : State} {n pct mv : Nat} {a : Annunciator} (ha : s.panel.anns[n]? = some a)
    (hdrives : panelDrives s = true) :
    panelView (opAnnunciator n pct mv s) = panelView (onChannel n (Annunciator.measured (readback a.lit pct mv)) s) := by
  have hop : opAnnunciator n pct mv s =
      if (a.measured (readback a.lit pct mv)).fault && !a.fault then
        raiseHw 0x0B02 (putLe 1 n) (answerWaiting (readback a.lit pct mv) a.waiting
          (onChannel n (Annunciator.measured (readback a.lit pct mv)) s))
      else answerWaiting (readback a.lit pct mv) a.waiting (onChannel n (Annunciator.measured (readback a.lit pct mv)) s) := by
    simp only [opAnnunciator, ha, hdrives, Bool.not_true, Bool.false_eq_true, if_false]
    rfl
  rw [hop]
  split
  · rw [raiseHw_panelView, answerWaiting_panelView]
  · exact answerWaiting_panelView _ _ _

/-- A good reading: a second one in a row ends a fault. -/
theorem measured_good {rb : Nat} (a : Annunciator) (h : rb < 2) :
    (a.measured rb).lastBad = 0 ∧ (a.measured rb).lastGood = a.lastGood + 1 ∧
      ((a.measured rb).fault = true ↔ a.fault = true ∧ a.lastGood = 0) := by
  have hgood : decide (rb ≥ 2) = false := decide_eq_false (Nat.not_le.mpr h)
  refine ⟨by simp [Annunciator.measured, hgood], by simp [Annunciator.measured, hgood], ?_⟩
  by_cases hlast : a.lastGood = 0
  · simp [Annunciator.measured, hgood, hlast]
  · simp [Annunciator.measured, hgood, hlast, Nat.one_le_iff_ne_zero]

/-- A bad reading: a second one in a row is a fault. -/
theorem measured_bad {rb : Nat} (a : Annunciator) (h : 2 ≤ rb) :
    (a.measured rb).lastGood = 0 ∧ (a.measured rb).lastBad = a.lastBad + 1 ∧
      ((a.measured rb).fault = true ↔ a.fault = true ∨ 0 < a.lastBad) := by
  have hbad : decide (rb ≥ 2) = true := decide_eq_true h
  refine ⟨by simp [Annunciator.measured, hbad], by simp [Annunciator.measured, hbad], ?_⟩
  by_cases hlast : a.lastBad = 0
  · simp [Annunciator.measured, hbad, hlast]
  · simp [Annunciator.measured, hbad, hlast, Nat.one_le_iff_ne_zero, Nat.pos_of_ne_zero]

/-! ## The placard (R430 to R436) -/

/-- A placard whose update starts: full after a cut, with the compensation that its accounts need. -/
def updateStarted (p : Placard) : Placard :=
  let q : Placard := { p with full := p.state == .cut, state := .running }
  { q with comp := q.compensated }

/-- An update that may start begins with its phase 1. -/
theorem startPlacard_due {s : State} (hmay : placardMay s = true) (hdue : placardDue s.panel.placard = true) :
    startPlacard s = beginPhase 1 (onPlacard updateStarted s) :=
  if_neg (by simp [hmay, hdue])

/-- The end of a phase that ran its time: its accounts are written. -/
theorem opPlacardPhase_over {s : State} (hrunning : s.panel.placard.state = .running)
    (htime : s.panel.placard.phaseSince + msTicks s.panel.placard.phaseMs ≤ s.clk) :
    opPlacardPhase s =
      if s.panel.placard.phase = 4 then
        endPlacard (onPlacard (fun p => { p with accounts := p.written p.phaseMs true, seq := p.seq + 1 }) s)
      else if s.panel.placard.phase = 1 && s.panel.placard.comp.isEmpty then
        beginPhase 3 (onPlacard (fun p => { p with accounts := p.written p.phaseMs true, seq := p.seq + 1 }) s)
      else beginPhase (s.panel.placard.phase + 1)
        (onPlacard (fun p => { p with accounts := p.written p.phaseMs true, seq := p.seq + 1 }) s) :=
  if_neg (by simp [hrunning, htime])

/-! ## Crack loops (R429) -/

/-- The run of equal samples of a loop with the new one. -/
def crackCount (n : Nat) (isOpen : Bool) (s : State) : Nat :=
  if (s.panel.crackRun.getD n (false, 0)).1 = isOpen then (s.panel.crackRun.getD n (false, 0)).2 + 1 else 1

/-- Whether a loop counts as open with the new sample. -/
def crackNow (n : Nat) (isOpen : Bool) (s : State) : Bool :=
  if isOpen = true ∧ 3 ≤ crackCount n isOpen s then true
  else if isOpen = false ∧ 10 ≤ crackCount n isOpen s then false
  else s.panel.crackOpen.getD n false

theorem opCrack_panelView {s : State} {n : Nat} (isOpen : Bool) (hn : n ≤ 1) (hkpr : s.keeper.supply.kprOn = true)
    (hretain : s.keeper.supply.retain = false) :
    panelView (opCrack n isOpen s) = panelView (onPanel (fun p => { p with
      crackRun := p.crackRun.set n (isOpen, crackCount n isOpen s)
      crackOpen := p.crackOpen.set n (crackNow n isOpen s) }) s) := by
  have hcount : (if (s.panel.crackRun.getD n (false, 0)).1 == isOpen then (s.panel.crackRun.getD n (false, 0)).2 + 1 else 1) =
      crackCount n isOpen s := if_congr beq_iff_eq rfl rfl
  have hnow : (if isOpen && decide (crackCount n isOpen s ≥ 3) then true
      else if !isOpen && decide (crackCount n isOpen s ≥ 10) then false else s.panel.crackOpen.getD n false) =
      crackNow n isOpen s :=
    if_congr (by simp) rfl (if_congr (by simp) rfl rfl)
  unfold opCrack
  rw [if_neg (by simp [Nat.not_lt.mpr hn, hkpr, hretain])]
  dsimp only
  rw [hcount, hnow]
  split
  · exact raiseHw_panelView _ _ _
  · rfl

/-- Settles O55: the panel's rows by what they read of it; completions and events behind them leave the panel as it is. -/
theorem panelRuns : Obligations.PanelRuns := by
  unfold Obligations.PanelRuns
  refine ⟨?frame, ?blink, ?measured, ?placardStart, ?placardFaults, ?phaseEnd, ?lastPhase, ?crack⟩
  case frame =>
    intro s back u hservice hback hu
    subst hback
    refine congrArg Host.Outcome.next (?_ : opOledFrame s = _)
    have hop : opOledFrame s = if panelDrives u && !oledOff u then emit (.oledFrame u.panel.shown) u else u := by
      rw [hu]
      exact if_neg (by simp [hservice])
    rw [hop]
    exact if_congr (by simp) rfl rfl
  case blink =>
    intro s hservice
    obtain ⟨o, ho⟩ := emitChannels_out s.panel.anns (s.panel.anns.map fun a => { a with phaseOn := blinkOn s a.state })
      (onPanel (fun p => { p with anns := p.anns.map fun a => { a with phaseOn := blinkOn s a.state } }) s)
    have hop : opBlink s = { onPanel (fun p => { p with anns := p.anns.map fun a => { a with phaseOn := blinkOn s a.state } }) s with
        out := o } := (if_neg (by simp [hservice])).trans ho
    exact ⟨_, congrArg Host.Outcome.next hop, rfl, rfl⟩
  case measured =>
    intro s n pct mv a ha hdrives
    have hview := opAnnunciator_panelView (pct := pct) (mv := mv) ha hdrives
    simp only [panelView, Prod.mk.injEq] at hview
    obtain ⟨hpanel, hkeys, hmeters⟩ := hview
    refine ⟨_, a.measured (readback a.lit pct mv), rfl, ?_, ?_, measured_good a, measured_bad a, rfl, rfl, hkeys, hmeters⟩
    · rw [hpanel]
      simp [onChannel, onPanel, ha]
    · simp only [Annunciator.measured, readback, ge_iff_le, gt_iff_lt]
  case placardStart =>
    intro s hmay hdue
    have hop : opPlacardStart false [] s = startPlacard s := if_neg (by simp [hmay, hdue])
    refine ⟨_, congrArg Host.Outcome.next (hop.trans (startPlacard_due hmay hdue)), rfl, rfl, rfl, ?_, rfl, rfl⟩
    exact Bool.beq_eq_decide_eq s.panel.placard.state UpdateState.cut
  case placardFaults =>
    intro s allBad bad hmay hdue hfaults
    have hsome : (allBad || !bad.isEmpty) = true := by
      rcases hfaults with h | h
      · simp [h]
      · simp [h]
    refine congrArg Host.Outcome.next (?_ : opPlacardStart allBad bad s = _)
    rw [opPlacardStart, if_neg (by simp [hmay, hdue]), if_pos hsome]
  case phaseEnd =>
    intro s p hp hrunning hphase htime
    subst hp
    have hnext : opPlacardPhase s = beginPhase
        (if s.panel.placard.phase = 1 ∧ s.panel.placard.comp = [] then 3 else s.panel.placard.phase + 1)
        (onPlacard (fun p => { p with accounts := p.written p.phaseMs true, seq := p.seq + 1 }) s) := by
      rw [opPlacardPhase_over hrunning htime, if_neg (Nat.ne_of_lt hphase)]
      by_cases hskip : s.panel.placard.phase = 1 ∧ s.panel.placard.comp = []
      · rw [if_pos hskip, if_pos (by simp [hskip])]
      · rw [if_neg hskip, if_neg (by simpa using hskip)]
    exact ⟨_, congrArg Host.Outcome.next hnext, rfl, rfl, hrunning, rfl, rfl⟩
  case lastPhase =>
    intro s p hp hrunning hphase htime
    subst hp
    exact congrArg Host.Outcome.next ((opPlacardPhase_over hrunning htime).trans (if_pos hphase))
  case crack =>
    intro s n isOpen hn hkpr hretain hruns hopens
    have hview := opCrack_panelView isOpen hn hkpr hretain
    simp only [panelView, Prod.mk.injEq] at hview
    obtain ⟨hpanel, -, -⟩ := hview
    refine ⟨_, crackCount n isOpen s, rfl, rfl, ?_, ?_⟩
    · rw [hpanel]
      simp [onPanel, List.getD, hruns, Nat.lt_succ_of_le hn]
    · rw [hpanel]
      simp [onPanel, List.getD, hopens, Nat.lt_succ_of_le hn, crackNow]

end Sys2Proof.PanelRows
end

section
/-! PROOF. The firmware, campaign and store commands (R324, R325, R339, R409 to R411, R417, R421): the laws of their bodies, and what
O10 comes to. Its clause of FWU_VERIFY names BUF_LEN as BUF_USED also where the command says BUF_OUT, so O10 holds exactly if no
package ever passes, which the uninterpreted `Config.verify` leaves open (log entry 4). -/

namespace Sys2Proof.FirmwareAndStore

open Sys2Proof Sys2Proof.Machine Sys2Proof.Safety Sys2Proof.Laws Sys2Proof.HostChanges Sys2Proof.MetersAndTables

/-! ## The chip's own firmware (R409 to R411) -/

/-- The staging area that a directory write leaves. -/
def staged (a : Area) (s : State) : State := dirWrite (fun x => { x with staging := a }) s

theorem bodyFwuStage_changes {c : Cmd} {s : State} {a : Area} (hmax : c.p 0x24 4 ≤ packageMax)
    (hfits : c.p 0x20 4 + c.buf.length ≤ c.p 0x24 4)
    (hnext : c.p 0x20 4 ≠ 0 → c.p 0x20 4 = s.fw.staging.received ∧ c.p 0x24 4 = s.fw.staging.total ∧
      s.fw.staging.state = .receiving) (htrial : inTrial s = false)
    (ha : a = (if c.p 0x20 4 = 0 then stagingNew (c.p 0x24 4) else s.fw.staging).write c.buf) :
    bodyFwuStage c s = changeParam c none [] (putLe 4 a.received) (staged a s) := by
  have hgood : (c.p 0x20 4 != 0 && (c.p 0x20 4 != s.fw.staging.received || c.p 0x24 4 != s.fw.staging.total ||
      s.fw.staging.state != .receiving)) = false := by
    by_cases h0 : c.p 0x20 4 = 0
    · simp [h0]
    · obtain ⟨hreceived, htotal, hstate⟩ := hnext h0
      simp [← hreceived, ← htotal, hstate]
  subst ha
  simp [bodyFwuStage, staged, Nat.not_lt.mpr hmax, Nat.not_lt.mpr hfits, hgood, htrial]

/-- Once the group has completed, FW_STAGED follows exactly where the area written is STAGED. -/
theorem opFwuStage_staged {c : Cmd} {s : State} {a : Area} (hfw : (runDcs 0x0A01 c bodyFwuStage s).fw = (staged a s).fw) :
    opFwuStage c s = if a.state = .staged then raiseHw 0x0D01 (putLe 4 a.version) (runDcs 0x0A01 c bodyFwuStage s)
      else runDcs 0x0A01 c bodyFwuStage s := by
  have hseq : (runDcs 0x0A01 c bodyFwuStage s).fw.dirSeq ≠ s.fw.dirSeq := by
    rw [hfw]
    exact Nat.succ_ne_self _
  have harea : (runDcs 0x0A01 c bodyFwuStage s).fw.staging = a := by rw [hfw]; rfl
  unfold opFwuStage
  simp only [hseq, harea, ne_eq, not_false_eq_true, decide_true, Bool.true_and, beq_iff_eq]

/-- A package that passes leaves the staging area VERIFIED. -/
theorem bodyFwuVerify_passes {c : Cmd} {s : State} (hstaged : s.fw.staging.state = .staged)
    (hpasses : packageResult .service s.fw.staging.bytes s.fw.staging.total s = 0) : bodyFwuVerify c s =
      .reply 0 0 false (putLe 4 s.fw.staging.version) [] (staged { s.fw.staging with state := .verified } s) := by
  simp [bodyFwuVerify, verifyStaging, hstaged, hpasses, staged]

theorem bodyFwuActivate_changes {c : Cmd} {s : State} (hverified : s.fw.staging.state = .verified)
    (hdips : degradedByDips s = false) : bodyFwuActivate c s = changeParam c none [] (putLe 1 s.fw.other)
      (dirWrite (fun x => { x with staging := { x.staging with state := .pendingCopy } }) s) := by
  simp [bodyFwuActivate, hverified, hdips]

/-! ## Campaigns (R417, R421) -/

/-- A campaign as it starts. -/
def campaignBegun (p : Campaign) (ts : List (Nat × Rec)) (s : State) : Campaign :=
  { p with num := nextCampaign s, targets := ts.map (fun e => (e.1, e.2.gen)), since := s.clk, done := false }

theorem bodyCampaignStart_changes {c : Cmd} {s : State} {p x : Campaign} {mhs : List Nat} {ts : List (Nat × Rec)}
    (hparse : parseCampaign c.buf = some (p, mhs)) (hnamed : p.cls ≠ 0xFFFF ∨ mhs ≠ [])
    (hrange : p.imageLba + ceilDiv p.imageLen 4096 ≤ s.store.vol3Blocks) (himage : Config.sha256 (p.image s) = p.imageDigest)
    (hroom : (runningCampaigns s).length < 4) (hdips : degradedByDips s = false) (hts : ts = campaignTargets p mhs s)
    (hsome : ts ≠ []) (hx : x = campaignBegun p ts s) : bodyCampaignStart c s =
      changeParam c none (.campaign x :: ts.map fun e => .patch e.1 e.2 (e.2.campaigned x.num 1)) (putLe 2 x.num)
        { s with fw := { s.fw with campaigns := s.fw.campaigns ++ [x] } } := by
  have hgood : ((p.cls == 0xFFFF && mhs.isEmpty) || decide (p.imageLba + ceilDiv p.imageLen 4096 > s.store.vol3Blocks) ||
      Config.sha256 (p.image s) != p.imageDigest) = false := by
    simpa [Nat.not_lt.mpr hrange, himage, ← imp_iff_not_or] using hnamed
  have hempty : ts.isEmpty = false := by simpa using hsome
  subst hx
  simp only [bodyCampaignStart, hparse, hgood, Nat.not_le.mpr hroom, hdips, ← hts, hempty, Bool.false_eq_true, if_false,
    List.append_nil, List.singleton_append, campaignBegun]

theorem bodyCampaignStatus_eq {c : Cmd} {s : State} {x : Campaign}
    (hx : (s.fw.campaigns.find? fun x => x.num == c.p 0x20 2) = some x) : bodyCampaignStatus c s =
      okData 0 (putLe 4 x.targets.length ++ putLe 4 (targetsIn s x 7) ++ putLe 4 (targetsIn s x 8)) s := by
  rw [bodyCampaignStatus, hx]

/-- An abort while a target is ACTIVATING does not end the campaign. -/
theorem bodyCampaignAbort_changes {c : Cmd} {s : State} {x : Campaign} (hx : campaignOf s (c.p 0x20 2) = some x)
    (hactivating : (x.targets.any fun t => targetState s x.num t == 6) = true) : bodyCampaignAbort c s =
      changeParam c none (.campaign { x with phase := .stopped, toSend := [] } ::
        (x.targets.filter fun t => decide (targetState s x.num t < 6)).filterMap fun t =>
          (targetRec s t).map fun r => .patch t.1 r (r.campaigned x.num 9)) []
        (onCampaign x.num (fun x => { x with phase := .stopped, toSend := [] }) s) := by
  simp [bodyCampaignAbort, hx, hactivating]

/-! ## The store's commands (R324, R325, R339) -/

theorem bodyStoVolumeInfo_eq {c : Cmd} {s : State} {x : Nat × Nat} (hx : volumeUnits (c.p 0x20 1) s = some x) :
    bodyStoVolumeInfo c s = okData 0 (putLe 8 x.1 ++ putLe 8 x.2) s := by
  rw [bodyStoVolumeInfo, hx]

theorem bodyStoRead_eq {c : Cmd} {s : State} {lbas good : List Nat} (hrange : rangeOk c s = true)
    (hlbas : lbas = (List.range (c.p 0x28 4)).map (c.p 0x20 8 + ·))
    (hgood : good = lbas.takeWhile fun n => !s.store.lost3.contains n) : bodyStoRead c s =
      .reply (if good.length = lbas.length then 0 else 0x0502) 0 false [] (good.flatMap (unit3 s)) s := by
  subst hgood hlbas
  simp only [bodyStoRead, hrange, Bool.not_true, Bool.false_eq_true, if_false]

/-- Volume 3 with the units of a command's buffer written from an address on; what was lost there is lost no more. -/
def unitsWritten (c : Cmd) (lbas : List Nat) (s : State) : State :=
  countUnits (c.p 0x28 4) (onStore (fun x => { x with
    vol3 := (List.range (c.p 0x28 4)).foldl (fun a k => insertNat (c.p 0x20 8 + k) ((c.buf.drop (4096 * k)).take 4096) a) x.vol3
    lost3 := x.lost3.filter fun m => !lbas.contains m }) s)

theorem bodyStoWrite_changes {c : Cmd} {s : State} {lbas : List Nat} (hrange : rangeOk c s = true)
    (hfull : s.store.stage ≠ .full) (hexhausted : s.store.stage ≠ .exhausted) (hsalvage : inSalvage s = false)
    (hlbas : lbas = (List.range (c.p 0x28 4)).map (c.p 0x20 8 + ·)) :
    bodyStoWrite c s = changeParam c none [] [] (unitsWritten c lbas s) := by
  subst hlbas
  unfold bodyStoWrite
  rw [hrange]
  cases hstage : s.store.stage with
  | normal => rfl
  | reclaiming => rfl
  | full => exact absurd hstage hfull
  | salvage => simp [inSalvage, hstage] at hsalvage
  | exhausted => exact absurd hstage hexhausted

/-- The store with only those units of volume 3 whose address `keep` admits. -/
def unitsKept (keep : Nat → Bool) (s : State) : State :=
  onStore (fun x => { x with
    vol3 := x.vol3.filter fun u => keep u.1
    lost3 := x.lost3.filter keep
    map := x.map.filter fun u => u.volume != 3 || keep u.lba }) s

theorem bodyStoDiscard_changes {c : Cmd} {s : State} {keep : Nat → Bool} (hcount : c.p 0x28 4 ≠ 0)
    (hrange : c.p 0x20 8 + c.p 0x28 4 ≤ s.store.vol3Blocks)
    (hkeep : keep = fun n => !(decide (c.p 0x20 8 ≤ n) && decide (n < c.p 0x20 8 + c.p 0x28 4))) :
    bodyStoDiscard c s = changeParam c none [] [] (unitsKept keep s) := by
  subst hkeep
  have hgood : ¬((decide (c.p 0x28 4 = 0) || decide (c.p 0x20 8 + c.p 0x28 4 > s.store.vol3Blocks)) = true) := by
    simp [hcount, hrange]
  exact if_neg hgood

theorem inSalvage_of_takesGroups {s : State} (h : takesGroups s = true) : inSalvage s = false := by
  simp only [takesGroups, Bool.and_eq_true, Bool.not_eq_true'] at h
  exact h.2

/-! ## FWU_VERIFY whole (R410) -/

/-- The completion of FWU_VERIFY of a package that passes. Nothing is written to a buffer, so BUF_USED is 0 where the command says
BUF_OUT, whatever its BUF_LEN. -/
def verifyCompletion (f : InFlight) (s : State) : Completion :=
  mkCompletion f 0 0 (if f.cmd.bufOut then 0 else f.cmd.bufLen) false false (putLe 4 s.fw.staging.version) []

theorem runDcs_fwuVerify {c : Cmd} {f : InFlight} {s : State} (h : ready 0x0A02 c f s = true)
    (hstaged : s.fw.staging.state = .staged)
    (hpasses : packageResult .service s.fw.staging.bytes s.fw.staging.total (started f s) = 0) :
    runDcs 0x0A02 c bodyFwuVerify s =
      complete f (verifyCompletion f s) (staged { s.fw.staging with state := .verified } (started f s)) := by
  have hbody : bodyFwuVerify c (running 0x0A02 f s) = .reply 0 0 false (putLe 4 s.fw.staging.version) []
      (staged { s.fw.staging with state := .verified } (started f s)) := bodyFwuVerify_passes hstaged hpasses
  rw [runDcs_ready h rfl (by rw [hbody]; simp), hbody]
  simp only [finish, completeOrWait, (ready_noWait h).2, Bool.false_and, Bool.false_eq_true, if_false]
  rfl

/-- A verified package: the command is answered, and nothing but the staging area's state has changed. -/
theorem fwuVerify_answers {c : Cmd} {f : InFlight} {s : State} (h : ready 0x0A02 c f s = true)
    (hstaged : s.fw.staging.state = .staged)
    (hpasses : packageResult .service s.fw.staging.bytes s.fw.staging.total (started f s) = 0) :
    Answered f (verifyCompletion f s) s (runDcs 0x0A02 c bodyFwuVerify s) ∧
      StillLedger (staged { s.fw.staging with state := .verified } s) (runDcs 0x0A02 c bodyFwuVerify s) := by
  obtain ⟨hanswered, hstill, hled, htwin⟩ := complete_spec f (verifyCompletion f s)
    (staged { s.fw.staging with state := .verified } (started f s)) rfl
  rw [runDcs_fwuVerify h hstaged hpasses]
  exact ⟨answered_from (fun _ => rfl) rfl hanswered, still_trans (restarted_still _ _ _ _ _ _) hstill, hled, htwin⟩

/-! ## FWU_VERIFY with BUF_OUT -/

/-- A package is judged by the keys, the fuses and the role of the chip only. -/
theorem packageResult_congr {s t : State} (ph : FwPhase) (b : Bytes) (total : Nat) (hkeys : t.keys = s.keys) (hfuse : t.fuse = s.fuse)
    (hrole : t.boot.headRole = s.boot.headRole) : packageResult ph b total t = packageResult ph b total s := by
  have hslot : ∀ n, slotOf t n = slotOf s n := fun n => by rw [slotOf, slotOf, hkeys]
  have hencryption : encryptionOk ph t b = encryptionOk ph s b := by cases ph <;> simp only [encryptionOk, hkeys]
  have huid : uidOk ph t b = uidOk ph s b := by rw [uidOk, uidOk, hkeys, hfuse]
  have hplain : packagePlain t b = packagePlain s b := by rw [packagePlain, packagePlain, slotValue, slotValue, hslot]
  have husable : slot4Usable t = slot4Usable s := by rw [slot4Usable, slot4Usable, hslot]
  rw [packageResult, packageResult, hencryption, huid, hplain, husable, hkeys, hrole]

/-- What a command that is owed to one remote session sends when it completes. -/
theorem complete_remote_out {f : InFlight} {i : Nat} {s : State} (c : Completion) (hdests : f.dests = [.remote])
    (hsession : f.session = some i) (hopen : (s.remotes.any fun r => r.id == i) = true) :
    (complete f c s).out = s.out ++ [.remoteCompletion i c] := by
  simp only [complete, deliver, hdests, hsession, List.zipIdx_cons, List.zipIdx_nil, List.foldl_cons, List.foldl_nil, hopen, if_true]
  rfl

/-- FWU_VERIFY on a remote session, with BUF_OUT and a BUF_LEN of 1. -/
def verifyCommand : Cmd := ⟨0, 0x0A02, false, false, true, 0, 0, 0, 1, [], []⟩

/-- The command in progress. -/
def verifyInFlight : InFlight := ⟨0, verifyCommand, [], [.remote], some 0, false, none, none, 0⟩

/-- A device in service with a package in its staging area, under the keys, fuses and role of `s`. -/
def judging (b : Bytes) (total : Nat) (s : State) : State :=
  { State.reset with
    inflight := [verifyInFlight]
    remotes := [⟨0, 0, [], 0, 0⟩]
    fuse := s.fuse
    keys := s.keys
    fw := { Firmware.blank with staging := { Area.blank with state := .staged, bytes := b, total := total } }
    boot := { s.boot with openedFirst := true, phase := .running } }

/-- O10 asks that FWU_VERIFY's BUF_USED be BUF_LEN, which it is not with BUF_OUT; so it holds only where no package passes. -/
theorem packageResult_ne_zero_of_complete (h : Obligations.FirmwareAndStoreCommandsComplete) (b : Bytes) (total : Nat) (s : State) :
    packageResult .service b total s ≠ 0 := by
  intro hpasses
  unfold Obligations.FirmwareAndStoreCommandsComplete at h
  obtain ⟨-, hverify, -⟩ := h
  have hready : ready 0x0A02 verifyCommand verifyInFlight (judging b total s) = true := by rfl
  have hjudged : packageResult .service b total (started verifyInFlight (judging b total s)) = 0 :=
    (packageResult_congr .service b total rfl rfl rfl).trans hpasses
  obtain ⟨t, ht, ⟨-, hdelivered⟩, -⟩ := hverify verifyCommand verifyInFlight (judging b total s) hready rfl hjudged
  obtain rfl : runDcs 0x0A02 verifyCommand bodyFwuVerify (judging b total s) = t := Host.Outcome.next.inj ht
  have hsent := hdelivered 0 rfl rfl
  rw [runDcs_fwuVerify hready rfl hjudged, complete_remote_out _ rfl rfl rfl] at hsent
  have hused : (1 : Nat) = 0 := congrArg Completion.bufUsed (Output.remoteCompletion.inj (List.mem_singleton.mp hsent)).2
  exact absurd hused (by decide)

/-- What O10 comes to: beside FWU_VERIFY every command acts as it says, and its clause of FWU_VERIFY holds only where it is empty. -/
theorem firmwareAndStoreCommandsComplete_iff :
    Obligations.FirmwareAndStoreCommandsComplete ↔ ∀ b total s, packageResult .service b total s ≠ 0 := by
  refine ⟨packageResult_ne_zero_of_complete, fun hnone => ?_⟩
  unfold Obligations.FirmwareAndStoreCommandsComplete
  refine ⟨?stage, ?verify, ?activate, ?start, ?status, ?abort, ?health, ?volume, ?read, ?write, ?discard⟩
  case stage =>
    intro c f s a h hmax hfits hnext htrial ha hu
    have hchanges : Changes f [] (auditParam c none) (putLe 4 a.received) (staged a s) (runDcs 0x0A01 c bodyFwuStage s) :=
      change_answers h rfl ⟨fun _ _ _ _ _ => rfl, rfl⟩ (fun fl i k g o =>
        bodyFwuStage_changes (s := restarted fl i k g o s) hmax hfits hnext htrial ha) hu
    obtain ⟨-, -, -, -, -, -, -, -, -, -, -, -, -, -, -, -, -, -, -, -, -, hfw, -⟩ := id hchanges
    exact ⟨_, congrArg Host.Outcome.next (opFwuStage_staged hfw), hchanges⟩
  case verify => exact fun c f s _ _ hpasses => absurd hpasses (hnone _ _ _)
  case activate =>
    intro c f s h hverified hdips hu
    exact ⟨_, rfl, change_answers h rfl ⟨fun _ _ _ _ _ => rfl, rfl⟩ (fun fl i k g o =>
      bodyFwuActivate_changes (s := restarted fl i k g o s) hverified hdips) hu⟩
  case start =>
    intro c f s p mhs ts x h hparse hnamed hrange himage hroom hdips hts hsome hx hu
    exact ⟨_, rfl, change_answers (e := fun u => { u with fw := { u.fw with campaigns := u.fw.campaigns ++ [x] } }) h rfl
      ⟨fun _ _ _ _ _ => rfl, rfl⟩ (fun fl i k g o => bodyCampaignStart_changes (s := restarted fl i k g o s) hparse hnamed hrange
        himage hroom hdips hts hsome hx) hu⟩
  case status => exact fun c f s x h hx => ⟨_, rfl, runDcs_plain h rfl (bodyCampaignStatus_eq (s := started f s) hx)⟩
  case abort =>
    intro c f s x h hx hactivating hu
    exact ⟨_, rfl, change_answers (e := onCampaign x.num (fun x => { x with phase := .stopped, toSend := [] })) h rfl
      ⟨fun _ _ _ _ _ => rfl, rfl⟩ (fun fl i k g o => bodyCampaignAbort_changes (s := restarted fl i k g o s) hx hactivating) hu⟩
  case health => exact fun c f s h => ⟨_, rfl, runDcs_plain h rfl rfl⟩
  case volume => exact fun c f s x h hx => ⟨_, rfl, runDcs_plain h rfl (bodyStoVolumeInfo_eq (s := started f s) hx)⟩
  case read =>
    exact fun c f s lbas good h hrange hlbas hgood =>
      ⟨_, rfl, runDcs_plain h rfl (bodyStoRead_eq (s := started f s) hrange hlbas hgood)⟩
  case write =>
    intro c f s lbas h hrange hfull hexhausted hlbas hu
    exact ⟨_, rfl, change_answers (e := unitsWritten c lbas) h rfl ⟨fun _ _ _ _ _ => rfl, rfl⟩ (fun fl i k g o =>
      bodyStoWrite_changes (s := restarted fl i k g o s) hrange hfull hexhausted (inSalvage_of_takesGroups hu) hlbas) hu⟩
  case discard =>
    intro c f s keep h hcount hrange hkeep hu
    exact ⟨_, rfl, change_answers (e := unitsKept keep) h rfl ⟨fun _ _ _ _ _ => rfl, rfl⟩ (fun fl i k g o =>
      bodyStoDiscard_changes (s := restarted fl i k g o s) hcount hrange hkeep) hu⟩

/-! ## What decides O10 -/

/-- A package that passes has a signature that verifies under the image key (R405). -/
theorem verify_of_packageResult_zero {ph : FwPhase} {b : Bytes} {total : Nat} {s : State} (h : packageResult ph b total s = 0) :
    ∃ m, Config.verify Config.imageKey m ((b.drop 0x100).take 96) = true := by
  unfold packageResult at h
  split_ifs at h
  split at h
  · cases h
  · next plain _ =>
    split_ifs at h with hchecks
    simp only [Bool.and_eq_true] at hchecks
    obtain ⟨⟨⟨⟨hverify, -⟩, -⟩, -⟩, -⟩ := hchecks
    exact ⟨_, hverify⟩

/-- A package in the clear for any device, with an empty part of each kind from 1 to 4 and a blank signature (R405). -/
def plainPackage : Bytes :=
  [0x43, 0x53, 0x49, 0x4D] ++ putLe 2 1 ++ putLe 2 0x8840 ++ zeros 24 ++ putLe 1 0 ++ putLe 1 4 ++ zeros 2 ++ putLe 4 384 ++
    zeros 88 ++ [1, 2, 3, 4].flatMap (fun k => putLe 1 k ++ zeros 3 ++ putLe 4 384 ++ zeros 8) ++ zeros 192

/-- A deployed device, which takes packages in the clear (R406). -/
def deployedDevice : State := { State.reset with keys := { State.reset.keys with lifecycle := .deployed } }

/-- On such a device the signature alone decides on that package. -/
theorem plainPackage_passes (h : ∀ m g, Config.verify Config.imageKey m g = true) :
    packageResult .service plainPackage 384 deployedDevice = 0 := by
  have hlayout : layoutOk plainPackage 384 = true := by decide +kernel
  have hclear : packageEncrypted plainPackage = false := by rfl
  have hlife : (deployedDevice.keys.lifecycle == .decommissioned || !encryptionOk .service deployedDevice plainPackage) = false := by
    rfl
  have hrest : (le plainPackage 6 2 == 0x8840 && uidOk .service deployedDevice plainPackage &&
      !(deployedDevice.boot.headRole && !packageHead plainPackage) &&
      decide (deployedDevice.keys.minRollback ≤ packageRollback plainPackage)) = true := by rfl
  simp only [Bool.and_eq_true] at hrest
  obtain ⟨⟨⟨hchip, huid⟩, hhead⟩, hrollback⟩ := hrest
  simp only [packageResult, hlayout, hlife, hclear, packagePlain, h, hchip, huid, hhead, hrollback, Bool.not_true, Bool.false_and,
    Bool.and_self, Bool.false_eq_true, if_false, if_true]

/-- Were no signature ever good, O10 would hold. -/
theorem firmwareAndStoreCommandsComplete_of_unsigned (h : ∀ m g, Config.verify Config.imageKey m g = false) :
    Obligations.FirmwareAndStoreCommandsComplete := by
  refine firmwareAndStoreCommandsComplete_iff.mpr fun b total s hpasses => ?_
  obtain ⟨m, hverify⟩ := verify_of_packageResult_zero hpasses
  exact Bool.false_ne_true ((h m _).symm.trans hverify)

/-- Were every signature good, O10 would fail: FWU_VERIFY with BUF_OUT passes a package and answers BUF_USED 0. -/
theorem not_firmwareAndStoreCommandsComplete_of_signed (h : ∀ m g, Config.verify Config.imageKey m g = true) :
    ¬ Obligations.FirmwareAndStoreCommandsComplete := fun hall =>
  firmwareAndStoreCommandsComplete_iff.mp hall plainPackage 384 deployedDevice (plainPackage_passes h)

end Sys2Proof.FirmwareAndStore
end
